-- ==== Sys2Proof/Word.lean ====
section
/-! DEFINITION. The word types of the IW84: bytes, register words, and the one saturating step its counters take. -/

namespace Sys2Proof

/-- A byte of memory (R71). -/
abbrev Byte := BitVec 8

/-- A 64-bit register or counter word (R466). -/
abbrev W64 := BitVec 64

/-- A 32-bit word. -/
abbrev W32 := BitVec 32

/-- A counter that "saturates": it stays at its largest value (Tables 2.7, 3.10, 5.18 and others). -/
def satInc {w : Nat} (x : BitVec w) : BitVec w :=
  if x = BitVec.allOnes w then x else x + 1

/-- `n` saturating steps. -/
def satAdd {w : Nat} (x : BitVec w) (n : Nat) : BitVec w :=
  if x.toNat + n < 2 ^ w then BitVec.ofNat w (x.toNat + n) else BitVec.allOnes w

end Sys2Proof
end

