-- ==== Sys2Proof/Syntax.lean ====
section
/-! DEFINITION. The commands of the IW84 as a block: one constructor of Instr per row of the spec's table of operations and
events, and the operands a row takes. A site is the number 224 * y + x (R15); a vale is 7 * vy + vx (chapter 14). -/

namespace Sys2Proof

/-- A clock and power half (R16). -/
inductive Half | west | east
  deriving DecidableEq, Repr

/-- What the outside presents to a start-up: REFCLK, FORCE_RCVY_N, the rails of stage RAILS, the address straps. -/
structure BootEnv where
  refclk : Bool
  forceRcvyLow : Bool
  railsOk : Bool
  maddr : BitVec 4
  deriving DecidableEq, Repr

/-- What the neighbour vote finds (R312): sites whose own self-test fails, and (voter, subject) pairs whose answer is
not the expected signature within 64 NCLK. -/
structure VoteInput where
  selfFail : List Nat
  failLinks : List (Nat × Nat)
  deriving DecidableEq, Repr

/-- Bits of a flit, data 0 to 255 and check bits 256 to 265, that read wrong at a router input in one NCLK of a beat (R170, R173). -/
structure FlitUpset where
  nclk : Nat
  site : Nat
  input : Nat
  bits : BitVec 266
  deriving DecidableEq, Repr

/-- A command as it arrives: the message word's cseq and block address, and the command block as read (R371, R374). -/
structure CmdBlock where
  channel : Nat
  cseq : BitVec 4
  blkCode : Byte
  blkCseq : Byte
  addr : Nat
  readOk : Bool
  length : Nat
  flags : BitVec 32
  counter : W64
  tag : BitVec 256
  reserved : BitVec 128
  params : List Byte
  deriving DecidableEq, Repr

/-- A manifest entry (Table 4.4). -/
structure ManifestEntry where
  kind : Byte
  format : Byte
  rank : Nat
  group : Nat
  matrix : Nat
  fragment : Nat
  offset : Nat
  length : Nat
  arrayCrc : W32
  rows : Nat
  cols : Nat
  reservedZero : Bool
  hash : BitVec 512
  deriving DecidableEq, Repr

/-- What the certificate chain and the signature of an image verify to (R105): whether each certificate verifies under the next, the public
key the chain ends at, the leaf's public key as an uncompressed point, whether the signature verifies under the leaf's. -/
structure ImageSig where
  chainOk : Bool
  root : List Byte
  leaf : List Byte
  signatureOk : Bool
  deriving DecidableEq, Repr

/-- A weight or adapter image as its header, manifest and signature block spell it (Tables 4.2 to 4.4). `sigEnd` is the first byte after the
signature block, `padZero` whether the bytes from there to the chunk area are zero. -/
structure WeightImage where
  magic : BitVec 32
  containerVersion : BitVec 16
  member : BitVec 16
  imageId : W64
  imageVersion : W32
  contractId : W32
  entryCount : Nat
  groupCount : Nat
  deviceCount : Nat
  chunkAreaOffset : Nat
  chunkAreaSize : Nat
  flags : BitVec 32
  reservedZero : Bool
  keyId : BitVec 512
  manifest : List ManifestEntry
  manifestDigest : BitVec 512
  sigAlg : Nat
  sigEnd : Nat
  padZero : Bool
  sig : ImageSig
  deriving DecidableEq, Repr

/-- A plan entry (Table 4.6). -/
structure PlanEntry where
  entry : Nat
  x : Nat
  y : Nat
  l : Nat
  reserved : Byte
  dest : Nat
  deriving DecidableEq, Repr

/-- An install plan (R106): its header's fields and its entries. -/
structure InstallPlan where
  count : Nat
  rank : Nat
  slot : Byte
  mode : Byte
  goldenBase : Nat
  goldenSize : Nat
  reserved : W64
  entries : List PlanEntry
  deriving DecidableEq, Repr

/-- A quantisation point descriptor (Table 3.6), its reserved bit included, with the index list the loader checks and the tiles that read
the point: each a site with the first element and the number of elements of its activation bank (R85; the image's form is the model's, log
entry 70). -/
structure QuantDesc where
  tau : W32
  point : Nat
  setSize : Nat
  actFmt : BitVec 5
  outEn : Bool
  reserved : Bool := false
  setBase : Nat := 0
  n : Nat
  indices : List Nat
  readers : List (Nat × Nat × Nat) := []
  deriving DecidableEq, Repr

/-- A score record: what one site's score bank receives (Table 5.3, R65, R199). `pageRegs` names the address registers that hold an
address in the variant's own sync page, each with its offset there: the loader writes the page's address into them (R190). -/
structure ScoreRec where
  site : Nat
  role : Nat := 0
  stage : Nat := 0
  rclass : Nat := 0
  laneBound : Bool := false
  addrs : List Nat := []
  tmode : W64 := 0
  tafmt : W64 := 0
  kvMode : W64 := 0
  kvHeads : List W64 := []
  xst : List (Nat × BitVec 32) := []
  pageRegs : List (Nat × Nat) := []
  deriving DecidableEq, Repr

/-- A gap-route record: the XST entries one gap-route set puts in place of a router's (R163). -/
structure GapRec where
  set : Nat
  site : Nat
  xst : List (Nat × BitVec 32)
  deriving DecidableEq, Repr

/-- A declared reduction (R53, R58): its depth in rows, its conversions, and whether a conversion precedes a merge. -/
structure Reduction where
  depth : Nat
  conversions : Nat
  convertBeforeMerge : Bool
  deriving DecidableEq, Repr

/-- A division of a canonical tree (R81): the part [start, start + len) of a sum of `total` elements. -/
structure TreeDivision where
  total : Nat
  start : Nat
  len : Nat
  deriving DecidableEq, Repr

/-- A variant image (Table 5.11 and its sections). The window lengths are the SCORE, EXPSUM and prefill windows the
variant places (R212, R216); `windows` the fabric windows it receives: number, bytes in each slot, receiving sites (R339); `span` the
attention span of a ring variant (R221). -/
structure VariantImage where
  magic : BitVec 32
  containerVersion : BitVec 16
  member : BitVec 16
  variantId : W64
  imageId : W64
  lanes : Nat
  depth : Nat
  slotCode : Byte
  clockPlan : Byte
  kOutlier : Nat
  notchWidth : Nat
  notchLog2 : Nat
  gapSets : Nat
  queryFmt : Byte
  reshardRate : Nat
  portPlan : W32
  mgmtBw : Nat
  quantPoints : Nat
  thermalReserve : BitVec 128
  useMask : BitVec 128
  sections : List (Nat × Nat)
  manifestDigest : BitVec 512
  reservedZero : Bool
  defectDigest : BitVec 256
  size : Nat
  west : List (BitVec 1024)
  east : List (BitVec 1024)
  quant : List QuantDesc
  lanePlan : List (BitVec 16)
  scores : List ScoreRec
  gaps : List GapRec
  crossMasks : List (BitVec 128)
  reductions : List Reduction
  divisions : List TreeDivision
  windowBytes : List (Nat × Nat)
  windows : List (Nat × Nat × List Nat)
  scoreWindow : Nat
  expWindow : Nat
  prefillCover : Nat
  span : Nat := 1
  deriving DecidableEq, Repr

/-- A firmware image as the checks of R413 find it. -/
structure FwImage where
  headerOk : Bool
  chainOk : Bool
  signatureOk : Bool
  digestOk : Bool
  version : W64
  svn : BitVec 16
  deriving DecidableEq, Repr

/-- A vendor record (R412): the device and nonce it names, its slot, and whether magic and signature hold. -/
structure VendorRecord where
  magicOk : Bool
  slot : Byte
  ident : W64
  nonce : BitVec 256
  signatureOk : Bool
  deriving DecidableEq, Repr

/-- A key record inside a KEY_LOAD's secured message (R403). -/
structure KeyRecord where
  openedOk : Bool
  target : Byte
  reservedZero : Bool
  material : List Byte
  deriving DecidableEq, Repr

/-- The SPDM requests the responder supports (R401). -/
inductive SpdmRequest
  | getVersion
  | getCapabilities
  | negotiateAlgorithms (supported : Bool)
  | getDigests
  | getCertificate (offset length : Nat)
  | challenge (nonce : BitVec 256)
  | getMeasurements (index : Nat) (nonce : BitVec 256)
  | keyExchange (supported : Bool)
  | finish (verified : Bool)
  | heartbeat
  | keyUpdate
  | endSession
  deriving DecidableEq, Repr

/-- What the parameters of a command block inside a VF's secured message carry besides numbers (R401): nothing, a key record under its
kind (Table 13.6), an SPDM request. -/
inductive InnerDetail
  | plain
  | key (kind : Byte) (k : KeyRecord)
  | spdm (req : SpdmRequest)
  deriving DecidableEq, Repr

/-- A Torren frame (Table 11.2) with its payload and the CRC of its trailer. -/
structure Frame where
  kind : BitVec 4
  cls : BitVec 4
  flags : Byte
  units : BitVec 16
  src : BitVec 16
  dst : BitVec 16
  lseq : W32
  fmt : Byte
  hops : Byte
  tag : BitVec 16
  offset : W64
  arg : W32
  payload : List Byte
  crc : W32
  deriving DecidableEq, Repr

/-- A peer's hello (R330); `chainOk` is what its chain verifies to, `keyDigest` bytes 0-7 of its leaf key's SHA-512. -/
structure Hello where
  device : Nat
  port : Nat
  role : BitVec 4
  plan : W32
  nonce : BitVec 256
  chainOk : Bool
  keyDigest : W64
  deriving DecidableEq, Repr

/-- Why a port leaves UP (R349). -/
inductive PortFailCause | alignment | fec | retransmissions
  deriving DecidableEq, Repr

/-- The GROUP message forms (R345, R346, R348). -/
inductive GroupMsg
  | faultMap (step : W64) (lanes : List Nat)
  | start (pitch : W64)
  | calRequest
  | pauseAt (pitch : W64)
  deriving DecidableEq, Repr

/-- How the PCIe link is reset (Table 15.3). -/
inductive LinkCause | perst | hotReset | linkLoss
  deriving DecidableEq, Repr

/-- The coolant condition behind a rate cause (Table 14.6). -/
inductive CoolCause | inletHigh | flowLow
  deriving DecidableEq, Repr

/-- A hardened word the scrubber visits (R298): of a site, or of a global block. -/
inductive ScrubTarget
  | site (site : Nat) (word : Nat)
  | global (word : Nat)
  deriving DecidableEq, Repr

/-- What a tile self-test finds beyond the CRC the model forms itself (R305): the sweep, the vote and the SRAM scrub. -/
structure SelfTestResult where
  sweepOk : Bool
  voteOk : Bool
  sramOk : Bool
  deriving DecidableEq, Repr

/-- The PCIe function a register access comes from. -/
inductive Func
  | pf
  | vf (n : Nat)
  deriving DecidableEq, Repr

/-- The address space of a register access (Table 12.3). -/
inductive Bar | bar0 | bar2 | bar4 | vfBar0
  deriving DecidableEq, Repr

/-- The part of a 64-bit register a write covers (R466). -/
inductive Part | whole | lower | upper
  deriving DecidableEq, Repr

/-- An array slot's operation fields (Table 5.6). -/
structure ArrayField where
  rg : BitVec 4
  q : BitVec 2
  plane : BitVec 3
  accBank : BitVec 2
  actBank : BitVec 2
  actFmt : BitVec 5
  sign : BitVec 2
  aclk : BitVec 3
  lmask : BitVec 16
  deriving DecidableEq, Repr

/-- The accumulator field's operation fields (Table 5.7). -/
structure AccField where
  bank : BitVec 2
  mode : BitVec 2
  shift8 : Bool
  base : BitVec 15
  count : BitVec 15
  mergeIn : Bool
  areg : BitVec 6
  buf : BitVec 2
  deriving DecidableEq, Repr

/-- The KV field's operation fields (Table 5.8). -/
structure KvField where
  head : BitVec 4
  areg : BitVec 6
  deriving DecidableEq, Repr

/-- The prefill field's operation fields (Table 5.9). -/
structure PfField where
  block : BitVec 16
  opfmt : BitVec 5
  areg : BitVec 6
  deriving DecidableEq, Repr

/-- The precision field's operation fields (Table 5.10). -/
structure PrecField where
  index : BitVec 16
  outFmt : BitVec 5
  src : BitVec 6
  dst : BitVec 6
  deriving DecidableEq, Repr

/-- The sync field's operation fields (R155). -/
structure SyncField where
  areg : BitVec 6
  operand : BitVec 16
  deriving DecidableEq, Repr

/-- What PLOAD loads (Table 7.9): the query block of a lane of the running step, or of the next one, from the route; a key or a value block from
a sweep page. -/
inductive PfOperand
  | query (next : Bool) (lane count : Nat)
  | key
  | value
  deriving DecidableEq, Repr

/-- A descriptor action entry (Table 8.6) without its kind. -/
structure ActionEntry where
  partition : Nat
  ringPos : W32
  handle : W32
  deriving DecidableEq, Repr

/-- The management bindings (R379). -/
inductive Binding | smbus | i3c
  deriving DecidableEq, Repr

/-- The commands and events of the IW84, one constructor per row of the table. -/
inductive Instr
  | powerOnReset (env : BootEnv)
  | meshLock (env : BootEnv)
  | coolantConfirmed (vote : VoteInput)
  | integrityCheck
  | dramInit (trained : BitVec 16)
  | ready
  | goldenRebuild
  | sysRstNReset (lowNs : Nat) (env : BootEnv)
  | devReset (b : CmdBlock) (env : BootEnv)
  | bootWatchdogExpiry (env : BootEnv)
  | recoveryUpdateRestart (env : BootEnv)
  | linkReset (cause : LinkCause)
  | perstNDeassert (width : BitVec 4)
  | pfFlr
  | vfFlr (p : Nat)
  | vfEnableClear
  | managementTick
  | sensorWindowEnd (energy : W64)
  | conversionComplete (conv : Nat) (code : BitVec 10) (cellBit : Bool)
  | sequenceTableWrite (conv : Nat) (entries : List (BitVec 32))
  | urgentRequest (conv : Nat) (channel : BitVec 5) (threshold code : BitVec 10)
  | statisticsTickEnd
  | calibrationPause
  | calibrationPauseEnd
  | throttleExit (h : Half)
  | emergencyEnter (vale : Nat)
  | emergencyExit (vale : Nat)
  | coolantRateCause (c : CoolCause)
  | coolantCauseClear (c : CoolCause)
  | coolantFail
  | coolantFailTimeout
  | coolantFailClear
  | supplyLimit (amps us : Nat)
  | supplyLimitClear
  | powerFail (mv us : Nat)
  | overvoltageCut (mv us : Nat)
  | thermalTrip (cluster : Nat) (tempCode : Nat)
  | railFault (vale : Nat)
  | holdoverEnter
  | relock
  | nodeDecouple (cluster : Nat)
  | stepBoundary (t : W64)
  | bundleIssue (h : Half) (flips : BitVec 1024) (upsets : List FlitUpset)
  | holdEnd
  | serviceWindow
  | syncStallBegin (site : Nat)
  | syncStallEnd (t : W64)
  | syncWatchdog (t : W64)
  | mapSwitch
  | scrubVisit (target : ScrubTarget) (a b c : W64)
  | tileSelfTest (site : Nat) (r : SelfTestResult)
  | markClear (site p : Nat)
  | suspectClear (site : Nat)
  | tlActionClear (vale : Nat)
  | faultHoldEnd
  | marginScan (site p rg : Nat) (weak : Nat)
  | arrayAgeDue (site p : Nat)
  | refreshStart
  | programSessionDone (site p : Nat) (flips : List (Nat × Byte)) (weak : Nat) (trimOffs : List Int)
  | parkTtlExpiry (entry : Nat)
  | deadlineReached (entry : Nat)
  | partitionZeroingDone (p : Nat)
  | hostCopyComplete (channel : Nat) (cseq : BitVec 4) (fault : Option Nat)
  | stagingComplete
  | installChunkReceived (entry : Nat) (bytes : List Byte)
  | installSourceTimeout
  | generationCommit
  | rollProgrammingStart
  | varLoadChecksDone (slot : Nat) (img : VariantImage)
  | armComplete (bank : Nat)
  | adpLoadDone (slot : Nat) (head : List Byte) (sig : ImageSig) (chunks : List (List Byte))
  | adapterSlotReady (slot : Nat)
  | fwWriteComplete (readBackOk : Bool)
  | standbyExitDone
  | valeDarken (vale : Nat)
  | partitionConfigApply (p : Nat)
  | partitionResetApply (p : Nat)
  | profileChange
  | genPointerMove
  | egressKeyApply (p : Nat)
  | wgtInstallNew (b : CmdBlock) (head : List Byte) (sig : ImageSig) (plan : List Byte)
  | wgtInstallRoll (b : CmdBlock) (head : List Byte) (sig : ImageSig) (plan : List Byte)
  | wgtSwitch (b : CmdBlock)
  | wgtRetire (b : CmdBlock)
  | wgtAbort (b : CmdBlock)
  | wgtFix (b : CmdBlock)
  | adpLoad (b : CmdBlock)
  | adpRetire (b : CmdBlock)
  | varLoad (b : CmdBlock)
  | varUnload (b : CmdBlock)
  | varArm (b : CmdBlock)
  | varDisarm (b : CmdBlock)
  | fltRemap (b : CmdBlock)
  | fltMapout (b : CmdBlock)
  | hostCopy (b : CmdBlock)
  | peerLost (b : CmdBlock)
  | secSpdmRequest (b : CmdBlock) (req : SpdmRequest)
  | secSpdmSecuredCommand (b : CmdBlock) (openedOk : Bool) (inner : CmdBlock) (detail : InnerDetail)
  | partConfig (b : CmdBlock)
  | partReset (b : CmdBlock)
  | profileSet (b : CmdBlock)
  | keyLoadOperatorCmd (b : CmdBlock) (k : KeyRecord)
  | keyLoadPartitionCmd (b : CmdBlock) (k : KeyRecord)
  | keyLoadPartitionEgress (b : CmdBlock) (k : KeyRecord)
  | keyLoadRootAdd (b : CmdBlock) (k : KeyRecord)
  | keyLoadRootRemove (b : CmdBlock) (k : KeyRecord)
  | fwUpdate (b : CmdBlock) (img : FwImage)
  | dbgUnlock (b : CmdBlock) (token : VendorRecord)
  | releaseFixed (b : CmdBlock) (r : VendorRecord)
  | fixAtFactory (b : CmdBlock) (r : VendorRecord)
  | clearOperatorKey (b : CmdBlock) (r : VendorRecord)
  | valePowerOff (b : CmdBlock)
  | valePowerOn (b : CmdBlock) (vote : VoteInput)
  | thmRelocate (b : CmdBlock)
  | pwrStateStandby (b : CmdBlock)
  | pwrStateActive (b : CmdBlock) (vote : VoteInput)
  | getVersion (channel : Nat)
  | getCapabilities (channel : Nat)
  | negotiateAlgorithms (channel : Nat) (supported : Bool)
  | getDigests (channel : Nat)
  | getCertificate (channel : Nat) (offset length : Nat)
  | challenge (channel : Nat) (nonce : BitVec 256)
  | getMeasurements (channel : Nat) (index : Nat) (nonce : BitVec 256)
  | keyExchange (channel : Nat) (supported : Bool)
  | spdmFinish (channel : Nat) (verified : Bool)
  | heartbeat (channel : Nat)
  | keyUpdate (channel : Nat)
  | endSession (channel : Nat)
  | setEndpointId (bind : Binding) (owner eid : Byte)
  | getEndpointId (bind : Binding)
  | getMctpVersionSupport (bind : Binding) (msgType : Byte)
  | getMessageTypeSupport (bind : Binding)
  | getVendorDefinedMessageSupport (bind : Binding) (selector : Byte)
  | getEndpointUuid (bind : Binding)
  | mctpVendorMessage (secured : Bool) (vendor : BitVec 16) (word : W64)
  | mctpAck (secured : Bool)
  | pldmBase (bind : Binding) (command : Byte)
  | pldmPlatformMonitoring (bind : Binding) (sensor : BitVec 16)
  | pldmFruData (bind : Binding)
  | pldmFirmwareUpdate (bind : Binding) (img : FwImage)
  | mbxInWrite (channel : Nat) (word : W64)
  | mbxOutRead (channel : Nat)
  | descTail (part : Part) (v : W64)
  | rqTail (owner : Nat) (part : Part) (v : W64)
  | outHead (owner : Nat) (v : W64)
  | noticeHead (part : Part) (v : W64)
  | syncHsig (n : Nat) (part : Part) (v : W64)
  | stepHoldSet
  | stepHoldClear
  | commitGlobal
  | commitStep
  | commitFabric
  | portRetrain (port : Nat)
  | portDisable (port : Nat) (disable : Bool)
  | registerWrite (fn : Func) (bar : Bar) (offset : Nat) (part : Part) (v : W64)
  | halfReadLatch (fn : Func) (bar : Bar) (offset : Nat)
  | requestFetch (completionError : Bool)
  | requestPending (owner : Nat)
  | outputWriteError (owner : Nat)
  | admitSeq (a : ActionEntry)
  | attach (a : ActionEntry)
  | cancel (a : ActionEntry)
  | park (a : ActionEntry)
  | resume (a : ActionEntry)
  | setMask (a : ActionEntry)
  | publish (a : ActionEntry)
  | release (a : ActionEntry)
  | reshardAction (a : ActionEntry)
  | portTrained (port : Nat) (rate : BitVec 2) (lanesOk : BitVec 4)
  | admitHello (port : Nat) (hello : Hello)
  | admitProof (port : Nat) (signatureOk : Bool)
  | admissionTimeout (port : Nat)
  | timeFrame (port : Nat) (sent : W64) (echo : W64)
  | windowFrame (port : Nat) (f : Frame)
  | msgPut (port : Nat) (f : Frame)
  | msgPutSignal (port : Nat) (f : Frame)
  | msgSignal (port : Nat) (f : Frame)
  | msgGroup (port : Nat) (f : Frame) (g : GroupMsg)
  | broadcastFrame (port : Nat) (f : Frame)
  | linkAck (port : Nat) (lseq : W32)
  | retransmissionRequest (port : Nat) (lseq : W32)
  | retransmitTimeout (port : Nat)
  | portFail (port : Nat) (cause : PortFailCause)
  | portRetry (port : Nat)
  | windowDeadline (slot : Nat)
  | pitchPoint (late : Nat)
  | mac (site : Nat) (f : ArrayField)
  | sweep (site : Nat) (f : ArrayField)
  | promote (site : Nat) (f : AccField)
  | promoteReduce (site : Nat) (f : AccField)
  | reduce (site : Nat) (f : AccField)
  | merge (site : Nat) (f : AccField)
  | emit (site : Nat) (f : AccField)
  | convert (site : Nat) (f : AccField)
  | clear (site : Nat) (f : AccField)
  | qload (site : Nat) (f : KvField)
  | kvappend (site : Nat) (f : KvField) (key value : List W32)
  | score (site : Nat) (f : KvField)
  | expsum (site : Nat) (f : KvField)
  | finish (site : Nat) (f : KvField)
  | pagein (site : Nat) (f : KvField) (local_ : Nat) (addr : Nat)
  | pageout (site : Nat) (f : KvField) (local_ : Nat) (addr : Nat)
  | reshard (site : Nat) (f : KvField) (local_ : Nat)
  | zero (site : Nat) (f : KvField)
  | pload (site : Nat) (f : PfField) (what : PfOperand)
  | pscore (site : Nat) (f : PfField)
  | pexpsum (site : Nat) (f : PfField)
  | pfinish (site : Nat) (f : PfField) (outFmt : BitVec 5)
  | ringsend (site : Nat) (f : PfField) (addr len : Nat)
  | dense (site : Nat) (f : PfField) (outFmt : BitVec 5) (xs : List W32) (rows : List (List W32))
  | quant (site : Nat) (f : PrecField) (inFmt : BitVec 5)
  | outlier (site : Nat) (f : PrecField)
  | norm (site : Nat) (f : PrecField) (n : Nat)
  | resid (site : Nat) (f : PrecField) (n : Nat)
  | gate (site : Nat) (f : PrecField) (n : Nat)
  | adapt (site : Nat) (f : PrecField) (n rank m : Nat)
  | pmac (site : Nat) (f : PrecField) (n m : Nat) (opFmt : BitVec 5)
  | logit (site : Nat) (f : PrecField) (n m : Nat)
  | sample (site : Nat) (areg : BitVec 6) (logits : List W32)
  | record (site : Nat) (areg : BitVec 6)
  | mask (site : Nat) (areg : BitVec 6) (vocab : Nat)
  | signal (site : Nat) (f : SyncField)
  | wait (site : Nat) (f : SyncField)
  | monitor (site : Nat) (f : SyncField)
  | bypass
  | idcode
  | samplePreload
  | extest
  | clamp
  | highz
  | ieee1687Access (active : Bool)
  | frefLoss
  | frefReturn
  | varLoadSourceTimeout (slot : Nat)
  | pcieLinkUp (width : BitVec 4)
  | vauxFalls
  | unsupportedRequest (fn : Func) (bar : Bar) (offset size : Nat) (isWrite : Bool)
  | vfEnableSet
  | linkCredit (port : Nat) (cls : Nat) (credits : Nat)
  deriving DecidableEq, Repr

end Sys2Proof
end

