-- ==== Sys2Proof/Decode.lean ====
section
/-! DEFINITION. The commands a word of the table spells. The rows of the table carry no bits (commands reach the block as
register accesses, messages, frames and events), so no word spells one. -/

namespace Sys2Proof

/-- The command spelled by a word of `nbits` bits: none, as no row of the table gives bits. -/
def decodeTableWord (_nbits _w : Nat) : Option Instr := none

end Sys2Proof
end

