-- ==== Sys2Proof/Machine/Hash.lean ====
section
/-! DEFINITION. The digests and the check codes the spec names: SHA-512 (R104, R257), HMAC-SHA-512 (R405), CRC-32C (R62). -/

namespace Sys2Proof.Machine

/-- The first 80 prime numbers: those below 410, which no smaller number from 2 to 20 divides. -/
def shaPrimes : List Nat :=
  (List.range' 2 408).filter (fun n => (List.range' 2 19).all (fun d => decide (n ≤ d ∨ n % d ≠ 0)))

/-- The whole k-th root of a number below 2^(68 k), bit by bit from the top. -/
def rootOf (k n : Nat) : Nat :=
  (List.range 68).foldl (fun (r i : Nat) => if (r + 2 ^ (67 - i)) ^ k ≤ n then r + 2 ^ (67 - i) else r) 0

/-- The round constants of SHA-512 (R104): the first 64 bits of the fractional parts of the cube roots of the first 80 primes. -/
def shaK : List W64 := shaPrimes.map (fun p => BitVec.ofNat 64 (rootOf 3 (p * 2 ^ 192)))

/-- Its initial state: the same of the square roots of the first eight primes. -/
def shaH : List W64 := (shaPrimes.take 8).map (fun p => BitVec.ofNat 64 (rootOf 2 (p * 2 ^ 128)))

/-- The eight bytes of a word, most significant first. -/
def beBytes64 (w : W64) : List Byte :=
  (List.range 8).map (fun i => w.extractLsb' (8 * (7 - i)) 8)

/-- A word from its bytes, most significant first. -/
def ofBe (bs : List Byte) : W64 := bs.foldl (fun a b => (a <<< 8) ||| b.zeroExtend 64) 0

/-- A byte list cut into pieces of `n` (the last one shorter). -/
def chunksOf {α : Type} (n : Nat) : Nat → List α → List (List α)
  | 0, _ => []
  | fuel + 1, l => if l.isEmpty then [] else l.take n :: chunksOf n fuel (l.drop n)

/-- The padded message (FIPS 180-4). -/
def shaPad (m : List Byte) : List Byte :=
  let z := (239 - m.length % 128) % 128
  m ++ (0x80#8 :: List.replicate z 0#8) ++ List.replicate 8 0#8 ++ beBytes64 (BitVec.ofNat 64 (8 * m.length))

/-- A word turned right by each of some amounts, the results XORed. -/
def rots (w : W64) (by_ : List Nat) : W64 := by_.foldl (fun x n => x ^^^ w.rotateRight n) 0

/-- The message schedule, newest word first. -/
def shaExtend : Nat → List W64 → List W64
  | 0, w => w
  | n + 1, w =>
    let a := w.getD 1 0
    let b := w.getD 14 0
    let fresh := w.getD 15 0 + w.getD 6 0 + (rots b [1, 8] ^^^ (b >>> 7)) + (rots a [19, 61] ^^^ (a >>> 6))
    shaExtend n (fresh :: w)

/-- The working variables of a round. -/
structure ShaVars where
  (a b c d e f g h : W64)

/-- One round. -/
def shaRound (v : ShaVars) (kw : W64 × W64) : ShaVars :=
  let choice := v.g ^^^ (v.e &&& (v.f ^^^ v.g))
  let most := (v.a &&& v.b) ||| (v.c &&& (v.a ||| v.b))
  let mixed := v.h + kw.1 + kw.2 + choice + rots v.e [14, 18, 41]
  ⟨mixed + most + rots v.a [28, 34, 39], v.a, v.b, v.c, v.d + mixed, v.e, v.f, v.g⟩

/-- One block of 128 bytes taken into the state. -/
def shaBlock (h : List W64) (blk : List Byte) : List W64 :=
  let w0 := (chunksOf 8 16 blk).map ofBe
  let w := (shaExtend 64 w0.reverse).reverse
  let at_ := fun (i : Nat) => h.getD i 0
  let v := (shaK.zip w).foldl shaRound ⟨at_ 0, at_ 1, at_ 2, at_ 3, at_ 4, at_ 5, at_ 6, at_ 7⟩
  List.zipWith (· + ·) h [v.a, v.b, v.c, v.d, v.e, v.f, v.g, v.h]

/-- The SHA-512 digest: 64 bytes. -/
def sha512 (m : List Byte) : List Byte :=
  let p := shaPad m
  ((chunksOf 128 (p.length / 128) p).foldl shaBlock shaH).flatMap beBytes64

/-- HMAC-SHA-512 (R405). -/
def hmac512 (key m : List Byte) : List Byte :=
  let k0 := if key.length > 128 then sha512 key else key
  let k := k0 ++ List.replicate (128 - k0.length) 0#8
  sha512 (k.map (· ^^^ 0x5c#8) ++ sha512 (k.map (· ^^^ 0x36#8) ++ m))

/-- One bit of CRC-32C, reflected polynomial 0x82F6_3B78. -/
def crcBit (c : W32) : W32 := if c.getLsbD 0 then (c >>> 1) ^^^ 0x82F63B78#32 else c >>> 1

/-- One byte of CRC-32C. -/
def crcByte (c : W32) (b : Byte) : W32 := (List.range 8).foldl (fun a _ => crcBit a) (c ^^^ b.zeroExtend 32)

/-- CRC-32C of a byte list (R62: initial value and final XOR 0xFFFF_FFFF). -/
def crc32c (bs : List Byte) : W32 := (bs.foldl crcByte 0xFFFFFFFF#32) ^^^ 0xFFFFFFFF#32

/-- A digest as a number with byte 0 least significant (R71). -/
def digestBits (bs : List Byte) : BitVec 512 := BitVec.ofNat 512 (bs.foldr (fun b a => b.toNat + 256 * a) 0)

end Sys2Proof.Machine
end

