-- ==== Sys2Proof/Machine/Gcm.lean ====
section
/-! DEFINITION. AES-256-GCM (FIPS 197, SP 800-38D), under which the device seals what leaves it (R408). -/

namespace Sys2Proof.Machine

/-! ## AES-256 -/

/-- x times 2 in the field of AES. -/
def aesDouble (x : Byte) : Byte := if x.getLsbD 7 then (x <<< 1) ^^^ 0x1B else x <<< 1

/-- A product in the field of AES. -/
def aesMul (x y : Byte) : Byte :=
  ((List.range 8).foldl (fun (a : Byte × Byte) i => (if y.getLsbD i then a.1 ^^^ a.2 else a.1, aesDouble a.2)) (0, x)).1

/-- The inverse in the field, 0 of 0: the 254th power. -/
def aesInv (x : Byte) : Byte :=
  ((List.range 7).foldl (fun (a : Byte × Byte) _ => (aesMul a.1 (aesMul a.2 a.2), aesMul a.2 a.2)) (1, x)).1

/-- The S-box of a byte. -/
def aesSub (x : Byte) : Byte :=
  let b := aesInv x
  b ^^^ b.rotateLeft 1 ^^^ b.rotateLeft 2 ^^^ b.rotateLeft 3 ^^^ b.rotateLeft 4 ^^^ 0x63

/-- The S-box as a table. -/
def aesBox : Array Byte := ((List.range 256).map (fun i => aesSub (BitVec.ofNat 8 i))).toArray

/-- A byte through the S-box. -/
def aesByte (x : Byte) : Byte := aesBox.getD x.toNat 0

/-- The four bytes of the next word of the key schedule; `ws` holds the words so far, the newest first, the next one is word `i`. -/
def aesNextWord (ws : List (List Byte)) (i : Nat) : List Byte :=
  let w := ws.headD []
  let rcon := (List.range (i / 8 - 1)).foldl (fun (a : Byte) _ => aesDouble a) 1
  let t :=
    if i % 8 = 0 then
      let r := ((w.drop 1) ++ w.take 1).map aesByte
      (r.headD 0 ^^^ rcon) :: r.drop 1
    else if i % 8 = 4 then w.map aesByte else w
  ((ws.getD 7 []).zip t).map (fun e => e.1 ^^^ e.2)

/-- The fifteen round keys of a 32-byte key. -/
def aesKeys (key : List Byte) : List (List Byte) :=
  let ws := (List.range 52).foldl (fun (ws : List (List Byte)) n => aesNextWord ws (n + 8) :: ws) (chunksOf 4 8 key).reverse
  chunksOf 16 15 ws.reverse.flatten

/-- Two byte lists added bit by bit. -/
def xorBytes (a b : List Byte) : List Byte := (a.zip b).map (fun e => e.1 ^^^ e.2)

/-- The rows of a block shifted: byte r + 4c comes from column c + r. -/
def aesShift (b : List Byte) : List Byte := (List.range 16).map (fun i => b.getD (i % 4 + 4 * ((i / 4 + i % 4) % 4)) 0)

/-- The columns of a block mixed. -/
def aesMix (b : List Byte) : List Byte :=
  (List.range 16).map (fun i =>
    let x := fun (n : Nat) => b.getD (4 * (i / 4) + (i % 4 + n) % 4) 0
    aesDouble (x 0) ^^^ aesDouble (x 1) ^^^ x 1 ^^^ x 2 ^^^ x 3)

/-- A block of 16 bytes encrypted under round keys. -/
def aesBlock (ks : List (List Byte)) (b : List Byte) : List Byte :=
  let s := ((ks.drop 1).take 13).foldl (fun s k => xorBytes (aesMix (aesShift (s.map aesByte))) k) (xorBytes b (ks.headD []))
  xorBytes (aesShift (s.map aesByte)) (ks.getD 14 [])

/-! ## Galois/counter mode -/

/-- 16 bytes as a block, the first byte most significant. -/
def gcmBits (bs : List Byte) : BitVec 128 := bs.foldl (fun a b => (a <<< 8) ||| b.zeroExtend 128) 0

/-- The bytes of a block. -/
def gcmBytes (x : BitVec 128) : List Byte := (List.range 16).map (fun i => x.extractLsb' (8 * (15 - i)) 8)

/-- The product of two blocks. -/
def gcmMul (x y : BitVec 128) : BitVec 128 :=
  ((List.range 128).foldl (fun (a : BitVec 128 × BitVec 128) i =>
    (if x.getLsbD (127 - i) then a.1 ^^^ a.2 else a.1,
      if a.2.getLsbD 0 then (a.2 >>> 1) ^^^ (0xE1#128 <<< 120) else a.2 >>> 1)) (0, y)).1

/-- A byte list filled with zeros to a multiple of 16. -/
def gcmPad (bs : List Byte) : List Byte := bs ++ List.replicate ((16 - bs.length % 16) % 16) 0

/-- GHASH of the additional data and the ciphertext. -/
def gcmHash (h : BitVec 128) (aad ct : List Byte) : BitVec 128 :=
  let m := gcmPad aad ++ gcmPad ct ++ beBytes64 (BitVec.ofNat 64 (8 * aad.length)) ++ beBytes64 (BitVec.ofNat 64 (8 * ct.length))
  (chunksOf 16 (m.length / 16) m).foldl (fun a b => gcmMul (a ^^^ gcmBits b) h) 0

/-- A counter block of a 12-byte nonce. -/
def gcmCounter (nonce : List Byte) (n : Nat) : List Byte :=
  nonce ++ (List.range 4).map (fun i => (BitVec.ofNat 32 n).extractLsb' (8 * (3 - i)) 8)

/-- The key stream applied to a byte list, from counter 2 on. -/
def gcmStream (ks : List (List Byte)) (nonce bs : List Byte) : List Byte :=
  ((chunksOf 16 (bs.length / 16 + 1) bs).zipIdx.map (fun e => xorBytes e.1 (aesBlock ks (gcmCounter nonce (e.2 + 2))))).flatten

/-- The tag of additional data and a ciphertext. -/
def gcmTag (ks : List (List Byte)) (nonce aad ct : List Byte) : List Byte :=
  xorBytes (gcmBytes (gcmHash (gcmBits (aesBlock ks (List.replicate 16 0))) aad ct)) (aesBlock ks (gcmCounter nonce 1))

/-! ## Sealed objects (R408) -/

/-- The nonce of a seal header (Table 13.7). -/
def sealNonce (header : List Byte) : List Byte := (header.drop 8).take 12

/-- A plaintext sealed under a key with its header as additional data: ciphertext and tag. -/
def sealObject (key header plain : List Byte) : List Byte :=
  let ks := aesKeys key
  let ct := gcmStream ks (sealNonce header) plain
  ct ++ gcmTag ks (sealNonce header) header ct

/-- The plaintext of a sealed body, none where its tag fails (R410). -/
def openObject (key header body : List Byte) : Option (List Byte) :=
  let ks := aesKeys key
  let ct := body.take (body.length - 16)
  if gcmTag ks (sealNonce header) header ct = body.drop (body.length - 16) then some (gcmStream ks (sealNonce header) ct) else none

end Sys2Proof.Machine
end

