-- ==== Sys2Proof/Config.lean ====
section
/-! DEFINITION. What an implementation fixes and the spec leaves open: the free values. None has a body, so nothing can be
proved of a particular value (log entry 3). -/

namespace Sys2Proof

/-- A free 64-bit value, fresh at each use: the model applies it to its own count of uses (State.freeCount). It stands for
results the spec states no value for (generated nonces, results after a format fault or an accumulator overflow). -/
opaque Config.freeValue : Nat → W64

/-- Element `i` of what NORM (3) or GATE (5) makes of a source vector and of its parameter vector, both as encodings, and of what PMAC (7)
or LOGIT (8) makes of a source vector whose matrix the generation does not place: R153 states no formula, and a result depends on nothing
but these (R100; log entry 36). -/
opaque Config.vectorValue (op index : Nat) (source parameters : List Nat) (i : Nat) : W64

/-- A byte of the body of a sealed object of a partition without an egress key, for which the spec states none (R408; log entry 3). -/
opaque Config.unkeyedByte (header plain : List Byte) (index : Nat) : Byte

/-- The bytes of an SPDM response the model does not lay out (DSP0274: certificates, signatures, transcripts), by request
code and the count of free values used. -/
opaque Config.spdmBytes (request count : Nat) : List Byte

/-- The hash of source, destination and class that picks a port among a direction's UP ports (R337). -/
opaque Config.portHash (src dst cls : Nat) : Nat

/-- The size of the token vocabulary of an installed image, which the spec's containers do not carry (R114; log entry 28). -/
opaque Config.vocabulary (imageId : W64) : Nat

/-- The INT8 elements in a row of a DRAM tensor of an image, after which the row's BF16 scale follows: the container does not carry it (R125,
Table 4.5; log entry 28). -/
opaque Config.tensorRow (imageId : W64) (matrix : Nat) : Nat

/-- The input dimension of a matrix of a generation contract, which a pair's header does not carry (R127; log entry 28). -/
opaque Config.inputDim (contract : W32) (matrix : Nat) : Nat

/-- Whether the other devices of a ring have committed the positions of a sequence below a chunk's start before a step: the spec gives no
way in which a device learns it (R224; log entry 71). -/
opaque Config.ringCommitted (handle : BitVec 32) (start : Nat) (step : W64) : Bool

/-- The bytes of MCTP and PLDM answers that the spec leaves to the part or to the standards it names: the UUID, the versions of message
types, FRU records, PLDM base answers; by message type, command and the die serial. -/
opaque Config.mgmtBytes (msgType command : Nat) (serial : BitVec 128) : List Byte

end Sys2Proof
end

