-- ==== Sys2Proof/Machine/Sparse.lean ====
section
/-! DEFINITION. Sparse data by a numeric key in one canonical form: keys strictly rising, no entry equal to the default
that an unlisted key reads as. Memory, array cells, accumulators and every table of the device are held so. -/

namespace Sys2Proof

/-- Entries sorted by key; an unlisted key holds the default. -/
abbrev Sparse (α : Type) := List (Nat × α)

/-- The value at a key. -/
def Sparse.get {α : Type} (d : α) : Sparse α → Nat → α
  | [], _ => d
  | (k, v) :: m, a => if k = a then v else Sparse.get d m a

/-- The store without a key: it reads as the default afterwards. -/
def Sparse.erase {α : Type} (m : Sparse α) (a : Nat) : Sparse α := m.filter (fun e => decide (e.1 ≠ a))

/-- An entry put before the first larger key. -/
def Sparse.put {α : Type} : Sparse α → Nat → α → Sparse α
  | [], a, v => [(a, v)]
  | (k, w) :: m, a, v => if a < k then (a, v) :: (k, w) :: m else (k, w) :: Sparse.put m a v

/-- The store with the value at a key replaced; writing the default removes the entry. -/
def Sparse.set {α : Type} [DecidableEq α] (d : α) (m : Sparse α) (a : Nat) (v : α) : Sparse α :=
  if v = d then Sparse.erase m a else Sparse.put (Sparse.erase m a) a v

/-- Every key of the list lies above `lo`, rising, and no entry is the default. -/
def Sparse.wfFrom {α : Type} [DecidableEq α] (d : α) : Option Nat → Sparse α → Bool
  | _, [] => true
  | lo, (k, v) :: m =>
    (match lo with | none => true | some l => decide (l < k)) && decide (v ≠ d) && Sparse.wfFrom d (some k) m

/-- The canonical form. -/
def Sparse.wf {α : Type} [DecidableEq α] (d : α) (m : Sparse α) : Bool := Sparse.wfFrom d none m

/-- The entries whose key satisfies `p` removed (they read as the default afterwards). -/
def Sparse.drop {α : Type} (p : Nat → Bool) (m : Sparse α) : Sparse α := m.filter (fun e => !p e.1)

/-- The store with `f` applied to the value at a key. -/
def Sparse.upd {α : Type} [DecidableEq α] (d : α) (m : Sparse α) (a : Nat) (f : α → α) : Sparse α :=
  m.set d a (f (m.get d a))

/-- The entries that are read: of a key listed twice the first, and none that holds the default; in canonical form all of them. -/
def Sparse.entries {α : Type} [DecidableEq α] (d : α) : Sparse α → List (Nat × α)
  | [] => []
  | (k, v) :: m =>
    let r := (Sparse.entries d m).filter (fun e => decide (e.1 ≠ k))
    if v = d then r else (k, v) :: r

/-- `f` applied to every listed entry, entries that become the default dropped. -/
def Sparse.mapVals {α : Type} [DecidableEq α] (d : α) (f : Nat → α → α) : Sparse α → Sparse α
  | [] => []
  | (k, v) :: m =>
    if f k v = d then Sparse.erase (Sparse.mapVals d f m) k else (k, f k v) :: Sparse.mapVals d f m

/-- `vs` written at `a`, `a + 1`, … in order. -/
def Sparse.setList {α : Type} [DecidableEq α] (d : α) (m : Sparse α) (a : Nat) : List α → Sparse α
  | [] => m
  | v :: vs => Sparse.setList d (m.set d a v) (a + 1) vs

/-- The `n` values at `a`, `a + 1`, …. -/
def Sparse.getList {α : Type} (d : α) (m : Sparse α) (a n : Nat) : List α :=
  (List.range n).map (fun i => m.get d (a + i))

/-- The range `[dst, dst + n)` of `m` made equal to the range `[src, src + n)` of `from_`. -/
def Sparse.copyRange {α : Type} [DecidableEq α] (d : α) (m from_ : Sparse α) (src dst n : Nat) : Sparse α :=
  (from_.filter (fun e => decide (src ≤ e.1 ∧ e.1 < src + n))).foldl
    (fun acc e => acc.set d (e.1 - src + dst) (from_.get d e.1))
    (m.drop (fun k => decide (dst ≤ k ∧ k < dst + n)))

/-- Bytes by address: an unlisted byte reads 0 (R449 and Table 15.4: DRAM and site SRAM are zeroed before READY). -/
abbrev Memory := List (Nat × BitVec 8)

/-- The byte at an address. -/
def Memory.read (m : Memory) (a : Nat) : Byte := Sparse.get 0#8 m a

/-- The memory with one byte written. -/
def Memory.write (m : Memory) (a : Nat) (b : Byte) : Memory := Sparse.set 0#8 m a b

/-- The canonical form of a memory. -/
def Memory.wf (m : Memory) : Bool := Sparse.wf 0#8 m

/-- `n` bytes, lowest address first. -/
def Memory.readBytes (m : Memory) (a n : Nat) : List Byte := Sparse.getList 0#8 m a n

/-- Bytes written at rising addresses. -/
def Memory.writeBytes (m : Memory) (a : Nat) (bs : List Byte) : Memory := Sparse.setList 0#8 m a bs

/-- The number that `n` bytes hold, least significant byte first (R71). -/
def Memory.readLE (m : Memory) (a : Nat) : Nat → Nat
  | 0 => 0
  | n + 1 => (m.read a).toNat + 256 * Memory.readLE m (a + 1) n

/-- The `n` bytes of a number, least significant first (R71). -/
def leBytes : Nat → Nat → List Byte
  | 0, _ => []
  | n + 1, v => BitVec.ofNat 8 v :: leBytes n (v / 256)

/-- The number a byte list holds, least significant first (R71). -/
def ofLE : List Byte → Nat
  | [] => 0
  | b :: bs => b.toNat + 256 * ofLE bs

/-- A number written in `n` bytes (R71). -/
def Memory.writeLE (m : Memory) (a n v : Nat) : Memory := m.writeBytes a (leBytes n v)

/-- A range of bytes set to zero. -/
def Memory.zero (m : Memory) (a n : Nat) : Memory := m.filter (fun e => !(decide (a ≤ e.1 ∧ e.1 < a + n)))

end Sys2Proof
end

