-- ==== Sys2Proof/Machine/State.lean ====
section
/-! DEFINITION. The state of the IW84 as plain data: every register, store, table, queue and mode the spec gives it, the queue
of waiting commands, and the state right after the end of power-on reset. -/

namespace Sys2Proof.Machine

/-- Why a command stops the model. -/
inductive Fault
  /-- Raised by a command that states a condition beyond an absolute maximum rating of Table 17.1 (R473: no behaviour is
  specified there). Safe: the model stops where the hardware may do anything. -/
  | beyondRatings
  deriving DecidableEq, Repr

/-- Why a command has no meaning in the model. -/
inductive Refusal
  /-- A command whose meaning is not written. Safe: nothing is claimed of it. -/
  | notModelled (mnemonic : String)
  deriving DecidableEq, Repr

/-! ## Clocks, power and cooling (chapter 14) -/

/-- CLK_STATUS and the causes of CLK_PERMIT (Table 14.13); `decoupledSet` lists the clusters whose node is decoupled. -/
structure Clk where
  refLocked : Bool := false
  refPresent : Bool := false
  holdover : Bool := false
  frefPresent : Bool := false
  plan : BitVec 2 := 0
  decoupled : BitVec 12 := 0
  refLosses : BitVec 16 := 0
  causeW : BitVec 4 := 0
  causeE : BitVec 4 := 0
  decoupledSet : List Nat := []
  deriving DecidableEq, Repr

/-- THM_STATE, THM_EMERG, THM_CFG (Table 14.13), and the tick counts behind R438 and R440. `stopAtHold` marks vales whose
interior stops when the hold begins (R439). -/
structure Thm where
  emergencies : BitVec 16 := 0
  hotVale : BitVec 7 := 0
  hotCode : BitVec 10 := 0
  eastState : BitVec 2 := 0
  westState : BitVec 2 := 0
  emerg : BitVec 84 := 0
  stopped : BitVec 84 := 0
  stopAtHold : BitVec 84 := 0
  tThrottle : BitVec 10 := 0x244
  tWarn : BitVec 10 := 0x230
  belowE : Nat := 0
  belowW : Nat := 0
  coolTicks : Sparse Nat := []
  alertN : Bool := true
  tripN : Bool := true
  deriving DecidableEq, Repr

/-- Why the module is OFF (Table 17.3). -/
inductive OffCause | none | powerFail | overvoltage | trip
  deriving DecidableEq, Repr

/-- PWR_STATE, PWR_DARK, PWR_ENERGY (Table 14.13); the OFF condition of R432 and R477, and the power commands under way. -/
structure Pwr where
  off : Bool := false
  offCause : OffCause := .none
  vauxUp : Bool := true
  ringUp : Bool := false
  interiors : BitVec 84 := 0
  dramUp : Bool := false
  railFaults : Byte := 0
  limits : BitVec 16 := 0
  limit : Bool := false
  limitTicks : Nat := 0
  busRange : Bool := false
  state : BitVec 3 := 0b010
  dark : BitVec 84 := 0
  uncal : BitVec 84 := 0
  energy : W64 := 0
  darkenDue : List (Nat × Nat × BitVec 4) := []
  onDue : List (Nat × Nat × BitVec 4) := []
  exitCmd : Option (Nat × BitVec 4) := none
  deriving DecidableEq, Repr

/-- COOL_STATUS (Table 14.13) and the consecutive-tick counts of Table 14.6. -/
structure Cool where
  qMin : BitVec 10 := 0x1E0
  isOpen : BitVec 5 := 0
  hubLost : Bool := false
  fail : Bool := false
  leakB : Bool := false
  leakA : Bool := false
  flowLow : Bool := false
  outletRise : Bool := false
  inletLow : Bool := false
  inletHigh : Bool := false
  goodTicks : Nat := 0
  hotInletTicks : Nat := 0
  lowFlowTicks : Nat := 0
  veryLowTicks : Nat := 0
  inletClearTicks : Nat := 0
  flowClearTicks : Nat := 0
  failTicks : Nat := 0
  failClearTicks : Nat := 0
  causeInlet : Bool := false
  causeFlow : Bool := false
  deriving DecidableEq, Repr

/-! ## Start-up, reset and recovery (chapter 15) -/

/-- GCTL_BOOT, GCTL_BOOT_READY (Table 15.6) and which stages of Table 15.1 are complete. -/
structure Boot where
  done : BitVec 10 := 0
  ready : Bool := false
  recovery : Bool := false
  stopped : Bool := false
  stacksOk : BitVec 16 := 0
  rcvyCause : Byte := 0
  resetKind : BitVec 4 := 0
  restarts : Byte := 0
  restartTimes : List W64 := []
  readyTime : W64 := 0
  forceRcvyLow : Bool := false
  maddr : BitVec 4 := 0
  goldenRebuilt : Bool := false
  recoveryUpdated : Bool := false
  deriving DecidableEq, Repr

/-- The locked configuration: GCTL_COMMIT, GCTL_WREGION, STEP_VAREA, FAB_PLAN and FAB_TOPO (R452, RWL), and the recorded plan and
shape, which are non-volatile (R327, R458). -/
structure Locked where
  cGlobal : Bool := false
  cStep : Bool := false
  cFabric : Bool := false
  wBase : BitVec 10 := 0
  wSize : BitVec 10 := 0
  vBase : BitVec 10 := 0
  vSize : BitVec 10 := 0
  plan : W32 := 0x03333000
  topo : BitVec 33 := 0x004210000
  recPlan : Option W32 := none
  recTopo : BitVec 33 := 0x004210000
  deriving DecidableEq, Repr

/-! ## Signed records and flash (chapters 13 and 15): the non-volatile state -/

/-- The partition configuration record (Table 13.2). -/
structure PartCfg where
  partition : Nat := 0
  allowRegen : Bool := false
  signedAdapters : Bool := false
  toGateway : Bool := false
  sealOut : Bool := false
  laneQuota : Nat := 0
  widePairs : Nat := 0
  seqBase : Nat := 0
  seqCount : Nat := 0
  kvQuota : Nat := 0
  sweepQuota : Nat := 0
  adpBase : Nat := 0
  adpCount : Nat := 0
  resCount : Nat := 0
  queueLimit : Nat := 0
  weight : Nat := 1
  queryFmt : Byte := 0x09
  minKeyRank : Nat := 0
  cowAllot : Nat := 0
  defaultTtl : Nat := 486374
  adpArea : Nat × Nat := (0, 0)
  reqArea : Nat × Nat := (0, 0)
  parkArea : Nat × Nat := (0, 0)
  spillBase : Nat := 0
  coldDevice : Nat := 0
  coldInbox : Nat := 0
  gwInbox : Nat := 0
  gwDevice : Nat := 0
  raw : List Byte := []
  deriving DecidableEq, Repr

/-- One array a generation slot holds: where it is, which manifest entry, and the CRC its image gives (R114). -/
structure GenArray where
  site : Nat
  logical : Nat
  entry : Nat
  crc : W32
  golden : Nat
  deriving DecidableEq, Repr

/-- One non-array chunk a generation places: its manifest entry, kind, format, matrix number, destination and length (R106, R111). -/
structure GenChunk where
  entry : Nat
  kind : Byte
  format : Byte
  matrix : Nat
  dest : Nat
  length : Nat
  hash : BitVec 512
  golden : Nat
  deriving DecidableEq, Repr

/-- A generation slot and its record (Tables 4.11 and 4.13, R114). `groups` are the install groups recorded as complete (R121), `recState`
is a YIELDING slot's earlier state (R123). -/
structure Gen where
  state : BitVec 4 := 0
  number : W32 := 0
  fixed : Bool := false
  contract : W32 := 0
  imageId : W64 := 0
  digest : BitVec 512 := 0
  arrays : List GenArray := []
  chunks : List GenChunk := []
  goldenBase : Nat := 0
  goldenSize : Nat := 0
  vocab : Nat := 0
  committed : Bool := false
  groups : List Nat := []
  recState : BitVec 4 := 0
  deriving DecidableEq, Repr

/-- What survives a power-on reset besides the array cells and the counts of `Arr`: records, keys, the firmware image
(R447, R458). `fwPending` is an image written to flash that runs from the next restart (R414). -/
structure NonVol where
  profileShared : Bool := false
  roots : List (List Byte) := []
  opKey : Option (List Byte) := none
  oprCtr : W64 := 0
  minSvn : BitVec 16 := 0
  fwVersion : W64 := 0
  fwSvn : BitVec 16 := 0
  flash : FwImage := ⟨true, true, true, true, 0, 0⟩
  partCfgs : Sparse (Option PartCfg) := []
  defectVersion : W64 := 0
  defects : Sparse (Option (BitVec 4)) := []
  largestGen : W32 := 0
  refCodes : Sparse (BitVec 10) := []
  agedTicks : Nat := 0
  wornCount : BitVec 20 := 0
  wornFirst : Option (Nat × Nat) := none
  recordsValid : Bool := true
  serial : BitVec 128 := 0
  ident : W64 := 0
  moduleRev : Byte := 0
  subsys : W32 := 0
  stackGb : Byte := 0x30
  deriving DecidableEq, Repr

/-! ## Arrays and tiles (chapters 02, 04, 09, 10) -/

/-- One physical array: cycles charged (R115), CRC read and recorded (R62, R451; that of an erased array where the log says so), trim offsets in force and measured (R281), the powered
tick of its last program session, baseline and weak counts (R280), full scans, whether it is unverified, due for refresh, worn; `cut` marks a program session ended before its read-back. -/
structure Arr where
  cycles : W32 := 0
  acrc : W32 := 0x3C99B5F7
  recCrc : W32 := 0x3C99B5F7
  unverified : Bool := false
  trims : List Int := []
  trimOffs : List Int := []
  progTick : Nat := 0
  scans : Nat := 0
  baseline : BitVec 16 := 0
  weak : BitVec 16 := 0
  scanRg : Nat := 0
  scanWeak : Nat := 0
  due : Bool := false
  worn : Bool := false
  cut : Bool := false
  deriving DecidableEq, Repr

/-- The array map: physical array of each logical array and the spare (R60). -/
structure AMap where
  phys : List Nat := [0, 1, 2, 3, 4, 5, 6, 7, 8, 9, 10, 11, 12, 13, 14, 15]
  spare : Nat := 16
  deriving DecidableEq, Repr

/-- A mark (R303): the physical array, the time of its last mismatch, and the lane and the run (R50) whose mismatch set it. -/
structure Mark where
  p : Nat
  time : W64
  lane : Option (W64 × Nat) := none
  run : Nat := 0
  deriving DecidableEq, Repr

/-- The registers of one site: the map of a weight tile (Table 2.7), the fault registers (Table 10.8), what a residue or
arithmetic fault has recorded in the step, words the route has delivered and words handed to the router (R170), with how many of these
were handed over before the last slot ended (R172), and the activation
banks of the runs in ACC24 bank 0, in bank 1 and of the run promoted last (R56), the promotions of either bank and the run worked on
last (R50), the mask a sampler has read (R259). -/
structure SiteSt where
  amap : AMap := {}
  next : AMap := { phys := List.replicate 16 0, spare := 0 }
  nextValid : Bool := false
  switches : BitVec 16 := 0
  copyActive : Bool := false
  mismatches : BitVec 16 := 0
  cleanTicks : BitVec 16 := 0
  votes : Byte := 0
  marks : List Mark := []
  fstate : BitVec 4 := 0
  selftestFails : Byte := 0
  faultTime : W64 := 0
  inbox : List W64 := []
  outbox : List W64 := []
  outOld : Nat := 0
  run0 : Nat := 0
  run1 : Nat := 0
  promoted : Nat := 0
  promotes0 : Nat := 0
  promotes1 : Nat := 0
  runNow : Nat := 0
  maskRead : Option (List Byte) := none
  poisonIn : Bool := false
  failed : Bool := false
  spareOf : Option Nat := none
  deriving DecidableEq, Repr

/-- What a program session is for (R109, R121, R123, R286, R304, R309, R441). -/
inductive SessionFor
  | install (arr : GenArray)
  | abort (arr : GenArray)
  | refresh (phase : Nat)
  | exchange
  | remap (newSite : Nat) (arr : GenArray)
  | relocate (newSite : Nat) (arr : GenArray)
  deriving DecidableEq, Repr

/-- A program session at a site's physical array: its purpose and the CRC it must read back (R113). -/
structure Session where
  site : Nat
  p : Nat
  purpose : SessionFor
  crc : W32
  source : Nat
  retried : Bool := false
  suspended : Bool := false
  deriving DecidableEq, Repr

/-- The install in progress (R109–R123): its command, image, plan and progress. `golden` is where each plan entry's copy lies,
`loader` and `inbox` as WGT_INSTALL gave them, `prior` the target slot as it was, `touched` whether a program session was opened. -/
structure Install where
  channel : Nat := 0
  cseq : BitVec 4 := 0
  slot : Nat := 0
  roll : Bool := false
  img : WeightImage
  plan : InstallPlan
  received : List Nat := []
  programmed : List Nat := []
  loader : Bool := false
  inbox : Nat := 0
  golden : List Nat := []
  prior : Gen := {}
  lastTick : Nat := 0
  touched : Bool := false
  abortBy : Option (Nat × BitVec 4) := none
  abortLeft : List GenArray := []
  deriving DecidableEq, Repr

/-- GCTL_GEN_PTR, GCTL_INSTALL_STATUS, GCTL_INSTALL_FAIL (Table 4.13) and the slots. `dueA` and `dueB` are what a slot becomes at the next
boundary (R116). `rolled` lists the generation numbers that
rolling rewrites replaced. -/
structure Wgt where
  genA : Gen := {}
  genB : Gen := {}
  dueA : Option Gen := none
  dueB : Option Gen := none
  switchPending : List (Nat × Nat × BitVec 4) := []
  ptrValid : Bool := false
  liveSlot : Bool := false
  groupsDone : BitVec 16 := 0
  groupsTotal : BitVec 16 := 0
  status : Byte := 0
  phase : BitVec 4 := 0
  slot : Bool := false
  failEntry : W32 := 0
  failX : Byte := 0
  failY : Byte := 0
  failP : BitVec 5 := 0
  install : Option Install := none
  sessions : List Session := []
  retireDue : List (Nat × Nat × BitVec 4) := []
  rolled : List W32 := []
  deriving DecidableEq, Repr

/-- An adapter slot (Table 4.14): state, references, contract, the command loading it, and its pairs: target matrix and offset. `limit` is the
image size the command named. -/
structure Adp where
  state : BitVec 3 := 0
  refs : BitVec 16 := 0
  contract : W32 := 0
  imageId : W64 := 0
  channel : Nat := 0
  cseq : BitVec 4 := 0
  pairs : List (Nat × Nat) := []
  limit : Nat := 0
  readyDue : Bool := false
  deriving DecidableEq, Repr

/-! ## The step engine (chapter 05) -/

/-- A resident variant slot (STEP_VAR, Table 5.18) with the image it stores; the command loading it, the size it named and the tick
its fetch began. -/
structure VarSlot where
  state : BitVec 4 := 0
  reason : Byte := 0
  genSlot : Bool := false
  img : Option VariantImage := none
  channel : Nat := 0
  cseq : BitVec 4 := 0
  limit : Nat := 0
  startTick : Nat := 0
  deriving DecidableEq, Repr

/-- A score bank of the device (STEP_BANK, Table 5.18); `west` and `east` are the bodies the bank issues. -/
structure Bank where
  state : BitVec 4 := 0
  slot : Nat := 0
  gapSet : BitVec 3 := 0
  variantId : W64 := 0
  scores : List ScoreRec := []
  west : List (BitVec 1024) := []
  east : List (BitVec 1024) := []
  channel : Nat := 0
  cseq : BitVec 4 := 0
  deriving DecidableEq, Repr

/-- The bundle that acts in a half (R135): decoded, with its repetition (R143) and the slot of the beat: its number, the fill slots left,
the slot counter (R138). `steps` is false in a hold slot (R176). -/
structure Beat where
  bundle : BitVec 1024
  rep : Nat := 0
  slot : Nat := 0
  fillLeft : Nat := 0
  slotCount : Nat := 0
  steps : Bool := true
  deriving DecidableEq, Repr

/-- STEP_CTRL, STEP_STATUS, STEP_NUMBER, STEP_ECC and the counters of Table 5.18, with where issue stands in the slot body
of each half (R134): the stored bundle and its repetition; `slotCount` is the slot counter of R138. `state` as STEP_STATUS.state.
`fresh` says that nothing has been issued since the last boundary, `beatW` and `beatE` what acts in each half, `clkW` and `clkE` the time
of each half since its pipeline started, in periods of 1.7 GHz, `quietW` and `quietE` the beats a clock quiesce still lasts (R139). -/
structure Eng where
  hold : Bool := true
  slot : Nat := 0
  state : BitVec 4 := 0
  bank : Nat := 0
  running : Bool := false
  stepNumber : W64 := 0
  resume : BitVec 4 := 0
  restart : Bool := false
  eccCorrected : W32 := 0
  eccFaults : W32 := 0
  fills : W64 := 0
  aborts : W64 := 0
  refusedCount : W32 := 0
  refusedReason : Byte := 0
  idxW : Nat := 0
  idxE : Nat := 0
  repW : Nat := 0
  repE : Nat := 0
  slotCount : Nat := 0
  fillLeft : Nat := 0
  calPauseDue : Bool := false
  pauseEnd : W64 := 0
  faultTimes : List W64 := []
  faultHold : Bool := false
  abortDue : Option Bool := none
  fresh : Bool := false
  beatW : Option Beat := none
  beatE : Option Beat := none
  clkW : Nat := 0
  clkE : Nat := 0
  quietW : Nat := 0
  quietE : Nat := 0
  deriving DecidableEq, Repr

/-- One lane of a step as latched and run (R137, R242): who it carries and what became of it. `kind` is the lane kind of Table 5.1,
`ekind` the kind of its lane entry (Table 8.5). `outcome` is the code of Table 8.8 it will report: for a lane whose work runs, 0
until the work is withheld. `last` marks a lane that samples (R258). `token` is the sampled token; `endStatus` a status its
request ends with at the commit; `cause` and `point` the cause and the quantisation point of its first overflow (R89); `extra` the record
of a displaced token (R262). -/
structure Lane where
  handle : BitVec 32 := 0
  idx : Nat := 0
  kind : BitVec 3 := 0
  ekind : BitVec 3 := 0
  owner : Nat := 31
  pos : Nat := 0
  last : Bool := false
  outcome : Byte := 0x02
  ran : Bool := false
  token : Option Nat := none
  endStatus : Byte := 0
  cause : BitVec 4 := 0
  point : Nat := 0
  wide : Bool := false
  replay : Bool := false
  chunk : Option Nat := none
  extra : Option (BitVec 32 × Nat × Byte) := none
  reqId : W64 := 0
  windowUse : Bool := false
  deriving DecidableEq, Repr

/-- A latched descriptor (R239): the step, its variant slot, whether it is empty or refused, and its action outcomes. -/
structure Desc where
  step : W64 := 0
  variant : Nat := 0
  bank : Nat := 0
  empty : Bool := true
  refused : Byte := 0
  lanes : List Lane := []
  deriving DecidableEq, Repr

/-! ## Mesh and synchronisation (chapter 06) -/

/-- Where a flit arrives: an input of a site's router (Table 5.3's codes), the unit of a site, an edge attachment (Table 6.1). -/
inductive FlitTo
  | router (site input : Nat)
  | unit (site : Nat)
  | attachment (code : Nat)
  deriving DecidableEq, Repr

/-- A flit on its way (R170–R175): up to four 64-bit words that arrive at time `due` of the pipeline, in periods of 1.7 GHz. -/
structure Flit where
  dest : FlitTo
  due : Nat
  words : List W64
  poisoned : Bool := false
  deriving DecidableEq, Repr

/-- GCTL_MESH_MODE.entry, GCTL_MESH_ECC, GCTL_MESH_DROP (Table 6.7), the flits on links, express lanes and in saddle buffers, and what each
attachment has received by its express lanes, with the poison mark (R173, R175). -/
structure Mesh where
  express : Bool := false
  corrected : W32 := 0
  poisoned : W32 := 0
  dropped : W64 := 0
  flits : List Flit := []
  arrived : Sparse (List (List W64 × Bool)) := []
  deriving DecidableEq, Repr

/-- The sync registers (Table 6.8), the WAITs not yet satisfied (expectation register, word and value awaited), the late one of a stall, armed MONITORs
and held SIGNALs (R182–R192). -/
structure Sync where
  wdogSteps : Byte := 4
  x : Byte := 0
  y : Byte := 0
  stalled : Bool := false
  stallAddr : BitVec 48 := 0
  stalls : W64 := 0
  stallTime : W64 := 0
  wdogFires : W64 := 0
  mirrorBase : BitVec 52 := 0
  mirrorEn : Bool := false
  hmon : List W64 := [0, 0, 0, 0]
  stallStart : W64 := 0
  waits : List (Nat × Nat × W64) := []
  waitTarget : Option (Nat × Nat × W64) := none
  exps : Sparse W64 := []
  monitors : List (Nat × Nat) := []
  woken : List Nat := []
  held : List (Nat × W64) := []
  lateTimes : List (Nat × W64) := []
  deriving DecidableEq, Repr

/-! ## Attention (chapter 07) -/

/-- A KV core's scratch for the lane it serves (R197, R212): integer forms of the queries per head slot, scores per query head,
and M, E, num and den per query head. -/
structure KvScratch where
  q : List (List (Int × List Int)) := []
  scores : List (List (List (Nat × Int))) := []
  m : List (List (Option Int)) := []
  e : List (Option Int) := []
  num : List (List (List Int)) := []
  den : List (List Int) := []
  deriving DecidableEq, Repr

/-- A prefill core's operand blocks and sums (R216), and the lane whose query block it holds, by the number of its step. -/
structure PfScratch where
  lane : Option (W64 × Nat) := none
  q : List (Int × List Int) := []
  k : List (Int × List Int) := []
  v : List (Int × List Int) := []
  m : List (Option Int) := []
  e : Option Int := none
  num : List (List Int) := []
  den : List Int := []
  out : List (List W32) := []
  deriving DecidableEq, Repr

/-- A decode frame or a sweep page: its frame-map entry and frame record (Table 7.5, R203, R227–R229). `life` is 0 free,
1 in use, 2 retired, 3 zeroed; `retiredAt` is the number of the step that opened when it was retired. -/
structure KvFrame where
  life : Nat := 0
  kind : Bool := false
  owner : Nat := 0
  page : Nat := 0
  layer : Nat := 0
  fill : Nat := 0
  fmt : BitVec 5 := 0
  partition : Nat := 0
  gen : W32 := 0
  contract : W32 := 0
  refs : Nat := 0
  layout : Nat := 0
  retiredAt : W64 := 0
  copyFrom : Option Nat := none
  deriving DecidableEq, Repr

/-- A pending re-shard (R220): the sequence, the page indices whose moves are not all committed, the (page, layer) moves committed, and
those of the running step. -/
structure Reshard where
  idx : Nat
  left : List Nat
  done : List (Nat × Nat) := []
  moved : List (Nat × Nat) := []
  deriving DecidableEq, Repr

/-! ## Serving (chapter 08) -/

/-- A request record (Table 8.2). -/
structure Request where
  kind : Byte := 0
  cls : Byte := 0
  flags : BitVec 16 := 0
  handle : BitVec 32 := 0
  requestId : W64 := 0
  deadline : W64 := 0
  count : Nat := 0
  limit : Nat := 0
  promptAddr : Nat := 0
  seed : W64 := 0
  pfx : BitVec 32 := 0
  adapter : BitVec 16 := 0xFFFF
  topK : Nat := 0
  temperature : W32 := 0
  topP : W32 := 0
  minP : W32 := 0
  repPenalty : W32 := 0
  repWindow : Nat := 0
  ringSize : Nat := 0
  ringIndex : Nat := 0
  maskAddr : Nat := 0
  stop : List W32 := []
  reservedZero : Bool := true
  header : List Byte := []
  deriving DecidableEq, Repr

/-- A request fetched from a ring (R361, R362): its ring position, whether it is pending, and where its prompt was copied. -/
structure PendReq where
  pos : W32 := 0
  req : Request := {}
  pending : Bool := false
  prompt : Option (Nat × Nat) := none
  deriving DecidableEq, Repr

/-- A token to be computed again: deferred by overflow (R90) or withheld for a fault (R301); `point` is the quantisation point of its first
overflow (R89). -/
structure Deferred where
  pos : Nat
  step : W64
  lane : Nat
  cause : BitVec 4
  fault : Bool
  point : Nat := 0
  deriving DecidableEq, Repr

/-- A sequence-table entry (Tables 8.1 and 8.15) with what the device keeps of its sequence or prefix (R226, R235, R253). -/
structure Seq where
  tag : BitVec 16 := 0
  state : BitVec 4 := 0
  partition : Nat := 0
  cls : BitVec 2 := 0
  isPrefix : Bool := false
  genSlot : Bool := false
  gen : W32 := 0
  adpBound : Bool := false
  adpSlot : BitVec 10 := 0
  status : Byte := 0
  queuePos : Nat := 0
  length : Nat := 0
  layout : BitVec 2 := 0
  tier : BitVec 2 := 0
  generated : Nat := 0
  req : Request := {}
  promptAt : Option (Nat × Nat) := none
  maskOn : Bool := false
  maskAddr : Nat := 0
  window : List Nat := []
  frames : List (Nat × Nat) := []
  sweep : List (Nat × Nat × Nat) := []
  pfxOf : Option Nat := none
  handleHeld : Bool := false
  reserve : Nat := 0
  lastToken : Option Nat := none
  deferred : Option Deferred := none
  ovfSet : List Nat := []
  parkFmt : BitVec 5 := 0
  parkGen : W32 := 0
  parkPages : List Nat := []
  parkBytes : Nat := 0
  parkTick : Nat := 0
  ttl : Nat := 0
  parkCtr : W64 := 0
  preempted : Bool := false
  pagesLeft : List (Nat × Nat) := []
  contract : W32 := 0
  admitOrder : Nat := 0
  pinned : Bool := false
  ringPos : W32 := 0
  queueOrder : Nat := 0
  endDue : Byte := 0
  replay : Bool := false
  deriving DecidableEq, Repr

/-- The rings of one owner (Tables 12.10 and 12.14): registers, fetched requests, the spill and what the next batch carries. -/
structure Rings where
  rqBase : W64 := 0
  rqHostErr : Bool := false
  rqEnable : Bool := false
  rqLog2 : BitVec 5 := 4
  rqHead : W32 := 0
  rqTail : W32 := 0
  outBase : W64 := 0
  irqEvery : Byte := 1
  outEnable : Bool := false
  outLog2 : BitVec 5 := 0x10
  outWb : W64 := 0
  outTail : W64 := 0
  outHead : W64 := 0
  outLive : Bool := false
  skipped : BitVec 16 := 0
  outHostErr : Bool := false
  blocked : Bool := false
  seqWin : BitVec 15 := 0
  consumed : W32 := 0
  reqs : List PendReq := []
  spill : List (List Byte) := []
  events : List (List Byte) := []
  batches : Nat := 0
  lastBatch : List Byte := []
  deriving DecidableEq, Repr

/-- One partition (or the operator, number 31): record in force, counters of Tables 3.10, 7.12, 8.14, 10.8 and 13.14, keys,
rings, and what its resets and record changes wait for: `resetDue` holds whether it unconfigures, how many of the waiting records came
before it, and its commands. -/
structure Part where
  cfg : Option PartCfg := none
  cfgDue : List (PartCfg × Nat × BitVec 4) := []
  resetDue : Option (Bool × Nat × List (Nat × BitVec 4)) := none
  zeroing : Option (Bool × List (Nat × BitVec 4)) := none
  zeroCfg : Option PartCfg := none
  rings : Rings := {}
  ovfCount : W64 := 0
  ovfRange : BitVec 16 := 0
  ovfOutside : BitVec 16 := 0
  ovfCnt : BitVec 16 := 0
  wideRuns : W64 := 0
  wideWait : BitVec 16 := 0
  displaced : W64 := 0
  fmtFaults : W64 := 0
  cow : W64 := 0
  kvWaits : W64 := 0
  reshardDone : BitVec 16 := 0
  refusedQuota : BitVec 16 := 0
  refusedCap : BitVec 16 := 0
  preempted : BitVec 16 := 0
  delayed : BitVec 16 := 0
  expired : BitVec 16 := 0
  tokens : W64 := 0
  endDeadline : BitVec 16 := 0
  endCancel : BitVec 16 := 0
  endInvalid : BitVec 16 := 0
  laneEmpty : W64 := 0
  fWithheld : W32 := 0
  fReplayed : BitVec 16 := 0
  fAborted : BitVec 16 := 0
  cmdKey : Option (List Byte) := none
  egressKey : Option (List Byte) := none
  egressPrev : Option (List Byte) := none
  egressDue : List (List Byte) := []
  epoch : BitVec 16 := 0
  secCtr : W64 := 0
  egressCtr : W64 := 0
  sealFaults : W32 := 0
  queueAdmits : Nat := 0
  deriving DecidableEq, Repr

/-- A descriptor entry as it stood when fetched (R239, R360): its place in the ring, the first step it is in time for (R240), and
its header, lanes, length table and actions. `badCode` marks reserved encodings. -/
structure RawDesc where
  pos : W32 := 0
  inTime : W64 := 0
  step : W64 := 0
  variant : Nat := 0
  laneCount : Nat := 0
  chunkCount : Nat := 0
  actionCount : Nat := 0
  lanes : List W64 := []
  chunks : List W64 := []
  actions : List (Byte × ActionEntry) := []
  badCode : Bool := false
  deriving DecidableEq, Repr

/-- The serving registers of the step engine block (Table 8.16), the descriptor ring's fetched entries (R240), and the page indices that
RESHARD has moved in a slot, by the slot counter (R220). -/
structure Srv where
  descRefused : W32 := 0
  descReason : Byte := 0
  emptySteps : W64 := 0
  late : W64 := 0
  applied : W32 := 0
  notApplied : W32 := 0
  fetchedTo : W32 := 0
  fetched : List RawDesc := []
  endedNow : List (BitVec 32) := []
  actRecs : List (List Byte) := []
  capSlot : Nat := 0
  admitSeq : Nat := 0
  queueSeq : Nat := 0
  reshards : List Reshard := []
  moveSlot : Nat := 0
  movePages : List (Nat × Nat) := []
  layouts : List (List (Nat × W64 × List W64)) := []
  deriving DecidableEq, Repr

/-! ## Sensing (chapter 09) -/

/-- One accumulator set (R274). -/
structure Acc where
  sum : BitVec 40 := 0
  sumsq : BitVec 40 := 0
  count : BitVec 40 := 0
  min : BitVec 10 := 0x3FF
  max : BitVec 10 := 0
  deriving DecidableEq, Repr

/-- A converter (R269–R274): its sequence table, whether it runs, where it stands, its accumulator sets, an urgent request that
waits for a triggered conversion, what the last one found, the TEMP sum of the tick, the reference code of the statistics tick. -/
structure Conv where
  table : List (BitVec 32) := []
  running : Bool := false
  cur : Nat := 0
  left : Nat := 0
  accs : Sparse Acc := []
  urgent : Option (BitVec 5 × BitVec 10 × BitVec 10) := none
  crossed : Option (BitVec 5 × BitVec 10 × Bool) := none
  trig : Bool := false
  tickSum : Nat := 0
  tickCnt : Nat := 0
  stat : Option Nat := none
  deriving DecidableEq, Repr

/-- One aggregate pair of a vale or a module input: the window in progress and the last completed one (R275). -/
structure Agg where
  sum : Nat := 0
  sumsq : Nat := 0
  count : Nat := 0
  min : BitVec 10 := 0
  max : BitVec 10 := 0
  deriving DecidableEq, Repr

/-- The sensor aggregates block (Table 9.9) and the maintenance state behind it; `windowStart` is the tick the window in progress began
at, `windowTicks` the length of the last completed one. -/
structure Sens where
  window : BitVec 9 := 1
  windowNext : BitVec 9 := 1
  windowDue : Bool := false
  windowStart : Nat := 0
  windowTicks : Nat := 0
  dtCal : BitVec 4 := 6
  pauses : W32 := 0
  skipped : BitVec 16 := 0
  lastTick : BitVec 16 := 0
  due : BitVec 84 := 0
  statTick : BitVec 84 := 0
  statRun : BitVec 84 := 0
  statOver : BitVec 84 := 0
  statDone : BitVec 84 := 0
  statT : Sparse (Option (BitVec 10)) := []
  pausing : BitVec 84 := 0
  weakLimit : Byte := 0x10
  maxAge : W32 := 0x7D3CC79C
  refDone : W32 := 0
  passes : W32 := 0
  passTicks : W32 := 0
  passStart : Nat := 0
  valeT : Sparse Agg := []
  valeV : Sparse Agg := []
  modIn : Sparse Agg := []
  modTick : Sparse (Nat × Nat) := []
  openWire : Byte := 0
  pulls : Sparse (Option (BitVec 10) × Option (BitVec 10)) := []
  valid : Byte := 0
  tref : Sparse (BitVec 10) := []
  cals : Sparse W32 := []
  calPauseTick : Option Nat := none
  cadence : BitVec 2 := 2
  deriving DecidableEq, Repr

/-! ## Reliability (chapter 10) -/

/-- A log entry (Table 10.7). -/
structure LogEntry where
  time : W64 := 0
  cls : Byte := 0
  x : Byte := 0
  y : Byte := 0
  p : BitVec 5 := 0
  group : BitVec 4 := 0
  response : BitVec 3 := 0
  step : BitVec 28 := 0
  deriving DecidableEq, Repr

/-- A fault command under way (R308, R309, R441): channel, cseq, code and the pairs of sites whose contents move. -/
structure MoveCmd where
  channel : Nat
  cseq : BitVec 4
  code : Byte
  pairs : List (Nat × Nat)
  left : List (Nat × GenArray) := []
  deriving DecidableEq, Repr

/-- The fault registers (Table 10.7) and the state behind R303–R309. `unrestored`: a remap moved nothing, and the engine stays held
until an install commits (R309). -/
structure Flt where
  tlMode : BitVec 2 := 0
  head : BitVec 6 := 0
  log : Sparse LogEntry := []
  deviceFault : Bool := false
  withheld : W32 := 0
  mismatches : W32 := 0
  permanent : BitVec 16 := 0
  transient : BitVec 16 := 0
  exchanges : BitVec 16 := 0
  deaths : BitVec 16 := 0
  votes : W64 := 0
  sramCorr : W32 := 0
  sramPois : W32 := 0
  tlVales : Sparse (Nat × Nat) := []
  classified : List (Nat × Nat × Byte) := []
  exchanging : List (Nat × Nat × Nat) := []
  respares : List (Nat × Nat) := []
  tlHoldUntil : Nat := 0
  move : Option MoveCmd := none
  unrestored : Bool := false
  deriving DecidableEq, Repr

/-! ## Fabric (chapter 11) -/

/-- One port (FAB_PORT, FAB_PORT_CNT, FAB_PORT_CTRL, FAB_PIN, FAB_PEER; Table 11.9), its replay buffer, credits and admission. -/
structure Port where
  peer : BitVec 10 := 0
  lanesOk : BitVec 4 := 0
  rate : BitVec 2 := 0b11
  state : BitVec 4 := 0
  reason : Byte := 0
  isLong : Bool := false
  latency : BitVec 16 := 0
  fec : BitVec 16 := 0
  crcDrops : BitVec 16 := 0
  retrans : BitVec 16 := 0
  winMissing : BitVec 16 := 0
  disable : Bool := false
  pin : W64 := 0
  digest : W64 := 0
  replay : List Frame := []
  out : List Frame := []
  wait : List Frame := []
  nextLseq : W32 := 0
  expectLseq : W32 := 0
  credits : List Nat := [0, 0, 0, 0]
  hello : Option Hello := none
  timeCount : Nat := 0
  lastLat : Nat := 0
  peerTime : W64 := 0
  admitTicks : Nat := 0
  backoff : Nat := 0
  offset : W64 := 0
  wasUp : Bool := false
  deriving DecidableEq, Repr

/-- An inbox (FAB_INBOX_BASE, FAB_INBOX_CFG). -/
structure Inbox where
  base : BitVec 36 := 0
  pages : BitVec 20 := 0
  owner : BitVec 5 := 0x1F
  cls : BitVec 2 := 0b11
  enable : Bool := false
  anySrc : Bool := false
  src : BitVec 10 := 0
  deriving DecidableEq, Repr

/-- The rest of the fabric block (Table 11.9), the lockstep state (R343–R348) and the window data received (R340, R341);
`winPoisoned` lists the slot and number of each window of which a frame came with its poison mark (R173). -/
structure Fab where
  master : BitVec 10 := 0
  aligned : Bool := false
  member : Bool := false
  guard : BitVec 16 := 0x0600
  gtime : W64 := 0
  pitch : W64 := 0
  slips : BitVec 16 := 0
  missingMaps : BitVec 16 := 0
  err : BitVec 16 := 0
  parent : BitVec 5 := 0x1F
  children : BitVec 24 := 0
  drops : W32 := 0
  unroutable : W32 := 0
  ports : Sparse Port := []
  routes : Sparse (BitVec 9) := []
  inboxes : Sparse Inbox := []
  winGot : List (Nat × Nat × Nat × List Byte) := []
  winPoisoned : List (Nat × Nat) := []
  peers : List Nat := []
  maps : List (W64 × Nat × List Nat) := []
  startAt : Option W64 := none
  pauseAt : Option W64 := none
  slipping : Bool := false
  regroup : Bool := false
  lost : List Nat := []
  deriving DecidableEq, Repr

/-! ## Host interface (chapter 12) -/

/-- A mailbox channel (Table 12.13): its words, flags, outgoing queue, and the commands accepted and not complete. `block` is the
command block the waiting word points to, for channels that carry it inline. -/
structure Chan where
  inWord : W64 := 0
  inFull : Bool := false
  overrun : Bool := false
  outWord : W64 := 0
  outFull : Bool := false
  queue : List W64 := []
  eventsLost : BitVec 16 := 0
  outCnt : BitVec 24 := 0
  inCnt : BitVec 24 := 0
  openCmds : List (Byte × BitVec 4) := []
  deriving DecidableEq, Repr

/-- A HOST_COPY in progress (R377). -/
structure Copy where
  channel : Nat
  cseq : BitVec 4
  src : Nat
  dst : Nat
  len : Nat
  deriving DecidableEq, Repr

/-- A latched upper half of a 32-bit read (R467). -/
structure HalfLatch where
  bar : Bar
  offset : Nat
  upper : W32
  deriving DecidableEq, Repr

/-- The host interface registers (Tables 12.13 and 12.14), PCIe state, MCTP endpoint state, interrupts raised. -/
structure Hif where
  unsupported : W32 := 0
  linkWidth : BitVec 4 := 0
  perst : Bool := true
  vfEnable : Bool := false
  latches : Sparse (Option HalfLatch) := []
  readData : W64 := 0
  descBase : W32 := 0
  descTailErr : Bool := false
  descEnable : Bool := false
  descEntries : BitVec 11 := 4
  descHead : W32 := 0
  descTail : W32 := 0
  notBase : W64 := 0
  notIrq : Byte := 1
  notEnable : Bool := false
  notLog2 : BitVec 5 := 6
  notTail : W32 := 0
  notHead : W32 := 0
  fmInbox : Byte := 0
  fmDevice : BitVec 10 := 0
  secureInbox : Byte := 0xFF
  plainInbox : Byte := 0xFE
  irqs : List (Nat × Nat) := []
  copies : List Copy := []
  nextOwner : Nat := 0
  eidSmbus : Byte := 0
  eidI3c : Byte := 0
  ownerSmbus : Byte := 0
  ownerI3c : Byte := 0
  mctpOut : List Byte := []
  pldmOut : List Byte := []
  deriving DecidableEq, Repr

/-! ## Security (chapter 13) -/

/-- How far an SPDM exchange on a channel has come (R401). -/
structure Spdm where
  versioned : Bool := false
  capable : Bool := false
  negotiated : Bool := false
  keyed : Bool := false
  isOpen : Bool := false
  keyGen : Nat := 0
  response : List Byte := []
  deriving DecidableEq, Repr

/-- SEC_STATE, SEC_REJECTS, SEC_DBG_NONCE (Table 13.13), the sessions, and the firmware update under way. -/
structure Sec where
  lifecycle : BitVec 4 := 0
  scope : BitVec 2 := 0
  unlocked : Bool := false
  profilePending : List (Bool × Nat × BitVec 4) := []
  rejCounter : W32 := 0
  rejTag : W32 := 0
  nonce : BitVec 256 := 0
  spdm : Sparse Spdm := []
  fwWrite : List (FwImage × Option (Nat × BitVec 4)) := []
  deriving DecidableEq, Repr

/-- The JTAG port (R415): the instruction in force and the data it shows. -/
inductive JtagIr | bypass | idcode | samplePreload | extest | clamp | highz | ieee1687
  deriving DecidableEq, Repr

/-- The JTAG state. -/
structure Jtag where
  ir : JtagIr := .idcode
  data : W32 := 0x10B8474F
  pinsTaken : Bool := false
  access1687 : Bool := false
  deriving DecidableEq, Repr

/-! ## The whole state -/

/-- The state of the IW84. `pending` is the queue of waiting commands, first in first out; `time` is GCTL_DEVTIME (R7);
`outl` holds the outlier values of each quantisation
point's last token (R85); `freeCount` is the model's own count of the free values used so far. -/
structure State where
  pending : List Instr := []
  time : W64 := 0
  freeCount : Nat := 0
  lock : Locked := {}
  clk : Clk := {}
  thm : Thm := {}
  pwr : Pwr := {}
  cool : Cool := {}
  boot : Boot := {}
  nv : NonVol := {}
  mem : Memory := []
  host : Memory := []
  poison : List Nat := []
  cells : Memory := []
  acc24 : Sparse Int := []
  acc48 : Sparse Int := []
  shadow : Sparse Nat := []
  arrs : Sparse Arr := []
  sites : Sparse SiteSt := []
  wgt : Wgt := {}
  adps : Sparse Adp := []
  vars : Sparse VarSlot := []
  banks : Sparse Bank := []
  eng : Eng := {}
  cur : Desc := {}
  nxt : Desc := {}
  mesh : Mesh := {}
  sync : Sync := {}
  kvs : Sparse KvScratch := []
  pfs : Sparse PfScratch := []
  outl : Sparse (List (Nat × Int)) := []
  frames : Sparse KvFrame := []
  sweeps : Sparse KvFrame := []
  seqs : Sparse Seq := []
  parts : Sparse Part := []
  srv : Srv := {}
  convs : Sparse Conv := []
  sens : Sens := {}
  flt : Flt := {}
  fab : Fab := {}
  chans : Sparse Chan := []
  hif : Hif := {}
  sec : Sec := {}
  jtag : Jtag := {}
  deriving DecidableEq, Repr

/-- The machine right after reset: power-on reset has ended (VAON good), stage ROM waits for REFCLK (R446), every volatile field
at its reset value (Tables 1.6 to 16.13) and the non-volatile state as the log names it for a part as shipped. -/
def State.reset : State := {}

end Sys2Proof.Machine
end

