-- ==== Sys2Proof/Machine/Geometry.lean ====
section
/-! DEFINITION. Where things lie: sites, vales, clusters and halves of the die (R15–R18), the edge attachments (R19, R175, R177) and the device-local
address map (R20–R23, R197). -/

namespace Sys2Proof.Machine

/-- The number of site (x, y). -/
def siteAt (x y : Nat) : Nat := 224 * y + x
/-- x of a site. -/
def siteX (s : Nat) : Nat := s % 224
/-- y of a site. -/
def siteY (s : Nat) : Nat := s / 224
/-- Whether the number names a site of the die (R15). -/
def isSite (s : Nat) : Bool := decide (s < 224 * 192)
/-- The half a site lies in (R16). -/
def siteHalf (s : Nat) : Half := if siteX s < 112 then .west else .east
/-- vx of a site (R15). -/
def siteVx (s : Nat) : Nat := siteX s / 32
/-- The vale index v = 7 vy + vx of a site (R291). -/
def siteVale (s : Nat) : Nat := 7 * (siteY s / 16) + siteVx s
/-- sx of a site within its vale. -/
def siteSx (s : Nat) : Nat := siteX s % 32
/-- sy of a site within its vale. -/
def siteSy (s : Nat) : Nat := siteY s % 16
/-- cx of a site's cluster (R16). -/
def siteCx (s : Nat) : Nat := siteSx s / 4
/-- cy of a site's cluster. -/
def siteCy (s : Nat) : Nat := siteSy s / 4
/-- The number of a site's cluster on the die: 32 per vale, row by row. -/
def siteCluster (s : Nat) : Nat := 32 * siteVale s + 8 * siteCy s + siteCx s

/-- SITE_ID.site_type (Tables 1.1 and 2.7): 1 weight tile, 2 KV core, 3 prefill core, 4 precision tile, 5 service site, 6 port
attachment site. -/
def siteType (s : Nat) : Nat :=
  let lx := siteSx s % 4
  let ly := siteSy s % 4
  let even := (siteCx s + siteCy s) % 2 = 0
  if lx = 1 ∧ ly = 1 then 2
  else if lx = 2 ∧ ly = 2 then (if even then 3 else 4)
  else if lx = 1 ∧ ly = 2 ∧ (siteCy s = 1 ∨ siteCy s = 2) then (if even then 5 else 6)
  else 1

/-- Whether a site's router is on its vale's always-on ring (R18). -/
def onRing (s : Nat) : Bool :=
  let sx := siteSx s
  let sy := siteSy s
  decide (sx = 0 ∨ sx = 31 ∨ sy = 0 ∨ sy = 15) || (decide (siteVx s = 3) && decide (sx = 15 ∨ sx = 16))

/-- The sites of a vale, row by row. -/
def valeSites (v : Nat) : List Nat :=
  (List.range 16).flatMap (fun sy => (List.range 32).map (fun sx => siteAt (32 * (v % 7) + sx) (16 * (v / 7) + sy)))

/-- The interior of a vale: every site off its ring (R428). -/
def interiorSites (v : Nat) : List Nat := (valeSites v).filter (fun s => !onRing s)

/-- The sites of a cluster of the die. -/
def clusterSites (c : Nat) : List Nat :=
  let v := c / 32
  let cx := c % 8
  let cy := c % 32 / 8
  (List.range 4).flatMap (fun j => (List.range 4).map (fun i =>
    siteAt (32 * (v % 7) + 4 * cx + i) (16 * (v / 7) + 4 * cy + j)))

/-- The halves a vale counts for: a vale of column vx 3 counts for both (R437). -/
def valeInHalf (h : Half) (v : Nat) : Bool :=
  match h with
  | .west => decide (v % 7 ≤ 3)
  | .east => decide (3 ≤ v % 7)

/-- The service site whose router holds the module-input hub: the hub of vale (0, 0), in cluster cx 0, cy 2 (R18). -/
def hubSite : Nat := siteAt 1 10

/-- The SRAM of a site type in bytes (R22, R63). R22 leaves the size at service and port attachment sites to their chapters, and none gives
one: DESIGN CHOICE, 0 bytes, the whole SRAM range of their window a hole (log entry 66). -/
def sramSize (t : Nat) : Nat :=
  match t with
  | 1 => 0x20000
  | 2 => 0x400000
  | 3 => 0x100000
  | 4 => 0x400000
  | _ => 0

/-- The base of a site's window (R22). -/
def siteBase (s : Nat) : Nat := 0x010000000000 + (256 * siteY s + siteX s) * 0x800000

/-- What a device-local address names (Table 1.3, R22). -/
inductive Region
  | dram (stack : Nat) (offset : Nat)
  | sram (site : Nat) (offset : Nat)
  | siteReg (site : Nat) (offset : Nat)
  | host (bus : Nat)
  | reserved
  deriving DecidableEq, Repr

/-- The region of a device-local address (R20–R22); the IW84-LC-384 leaves the upper half of each window unpopulated. -/
def region (stackGb : Nat) (a : Nat) : Region :=
  if a < 0x00C000000000 then
    let s := a / 0x000C00000000
    let o := a % 0x000C00000000
    if o < stackGb * 0x40000000 then .dram s o else .reserved
  else if a < 0x010000000000 then .reserved
  else if a < 0x016000000000 then
    let w := (a - 0x010000000000) / 0x800000
    let o := (a - 0x010000000000) % 0x800000
    let x := w % 256
    let s := siteAt x (w / 256)
    if x < 224 then
      (if o < sramSize (siteType s) then .sram s o
       else if 0x700000 ≤ o then .siteReg s o else .reserved)
    else .reserved
  else if 0x020000000000 ≤ a ∧ a < 0x030000000000 then .host (a - 0x020000000000)
  else .reserved

/-- The host sync page (R191): the first 4 KiB of offset 0x7E_0000 in the window of service site (1, 10). -/
def hostSyncPage : Nat := 0x010500FE0000

/-! ## Edge attachments (R19) -/

/-- An edge of the die. -/
inductive Edge | north | east | south | west
  deriving DecidableEq, Repr

/-- A row of Table 1.2: the vale, its edge, the sites of that edge the attachment serves (sx of a north or south edge, sy of an east or
west one), and the half. -/
structure Attach where
  vx : Nat
  vy : Nat
  edge : Edge
  lo : Nat
  hi : Nat
  half : Half
  deriving DecidableEq, Repr

/-- An attachment on a north or south edge: the whole edge, its west part (sx 0–15) or its east part (sx 16–31). -/
def onRow (vx vy : Nat) (edge : Edge) (part : Option Half) : Attach :=
  match part with
  | none => ⟨vx, vy, edge, 0, 31, if vx < 3 then .west else .east⟩
  | some .west => ⟨vx, vy, edge, 0, 15, .west⟩
  | some .east => ⟨vx, vy, edge, 16, 31, .east⟩

/-- An attachment on an east or west edge. -/
def onColumn (vx vy : Nat) (edge : Edge) : Attach := ⟨vx, vy, edge, 0, 15, if vx < 3 then .west else .east⟩

/-- The DRAM stacks of Table 1.2, by number. -/
def stackAttachments : List Attach :=
  [0, 2, 4, 6].map (fun x => onRow x 0 .north none) ++ [1, 4, 7, 10].map (fun y => onColumn 6 y .east) ++
  [6, 4, 2, 0].map (fun x => onRow x 11 .south none) ++ [10, 7, 4, 1].map (fun y => onColumn 0 y .west)

/-- The fabric ports of Table 1.2, by number. -/
def portAttachments : List Attach :=
  [onRow 1 0 .north none, onRow 1 0 .north none, onRow 3 0 .north (some .west), onRow 3 0 .north (some .east),
   onRow 5 0 .north none, onRow 5 0 .north none] ++ [2, 3, 5, 6, 8, 9].map (fun y => onColumn 6 y .east) ++
  [onRow 5 11 .south none, onRow 5 11 .south none, onRow 3 11 .south (some .east), onRow 3 11 .south (some .west),
   onRow 1 11 .south none, onRow 1 11 .south none] ++ [9, 8, 6, 5, 3, 2].map (fun y => onColumn 0 y .west)

/-- The attachments of the die by express binding code (Tables 1.2 and 6.1): stacks, ports, the host edge block. No other vale edge
carries an interface. -/
def attachments : List Attach := stackAttachments ++ portAttachments ++ [onColumn 0 0 .west]

/-- The attachment a binding code names; none for a reserved code or an unbound site (R174). -/
def attachOf (c : Nat) : Option Attach := attachments[c]?

/-- The two edge routers at which an attachment enters the mesh in edge entry (R177). The spec does not say which two of its own vale
edge they are: DESIGN CHOICE, the first two of the sites it serves, the next two for the second attachment of one vale edge (log entry
65). -/
def entryRouters (c : Nat) : List Nat :=
  match attachOf c with
  | none => []
  | some a =>
    let first := a.lo + (if attachments.findIdx? (fun b => decide (b = a)) = some c then 0 else 2)
    [first, first + 1].map (fun i => match a.edge with
      | .north => siteAt (32 * a.vx + i) 0
      | .south => siteAt (32 * a.vx + i) 191
      | .east => siteAt 223 (16 * a.vy + i)
      | .west => siteAt 0 (16 * a.vy + i))

/-- The vale steps from an attachment to a site's vale (R175). -/
def Attach.valeSteps (a : Attach) (k : Nat) : Nat :=
  (siteVx k - a.vx) + (a.vx - siteVx k) + (siteY k / 16 - a.vy) + (a.vy - siteY k / 16)

/-- The latency of an express lane between an attachment and a site, in NCLK of their half (R175). -/
def Attach.expressNclk (a : Attach) (k : Nat) : Nat := 8 + 4 * a.valeSteps k

end Sys2Proof.Machine
end

