-- ==== Sys2Proof/Machine/Ops.lean ====
section
/-! DEFINITION. The named operations every meaning is built from: how a command acts, the records of State by number, memory by
device-local address. -/

namespace Sys2Proof

/-- Parameter bytes of a command block (offsets from 0x40), as a number (R71). -/
def CmdBlock.par (b : CmdBlock) (o n : Nat) : Nat := ofLE ((b.params.drop o).take n)

end Sys2Proof

namespace Sys2Proof.Machine

/-- What a meaning answers. -/
abbrev Out := Host.Outcome State Fault Refusal

/-- The components of the state a command may change: its footprint. The queue is in none. -/
structure Foot where
  time : Bool := false
  freeCount : Bool := false
  lock : Bool := false
  clk : Bool := false
  thm : Bool := false
  pwr : Bool := false
  cool : Bool := false
  boot : Bool := false
  nv : Bool := false
  mem : Bool := false
  host : Bool := false
  poison : Bool := false
  cells : Bool := false
  acc24 : Bool := false
  acc48 : Bool := false
  shadow : Bool := false
  arrs : Bool := false
  sites : Bool := false
  wgt : Bool := false
  adps : Bool := false
  vars : Bool := false
  banks : Bool := false
  eng : Bool := false
  cur : Bool := false
  nxt : Bool := false
  mesh : Bool := false
  sync : Bool := false
  kvs : Bool := false
  pfs : Bool := false
  outl : Bool := false
  frames : Bool := false
  sweeps : Bool := false
  seqs : Bool := false
  parts : Bool := false
  srv : Bool := false
  convs : Bool := false
  sens : Bool := false
  flt : Bool := false
  fab : Bool := false
  chans : Bool := false
  hif : Bool := false
  sec : Bool := false
  jtag : Bool := false
  deriving DecidableEq, Repr

/-- Every component, as a reset may change. -/
def Foot.all : Foot :=
  { time := true, freeCount := true, lock := true, clk := true, thm := true, pwr := true, cool := true, boot := true, nv := true,
    mem := true, host := true, poison := true, cells := true, acc24 := true, acc48 := true, shadow := true, arrs := true,
    sites := true, wgt := true, adps := true, vars := true, banks := true, eng := true, cur := true, nxt := true, mesh := true,
    sync := true, kvs := true, pfs := true, outl := true, frames := true, sweeps := true, seqs := true, parts := true,
    srv := true, convs := true, sens := true, flt := true, fab := true, chans := true, hif := true, sec := true, jtag := true }

/-- The state `t` in the components of a footprint, the state `s` in every other one. -/
def State.only (m : Foot) (s t : State) : State :=
  { pending := s.pending
    time := bif m.time then t.time else s.time
    freeCount := bif m.freeCount then t.freeCount else s.freeCount
    lock := bif m.lock then t.lock else s.lock
    clk := bif m.clk then t.clk else s.clk
    thm := bif m.thm then t.thm else s.thm
    pwr := bif m.pwr then t.pwr else s.pwr
    cool := bif m.cool then t.cool else s.cool
    boot := bif m.boot then t.boot else s.boot
    nv := bif m.nv then t.nv else s.nv
    mem := bif m.mem then t.mem else s.mem
    host := bif m.host then t.host else s.host
    poison := bif m.poison then t.poison else s.poison
    cells := bif m.cells then t.cells else s.cells
    acc24 := bif m.acc24 then t.acc24 else s.acc24
    acc48 := bif m.acc48 then t.acc48 else s.acc48
    shadow := bif m.shadow then t.shadow else s.shadow
    arrs := bif m.arrs then t.arrs else s.arrs
    sites := bif m.sites then t.sites else s.sites
    wgt := bif m.wgt then t.wgt else s.wgt
    adps := bif m.adps then t.adps else s.adps
    vars := bif m.vars then t.vars else s.vars
    banks := bif m.banks then t.banks else s.banks
    eng := bif m.eng then t.eng else s.eng
    cur := bif m.cur then t.cur else s.cur
    nxt := bif m.nxt then t.nxt else s.nxt
    mesh := bif m.mesh then t.mesh else s.mesh
    sync := bif m.sync then t.sync else s.sync
    kvs := bif m.kvs then t.kvs else s.kvs
    pfs := bif m.pfs then t.pfs else s.pfs
    outl := bif m.outl then t.outl else s.outl
    frames := bif m.frames then t.frames else s.frames
    sweeps := bif m.sweeps then t.sweeps else s.sweeps
    seqs := bif m.seqs then t.seqs else s.seqs
    parts := bif m.parts then t.parts else s.parts
    srv := bif m.srv then t.srv else s.srv
    convs := bif m.convs then t.convs else s.convs
    sens := bif m.sens then t.sens else s.sens
    flt := bif m.flt then t.flt else s.flt
    fab := bif m.fab then t.fab else s.fab
    chans := bif m.chans then t.chans else s.chans
    hif := bif m.hif then t.hif else s.hif
    sec := bif m.sec then t.sec else s.sec
    jtag := bif m.jtag then t.jtag else s.jtag }

/-- How a command acts: its effect on its footprint, and nothing else. In OFF nothing acts (R433). -/
def act (m : Foot) (f : State → State) (s : State) : Out :=
  if s.pwr.off then .next s else .next (State.only m s (f s))

/-- The later of two device times. -/
def maxTime (a b : W64) : W64 := if a ≤ b then b else a

/-- How a command acts that says when it happens: its effect on its footprint, and the device time moved on to `now`. -/
def actAt (m : Foot) (now : State → W64) (f : State → State) (s : State) : Out :=
  if s.pwr.off then .next s else .next { State.only m s (f s) with time := now s }

/-- `f` where a condition of the state holds, no effect where it does not. -/
def State.when (s : State) (c : Bool) (f : State → State) : State := if c then f s else s

/-- One count of the device time with no command waiting (log entry 2); the counter starts when the injection node locks. -/
def State.idle (s : State) : State :=
  if s.pwr.off || !s.boot.done.getLsbD 0 then s else { s with time := s.time + 1 }

/-- The management tick (R32, GCTL_TICK). -/
def State.tick (s : State) : Nat := s.time.toNat / 2 ^ 20

/-! ## Records by number -/

/-- Partition p, or the operator as 31. -/
def State.part (s : State) (p : Nat) : Part := s.parts.get {} p
/-- Partition p changed by `f`. -/
def State.updPart (s : State) (p : Nat) (f : Part → Part) : State := { s with parts := s.parts.upd {} p f }
/-- The rings of an owner changed by `f`. -/
def State.updRings (s : State) (p : Nat) (f : Rings → Rings) : State :=
  s.updPart p (fun q => { q with rings := f q.rings })
/-- The configuration record in force for an owner. -/
def State.cfg (s : State) (p : Nat) : PartCfg := ((s.part p).cfg).getD {}
/-- Whether an owner is configured; the operator always is. -/
def State.configured (s : State) (p : Nat) : Bool := (s.part p).cfg.isSome
/-- A site's registers. -/
def State.site (s : State) (k : Nat) : SiteSt := s.sites.get {} k
/-- A site changed by `f`. -/
def State.updSite (s : State) (k : Nat) (f : SiteSt → SiteSt) : State := { s with sites := s.sites.upd {} k f }
/-- The key of physical array p of a site. -/
def arrKey (site p : Nat) : Nat := site * 17 + p
/-- Physical array p of a site. -/
def State.arr (s : State) (site p : Nat) : Arr := s.arrs.get {} (arrKey site p)
/-- Physical array p of a site changed by `f`. -/
def State.updArr (s : State) (site p : Nat) (f : Arr → Arr) : State :=
  { s with arrs := s.arrs.upd {} (arrKey site p) f }
/-- Sequence-table entry n. -/
def State.seq (s : State) (n : Nat) : Seq := s.seqs.get {} n
/-- Sequence-table entry n changed by `f`. -/
def State.updSeq (s : State) (n : Nat) (f : Seq → Seq) : State := { s with seqs := s.seqs.upd {} n f }
/-- Decode frame f. -/
def State.frame (s : State) (f : Nat) : KvFrame := s.frames.get {} f
/-- Decode frame f changed by `g`. -/
def State.updFrame (s : State) (f : Nat) (g : KvFrame → KvFrame) : State := { s with frames := s.frames.upd {} f g }
/-- Sweep page f. -/
def State.sweepPage (s : State) (f : Nat) : KvFrame := s.sweeps.get {} f
/-- Sweep page f changed by `g`. -/
def State.updSweep (s : State) (f : Nat) (g : KvFrame → KvFrame) : State := { s with sweeps := s.sweeps.upd {} f g }
/-- Resident variant slot n. -/
def State.var (s : State) (n : Nat) : VarSlot := s.vars.get {} n
/-- Resident variant slot n changed by `f`. -/
def State.updVar (s : State) (n : Nat) (f : VarSlot → VarSlot) : State := { s with vars := s.vars.upd {} n f }
/-- Score bank b. -/
def State.bank (s : State) (b : Nat) : Bank := s.banks.get {} b
/-- Score bank b changed by `f`. -/
def State.updBank (s : State) (b : Nat) (f : Bank → Bank) : State := { s with banks := s.banks.upd {} b f }
/-- Adapter slot n. -/
def State.adp (s : State) (n : Nat) : Adp := s.adps.get {} n
/-- Adapter slot n changed by `f`. -/
def State.updAdp (s : State) (n : Nat) (f : Adp → Adp) : State := { s with adps := s.adps.upd {} n f }
/-- Mailbox channel c. -/
def State.chan (s : State) (c : Nat) : Chan := s.chans.get {} c
/-- Mailbox channel c changed by `f`. -/
def State.updChan (s : State) (c : Nat) (f : Chan → Chan) : State := { s with chans := s.chans.upd {} c f }
/-- Fabric port n. -/
def State.port (s : State) (n : Nat) : Port := s.fab.ports.get {} n
/-- Fabric port n changed by `f`. -/
def State.updPort (s : State) (n : Nat) (f : Port → Port) : State :=
  { s with fab := { s.fab with ports := s.fab.ports.upd {} n f } }
/-- The SPDM exchange of a channel. -/
def State.spdm (s : State) (c : Nat) : Spdm := s.sec.spdm.get {} c
/-- The SPDM exchange of a channel changed by `f`. -/
def State.updSpdm (s : State) (c : Nat) (f : Spdm → Spdm) : State :=
  { s with sec := { s.sec with spdm := s.sec.spdm.upd {} c f } }
/-- A converter. -/
def State.conv (s : State) (c : Nat) : Conv := s.convs.get {} c
/-- A converter changed by `f`. -/
def State.updConv (s : State) (c : Nat) (f : Conv → Conv) : State := { s with convs := s.convs.upd {} c f }
/-- A generation slot: false A, true B. -/
def State.gen (s : State) (b : Bool) : Gen := if b then s.wgt.genB else s.wgt.genA
/-- A generation slot changed by `f`. -/
def State.updGen (s : State) (b : Bool) (f : Gen → Gen) : State :=
  if b then { s with wgt := { s.wgt with genB := f s.wgt.genB } }
  else { s with wgt := { s.wgt with genA := f s.wgt.genA } }
/-- What a generation slot becomes at the next boundary, where it changes there (R116). -/
def State.genDue (s : State) (b : Bool) : Option Gen := if b then s.wgt.dueB else s.wgt.dueA
/-- What a slot becomes at the next boundary set. -/
def State.setDue (s : State) (b : Bool) (d : Option Gen) : State :=
  if b then { s with wgt := { s.wgt with dueB := d } } else { s with wgt := { s.wgt with dueA := d } }
/-- A generation slot with the change that waits for the next boundary made. -/
def State.pgen (s : State) (b : Bool) : Gen := (s.genDue b).getD (s.gen b)
/-- A generation slot changed in place, and what waits for the boundary with it. -/
def State.updPgen (s : State) (b : Bool) (f : Gen → Gen) : State :=
  if (s.genDue b).isSome then s.setDue b ((s.genDue b).map f) else s.updGen b f
/-- The slots, as they are and as they will be. -/
def State.gens (s : State) : List Gen := [s.wgt.genA, s.wgt.genB] ++ s.wgt.dueA.toList ++ s.wgt.dueB.toList
/-- The owners the spec has: partitions 0 to 15 and the operator 31 (R387). -/
def owners : List Nat := List.range 16 ++ [31]
/-- The eight-byte free value at the model's count, and the count moved on (log entry 3). -/
def State.free (s : State) : W64 × State := (Config.freeValue s.freeCount, { s with freeCount := s.freeCount + 1 })

/-- A generated 256-bit nonce: four free values (log entry 3). -/
def newNonce (n : Nat) : BitVec 256 :=
  Config.freeValue (n + 3) ++ Config.freeValue (n + 2) ++ Config.freeValue (n + 1) ++ Config.freeValue n

/-- SEC_DBG_NONCE regenerated (R412). -/
def State.renewNonce (s : State) : State :=
  { s with freeCount := s.freeCount + 4, sec := { s.sec with nonce := newNonce s.freeCount } }

/-- The latched upper half of a function's 32-bit read cancelled by another access of it (R467): the physical function is 0, VF n is n. -/
def State.unlatch (s : State) (fn : Nat) : State := { s with hif := { s.hif with latches := s.hif.latches.set none fn none } }

/-- The same for the function that reaches a mailbox channel, where one does. -/
def State.unlatchChan (s : State) (c : Nat) : State :=
  if c < 2 then s.unlatch 0 else if c < 18 then s.unlatch (c - 1) else s

/-- The same for the function that writes an owner's doorbells. -/
def State.unlatchOwner (s : State) (p : Nat) : State := s.unlatch (if p < 16 then p + 1 else 0)

/-- Whether the blocks that serve only from READY on are reachable: not before READY, in recovery mode or in STANDBY (Table 16.1). -/
def State.blockOpen (s : State) : Bool := s.boot.ready && !s.boot.recovery && s.pwr.state != 0b011

/-- Whether the step engine is held: no step is in progress (R32, R454). -/
def State.held (s : State) : Bool := s.eng.state == 0
/-- Whether a score bank is RUNNING (R453). -/
def State.running (s : State) : Bool := (s.bank s.eng.bank).state == 3
/-- The image of the running variant. -/
def State.runImg (s : State) : Option VariantImage :=
  if s.running then (s.var (s.bank s.eng.bank).slot).img else none

/-- Bit v of a vale set. -/
def valeBit (m : BitVec 84) (v : Nat) : Bool := m.getLsbD v
/-- A vale added to a set. -/
def setVale (m : BitVec 84) (v : Nat) : BitVec 84 := m ||| (1#84 <<< v)
/-- A vale taken from a set. -/
def clrVale (m : BitVec 84) (v : Nat) : BitVec 84 := m &&& ~~~(1#84 <<< v)

/-! ## Memory by device-local address (R20–R23) -/

/-- Whether DRAM of a stack is usable: in service (R449). -/
def State.stackOk (s : State) (k : Nat) : Bool := s.boot.stacksOk.getLsbD k

/-- A site's code in the defect map as the log takes it for a part as shipped: 405 GOOD weight tiles per vale, the first 27 of
the vale's last site row RESERVE (R311). -/
def shippedCode (k : Nat) : BitVec 4 := if siteSy k = 15 ∧ siteSx k < 27 then 1 else 0

/-- A site's code in the defect map (Table 10.5): 0 GOOD, 1 RESERVE, 2 MAPPED_OUT, 3 FAILED. -/
def State.siteCode (s : State) (k : Nat) : BitVec 4 := (s.nv.defects.get none k).getD (shippedCode k)

/-- A site's code written in the record: its version rises (Table 10.5). -/
def State.setCode (s : State) (k : Nat) (c : BitVec 4) : State :=
  { s with nv := { s.nv with
    defects := s.nv.defects.set none k (some c), defectVersion := s.nv.defectVersion + 1 } }

/-- Whether a site is mapped out, MAPPED_OUT or FAILED in the defect map, so that its window is refused (R23). -/
def State.mappedOut (s : State) (k : Nat) : Bool := s.siteCode k == 2 || s.siteCode k == 3

/-- Whether one byte of the device-local space may be read or written as memory: DRAM in service or a site's SRAM, the host
window, the host sync page (R23, R191). -/
def State.okByte (s : State) (a : Nat) : Bool :=
  match region s.nv.stackGb.toNat a with
  | .dram k _ => s.stackOk k
  | .sram k _ => !s.mappedOut k
  | .siteReg k o => !s.mappedOut k && decide (k = hubSite ∧ 0x7E0000 ≤ o ∧ o < 0x7E1000)
  | .host _ => true
  | .reserved => false

/-- Whether a whole range is DRAM of one stack's populated, in-service window, tested at both ends of every stack it meets
(R450). -/
def State.okDram (s : State) (a n : Nat) : Bool :=
  decide (a + n ≤ 0x00C000000000) &&
  (List.range 16).all (fun k =>
    let lo := k * 0x000C00000000
    let hi := lo + s.nv.stackGb.toNat * 0x40000000
    let wend := lo + 0x000C00000000
    -- the part of the range inside window k
    let b := max a lo
    let e := min (a + n) wend
    decide (e ≤ b) || (s.stackOk k && decide (e ≤ hi)))

/-- A byte of the device-local space: the host window reads the host's memory (R358). -/
def State.rd (s : State) (a : Nat) : Byte :=
  match region s.nv.stackGb.toNat a with
  | .host b => s.host.read b
  | _ => s.mem.read a

/-- `n` bytes of the device-local space. -/
def State.rdBytes (s : State) (a n : Nat) : List Byte :=
  if 0x020000000000 ≤ a ∧ a < 0x030000000000 then s.host.readBytes (a - 0x020000000000) n else s.mem.readBytes a n

/-- The number `n` bytes hold. -/
def State.rdLE (s : State) (a n : Nat) : Nat := ofLE (s.rdBytes a n)

/-- Bytes written to the device-local space. -/
def State.wrBytes (s : State) (a : Nat) (bs : List Byte) : State :=
  if 0x020000000000 ≤ a ∧ a < 0x030000000000 then { s with host := s.host.writeBytes (a - 0x020000000000) bs }
  else { s with mem := s.mem.writeBytes a bs, poison := s.poison.filter (fun x => !decide (a ≤ x ∧ x < a + bs.length)) }

/-- A number written in `n` bytes. -/
def State.wrLE (s : State) (a n v : Nat) : State := s.wrBytes a (leBytes n v)

/-- A range of device memory zeroed; its poison goes with it. -/
def State.zeroMem (s : State) (a n : Nat) : State :=
  { s with mem := s.mem.zero a n, poison := s.poison.filter (fun x => !decide (a ≤ x ∧ x < a + n)) }

end Sys2Proof.Machine
end

