-- ==== Sys2Proof/Machine/Net.lean ====
section
/-! DEFINITION. The Torren link as the rest of the device uses it (chapter 11): device numbers, port roles, frames, routing,
inboxes and the messages the device sends. -/

namespace Sys2Proof

open Machine

/-- The 32-byte header of a frame (Table 11.2). -/
def Frame.header (f : Frame) : List Byte :=
  [f.kind ++ f.cls, f.flags] ++ leBytes 2 f.units.toNat ++ leBytes 2 f.src.toNat ++ leBytes 2 f.dst.toNat ++
  leBytes 4 f.lseq.toNat ++ [f.fmt, f.hops] ++ leBytes 2 f.tag.toNat ++ leBytes 8 f.offset.toNat ++
  leBytes 4 f.arg.toNat ++ leBytes 4 0

/-- The CRC a frame's trailer must hold (R321). -/
def Frame.crcOf (f : Frame) : W32 := crc32c (f.header ++ f.payload)

end Sys2Proof

namespace Sys2Proof.Machine

/-! ## Numbers and roles (R325–R328) -/

/-- A field of FAB_TOPO by its register bits (Table 11.9). -/
def topoField (t : BitVec 33) (hi lo : Nat) : Nat := t.toNat / 2 ^ (lo - 10) % 2 ^ (hi - lo + 1)

/-- The three dimensions of a basin. -/
def topoDims (t : BitVec 33) : Nat × Nat × Nat := (topoField t 38 34, topoField t 33 29, topoField t 28 24)

/-- The coordinates of the device in its basin. -/
def topoPos (t : BitVec 33) : Nat × Nat × Nat := (topoField t 23 20, topoField t 19 16, topoField t 15 12)

/-- The device number at basin b and coordinates (R325). -/
def deviceAt (dims : Nat × Nat × Nat) (b : Nat) (p : Nat × Nat × Nat) : Nat :=
  64 * b + p.1 + dims.1 * (p.2.1 + dims.2.1 * p.2.2)

/-- The device's own number (FAB_TOPO.device). -/
def State.device (s : State) : Nat :=
  deviceAt (topoDims s.lock.topo) (topoField s.lock.topo 42 39) (topoPos s.lock.topo) % 1024

/-- The coordinates of a basin position. -/
def posOf (dims : Nat × Nat × Nat) (i : Nat) : Nat × Nat × Nat :=
  (i % dims.1, i / dims.1 % dims.2.1, i / (dims.1 * dims.2.1))

/-- Whether a shape is legal: dimensions 1 to 16, product at most 64, coordinates inside (R325, Table 11.9). -/
def topoLegal (t : BitVec 33) : Bool :=
  let d := topoDims t
  let p := topoPos t
  decide (1 ≤ d.1 ∧ d.1 ≤ 16 ∧ 1 ≤ d.2.1 ∧ d.2.1 ≤ 16 ∧ 1 ≤ d.2.2 ∧ d.2.2 ≤ 16 ∧ d.1 * d.2.1 * d.2.2 ≤ 64 ∧
    p.1 < d.1 ∧ p.2.1 < d.2.1 ∧ p.2.2 < d.2.2)

/-- The ports per direction of axis 0 X, 1 Y, 2 Z (R326). -/
def planPorts (plan : W32) (axis : Nat) : Nat := (plan >>> (24 - 4 * axis)).toNat % 16

/-- The uplinks of a plan. -/
def planUp (plan : W32) : Nat := (plan >>> 11).toNat % 32

/-- The rate code of axis 0 to 2, or of the uplinks as 3. -/
def planRate (plan : W32) (axis : Nat) : BitVec 2 := (plan >>> (6 - 2 * axis)).truncate 2

/-- Whether a plan is legal under a shape (R327) and holds no reserved encoding (R326). -/
def planLegal (plan : W32) (t : BitVec 33) : Bool :=
  let d := topoDims t
  let ok := fun (dim n : Nat) => if dim = 1 then decide (n = 0) else decide (1 ≤ n ∧ n ≤ 4)
  decide (2 * (planPorts plan 0 + planPorts plan 1 + planPorts plan 2) + planUp plan ≤ 24) &&
  ok d.1 (planPorts plan 0) && ok d.2.1 (planPorts plan 1) && ok d.2.2 (planPorts plan 2) &&
  (List.range 4).all (fun a => planRate plan a != 3) && decide (plan.toNat / 2 ^ 28 = 0 ∧ plan.toNat / 256 % 8 = 0)

/-- The visiting order of R328. -/
def visitOrder : List Nat := [0, 3, 1, 4, 2, 5, 15, 6, 16, 7, 17, 8, 18, 9, 19, 10, 20, 11, 21, 12, 22, 13, 23, 14]

/-- The roles of a plan in visiting order: 1 +X to 6 −Z, 7 UP (R328). -/
def planRoles (plan : W32) : List Nat :=
  (List.range 4).flatMap (fun i =>
    (if i % 2 = 0 then [1, 2, 3, 4, 5, 6] else [2, 1, 4, 3, 6, 5]).filter (fun r => decide (i < planPorts plan ((r - 1) / 2)))) ++
  List.replicate (planUp plan) 7

/-- The role of a port under a plan (R328); 0 is OFF. -/
def portRole (plan : W32) (n : Nat) : Nat :=
  match visitOrder.findIdx? (fun p => decide (p = n)) with
  | some i => (planRoles plan).getD i 0
  | none => 0

/-- The role that faces a role (R330): UP faces a switch, which has role UP's facing code 7 (Table 11.5). -/
def facing (r : Nat) : Nat := if r = 7 then 7 else if r = 0 then 0 else if r % 2 = 1 then r + 1 else r - 1

/-- The rate class a role's ports run at (R326). -/
def roleRate (plan : W32) (r : Nat) : BitVec 2 := planRate plan (if r = 7 then 3 else (r - 1) / 2)

/-- The torus neighbour in a role's direction (R325). -/
def State.neighbour (s : State) (r : Nat) : Nat :=
  let d := topoDims s.lock.topo
  let p := topoPos s.lock.topo
  let up := fun (x n : Nat) => (x + 1) % n
  let dn := fun (x n : Nat) => (x + n - 1) % n
  let q := match r with
    | 1 => (up p.1 d.1, p.2.1, p.2.2)
    | 2 => (dn p.1 d.1, p.2.1, p.2.2)
    | 3 => (p.1, up p.2.1 d.2.1, p.2.2)
    | 4 => (p.1, dn p.2.1 d.2.1, p.2.2)
    | 5 => (p.1, p.2.1, up p.2.2 d.2.2)
    | _ => (p.1, p.2.1, dn p.2.2 d.2.2)
  deviceAt d (topoField s.lock.topo 42 39) q

/-! ## Routing (R337) -/

/-- The UP ports of a role, ascending. -/
def State.upPorts (s : State) (r : Nat) : List Nat :=
  (List.range 24).filter (fun n => decide (portRole s.lock.plan n = r) && (s.port n).state == 3)

/-- The shorter way along one axis: the direction's role, or none where the coordinate agrees; + when equal. -/
def axisRole (axis dim here there : Nat) : Option Nat :=
  let d := (there + dim - here) % dim
  if d = 0 then none else if 2 * d ≤ dim then some (2 * axis + 1) else some (2 * axis + 2)

/-- The role of the first hop toward a device, or none (R337). -/
def State.routeRole (s : State) (dst : Nat) : Option Nat :=
  let t := s.lock.topo
  if dst / 64 ≠ topoField t 42 39 then
    if (s.upPorts 7).isEmpty then (if (s.upPorts 2).isEmpty then none else some 2) else some 7
  else
    let o := s.fab.routes.get 0 (dst % 64)
    if o.getLsbD 8 then
      let first := (o >>> 4).toNat % 16
      let second := o.toNat % 16
      if !(s.upPorts first).isEmpty then some first
      else if !(s.upPorts second).isEmpty then some second else none
    else
      let d := topoDims t
      let a := topoPos t
      let b := posOf d (dst % 64)
      ([axisRole 0 d.1 a.1 b.1, axisRole 1 d.2.1 a.2.1 b.2.1, axisRole 2 d.2.2 a.2.2 b.2.2].filterMap id).find?
        (fun r => !(s.upPorts r).isEmpty)

/-- The port a frame leaves on: picked by a hash among the direction's UP ports (R337). -/
def State.routePort (s : State) (f : Frame) : Option Nat :=
  match s.routeRole f.dst.toNat with
  | none => none
  | some r =>
    let ps := s.upPorts r
    ps[Config.portHash f.src.toNat f.dst.toNat f.cls.toNat % ps.length]?

/-! ## Window sets (R339, R341, R350) -/

/-- The bytes per second a rate class carries, in units of 25 GB/s (R339): 224G, 112G, 56G. -/
def rateUnits (r : BitVec 2) : Nat := if r = 0 then 4 else if r = 1 then 2 else 1

/-- The window quota of a port per slot of S counts: seven eighths of the slot at 1.1765 ns a count (R339). -/
def windowQuota (slotCounts : Nat) (r : BitVec 2) : Nat := 875 * slotCounts * 11765 * (25 * rateUnits r) / 10000000

/-- The window set of a direction: its ports UP since before this boundary and not long (R341). -/
def State.windowSet (s : State) (r : Nat) : List Nat := (s.upPorts r).filter (fun n => (s.port n).wasUp && !(s.port n).isLong)

/-! ## Sending -/

/-- A frame of class 1 to 3 put on a port: it takes the next link sequence number and stays in the replay buffer until it is
acknowledged (R324); without a credit of its class it waits (R336). -/
def Port.push (p : Port) (f : Frame) : Port :=
  let c := f.cls.toNat
  if c = 0 then { p with out := p.out ++ [f] }
  else if p.credits.getD c 0 = 0 then { p with wait := p.wait ++ [f] }
  else
    let g := { f with lseq := p.nextLseq }
    let h := { g with crc := g.crcOf }
    { p with out := p.out ++ [h], replay := p.replay ++ [h], nextLseq := p.nextLseq + 1,
             credits := p.credits.set c (p.credits.getD c 0 - 1) }

/-- The waiting frames that credits now allow, in order, class 1 before classes 2 and 3 (R336). -/
def Port.flush (p : Port) : Port :=
  (sortWait p.wait).foldl Port.push { p with wait := [] }
where
  sortWait (l : List Frame) : List Frame :=
    l.filter (fun f => f.cls == 1) ++ l.filter (fun f => f.cls != 1)

/-- A frame routed and sent, or counted as unroutable (R337). -/
def State.sendFrame (s : State) (f : Frame) : State :=
  match s.routePort f with
  | some n => s.updPort n (fun p => p.push f)
  | none => { s with fab := { s.fab with unroutable := satInc s.fab.unroutable } }

/-- The arg of a MESSAGE frame (Table 11.6). -/
def msgArg (increment index op : Nat) : W32 := BitVec.ofNat 32 (65536 * increment + 16 * index + op)

/-- A MESSAGE frame from this device. -/
def State.msgFrame (s : State) (cls dst inbox offset : Nat) (arg : W32) (payload : List Byte) : Frame :=
  { kind := 2, cls := BitVec.ofNat 4 cls, flags := 0, units := BitVec.ofNat 16 ((payload.length + 31) / 32),
    src := BitVec.ofNat 16 s.device, dst := BitVec.ofNat 16 dst, lseq := 0, fmt := 0, hops := 0, tag := BitVec.ofNat 16 inbox,
    offset := BitVec.ofNat 64 offset, arg := arg,
    payload := payload ++ List.replicate ((payload.length + 31) / 32 * 32 - payload.length) 0, crc := 0 }

/-- One MESSAGE frame sent (R335). -/
def State.sendMsg (s : State) (cls dst inbox offset : Nat) (arg : W32) (payload : List Byte) : State :=
  s.sendFrame (s.msgFrame cls dst inbox offset arg payload)

/-- Bytes sent as PUT frames of at most 4,096 payload bytes at rising offsets from 0 (R321, R335, R408). -/
def State.sendBytes (s : State) (cls dst inbox : Nat) (bs : List Byte) : State :=
  (chunksOf 4096 (bs.length / 4096 + 1) bs).zipIdx.foldl
    (fun t e => if e.1.isEmpty then t else t.sendMsg cls dst inbox (4096 * e.2) (msgArg 0 0 1) e.1) s

/-- The number in a 64-bit word of memory raised, modulo 2^64 (R182, R335). -/
def State.addWord (s : State) (a v : Nat) : State := s.wrLE a 8 ((s.rdLE a 8 + v) % 2 ^ 64)

/-- Signal word `index` of an inbox raised by `inc` (R335). -/
def State.signalInbox (s : State) (inbox index inc : Nat) : State :=
  s.addWord ((s.fab.inboxes.get {} inbox).base.toNat * 4096 + 8 * index) inc

/-! ## Sealed objects (R408, R409) -/

/-- The 32-byte seal header (Table 13.7). -/
def sealHeader (device p : Nat) (kind : Byte) (epoch : BitVec 16) (ctr : W64) (object : W64) (len : Nat) : List Byte :=
  [0x49, 0x57, 0x53, 0x4C, kind, BitVec.ofNat 8 p] ++ leBytes 2 epoch.toNat ++
  leBytes 2 device ++ [BitVec.ofNat 8 p, kind] ++ leBytes 8 ctr.toNat ++ leBytes 8 object.toNat ++ leBytes 4 len

/-- A sealed object of a partition: header, ciphertext and tag, zero bytes up to a multiple of 32; the egress counter rises by
one after it (R408, R409, Table 13.11). Without an egress key its body is free (log entry 3). -/
def State.seal (s : State) (p : Nat) (kind : Byte) (object : W64) (plain : List Byte) : List Byte × State :=
  let q := s.part p
  let c := q.egressCtr
  let h := sealHeader s.device p kind q.epoch c object plain.length
  let body := match q.egressKey with
    | some k => sealObject k h plain
    | none => (List.range (plain.length + 16)).map (Config.unkeyedByte h plain)
  let n := (32 + body.length + 31) / 32 * 32
  (h ++ body ++ List.replicate (n - 32 - body.length) 0, s.updPart p (fun r => { r with egressCtr := c + 1 }))

end Sys2Proof.Machine
end

