-- ==== Sys2Proof/Machine/Mailbox.lean ====
section
/-! DEFINITION. The words and events of the mailbox channels (R370–R378), the acceptance of a command (R371–R376, R405–R407), the
fault log (R316). -/

namespace Sys2Proof.Machine

/-! ## Interrupts and mailbox words -/

/-- An MSI-X vector fires (Table 12.6): function 0 is the PF, p + 1 the VF of partition p. -/
def State.irq (s : State) (fn vec : Nat) : State := { s with hif := { s.hif with irqs := s.hif.irqs ++ [(fn, vec)] } }

/-- The vector of a message in a channel (Table 12.6); the BMC and the fabric manager take none. -/
def State.msgIrq (s : State) (c : Nat) : State :=
  if c = 0 then s.irq 0 0 else if c = 1 then s.irq 0 1
  else if c < 18 then s.irq (c - 1) 0 else s

/-- The message type of a word (Table 12.8). -/
def wordType (w : W64) : Nat := (w >>> 60).toNat

/-- The first word of the queue that may go, and the rest: events wait for READY (R448). -/
def takeWord (ready : Bool) : List W64 → Option (W64 × List W64)
  | [] => none
  | w :: ws =>
    if ready || wordType w != 4 then some (w, ws)
    else match takeWord ready ws with
      | some (x, r) => some (x, w :: r)
      | none => none

/-- A word sent to the fabric manager (R382): a PUT_SIGNAL frame of class 3 to its inbox, which adds 1 to signal word 0. -/
def State.fmWord (s : State) (c : Nat) (w : W64) : State :=
  (s.updChan c (fun h => { h with outCnt := h.outCnt + 1 })).sendMsg 3 s.hif.fmDevice.toNat s.hif.fmInbox.toNat 0
    (msgArg 1 0 2) (leBytes 32 w.toNat)

/-- MBX_OUT filled from the queue while out_full is 0 (R372); words to the fabric manager go as frames (R382). -/
def State.pump (s : State) (c : Nat) : State :=
  let ch := s.chan c
  if c = 20 ∨ c = 21 then
    match takeWord s.boot.ready ch.queue with
    | some (w, r) => (s.updChan c (fun h => { h with queue := r })).fmWord c w
    | none => s
  else if ch.outFull then s
  else match takeWord s.boot.ready ch.queue with
    | some (w, r) =>
      (s.updChan c (fun h => { h with queue := r, outWord := w, outFull := true, outCnt := h.outCnt + 1 })).msgIrq c
    | none => s

/-- A word sent on a channel (R372): an event that finds 64 words queued is lost and counted. -/
def State.sendWord (s : State) (c : Nat) (w : W64) : State :=
  if wordType w = 4 ∧ 64 ≤ (s.chan c).queue.length then
    s.updChan c (fun h => { h with eventsLost := satInc h.eventsLost })
  else (s.updChan c (fun h => { h with queue := h.queue ++ [w] })).pump c

/-- A message word built from its fields (Table 12.8). -/
def msgWord (type : Nat) (code : Byte) (cseq : BitVec 4) (low : BitVec 48) : W64 :=
  BitVec.ofNat 4 type ++ code ++ cseq ++ low

/-- The receivers of events (R378): the PF, the BMC, the fabric manager, an owner's channel. -/
inductive Receiver
  | pf
  | bmc
  | fm
  | chan (c : Nat)
  deriving DecidableEq, Repr

/-- The non-secure channel of a receiver (R378). -/
def Receiver.channel : Receiver → Nat
  | .pf => 1
  | .bmc => 19
  | .fm => 21
  | .chan c => c

/-- An event sent to its receivers (R378). -/
def State.event (s : State) (rs : List Receiver) (code : Byte) (arg : Nat) : State :=
  rs.foldl (fun t r => t.sendWord r.channel (msgWord 4 code 0 (BitVec.ofNat 48 arg))) s

/-- The channel an owner's own events go to: the PF's for the operator. -/
def ownerChan (p : Nat) : Nat := if p < 16 then 2 + p else 1

/-- A word written to MBX_IN of a channel (R372): stored, or discarded while in_full is set. -/
def State.mbxIn (s : State) (c : Nat) (w : W64) : State :=
  s.updChan c (fun h => if h.inFull then { h with overrun := true } else { h with inWord := w, inFull := true })

/-! ## Accepting a command (R371–R376) -/

/-- A command code with what Tables 12.11, 13.8 and 14.10 say of it: whether it is critical, and the channels that may send it. -/
structure CmdInfo where
  code : Byte
  critical : Bool
  chans : List Nat

/-- The channels of the VFs. -/
def vfChans : List Nat := (List.range 16).map (· + 2)

/-- Whether a channel is secure (R370): 0, 18 and 20. -/
def secureChan (c : Nat) : Bool := decide (c = 0 ∨ c = 18 ∨ c = 20)

/-- The owner whose reach a channel's sender has: partition c - 2, or the operator. -/
def chanOwner (c : Nat) : Nat := if 2 ≤ c ∧ c < 18 then c - 2 else 31

/-- The DRAM areas of an owner's record (R358): its DRAM reach. -/
def PartCfg.areas (c : PartCfg) : List (Nat × Nat) :=
  [c.adpArea, c.reqArea, c.parkArea, (c.spillBase, if c.spillBase = 0 then 0 else 0x800000)]

/-- Whether a range meets the committed weight region (R102). -/
def State.meetsWregion (s : State) (a n : Nat) : Bool :=
  decide (max a (s.lock.wBase.toNat * 2 ^ 30) < min (a + n) ((s.lock.wBase.toNat + s.lock.wSize.toNat) * 2 ^ 30))

/-- Whether a range lies in the host window (R358). -/
def inHost (a n : Nat) : Bool := decide (0x020000000000 ≤ a ∧ a + n ≤ 0x030000000000)

/-- Whether a range lies in an owner's DRAM reach: in one of its DRAM areas, in service, outside the weight region (R102, R358, R450). -/
def State.inDramReach (s : State) (p a n : Nat) : Bool :=
  (s.cfg p).areas.any (fun r => decide (r.1 ≤ a ∧ a + n ≤ r.1 + r.2)) && s.okDram a n && !(s.meetsWregion a n)

/-- Whether a range lies in an owner's reach: the host window, or its DRAM reach (R358). -/
def State.inReach (s : State) (p a n : Nat) : Bool := inHost a n || s.inDramReach p a n

/-- Whether a range lies in an inbox (R374, R382). -/
def inInbox (i : Inbox) (a n : Nat) : Bool :=
  i.enable && decide (i.base.toNat * 4096 ≤ a ∧ a + n ≤ i.base.toNat * 4096 + i.pages.toNat * 4096)

/-- Whether a command block lies in its sender's reach (R374): inline for the BMC, in its inbox for the fabric manager. -/
def State.blockReach (s : State) (c a n : Nat) : Bool :=
  if c = 18 ∨ c = 19 then true
  else if c = 20 then inInbox (s.fab.inboxes.get {} s.hif.secureInbox.toNat) a n
  else if c = 21 then inInbox (s.fab.inboxes.get {} s.hif.plainInbox.toNat) a n
  else s.inReach (chanOwner c) a n

/-- The key a channel's tags are formed under and its last counter (R405, R406). -/
def State.cmdKey (s : State) (c : Nat) : Option (List Byte) × W64 :=
  if chanOwner c < 16 then ((s.part (chanOwner c)).cmdKey, (s.part (chanOwner c)).secCtr) else (s.nv.opKey, s.nv.oprCtr)

/-- The tag of a command block on a channel (R405): the first 32 bytes of the HMAC. -/
def blockTag (key : List Byte) (c : Nat) (b : CmdBlock) : BitVec 256 :=
  let hdr := [b.blkCode, b.blkCseq] ++ leBytes 2 b.length ++ leBytes 4 b.flags.toNat ++ leBytes 8 b.counter.toNat
  let rest := leBytes 16 b.reserved.toNat ++ (b.params ++ List.replicate (b.length - 64 - b.params.length) 0#8).take (b.length - 64)
  BitVec.ofNat 256 (ofLE ((hmac512 key (BitVec.ofNat 8 c :: hdr ++ rest)).take 32))

/-- Whether a command may be served at all in the present state (R433, R449, R462): before READY only SEC_SPDM, in recovery
mode SEC_SPDM on channel 0 and FW_UPDATE. -/
def State.serves (s : State) (c : Nat) (code : Byte) : Bool :=
  if s.boot.recovery then (code == 0x50 && c == 0) || code == 0x55
  else s.boot.ready || code == 0x50

/-- What a tag check finds. `firstLoad` marks the untagged first loads that R406 accepts. -/
inductive TagCheck | pass | badTag | badCounter
  deriving DecidableEq, Repr

/-- The tag rules of R405 and R406. -/
def State.tagCheck (s : State) (critical firstLoad : Bool) (b : CmdBlock) : TagCheck :=
  let k := s.cmdKey b.channel
  if b.flags.getLsbD 0 then
    match k.1 with
    | none => if firstLoad then .pass else .badTag
    | some key =>
      if blockTag key b.channel b != b.tag then .badTag
      else if b.counter ≤ k.2 then .badCounter
      else .pass
  else if critical && !firstLoad && !(s.boot.recovery && b.blkCode == 0x55 && s.nv.opKey.isNone) then .badTag
  else .pass

/-- The reason of Table 12.9 a COMMAND is rejected with, its checks in table order, or none. `sec` marks a command that counts
as sent on a secure channel (R401), `inl` a block inside a secured message, which no address names. -/
def State.rejectReason (s : State) (i : CmdInfo) (sec inl firstLoad : Bool) (b : CmdBlock) : Option Byte :=
  if b.addr % 8 ≠ 0 ∨ 2 ^ 48 ≤ b.addr then some 0x01
  else if 16 ≤ (s.chan b.channel).openCmds.length then some 0x02
  else if i.critical && !(sec || secureChan b.channel) then some 0x03
  else if !(i.chans.contains b.channel) || !(s.serves b.channel i.code) then some 0x04
  else if !inl && (!(s.blockReach b.channel b.addr 64) || !b.readOk
      || (decide (64 ≤ b.length ∧ b.length ≤ 4096 ∧ b.length % 8 = 0) && !(s.blockReach b.channel b.addr b.length))) then some 0x05
  else if !(decide (64 ≤ b.length ∧ b.length ≤ 4096 ∧ b.length % 8 = 0)) || b.blkCode != i.code
      || b.blkCseq != b.cseq.zeroExtend 8 || (b.flags >>> 1) != 0 || b.reserved != 0 then some 0x06
  else if s.tagCheck i.critical firstLoad b != .pass then some 0x07
  else none

/-- The effects of a TAG rejection (R407): the counter and the event. -/
def State.tagRejected (s : State) (t : TagCheck) (c : Nat) : State :=
  let s1 := { s with sec := { s.sec with
    rejTag := if t == TagCheck.badTag then satInc s.sec.rejTag else s.sec.rejTag
    rejCounter := if t == TagCheck.badCounter then satInc s.sec.rejCounter else s.sec.rejCounter } }
  s1.event (.pf :: (if c ≤ 1 then [] else if c = 18 ∨ c = 19 then [.bmc] else if 20 ≤ c then [.fm] else [.chan c])) 0x25 c

/-- The service controller takes a message from MBX_IN (R372): in_full clears and MBX_CNT.in counts it. -/
def State.takeIn (s : State) (c : Nat) : State :=
  let s1 := s.updChan c (fun h => { h with inFull := false, inCnt := h.inCnt + 1 })
  -- R382: word 1 of the fabric manager's sending inbox is signalled when in_full clears
  if c = 20 then s1.signalInbox s.hif.secureInbox.toNat 1 1
  else if c = 21 then s1.signalInbox s.hif.plainInbox.toNat 1 1
  else s1

/-- A counter accepted under a key: the last one is recorded before the command's own checks (R406). -/
def State.recordCounter (s : State) (b : CmdBlock) : State :=
  if b.flags.getLsbD 0 && (s.cmdKey b.channel).1.isSome then
    if chanOwner b.channel < 16 then s.updPart (chanOwner b.channel) (fun p => { p with secCtr := b.counter })
    else { s with nv := { s.nv with oprCtr := b.counter } }
  else s

/-- A RESULT word with a status of the owning chapter (Table 12.8). -/
def State.result (s : State) (b : CmdBlock) (code status : Byte) : State :=
  s.sendWord b.channel (msgWord 2 code b.cseq (status ++ 0#40))

/-- A command accepted with its RESULT OK and left open until it completes (R372). -/
def State.opened (s : State) (b : CmdBlock) (code : Byte) : State :=
  (s.updChan b.channel (fun h => { h with openCmds := h.openCmds ++ [(code, b.cseq)] })).result b code 0

/-- A COMPLETE word with its status and detail; the command leaves the open ones (R371, R372). The word of a command whose channel
was emptied since is discarded (R457). -/
def State.complete (s : State) (c : Nat) (code : Byte) (cseq : BitVec 4) (status : Byte) (detail : BitVec 40) : State :=
  if (s.chan c).openCmds.contains (code, cseq) then
    (s.updChan c (fun h => { h with openCmds := h.openCmds.erase (code, cseq) })).sendWord c
      (msgWord 3 code cseq (status ++ detail))
  else s

/-- A command block whose message has been taken: rejected with its reason, or its own checks and effect run on the state that has
recorded its counter. -/
def State.acceptBlock (s : State) (i : CmdInfo) (sec inl firstLoad : Bool) (b : CmdBlock) (k : State → State) : State :=
  match s.rejectReason i sec inl firstLoad b with
  | some r =>
    let s1 := s.sendWord b.channel (msgWord 5 i.code b.cseq (r ++ 0#40))
    if r = 0x07 then s1.tagRejected (s.tagCheck i.critical firstLoad b) b.channel else s1
  | none => k (s.recordCounter b)

/-- A command as it arrives: its message taken, then its block (R375). The controller of a device in STANDBY wakes for it (R373). -/
def State.accept (s : State) (i : CmdInfo) (sec firstLoad : Bool) (b : CmdBlock) (k : State → State) : State :=
  (s.takeIn b.channel).acceptBlock i sec false firstLoad b k


/-! ## The fault log -/

/-- A log entry written at the head (R316). -/
def State.log (s : State) (cls : Byte) (x y p group response : Nat) : State :=
  let e : LogEntry := {
    time := s.time, cls := cls, x := BitVec.ofNat 8 x, y := BitVec.ofNat 8 y, p := BitVec.ofNat 5 p,
    group := BitVec.ofNat 4 group, response := BitVec.ofNat 3 response, step := s.eng.stepNumber.truncate 28 }
  { s with flt := { s.flt with log := s.flt.log.set {} s.flt.head.toNat e, head := s.flt.head + 1 } }

end Sys2Proof.Machine
end

