-- ==== Sys2Proof/Machine/Numeric.lean ====
section
/-! DEFINITION. Numbers: the formats of Table 3.2 as exact values, the one rounding of R76, exact-tree sums (R81), MX blocks
(R73–R75, R80), integer forms and the fixed exponential of attention (R205–R208). -/

namespace Sys2Proof.Machine

/-- An exact binary value m * 2^e; `z` marks the negative zero. -/
structure Dy where
  m : Int
  e : Int
  z : Bool := false
  deriving DecidableEq, Repr

/-- The sign a value is encoded with. -/
def Dy.neg (a : Dy) : Bool := decide (a.m < 0) || a.z

/-- n / d to the nearest integer, ties to even (R76). -/
def rneNat (n d : Nat) : Nat :=
  let q := n / d
  let r := n % d
  if 2 * r < d then q else if 2 * r = d then (if q % 2 = 0 then q else q + 1) else q + 1

/-- n / d to the nearest integer, ties to even, for a signed numerator. -/
def rneInt (n : Int) (d : Nat) : Int :=
  if n < 0 then -(rneNat n.natAbs d : Int) else (rneNat n.natAbs d : Int)

/-- n * 2^k as a numerator over a denominator. -/
def scaleQ (n : Int) (d : Nat) (k : Int) : Int × Nat :=
  if 0 ≤ k then (n * (2 ^ k.toNat : Nat), d) else (n, d * 2 ^ (-k).toNat)

/-- n / d * 2^k rounded once to an integer, ties to even. -/
def rneScaled (n : Int) (d : Nat) (k : Int) : Int :=
  let q := scaleQ n d k
  rneInt q.1 q.2

/-- x clamped to [lo, hi]. -/
def clampInt (lo hi x : Int) : Int := if x < lo then lo else if hi < x then hi else x

/-- floor (log2 (n / d * 2^k)) of a positive value. -/
def floorLog2 (n d : Nat) (k : Int) : Int :=
  let l : Int := (Nat.log2 n : Int) - (Nat.log2 d : Int)
  let q := scaleQ (n : Int) d (-l)
  if (q.2 : Int) ≤ q.1 then l + k else l - 1 + k

/-- Compare |a| with |b|: a value's magnitude over another's. -/
def dyLt (a b : Dy) : Bool :=
  let e := min a.e b.e
  decide (a.m * (2 ^ (a.e - e).toNat : Nat) < b.m * (2 ^ (b.e - e).toNat : Nat))

/-- The magnitude of a value. -/
def dyAbs (a : Dy) : Dy := { m := a.m.natAbs, e := a.e }

/-- An exact sum; only that of two negative zeros is one (log entry 63). -/
def dyAdd (a b : Dy) : Dy :=
  let e := min a.e b.e
  { m := a.m * (2 ^ (a.e - e).toNat : Nat) + b.m * (2 ^ (b.e - e).toNat : Nat), e := e, z := a.z && b.z }

/-- An exact product. -/
def dyMul (a b : Dy) : Dy := { m := a.m * b.m, e := a.e + b.e }

/-- The largest magnitude of a list of values (0 for none). -/
def dyAmax (l : List Dy) : Dy := l.foldl (fun a x => if dyLt a (dyAbs x) then dyAbs x else a) { m := 0, e := 0 }

/-- A floating-point format (Table 3.2): exponent and mantissa bits, bias, and the largest finite encoding without its sign. -/
structure FFmt where
  eb : Nat
  mb : Nat
  bias : Nat
  maxFin : Nat
  deriving DecidableEq, Repr

/-- FP32. -/
def fp32 : FFmt := { eb := 8, mb := 23, bias := 127, maxFin := 0x7F7FFFFF }
/-- BF16. -/
def bf16 : FFmt := { eb := 8, mb := 7, bias := 127, maxFin := 0x7F7F }
/-- FP16. -/
def fp16 : FFmt := { eb := 5, mb := 10, bias := 15, maxFin := 0x7BFF }
/-- E4M3. -/
def e4m3 : FFmt := { eb := 4, mb := 3, bias := 7, maxFin := 0x7E }
/-- E5M2. -/
def e5m2 : FFmt := { eb := 5, mb := 2, bias := 15, maxFin := 0x7B }
/-- E2M1, the element of MXFP4. -/
def e2m1 : FFmt := { eb := 2, mb := 1, bias := 1, maxFin := 7 }
/-- E3M2, the element of MXFP6. -/
def e3m2 : FFmt := { eb := 3, mb := 2, bias := 3, maxFin := 31 }

/-- The floating-point format of a format code (Table 3.1). -/
def fmtOf (code : Nat) : Option FFmt :=
  match code with
  | 0x07 => some e4m3
  | 0x08 => some e5m2
  | 0x09 => some bf16
  | 0x0A => some fp16
  | 0x0B => some fp32
  | _ => none

/-- Whether an encoding's sign bit is set. -/
def FFmt.neg (f : FFmt) (w : Nat) : Bool := w / 2 ^ (f.eb + f.mb) % 2 = 1

/-- Whether an encoding is finite (Table 3.2). -/
def FFmt.finite (f : FFmt) (w : Nat) : Bool := decide (w % 2 ^ (f.eb + f.mb) ≤ f.maxFin)

/-- The exact value of an encoding (R72). -/
def FFmt.val (f : FFmt) (w : Nat) : Dy :=
  let x := w % 2 ^ (f.eb + f.mb)
  let ex := x / 2 ^ f.mb
  let mant := x % 2 ^ f.mb
  let m : Nat := if ex = 0 then mant else mant + 2 ^ f.mb
  let e : Int := (if ex = 0 then 1 else (ex : Int)) - f.bias - f.mb
  { m := if f.neg w then -(m : Int) else (m : Int), e := e, z := f.neg w && m == 0 }

/-- The encoding of n / d * 2^k rounded once to nearest even, saturating at the largest finite value (R76). `zneg` is the
sign an exact zero takes. -/
def FFmt.round (f : FFmt) (zneg : Bool) (n : Int) (d : Nat) (k : Int) : Nat :=
  let sgn := 2 ^ (f.eb + f.mb)
  if n = 0 then (if zneg then sgn else 0)
  else
    let a := n.natAbs
    let e := max (floorLog2 a d k) (1 - (f.bias : Int))
    let r := (rneScaled a d (k - (e - f.mb))).natAbs
    let bits := ((e + f.bias - 1).toNat) * 2 ^ f.mb + r
    (if n < 0 then sgn else 0) + min bits f.maxFin

/-- A value rounded into a format. -/
def FFmt.ofDy (f : FFmt) (x : Dy) : Nat := f.round x.neg x.m 1 x.e

/-- An encoding of one format converted into another (R76, R79). -/
def convertF (a b : FFmt) (w : Nat) : Nat := b.round (a.neg w) (a.val w).m 1 (a.val w).e

/-- FP32 addition, one rounding (R81). -/
def fadd (x y : W32) : W32 :=
  let s := dyAdd (fp32.val x.toNat) (fp32.val y.toNat)
  BitVec.ofNat 32 (fp32.round (fp32.neg x.toNat && fp32.neg y.toNat) s.m 1 s.e)

/-- FP32 multiplication, one rounding. -/
def fmul (x y : W32) : W32 :=
  let p := dyMul (fp32.val x.toNat) (fp32.val y.toNat)
  BitVec.ofNat 32 (fp32.round (fp32.neg x.toNat != fp32.neg y.toNat) p.m 1 p.e)

/-- FP32 division, one rounding; the divisor is not zero where the spec divides (R256). -/
def fdiv (x y : W32) : W32 :=
  let a := fp32.val x.toNat
  let b := fp32.val y.toNat
  let n := if b.m < 0 then -a.m else a.m
  BitVec.ofNat 32 (fp32.round (fp32.neg x.toNat != fp32.neg y.toNat) n b.m.natAbs (a.e - b.e))

/-- A finite FP32 encoding. -/
def finite32 (x : W32) : Bool := fp32.finite x.toNat

/-- x < y of two finite FP32 encodings. -/
def f32lt (x y : W32) : Bool := dyLt (fp32.val x.toNat) (fp32.val y.toNat)

/-- The canonical tree sum of R81: the left part holds the largest power of two below n elements. -/
def treeSum : Nat → List W32 → W32
  | 0, l => l.headD 0
  | fuel + 1, l =>
    if l.length ≤ 1 then l.headD 0
    else
      let h := 2 ^ Nat.log2 (l.length - 1)
      fadd (treeSum fuel (l.take h)) (treeSum fuel (l.drop h))

/-- A floating-point dot product: exact products rounded once, summed in the canonical tree (R81). -/
def dotTree (xs ys : List W32) : W32 :=
  let ps := (xs.zip ys).map (fun p => fmul p.1 p.2)
  treeSum ps.length ps

/-- The signed number a byte holds (R71). -/
def int8 (b : Byte) : Int := b.toInt

/-- A free finite encoding of a format, of the sign and magnitude a free value gives (R77). -/
def FFmt.anyFinite (f : FFmt) (w : W64) : Nat :=
  (if w.getLsbD 63 then 2 ^ (f.eb + f.mb) else 0) + (w.toNat % 2 ^ 63) % (f.maxFin + 1)

/-- The bytes of one element of a plain format. -/
def elemBytes (code : Nat) : Nat :=
  match code with
  | 0x09 => 2
  | 0x0A => 2
  | 0x0B => 4
  | _ => 1

/-- The element format of a block-scaled code, none for MXINT8. -/
def mxElem (code : Nat) : Option FFmt :=
  match code with
  | 0x0C => some e2m1
  | 0x0D => some e3m2
  | _ => none

/-- Whether a code is block-scaled (Table 3.1). -/
def isMx (code : Nat) : Bool := decide (code = 0x0C ∨ code = 0x0D ∨ code = 0x0E)

/-- The bytes of a block's elements (R74). -/
def mxBlockBytes (code : Nat) : Nat :=
  match code with
  | 0x0C => 16
  | 0x0D => 24
  | _ => 32

/-- The exponent of the largest element (R80). -/
def mxEmax (code : Nat) : Int :=
  match code with
  | 0x0C => 2
  | 0x0D => 4
  | _ => 0

/-- The scale exponent of a block of values (R80), none when every value is zero. -/
def mxScale (code : Nat) (vs : List Dy) : Option Int :=
  let a := dyAmax vs
  if a.m = 0 then none
  else some (clampInt (-127) 127 (floorLog2 a.m.natAbs 1 a.e - mxEmax code))

/-- One element of a block with scale exponent x (R80). -/
def mxEncodeElem (code : Nat) (x : Int) (v : Dy) : Nat :=
  match mxElem code with
  | some f => f.round v.neg v.m 1 (v.e - x)
  | none => (clampInt (-127) 127 (rneScaled v.m 1 (v.e + 6 - x)) % 256).toNat

/-- A block of 32 values encoded: its scale byte and its elements (R80). -/
def mxEncode (code : Nat) (vs : List Dy) : Byte × List Nat :=
  match mxScale code vs with
  | none => (0, vs.map (fun _ => 0))
  | some x => (BitVec.ofNat 8 (x + 127).toNat, vs.map (mxEncodeElem code x))

/-- The bits of one element of a block. -/
def mxBits (code : Nat) : Nat :=
  match code with
  | 0x0C => 4
  | 0x0D => 6
  | _ => 8

/-- The elements of a block packed into its bytes (R74). -/
def mxPack (code : Nat) (els : List Nat) : List Byte :=
  let n := els.foldr (fun e acc => e + 2 ^ mxBits code * acc) 0
  (List.range (mxBlockBytes code)).map (fun i => BitVec.ofNat 8 (n / 256 ^ i))

/-- The elements of a block from its bytes (R74). -/
def mxUnpack (code : Nat) (bs : List Byte) : List Nat :=
  let n := bs.foldr (fun b acc => b.toNat + 256 * acc) 0
  (List.range 32).map (fun i => n / 2 ^ (mxBits code * i) % 2 ^ mxBits code)

/-- The exact value of one MX element under a scale byte (R73). -/
def mxVal (code : Nat) (scale : Byte) (el : Nat) : Dy :=
  let x : Int := (scale.toNat : Int) - 127
  match mxElem code with
  | some f => { f.val el with e := (f.val el).e + x }
  | none => { m := int8 (BitVec.ofNat 8 el), e := x - 6 }

/-- Whether a value widens exactly into BF16 (R79): it rounds to itself. -/
def fitsBf16 (v : Dy) : Bool :=
  let w := bf16.val (bf16.ofDy v)
  !(dyLt w v) && !(dyLt v w)

/-! ## Integer forms and the fixed exponential -/

/-- The integer form of a vector (R205): its exponent and its INT8 elements. -/
def intForm (vs : List Dy) : Int × List Int :=
  let a := dyAmax vs
  let e := if a.m = 0 then -127 else max (floorLog2 a.m.natAbs 1 a.e) (-127)
  (e, vs.map (fun v => clampInt (-127) 127 (rneScaled v.m 1 (v.e + 6 - e))))

/-- An integer dot product. -/
def dotInt (xs ys : List Int) : Int := (xs.zip ys).foldl (fun a p => a + p.1 * p.2) 0

/-- The score of R207 for a layer's score scale, a query and a key in integer form. -/
def scoreOf (sigma : W32) (q k : Int × List Int) : Int :=
  let sg := fp32.val sigma.toNat
  clampInt (-(2 ^ 23)) (2 ^ 23 - 1) (rneScaled (sg.m * dotInt q.2 k.2) 1 (sg.e + q.1 + k.1 - 4))

/-- T[r] = round (2^18 * 2^(-r/256)), r 0 to 255 (R208). -/
def expTable : List Nat :=
  [262144, 261435, 260728, 260023, 259320, 258619, 257920, 257222, 256527, 255833, 255141, 254452,
   253763, 253077, 252393, 251711, 251030, 250351, 249674, 248999, 248326, 247654, 246985, 246317,
   245651, 244987, 244324, 243664, 243005, 242348, 241692, 241039, 240387, 239737, 239089, 238442,
   237798, 237155, 236513, 235874, 235236, 234600, 233966, 233333, 232702, 232073, 231445, 230820,
   230195, 229573, 228952, 228333, 227716, 227100, 226486, 225874, 225263, 224654, 224046, 223441,
   222836, 222234, 221633, 221034] ++
  [220436, 219840, 219245, 218653, 218061, 217472, 216884, 216297, 215712, 215129, 214547, 213967,
   213389, 212812, 212236, 211663, 211090, 210519, 209950, 209382, 208816, 208252, 207689, 207127,
   206567, 206008, 205451, 204896, 204342, 203789, 203238, 202689, 202141, 201594, 201049, 200505,
   199963, 199423, 198883, 198346, 197809, 197274, 196741, 196209, 195678, 195149, 194622, 194095,
   193571, 193047, 192525, 192005, 191485, 190968, 190451, 189936, 189423, 188911, 188400, 187890,
   187382, 186876, 186370, 185866] ++
  [185364, 184863, 184363, 183864, 183367, 182871, 182377, 181884, 181392, 180901, 180412, 179924,
   179438, 178953, 178469, 177986, 177505, 177025, 176546, 176069, 175593, 175118, 174645, 174172,
   173701, 173232, 172763, 172296, 171830, 171366, 170902, 170440, 169979, 169520, 169061, 168604,
   168148, 167694, 167240, 166788, 166337, 165887, 165439, 164991, 164545, 164100, 163657, 163214,
   162773, 162333, 161894, 161456, 161019, 160584, 160150, 159717, 159285, 158854, 158425, 157996,
   157569, 157143, 156718, 156294] ++
  [155872, 155450, 155030, 154611, 154193, 153776, 153360, 152945, 152532, 152119, 151708, 151298,
   150889, 150481, 150074, 149668, 149263, 148860, 148457, 148056, 147655, 147256, 146858, 146461,
   146065, 145670, 145276, 144883, 144491, 144101, 143711, 143323, 142935, 142549, 142163, 141779,
   141395, 141013, 140632, 140251, 139872, 139494, 139117, 138741, 138366, 137991, 137618, 137246,
   136875, 136505, 136136, 135768, 135401, 135035, 134669, 134305, 133942, 133580, 133219, 132859,
   132499, 132141, 131784, 131427]

/-- The fixed exponential P (R208). -/
def fixedExp (delta : Nat) : Nat :=
  if delta < 4864 then (expTable.getD (delta % 256) 0) >>> (delta / 256) else 0

/-- The largest of a list of integers. -/
def maxInt? (l : List Int) : Option Int :=
  l.foldl (fun a x => match a with | none => some x | some y => some (max x y)) none

/-- The larger of two maxima, either of which may be absent (R210). -/
def maxOpt (a b : Option Int) : Option Int :=
  match a, b with
  | none, y => y
  | x, none => x
  | some x, some y => some (max x y)

/-- One term of pass two (R209): the numerators and the denominator with one position added. -/
def attendTerm (m e : Int) (acc : List Int × Int) (t : Int × Int × List Int) : List Int × Int :=
  let p : Int := fixedExp (m - t.1).toNat
  let sh := (e - t.2.1).toNat
  let terms := t.2.2.map (fun v => (p * v) >>> sh)
  ((acc.1.zip terms).map (fun x => x.1 + x.2), acc.2 + p)

/-- The FP32 output of one element (R209): num * 2^(E-6) / den, rounded once. -/
def attendOut (e : Int) (den num : Int) : W32 := BitVec.ofNat 32 (fp32.round false num den.toNat (e - 6))

end Sys2Proof.Machine
end

