-- ==== Sys2Proof/Machine/Variant.lean ====
section
/-! DEFINITION. What a variant image says (R134, R156, R157, R162, R198–R200, R212): its lanes, wide pairs, notch lanes, KV layout,
frames, and the latch check of R161. -/

namespace Sys2Proof.Machine

/-- Whether a half runs at half rate under a clock plan (Table 5.11). -/
def planHalf (plan : BitVec 2) (h : Half) : Bool :=
  match h with
  | .west => plan.getLsbD 0
  | .east => plan.getLsbD 1

/-- The periods of 1.7 GHz that an NCLK of a half lasts under a clock plan. -/
def nclkTime (plan : BitVec 2) (h : Half) : Nat := if planHalf plan h then 2 else 1

/-- The time of a half since its pipeline started. -/
def Eng.clkOf (e : Eng) (h : Half) : Nat := match h with | .west => e.clkW | .east => e.clkE

/-- The time a flit spends in a saddle buffer (Table 6.3), in periods of 1.7 GHz: a device-time count is two of them. -/
def saddleTime (plan : BitVec 2) : Nat := if plan = 0 then 64 else 128

/-- An element put before the first of a larger key. -/
def insKey {α : Type} (key : α → Nat) (x : α) : List α → List α
  | [] => [x]
  | y :: ys => if key x ≤ key y then x :: y :: ys else y :: insKey key x ys

/-- `l` sorted by a key, stable, smaller first. -/
def sortBy {α : Type} (key : α → Nat) : List α → List α
  | [] => []
  | x :: xs => insKey key x (sortBy key xs)

/-! ## KV roles (Table 7.3) -/

/-- KV_MODE.role. -/
def kvRole (m : W64) : Nat := (m >>> 30).toNat % 4

/-- KV_MODE.kv_fmt. -/
def kvFmt (m : W64) : Nat := (m >>> 25).toNat % 32

/-- KV_MODE.heads. -/
def kvHeads (m : W64) : Nat := (m >>> 20).toNat % 32

/-- KV_MODE.qpk + 1. -/
def kvG (m : W64) : Nat := (m >>> 16).toNat % 16 + 1

/-- KV_MODE.group + 1. -/
def kvK (m : W64) : Nat := (m >>> 12).toNat % 16 + 1

/-- KV_MODE.frames. -/
def kvFrames (m : W64) : Nat := m.toNat % 4096

/-- KV_MODE.gidx. -/
def kvGidx (m : W64) : Nat := (m >>> 32).toNat % 16

/-- KV_HEAD.layer. -/
def headLayer (h : W64) : Nat := (h >>> 16).toNat % 256

/-- The bytes of a head vector (Table 7.4). -/
def vecBytes (fmt : Nat) : Nat :=
  match fmt with
  | 0x0C => 68
  | 0x0D => 100
  | 0x08 => 128
  | 0x07 => 128
  | 0x0E => 132
  | _ => 256

/-- The bytes of a head slice (Table 7.4). -/
def sliceBytes (fmt : Nat) : Nat :=
  match fmt with
  | 0x0C => 2176
  | 0x0D => 3200
  | 0x08 => 4096
  | 0x07 => 4096
  | 0x0E => 4224
  | _ => 8192

/-- The rank of a KV format (Table 3.5). -/
def kvRank (fmt : Nat) : Nat :=
  match fmt with
  | 0x0C => 1
  | 0x0D => 2
  | 0x08 => 3
  | 0x07 => 4
  | 0x0E => 5
  | 0x09 => 6
  | _ => 0

/-- Whether a KV format widens exactly into a query format (Table 3.5). -/
def widenable (fmt query : Nat) : Bool := decide (query = 0x09 ∨ (query = 0x07 ∧ fmt = 0x07))

end Sys2Proof.Machine

namespace Sys2Proof

open Machine

/-- The owner of a lane in the lane plan: [15:11] (R157). -/
def VariantImage.laneOwner (v : VariantImage) (j : Nat) : Nat := ((v.lanePlan.getD j 0xF800) >>> 11).toNat

/-- Whether a lane is in a wide pair: [10] (R157). -/
def VariantImage.laneWide (v : VariantImage) (j : Nat) : Bool := (v.lanePlan.getD j 0).getLsbD 10

/-- The lanes an owner has, ascending (R157). -/
def VariantImage.lanesOf (v : VariantImage) (p : Nat) : List Nat :=
  (List.range v.lanes).filter (fun j => decide (v.laneOwner j = p))

/-- The wide pairs an owner has, by the index of their first lane, ascending (R157). -/
def VariantImage.pairsOf (v : VariantImage) (p : Nat) : List Nat :=
  ((List.range (v.lanes / 2)).map (· * 2)).filter (fun j =>
    v.laneWide j && v.laneWide (j + 1) && decide (v.laneOwner j = p))

/-- The eligible lanes of R162: those in no wide pair, ascending. -/
def VariantImage.eligible (v : VariantImage) : List Nat := (List.range v.lanes).filter (fun j => !v.laneWide j)

/-- Whether step k is a notch step (R162). -/
def VariantImage.notchStep (v : VariantImage) (k : Nat) : Bool := decide (k % 2 ^ v.notchLog2 = 0)

/-- The notch lanes of step k (R162). -/
def VariantImage.notchLanes (v : VariantImage) (k : Nat) : List Nat :=
  if v.notchStep k then
    let e := v.eligible
    (List.range v.notchWidth).filterMap (fun i => e[(v.notchWidth * (k / 2 ^ v.notchLog2) + i) % e.length]?)
  else []

/-- The slot length in ACLK (Table 5.11). -/
def VariantImage.slotAclk (v : VariantImage) : Nat := 512 >>> v.slotCode.toNat

/-- The beats B of a slot (R134). -/
def VariantImage.beats (v : VariantImage) : Nat := v.slotAclk / 8

/-- The clock plan of a variant. -/
def VariantImage.plan (v : VariantImage) : BitVec 2 := v.clockPlan.truncate 2

/-- The beats a half's body holds: 2B where the other half alone runs at half rate (R134). -/
def VariantImage.halfBeats (v : VariantImage) (h : Half) : Nat :=
  let other : Half := match h with | .west => .east | .east => .west
  if planHalf v.plan other && !planHalf v.plan h then 2 * v.beats else v.beats

/-- Whether the variant is a transfer variant (R453). -/
def VariantImage.transfer (v : VariantImage) : Bool := v.imageId == 0 && v.manifestDigest == 0

/-- The score of a site. -/
def VariantImage.score? (v : VariantImage) (k : Nat) : Option ScoreRec := v.scores.find? (fun r => decide (r.site = k))

/-- The KV cores of a variant with a role (1 decode, 2 sweep), by site number. -/
def VariantImage.kvCores (v : VariantImage) (role : Nat) : List ScoreRec :=
  sortBy (·.site) (v.scores.filter (fun r => decide (siteType r.site = 2 ∧ kvRole r.kvMode = role)))

/-- The KV layout of a variant (R230): every core's role, format, group, frames and head slots, by site number; the query heads that share
a KV head are no part of it. -/
def VariantImage.layout (v : VariantImage) : List (Nat × W64 × List W64) :=
  (sortBy (·.site) (v.scores.filter (fun r => decide (siteType r.site = 2 ∧ kvRole r.kvMode ≠ 0)))).map
    (fun r => (r.site, r.kvMode &&& ~~~(0xF0000#64), r.kvHeads))

/-- The KV format of a variant's decode cores, BF16 where it has none. -/
def VariantImage.kvFormat (v : VariantImage) : Nat :=
  match v.kvCores 1 with
  | r :: _ => kvFmt r.kvMode
  | [] => match v.kvCores 2 with
    | r :: _ => kvFmt r.kvMode
    | [] => 0x09

/-- The decode frames F of a variant: k times the local frames of a core (R200). -/
def VariantImage.decodeFrames (v : VariantImage) : Nat :=
  match v.kvCores 1 with
  | r :: _ => kvK r.kvMode * kvFrames r.kvMode
  | [] => 0

/-- The sweep pages of a variant: the local frames of its sweep cores (R202). -/
def VariantImage.sweepPages (v : VariantImage) : Nat :=
  (v.kvCores 2).foldl (fun a r => a + kvFrames r.kvMode) 0

/-- The decode cover of a core (R196, R212): vectors per ACLK times the shorter window. -/
def VariantImage.cover (v : VariantImage) (m : W64) : Nat :=
  let small := decide (vecBytes (kvFmt m) ≤ 128)
  let few := decide (kvG m ≤ 8)
  (if small && few then 64 else if small || few then 32 else 16) * min v.scoreWindow v.expWindow

/-- The layers of the model as its head slots name them. -/
def VariantImage.layers (v : VariantImage) : Nat :=
  (v.scores.flatMap (fun r => r.kvHeads.map (fun (h : W64) => (h >>> 16).toNat % 256 + 1))).foldl max 0

/-- The KV heads of the model. -/
def VariantImage.kvHeadCount (v : VariantImage) : Nat :=
  (v.scores.flatMap (fun r => r.kvHeads.map (fun (h : W64) => (h >>> 8).toNat % 256 + 1))).foldl max 0

end Sys2Proof

namespace Sys2Proof.Machine

/-! ## Which variants can run -/

/-- The interiors that a variant's base routes cross (R163): those with a router whose score connects something. -/
def crossed (xs : List (Nat × List (Nat × BitVec 32))) : BitVec 128 :=
  xs.foldl (fun (m : BitVec 128) r => if !(onRing r.1) && r.2.any (fun e => e.2 != 0) then m ||| (1#128 <<< siteVale r.1) else m) 0

/-- The cross mask of a gap-route set (R163): of set 0, the use mask and every interior that a base route crosses. -/
def crossMaskOf (v : VariantImage) (set : Nat) : BitVec 128 :=
  if set = 0 then v.useMask ||| crossed (v.scores.map (fun r => (r.site, r.xst))) else v.crossMasks.getD (set - 1) 0

/-- The bank armed with a variant (R159). Where several are, and so perhaps several gap-route sets, the spec does not say which the step
uses: DESIGN CHOICE, the running bank if it is one of them, else the lowest (log entry 68). -/
def State.armedBank (s : State) (slot : Nat) : Option Nat :=
  let ok := fun b => decide ((s.bank b).slot = slot) && ((s.bank b).state == 2 || (s.bank b).state == 3)
  if ok s.eng.bank then some s.eng.bank else (List.range 4).find? ok

/-- The rate causes of a half (CLK_PERMIT). -/
def State.causes (s : State) (h : Half) : BitVec 4 :=
  match h with
  | .west => s.clk.causeW
  | .east => s.clk.causeE

/-- CLK_PERMIT.permit (R427): plan c is permitted when each half with a cause runs at half rate. -/
def State.permit (s : State) : BitVec 4 :=
  let ok := fun (c : BitVec 2) =>
    (s.clk.causeW == 0 || planHalf c .west) && (s.clk.causeE == 0 || planHalf c .east)
  (if ok 0 then 1 else 0) ||| (if ok 1 then 2 else 0) ||| (if ok 2 then 4 else 0) ||| (if ok 3 then 8 else 0)

/-- The vales that count as dark under R161: dark, in emergency, or not yet calibrated (R429, R439). -/
def State.darkFor (s : State) : BitVec 84 := s.pwr.dark ||| s.thm.emerg ||| s.pwr.uncal

/-- The latch check of R161: 0, or the reason of Table 5.14 that fails first. -/
def State.latchReason (s : State) (slot : Nat) : Byte :=
  match s.armedBank slot, (s.var slot).img with
  | some b, some v =>
    let cross := crossMaskOf v (s.bank b).gapSet.toNat
    if (s.var slot).state == 3 then 0x17
    else if (v.useMask ||| cross).truncate 84 &&& s.darkFor != 0 then 0x15
    else if !(s.permit.getLsbD v.plan.toNat) then 0x16
    else 0
  | _, _ => 0x14

/-- The generation slot a variant belongs to, if it holds the variant's image and may run (R158, Table 4.11). -/
def State.genOf (s : State) (v : VariantImage) : Option Bool :=
  [false, true].find? (fun b =>
    let g := s.gen b
    g.imageId == v.imageId && g.digest == v.manifestDigest && (g.state == 3 || g.state == 4 || g.state == 5))

end Sys2Proof.Machine
end

