-- ==== Sys2Proof/Machine/Serving.lean ====
section
/-! DEFINITION. Sequences, frames and admission (chapters 07 and 08): the shared operations behind the actions of a descriptor,
the ends of requests and the boundary. -/

namespace Sys2Proof.Machine

/-! ## Handles and records -/

/-- The handle of a tag and an entry index (R233). -/
def mkHandle (tag : BitVec 16) (i : Nat) : BitVec 32 := tag ++ BitVec.ofNat 16 i

/-- The entry index of a handle: [14:0] (R233). -/
def handleIdx (h : BitVec 32) : Nat := h.toNat % 2 ^ 15

/-- The tag after a tag: 0 is never taken again (R233). -/
def nextTag (t : BitVec 16) : BitVec 16 := if t = 0xFFFF then 1 else t + 1

/-- The current handle of an entry. -/
def State.handleOf (s : State) (i : Nat) : BitVec 32 := mkHandle (s.seq i).tag i

/-- The entry a handle names: its tag must be the entry's current tag (R233). -/
def State.names (s : State) (h : BitVec 32) : Option Nat :=
  if h.getLsbD 15 || (h >>> 16) == 0 then none
  else if (s.seq (handleIdx h)).tag = (h >>> 16).truncate 16 then some (handleIdx h) else none

/-- Whether an entry lies in an owner's range (R233). -/
def PartCfg.hasEntry (c : PartCfg) (i : Nat) : Bool := decide (c.seqBase ≤ i ∧ i < c.seqBase + c.seqCount)

/-- The contents of an output record (Table 8.13). -/
structure Rec where
  handle : BitVec 32 := 0
  lane : Nat := 0xFFFF
  outcome : Byte := 0
  status : Byte := 0
  requestId : W64 := 0
  token : Nat := 0xFFFFFFFF
  position : Nat := 0
  finish : Nat := 0
  cause : BitVec 4 := 0
  ringMember : Bool := false
  wide : Bool := false
  replayed : Bool := false
  queuePos : Nat := 0

/-- The 32 bytes of an output record (Table 8.13). -/
def Rec.bytes (r : Rec) : List Byte :=
  leBytes 4 r.handle.toNat ++ leBytes 2 r.lane ++ [r.outcome, r.status] ++ leBytes 8 r.requestId.toNat ++
  leBytes 4 r.token ++ leBytes 4 (r.position % 2 ^ 23) ++
  [BitVec.ofNat 8 (16 * r.finish + r.cause.toNat),
   BitVec.ofNat 8 ((if r.ringMember then 1 else 0) + (if r.wide then 2 else 0) + (if r.replayed then 4 else 0))] ++
  leBytes 2 r.queuePos ++ leBytes 4 0

/-- An event record added to an owner's next batch (R262). -/
def State.pushEvent (s : State) (p : Nat) (r : Rec) : State :=
  s.updRings p (fun q => { q with events := q.events ++ [r.bytes] })

/-- A status reported for a request outside its lanes (Table 8.12). -/
def State.statusRec (s : State) (p : Nat) (h : BitVec 32) (id : W64) (st : Byte) (q : Nat) : State :=
  s.pushEvent p { handle := h, status := st, requestId := id, queuePos := q }

/-- The counters of Tables 8.14 and 10.8 that a status moves. -/
def State.countStatus (s : State) (p : Nat) (st : Byte) : State :=
  s.updPart p (fun q =>
    if st = 0x13 then { q with endDeadline := satInc q.endDeadline }
    else if st = 0x11 ∨ st = 0x12 then { q with endCancel := satInc q.endCancel }
    else if st = 0x1A then { q with endInvalid := satInc q.endInvalid }
    else if st = 0x19 then { q with fAborted := satInc q.fAborted }
    else if st = 0x15 then { q with refusedQuota := satInc q.refusedQuota }
    else if st = 0x14 then { q with refusedCap := satInc q.refusedCap }
    else if st = 0x02 then { q with delayed := satInc q.delayed }
    else if st = 0x16 then { q with expired := satInc q.expired }
    else if st = 0x06 then { q with fReplayed := satInc q.fReplayed }
    else q)

/-! ## Frames (R200, R203, R214, R227–R229) -/

/-- Whether the machine stands at a step boundary: the step that opened has issued nothing yet. -/
def State.opening (s : State) : Bool := s.running && s.eng.fresh

/-- Whether what may act in a hold may act now: the engine is held, or at a boundary (R32, R33). -/
def State.settled (s : State) : Bool := s.held || s.opening

/-- Whether a retirement waits for the next boundary at a generation slot. -/
def State.retiring (s : State) (b : Bool) : Bool := s.wgt.retireDue.any (fun e => decide (e.1 = 1) == b)

/-- A transition of a generation slot (R116): at once at a boundary and, where no boundary can come, in a hold (log entry 30); otherwise, and
behind a retirement that waits, at the next boundary. -/
def State.moveGen (s : State) (b : Bool) (f : Gen → Gen) : State :=
  if s.settled && !(s.retiring b) then (s.updGen b (fun _ => f (s.pgen b))).setDue b none else s.setDue b (some (f (s.pgen b)))

/-- The step that opens, or last opened, at the boundary or hold the state stands in. -/
def State.openStep (s : State) : W64 :=
  if (s.eng.state == 1 || s.eng.state == 2) && !s.eng.fresh then s.eng.stepNumber + 1 else s.eng.stepNumber

/-- The variant whose frames count: the one the boundary last latched (R200). -/
def State.capImg (s : State) : Option VariantImage := (s.var s.srv.capSlot).img

/-- The decode frames a partition holds, retired ones included (PART_KV_QUOTA.used). -/
def State.usedFrames (s : State) (p : Nat) : Nat :=
  (s.frames.entries {}).countP (fun e => decide (e.2.life ≠ 0 ∧ e.2.partition = p))

/-- The sweep pages a partition holds (PART_KV_SWEEP.used). -/
def State.usedSweep (s : State) (p : Nat) : Nat :=
  (s.sweeps.entries {}).countP (fun e => decide (e.2.life ≠ 0 ∧ e.2.partition = p))

/-- The admission reserve of a partition not yet allocated (PART_ADM_RESERVE). -/
def State.reserveOf (s : State) (p : Nat) : Nat :=
  (s.seqs.entries {}).foldl (fun (a : Nat) e => if e.2.partition = p then a + e.2.reserve else a) 0

/-- free(p) of R250. -/
def State.freeOf (s : State) (p : Nat) : Int := ((s.cfg p).kvQuota : Int) - s.usedFrames p - s.reserveOf p

/-- The pool of R250: the device's frames that nobody holds or reserves. -/
def State.pool (s : State) : Int :=
  let f := match s.capImg with | some v => v.decodeFrames | none => 0
  (f : Int) - (s.frames.entries {}).countP (fun e => decide (e.2.life ≠ 0)) - ((s.seqs.entries {}).foldl (fun (a : Nat) e => a + e.2.reserve) 0 : Nat)

/-- The number of a KV layout among those the device has seen, added when new (R230). -/
def State.layoutId (s : State) (v : VariantImage) : Nat × State :=
  match s.srv.layouts.findIdx? (fun l => decide (l = v.layout)) with
  | some i => (i, s)
  | none => (s.srv.layouts.length, { s with srv := { s.srv with layouts := s.srv.layouts ++ [v.layout] } })

/-- The contract of the generation with a number (R116). -/
def State.contractOf (s : State) (n : W32) : W32 :=
  if s.wgt.genA.number = n then s.wgt.genA.contract else if s.wgt.genB.number = n then s.wgt.genB.contract else 0

/-- A free decode frame taken for page `n` of sequence `i` (R214), from the sequence's admission reserve where it has one. -/
def State.allocFrame (s : State) (i n : Nat) : Option (Nat × State) :=
  let q := s.seq i
  match s.capImg with
  | none => none
  | some v =>
    if q.reserve = 0 ∧ ¬(1 ≤ s.freeOf q.partition ∧ 1 ≤ s.pool) then none
    else match (List.range v.decodeFrames).find? (fun f => decide ((s.frame f).life = 0)) with
      | none => none
      | some f =>
        let l := s.layoutId v
        let fr : KvFrame := {
          life := 1, owner := i, page := n, fmt := BitVec.ofNat 5 v.kvFormat, partition := q.partition, gen := q.gen,
          contract := s.contractOf q.gen, refs := 1, layout := l.1 }
        some (f, (l.2.updFrame f (fun _ => fr)).updSeq i (fun q =>
          { q with frames := (n, f) :: q.frames.filter (fun e => decide (e.1 ≠ n)), reserve := q.reserve - 1, layout := 1 }))

/-- The fill of every frame of its own that a sequence has, from its committed length (R203). -/
def State.setFills (s : State) (i : Nat) : State :=
  let q := s.seq i
  q.frames.foldl (fun (t : State) (e : Nat × Nat) => t.updFrame e.2 (fun f => { f with fill := min 16 (q.length - 16 * e.1) })) s

/-- Frames taken for a list of pages, all of them or none (R220, R255). -/
def State.allocFrames (s : State) (i : Nat) : List Nat → Option State
  | [] => some s
  | n :: ns => match s.allocFrame i n with
    | some (_, t) => State.allocFrames t i ns
    | none => none

/-- The core and local frame of a sweep page: cores in the order of their site numbers (R202). -/
def sweepPlace : List ScoreRec → Nat → Option (Nat × Nat)
  | [], _ => none
  | r :: rs, f => if f < kvFrames r.kvMode then some (r.site, f) else sweepPlace rs (f - kvFrames r.kvMode)

/-- Whether sweep page `f` lies in a core that holds pages of no layer but `l` (R198). -/
def State.sweepFits (s : State) (cores : List ScoreRec) (l f : Nat) : Bool :=
  (s.sweeps.entries {}).all (fun e => e.2.life == 0 || e.2.layer == l ||
    decide ((sweepPlace cores e.1).map (·.1) ≠ (sweepPlace cores f).map (·.1)))

/-- A sweep page taken for page `n` of layer `l`, in a core that holds that layer's pages alone (R198, R215). -/
def State.allocSweep (s : State) (i n l : Nat) : Option State :=
  let q := s.seq i
  match s.capImg with
  | none => none
  | some v =>
    if ¬(s.usedSweep q.partition < (s.cfg q.partition).sweepQuota) then none
    else match (List.range v.sweepPages).find? (fun f => decide ((s.sweepPage f).life = 0) && s.sweepFits (v.kvCores 2) l f) with
      | none => none
      | some f =>
        let k := s.layoutId v
        let fr : KvFrame := {
          life := 1, owner := i, page := n, layer := l, fmt := BitVec.ofNat 5 v.kvFormat, partition := q.partition,
          gen := q.gen, contract := s.contractOf q.gen, refs := 1, layout := k.1 }
        some ((k.2.updSweep f (fun _ => fr)).updSeq i (fun q => { q with sweep := q.sweep ++ [(n, l, f)], layout := 2 }))

/-- Sweep pages taken for every layer of a page index, all of them or none. -/
def State.allocSweeps (s : State) (i n : Nat) : List Nat → Option State
  | [] => some s
  | l :: ls => match s.allocSweep i n l with
    | some t => State.allocSweeps t i n ls
    | none => none

/-- A reference to a decode frame dropped; at zero the frame is retired at this boundary (R227, R229). -/
def State.dropRef (s : State) (f : Nat) : State :=
  s.updFrame f (fun r =>
    if r.refs ≤ 1 then { r with refs := 0, life := 2, retiredAt := s.openStep } else { r with refs := r.refs - 1 })

/-- A sweep page retired (R229). -/
def State.retireSweep (s : State) (f : Nat) : State :=
  s.updSweep f (fun r => { r with refs := 0, life := 2, retiredAt := s.openStep })

/-- The frames of its prefix that a sequence reads: those of pages it has, or had when it was parked, no frame of its own for
(R226, R231). -/
def State.prefixReads (s : State) (q : Seq) : List (Nat × Nat) :=
  match q.pfxOf with
  | none => []
  | some x => (s.seq x).frames.filter (fun e => !(q.frames.any (fun o => decide (o.1 = e.1))) && !(q.parkPages.contains e.1))

/-- The frame a sequence reads for a page index: its own, otherwise the prefix's (R226). -/
def State.frameOf (s : State) (q : Seq) (n : Nat) : Option Nat :=
  match q.frames.find? (fun e => decide (e.1 = n)) with
  | some e => some e.2
  | none => ((s.prefixReads q).find? (fun e => decide (e.1 = n))).map (·.2)

/-- A prefix entry whose handle is dropped and whose last frame is retired becomes FREE (R226). -/
def State.freePrefix (s : State) (x : Nat) : State :=
  let q := s.seq x
  if q.state = 7 ∧ q.handleHeld = false ∧ q.frames.all (fun e => decide ((s.frame e.2).refs = 0)) then
    s.updSeq x (fun _ => { tag := q.tag, status := q.status })
  else s

/-- Every reference and page of a sequence released (R227, R248): frames of both layouts, and the prefix's. -/
def State.releaseFrames (s : State) (i : Nat) : State :=
  let q := s.seq i
  let s1 := q.frames.foldl (fun t e => t.dropRef e.2) s
  let s2 := (s.prefixReads q).foldl (fun t e => t.dropRef e.2) s1
  let s3 := q.sweep.foldl (fun t e => t.retireSweep e.2.2) s2
  let s4 := s3.updSeq i (fun q => { q with frames := [], sweep := [], pfxOf := none, layout := 0 })
  let s5 := { s4 with srv := { s4.srv with reshards := s4.srv.reshards.filter (fun r => decide (r.idx ≠ i)) } }
  match q.pfxOf with
  | some x => s5.freePrefix x
  | none => s5

/-! ## Queues -/

/-- The queued entries of an owner, first in first (R251). -/
def State.queueOf (s : State) (p : Nat) : List Nat :=
  (sortBy (fun e => e.2.queueOrder) ((s.seqs.entries {}).filter (fun e => decide (e.2.state = 1 ∧ e.2.partition = p)))).map (·.1)

/-- SEQ_STATUS.queue_pos kept for an owner's queue (R251). -/
def State.renumber (s : State) (p : Nat) : State :=
  (s.queueOf p).zipIdx.foldl (fun t e => t.updSeq e.1 (fun q => { q with queuePos := e.2 + 1 })) s

/-! ## Ends (R248) -/

/-- A sequence ends under a status at this boundary (R248): its references, adapter reference, claim, queue place, reserve and
warm pages go, and its entry is FREE. The status is reported in an event record unless a lane's record carries it. -/
def State.endSeq (s : State) (i : Nat) (st : Byte) (inLane : Bool) : State :=
  let q := s.seq i
  let h := s.handleOf i
  let s1 := if inLane then s else s.statusRec q.partition h q.req.requestId st 0
  let s2 := (s1.releaseFrames i).countStatus q.partition (if st = 0x16 then 0 else st)
  let s3 := if q.adpBound then s2.updAdp q.adpSlot.toNat (fun a => { a with refs := a.refs - 1 }) else s2
  let s4 := { s3 with srv := { s3.srv with endedNow := h :: s3.srv.endedNow } }
  let s5 := s4.updSeq i (fun _ => { tag := q.tag, status := st })
  if q.state = 1 then s5.renumber q.partition else s5

/-! ## Requests by position (R237, R241, R364) -/

/-- The pending request at a ring position; an output-blocked author has none (R364). -/
def State.pendingReq (s : State) (p : Nat) (pos : W32) : Option PendReq :=
  if (s.part p).rings.blocked then none
  else (s.part p).rings.reqs.find? (fun r => r.pending && decide (r.pos = pos))

/-- A request consumed (R237). -/
def State.consume (s : State) (p : Nat) (pos : W32) : State :=
  s.updRings p (fun q => { q with reqs := q.reqs.filter (fun r => !(r.pending && decide (r.pos = pos))), consumed := q.consumed + 1 })

/-- Bytes of a mask of the live or pinned generation (R259). -/
def maskBytes (vocab : Nat) : Nat := (vocab + 7) / 8

/-- The vocabulary of the generation with a number. -/
def State.vocabOf (s : State) (n : W32) : Nat :=
  if s.wgt.genA.number = n then s.wgt.genA.vocab else if s.wgt.genB.number = n then s.wgt.genB.vocab else 0

/-- The generation the pointer names (R119). -/
def State.liveGen (s : State) : Option (Bool × Gen) :=
  if s.wgt.ptrValid then some (s.wgt.liveSlot, s.gen s.wgt.liveSlot) else none

/-- Whether an install waits for its drain or holds the engine (R250, Table 4.13: phase 2, or a rolling rewrite programming). -/
def State.installBlocks (s : State) : Bool :=
  s.wgt.phase == 2 || ((s.wgt.phase == 3 || s.wgt.phase == 4) && (match s.wgt.install with | some i => i.roll | none => false))

/-- x ≤ y of two finite FP32 values. -/
def f32le (x y : W32) : Bool := !(f32lt y x)

/-- R238: an ADMIT is invalid. -/
def State.admitInvalid (s : State) (p : Nat) (r : Request) : Bool :=
  let vocab := match s.liveGen with | some g => g.2.vocab | none => 0
  decide (r.count = 0 ∨ 2 ^ 22 ≤ r.count) || !(decide (r.cls = 1 ∨ r.cls = 2 ∨ r.cls = 3)) ||
  !(finite32 r.temperature) || f32lt r.temperature 0 ||
  !(finite32 r.topP) || f32le r.topP 0 || f32lt 0x3F800000 r.topP ||
  !(finite32 r.minP) || f32lt r.minP 0 || f32le 0x3F800000 r.minP ||
  !(finite32 r.repPenalty) || f32lt r.repPenalty 0x3F800000 ||
  decide (4096 < r.repWindow ∨ 1024 < r.topK) ||
  decide (r.ringSize = 1 ∨ 64 < r.ringSize ∨ (2 ≤ r.ringSize ∧ r.ringSize ≤ r.ringIndex) ∨ (r.ringSize = 0 ∧ r.ringIndex ≠ 0)) ||
  !(s.inReach p r.promptAddr (4 * r.count)) ||
  (r.flags.getLsbD 1 && !(s.inReach p r.maskAddr (maskBytes vocab))) ||
  !r.reservedZero

/-- The decode frames an admission needs (R250), less the pages an attached prefix supplies. -/
def admitNeed (count prefixPages : Nat) : Nat := (count + 1 + 15) / 16 - prefixPages

/-- The frames check of R206 over (format, generation, contract) of every frame a sequence will read. -/
def State.framesCheck (s : State) (p : Nat) (gen contract : W32) (fs : List (Nat × W32 × W32)) : Option Byte :=
  let c := s.cfg p
  if !(fs.all (fun f => decide (c.minKeyRank ≤ kvRank f.1) && widenable f.1 c.queryFmt.toNat)) then some 0x18
  else if !(fs.all (fun f => decide (f.2.1 = gen) || (decide (f.2.2 = contract) && c.allowRegen))) then some 0x17
  else none

/-- What R206 tests of a list of decode frames. -/
def State.frameFacts (s : State) (fs : List Nat) : List (Nat × W32 × W32) :=
  fs.map (fun f => ((s.frame f).fmt.toNat, (s.frame f).gen, (s.frame f).contract))

/-- What R206 tests of a sequence: its own frames, sweep pages and prefix frames. -/
def State.seqFacts (s : State) (q : Seq) : List (Nat × W32 × W32) :=
  s.frameFacts (q.frames.map (·.2) ++ (s.prefixReads q).map (·.2)) ++
  q.sweep.map (fun e => ((s.sweepPage e.2.2).fmt.toNat, (s.sweepPage e.2.2).gen, (s.sweepPage e.2.2).contract))

/-! ## Parking (R252, R253) -/

/-- The bytes one page index of every layer takes in canonical form (R204). -/
def State.canonBytes (s : State) (fmt : Nat) : Nat :=
  match s.capImg with
  | some v => v.layers * v.kvHeadCount * sliceBytes fmt
  | none => 0

/-- The own page indices of a sequence, each once. -/
def Seq.pages (q : Seq) : List Nat := (q.frames.map (·.1) ++ q.sweep.map (·.1)).eraseDups

/-- The bytes a park of a sequence needs (R253). -/
def State.parkNeed (s : State) (q : Seq) : Nat :=
  q.pages.length * s.canonBytes (match q.frames, q.sweep with
    | e :: _, _ => (s.frame e.2).fmt.toNat
    | [], e :: _ => (s.sweepPage e.2.2).fmt.toNat
    | [], [] => 0x09) + 4096

/-- The bytes the PARKING and PARKED warm sequences of an owner hold. -/
def State.parkHeld (s : State) (p : Nat) : Nat :=
  (s.seqs.entries {}).foldl (fun a e =>
    if e.2.partition = p ∧ e.2.tier = 1 ∧ (e.2.state = 3 ∨ e.2.state = 4 ∨ e.2.state = 5) then a + e.2.parkBytes else a) 0

/-- The tier a park takes (R253): warm, or cold where the request allows it and the warm area is full; `extra` is what parks
chosen before it in the same admission take. -/
def State.parkTier (s : State) (q : Seq) (coldOk : Bool) (extra : Nat) : Option (BitVec 2) :=
  if s.parkNeed q + s.parkHeld q.partition + extra ≤ (s.cfg q.partition).parkArea.2 then some 1
  else if coldOk && (s.part q.partition).egressKey.isSome then some 2
  else none

/-- The cores that hold decode frame `f` and its local frame there (R198, R200). -/
def framePlaces (v : VariantImage) (f : Nat) : List (Nat × Nat) :=
  ((v.kvCores 1).filter (fun r => decide (f % kvK r.kvMode = kvGidx r.kvMode))).map (fun r => (r.site, f / kvK r.kvMode))

/-- The (core, local frame) pairs that hold a sequence's own pages (R198, R202). -/
def State.pagePlaces (s : State) (q : Seq) : List (Nat × Nat) :=
  match s.capImg with
  | none => []
  | some v =>
    q.frames.flatMap (fun e => framePlaces v e.2) ++ q.sweep.filterMap (fun e => sweepPlace (v.kvCores 2) e.2.2)

/-- A park resolved (R253): the sequence leaves the lanes and its page-outs wait for its tokens in flight. A re-shard it had
pending is given up with the decode frames taken for it (log entry 14). -/
def State.parkSeq (s : State) (i : Nat) (tier : BitVec 2) (ttl : Nat) (pre : Bool) : State :=
  let moving := s.srv.reshards.any (fun r => decide (r.idx = i))
  let s0 := if moving then
      let t := (s.seq i).frames.foldl (fun (u : State) (e : Nat × Nat) => u.dropRef e.2) s
      let t := t.updSeq i (fun q => { q with frames := [] })
      { t with srv := { t.srv with reshards := t.srv.reshards.filter (fun r => decide (r.idx ≠ i)) } }
    else s
  let q := s0.seq i
  let bytes := s0.parkNeed q
  let places := s0.pagePlaces q
  s0.updSeq i (fun q => { q with
    state := 3, tier := tier, ttl := ttl, preempted := pre, parkBytes := bytes, parkPages := q.pages,
    parkFmt := (match q.frames, q.sweep with
      | e :: _, _ => (s0.frame e.2).fmt
      | [], e :: _ => (s0.sweepPage e.2.2).fmt
      | [], [] => 0x09),
    parkGen := q.gen, pagesLeft := places, parkCtr := 0, deferred := none })

/-- The active OPPORTUNISTIC sequences of an owner, most recently admitted first (R252). -/
def State.opportunistic (s : State) (p : Nat) : List Nat :=
  ((sortBy (fun e => e.2.admitOrder) ((s.seqs.entries {}).filter (fun e =>
    decide (e.2.state = 2 ∧ e.2.partition = p ∧ e.2.cls = 3)))).map (·.1)).reverse

/-- The parks that would make free(p) at least n (R252): each with its tier, or none when they cannot. `got` is what those chosen
release, `room` what they take of the warm area. -/
def State.preemptPlan (s : State) (n : Int) (free : Int) :
    List Nat → Int → Nat → List (Nat × BitVec 2) → Option (List (Nat × BitVec 2) × Int)
  | [], got, _, acc => if n ≤ free + got then some (acc.reverse, got) else none
  | i :: is, got, room, acc =>
    if n ≤ free + got then some (acc.reverse, got)
    else
      let q := s.seq i
      match s.parkTier q (q.req.flags.getLsbD 0) room with
      | some t => State.preemptPlan s n free is (got + q.frames.length) (if t = 1 then room + s.parkNeed q else room) ((i, t) :: acc)
      | none => State.preemptPlan s n free is got room acc

/-- Preemption for an admission (R252): the state after it and the frames that count as released. -/
def State.preempt (s : State) (p : Nat) (n : Nat) : State × Int :=
  if (n : Int) ≤ s.freeOf p then (s, 0)
  else match s.preemptPlan n (s.freeOf p) (s.opportunistic p) 0 0 [] with
    | none => (s, 0)
    | some (l, got) =>
      (l.foldl (fun (t : State) e => (t.parkSeq e.1 e.2 (s.cfg p).defaultTtl true).updPart p
        (fun q => { q with preempted := satInc q.preempted })) s, got)

/-! ## Admission (R250, R251) -/

/-- What an admission comes to. -/
inductive AdmitRes
  | done (status : Byte)
  | queue
  deriving DecidableEq, Repr

/-- Sequences of a class not ended (PART_ADM_STATE). -/
def State.activeOf (s : State) (p : Nat) (c : BitVec 2) : Nat :=
  (s.seqs.entries {}).countP (fun e => decide (e.2.partition = p ∧ e.2.cls = c ∧ 2 ≤ e.2.state.toNat ∧ e.2.state.toNat ≤ 5))

/-- The generation, adapter and prefix tests of an admission (R119, R129, R206): none, or the status it ends with. -/
def State.bindCheck (s : State) (p : Nat) (r : Request) (pfx : Option Nat) (g : Gen) : Option Byte :=
  let c := s.cfg p
  let a := s.adp r.adapter.toNat
  if r.adapter ≠ 0xFFFF ∧ ¬(a.state = 2 ∧ c.adpBase ≤ r.adapter.toNat ∧ r.adapter.toNat < c.adpBase + c.adpCount
      ∧ a.contract = g.contract) then some 0x18
  else match pfx with
    | none => none
    | some x => s.framesCheck p g.number g.contract (s.frameFacts ((s.seq x).frames.map (·.2)))

/-- The sequence an admission creates in entry `i` (R235, R250). -/
def State.createSeq (s : State) (p : Nat) (rq : PendReq) (i : Nat) (tag : BitVec 16) (pfx : Option Nat) (slot : Bool) (g : Gen)
    (n : Nat) : State :=
  let r := rq.req
  let q : Seq := {
    tag := tag, state := 2, partition := p, cls := r.cls.truncate 2, genSlot := slot, gen := g.number, contract := g.contract,
    adpBound := decide (r.adapter ≠ 0xFFFF), adpSlot := r.adapter.truncate 10, status := 1, req := r,
    promptAt := rq.prompt, maskOn := r.flags.getLsbD 1, maskAddr := r.maskAddr,
    reserve := n, pinned := true, ringPos := rq.pos, admitOrder := s.srv.admitSeq,
    pfxOf := pfx,
    length := (match pfx with | some x => (s.seq x).length | none => 0),
    layout := (if pfx.isSome then 1 else 0) }
  let s1 := s.updSeq i (fun _ => q)
  let s2 := match pfx with
    | some x => (s.seq x).frames.foldl (fun (t : State) (e : Nat × Nat) => t.updFrame e.2 (fun f => { f with refs := f.refs + 1 })) s1
    | none => s1
  let s3 := if r.adapter ≠ 0xFFFF then s2.updAdp r.adapter.toNat (fun a => { a with refs := a.refs + 1 }) else s2
  { s3 with srv := { s3.srv with admitSeq := s3.srv.admitSeq + 1 } }

/-- R250 for a request and the entry and tag it takes: the state after it and what it comes to. -/
def State.admitCore (s : State) (p : Nat) (rq : PendReq) (i : Nat) (tag : BitVec 16) (pfx : Option Nat) : State × AdmitRes :=
  let r := rq.req
  if s.admitInvalid p r then (s, .done 0x1A)
  else match s.liveGen with
    | none => (s, if r.cls = 2 then .queue else .done 0x14)
    | some (slot, g) =>
      if s.installBlocks then (s, if r.cls = 2 then .queue else .done 0x14)
      else if r.cls = 1 ∧ s.activeOf p 1 = (s.cfg p).resCount then (s, .done 0x15)
      else
        let n := admitNeed r.count (match pfx with | some x => (s.seq x).frames.length | none => 0)
        let pr := if r.cls = 3 then (s, (0 : Int)) else s.preempt p n
        let t := pr.1
        if (n : Int) ≤ t.freeOf p + pr.2 ∧ (n : Int) ≤ t.pool + pr.2 then
          match t.bindCheck p r pfx g with
          | some st => (t, .done st)
          | none => (t.createSeq p rq i tag pfx slot g n, .done 0x01)
        else if r.cls = 2 then (t, .queue)
        else (t, .done (if t.freeOf p + pr.2 < (n : Int) then 0x15 else 0x14))

/-- A request queued (R251), or refused where the queue is full. -/
def State.enqueue (s : State) (p : Nat) (rq : PendReq) (i : Nat) (tag : BitVec 16) : State :=
  if (s.cfg p).queueLimit ≤ (s.queueOf p).length then
    (s.statusRec p (mkHandle tag i) rq.req.requestId 0x15 0).countStatus p 0x15
  else
    let q : Seq := {
      tag := tag, state := 1, partition := p, cls := rq.req.cls.truncate 2, status := 2, req := rq.req, promptAt := rq.prompt,
      ringPos := rq.pos, queueOrder := s.srv.queueSeq }
    let s1 := (s.updSeq i (fun _ => q)).renumber p
    let s2 := { s1 with srv := { s1.srv with queueSeq := s1.srv.queueSeq + 1 } }
    (s2.statusRec p (mkHandle tag i) rq.req.requestId 0x02 (s2.seq i).queuePos).countStatus p 0x02

/-- An admission reported (R250): the sequence created, queued or refused. -/
def State.admitReport (p : Nat) (rq : PendReq) (i : Nat) (tag : BitVec 16) (r : State × AdmitRes) : State :=
  match r.2 with
  | .done st => (r.1.statusRec p (mkHandle tag i) rq.req.requestId st 0).countStatus p st
  | .queue => r.1.enqueue p rq i tag

/-- The prefix a request names, while its handle is held and it lies in the owner's range (R226, R241). -/
def State.prefixNamed (s : State) (p : Nat) (h : BitVec 32) : Option Nat :=
  match s.names h with
  | some x => if (s.seq x).state = 7 ∧ (s.seq x).handleHeld ∧ (s.cfg p).hasEntry x then some x else none
  | none => none

/-- The head of an owner's queue admitted if R250 lets it; none where it must wait. A queued ATTACH whose prefix is gone ends
INVALID (log entry 13). -/
def State.admitHead (s : State) (p : Nat) : Option State :=
  if (s.part p).rings.blocked then none
  else match s.queueOf p with
    | [] => none
    | i :: _ =>
      let q := s.seq i
      let rq : PendReq := { pos := q.ringPos, req := q.req, pending := true, prompt := q.promptAt }
      let pfx := if q.req.flags.getLsbD 2 then s.prefixNamed p q.req.pfx else none
      let r := if q.req.flags.getLsbD 2 && pfx.isNone then (s, AdmitRes.done 0x1A) else s.admitCore p rq i q.tag pfx
      match r with
      | (_, .queue) => none
      | (t, .done st) =>
        let t1 := (t.statusRec p (mkHandle q.tag i) q.req.requestId st 0).countStatus p st
        let t2 := if st = 0x01 then t1 else t1.updSeq i (fun _ => { tag := q.tag, status := st })
        some ((t2.updPart p (fun a => { a with queueAdmits := a.queueAdmits + 1 })).renumber p)

/-- The owners with a queue, by admitted-from-queue count over weight, lower number first on ties (R251). The key is the
cross-multiplied order, found by insertion. -/
def State.queueOrder (s : State) : List Nat :=
  (owners.filter (fun p => !(s.queueOf p).isEmpty)).foldl (fun acc p => ins acc p) []
where
  le (a b : Nat) : Bool := decide ((s.part a).queueAdmits * (s.cfg b).weight ≤ (s.part b).queueAdmits * (s.cfg a).weight)
  ins (l : List Nat) (p : Nat) : List Nat := l.takeWhile (fun a => le a p) ++ p :: l.dropWhile (fun a => le a p)

/-- Queue heads admitted until none fits (R251). -/
def State.admitQueues : Nat → State → State
  | 0, s => s
  | fuel + 1, s => match s.queueOrder.findSome? (fun p => s.admitHead p) with
    | some t => State.admitQueues fuel t
    | none => s

end Sys2Proof.Machine
end

