-- ==== Sys2Proof/Machine/Rings.lean ====
section
/-! DEFINITION. The rings (R359–R368): request records and their fetch, notices, descriptor entries, output batches and the spill;
and the three commands that concern them. -/

namespace Sys2Proof.Machine

/-- The bytes of a list from an offset, as a number (R71). -/
def leAt (bs : List Byte) (o n : Nat) : Nat := ofLE ((bs.drop o).take n)

/-! ## Request records (Table 8.2) -/

/-- A request record as the device reads it. -/
def parseRequest (bs : List Byte) : Request :=
  { kind := bs.getD 0 0, cls := bs.getD 1 0, flags := BitVec.ofNat 16 (leAt bs 2 2), handle := BitVec.ofNat 32 (leAt bs 4 4),
    requestId := BitVec.ofNat 64 (leAt bs 8 8), deadline := BitVec.ofNat 64 (leAt bs 16 8), count := leAt bs 24 4,
    limit := leAt bs 28 4, promptAddr := leAt bs 32 8, seed := BitVec.ofNat 64 (leAt bs 40 8),
    pfx := BitVec.ofNat 32 (leAt bs 48 4), adapter := BitVec.ofNat 16 (leAt bs 52 2), topK := leAt bs 54 2,
    temperature := BitVec.ofNat 32 (leAt bs 56 4), topP := BitVec.ofNat 32 (leAt bs 60 4), minP := BitVec.ofNat 32 (leAt bs 64 4),
    repPenalty := BitVec.ofNat 32 (leAt bs 68 4), repWindow := leAt bs 72 2, ringSize := leAt bs 74 1, ringIndex := leAt bs 75 1,
    maskAddr := leAt bs 80 8,
    stop := (List.range 4).map (fun i => BitVec.ofNat 32 (leAt bs (88 + 4 * i) 4)),
    reservedZero := decide (leAt bs 2 2 / 8 = 0 ∧ leAt bs 76 4 = 0 ∧ leAt bs 104 24 = 0),
    header := bs.take 32 }

/-- The enabled entries of a ring: 2^k. -/
def ringLen (k : BitVec 5) : Nat := 2 ^ k.toNat

/-- Requests an author holds pending. -/
def Rings.pendCount (q : Rings) : Nat := q.reqs.countP (fun r => r.pending)

/-- The prompt copies an owner's request area holds (R362): of its requests and of its sequences. -/
def State.promptsOf (s : State) (p : Nat) : List (Nat × Nat) :=
  (s.part p).rings.reqs.filterMap (·.prompt) ++
  (s.seqs.entries {}).filterMap (fun e => if e.2.partition = p then e.2.promptAt else none)

/-- Whether two ranges meet. -/
def overlaps (a b : Nat × Nat) : Bool := decide (max a.1 b.1 < min (a.1 + a.2) (b.1 + b.2))

/-- A place for a prompt of `n` bytes in an owner's request area, the lowest that is free (log entry 12). -/
def State.promptPlace (s : State) (p n : Nat) : Option Nat :=
  let area := (s.cfg p).reqArea
  let used := s.promptsOf p
  ((area.1 :: used.map (fun u => u.1 + u.2)).filter (fun a =>
    decide (area.1 ≤ a ∧ a + n ≤ area.1 + area.2) && used.all (fun u => !(overlaps (a, n) u)))).foldl
    (fun best a => match best with | none => some a | some b => some (min a b)) none

/-- Whether the notice ring has room; a disabled ring has none (R363, log entry 12). -/
def State.noticeRoom (s : State) : Bool :=
  s.hif.notEnable && decide ((s.hif.notTail - s.hif.notHead).toNat < ringLen s.hif.notLog2)

/-- A notice written for a request that became pending (R363). -/
def State.notice (s : State) (p : Nat) (r : PendReq) : State :=
  let n := ringLen s.hif.notLog2
  let t := s.hif.notTail.toNat
  let phase := 1 - t / n % 2
  let bs := r.req.header ++ [BitVec.ofNat 8 p, BitVec.ofNat 8 phase] ++ leBytes 2 0 ++ leBytes 4 r.pos.toNat ++
    leBytes 8 s.time.toNat ++ List.replicate 16 0
  let s1 := { s with
    host := s.host.writeBytes (s.hif.notBase.toNat + 64 * (t % n)) bs
    hif := { s.hif with notTail := s.hif.notTail + 1 } }
  if s.hif.notIrq ≠ 0 ∧ (t + 1) % s.hif.notIrq.toNat = 0 then s1.irq 0 3 else s1

/-- The function whose vectors an owner's rings fire. -/
def ownerFn (p : Nat) : Nat := if p < 16 then p + 1 else 0

/-- The record at the head of an owner's request ring (R361). -/
def State.headRequest (s : State) (p : Nat) : Request :=
  let q := (s.part p).rings
  parseRequest (s.host.readBytes (q.rqBase.toNat + 128 * (q.rqHead.toNat % ringLen q.rqLog2)) 128)

/-- Whether the device may fetch the next record of an author (R361, R362): records waiting, ring enabled, fewer than 1,024
pending, and room for the prompt where the record has one that can ever fit. -/
def State.mayFetch (s : State) (p : Nat) : Bool :=
  let q := (s.part p).rings
  q.rqEnable && q.rqTail != q.rqHead && decide (q.reqs.length < 1024) &&
  (let r := s.headRequest p
   r.kind != 1 || decide ((s.cfg p).reqArea.2 < 4 * r.count) || !(s.inReach p r.promptAddr (4 * r.count)) ||
   (s.promptPlace p (4 * r.count)).isSome)

/-- The author served next: round-robin over those with a record that may be fetched (R361). -/
def State.nextAuthor (s : State) : Option Nat :=
  let i := s.hif.nextOwner
  ((owners.drop i) ++ (owners.take i)).find? (fun p => s.mayFetch p)

/-- One record fetched from an author's ring (R361, R362). -/
def State.fetchOne (s : State) (p : Nat) : State :=
  let q := (s.part p).rings
  let r := s.headRequest p
  let n := 4 * r.count
  let s1 := s.updRings p (fun q => { q with rqHead := q.rqHead + 1 })
  let s2 := if p < 16 then s1.irq (ownerFn p) 2 else s1
  let s3 := { s2 with hif := { s2.hif with nextOwner := (owners.idxOf p + 1) % 17 } }
  if r.kind = 1 then
    if (s.cfg p).reqArea.2 < n ∨ !(s.inReach p r.promptAddr n) then
      ((s3.updRings p (fun q => { q with consumed := q.consumed + 1 })).statusRec p r.handle r.requestId 0x1A 0).countStatus p 0x1A
    else
      let e : PendReq := { pos := q.rqHead, req := r, pending := false, prompt := (s.promptPlace p n).map (fun a => (a, n)) }
      s3.updRings p (fun q => { q with reqs := q.reqs ++ [e] })
  else
    let e : PendReq := { pos := q.rqHead, req := r, pending := true, prompt := none }
    (s3.updRings p (fun q => { q with reqs := q.reqs ++ [e] })).notice p e

/-- REQUEST_FETCH: the next record round-robin, or a completion error that disables the ring (R361–R363, R383). -/
def execRequestFetch (completionError : Bool) (s : State) : Out :=
  act { host := true, parts := true, hif := true } (fun s =>
    if !s.noticeRoom then s
    else match s.nextAuthor with
      | none => s
      | some p =>
        if completionError then s.updRings p (fun q => { q with rqEnable := false, rqHostErr := true })
        else s.fetchOne p) s

/-- A fetched request whose prompt copy is complete becomes pending, and its notice is written (R362, R363). -/
def State.makePending (s : State) (p : Nat) (r : PendReq) : State :=
  let s1 := match r.prompt with
    | some (a, n) => s.wrBytes a (s.rdBytes r.req.promptAddr n)
    | none => s
  let s2 := s1.updRings p (fun q => { q with reqs := q.reqs.map (fun e => if e.pos = r.pos then { e with pending := true } else e) })
  s2.notice p { r with pending := true }

/-- REQUEST_PENDING: the oldest fetched request of an author whose prompt is being copied becomes pending (R362). -/
def execRequestPending (owner : Nat) (s : State) : Out :=
  act { mem := true, host := true, poison := true, parts := true, hif := true } (fun s =>
    match (s.part owner).rings.reqs.find? (fun r => !r.pending) with
    | none => s
    | some r => s.makePending owner r) s

/-! ## Descriptor entries (R239, R360) -/

/-- A descriptor entry as it stands when fetched (Tables 8.4 to 8.6); `at_` reads one number of the entry. -/
def parseDesc (pos : W32) (inTime : W64) (at_ : Nat → Nat → Nat) : RawDesc :=
  let lanes := at_ 0x0A 2
  let chunks := at_ 0x0C 2
  let actions := at_ 0x0E 2
  let le := (List.range (min lanes 4096)).map (fun j => BitVec.ofNat 64 (at_ (0x40 + 8 * j) 8))
  let co := 0x40 + 8 * lanes
  let ce := (List.range (min chunks 1024)).map (fun j => BitVec.ofNat 64 (at_ (co + 8 * j) 8))
  let ao := co + 8 * chunks
  let ae := (List.range (min actions 1024)).map (fun j =>
    let o := ao + 16 * j
    (BitVec.ofNat 8 (at_ o 1),
     ({ partition := at_ (o + 1) 1, ringPos := BitVec.ofNat 32 (at_ (o + 4) 4), handle := BitVec.ofNat 32 (at_ (o + 8) 4) } : ActionEntry)))
  let badAct := (List.range (min actions 1024)).any (fun j =>
    let o := ao + 16 * j
    let k := at_ o 1
    let p := at_ (o + 1) 1
    decide (k = 0 ∨ 9 < k ∨ (16 ≤ p ∧ p ≠ 31) ∨ at_ (o + 2) 2 ≠ 0 ∨ at_ (o + 12) 4 ≠ 0))
  let badLane := le.any (fun (w : W64) => decide (w.toNat % 2 ^ 29 ≠ 0 ∨ 3 < w.toNat / 2 ^ 29 % 8))
  let badChunk := ce.any (fun (w : W64) => decide (w.toNat % 8 ≠ 0))
  { pos := pos, inTime := inTime, step := BitVec.ofNat 64 (at_ 0 8), variant := at_ 8 1, laneCount := lanes,
    chunkCount := chunks, actionCount := actions, lanes := le, chunks := ce, actions := ae,
    badCode := badAct || badLane || badChunk ||
      decide (at_ 9 1 ≠ 0 ∨ 63 < at_ 8 1 ∨ at_ 0x10 48 ≠ 0) }

/-- The entries announced and not yet fetched, read in order; `n` is the first step they are in time for (R240, R360). -/
def State.fetchDescs (s : State) (n : W64) : Nat → State
  | 0 => s
  | fuel + 1 =>
    if !s.hif.descEnable || s.srv.fetchedTo = s.hif.descTail then s
    else
      let pos := s.srv.fetchedTo
      let base := s.hif.descBase.toNat * 65536 + 65536 * (pos.toNat % s.hif.descEntries.toNat)
      let d := parseDesc pos n (fun o k => s.mem.readLE (base + o) k)
      State.fetchDescs { s with srv := { s.srv with fetched := s.srv.fetched ++ [d], fetchedTo := pos + 1 } } n fuel

/-- An entry latched or discarded: it leaves the fetched ones and DESC_HEAD counts it (R360). -/
def State.dropDesc (s : State) (d : RawDesc) : State :=
  ({ s with
    srv := { s.srv with fetched := s.srv.fetched.filter (fun e => decide (e.pos ≠ d.pos)) }
    hif := { s.hif with descHead := d.pos + 1 } }).irq 0 5

/-! ## Batches (R262, R264–R367) -/

/-- The 32-byte batch header (R262). -/
def batchHeader (step t : W64) (count p : Nat) (flags reason : Byte) : List Byte :=
  leBytes 8 step.toNat ++ leBytes 8 t.toNat ++ leBytes 2 count ++ [BitVec.ofNat 8 p, flags, reason] ++ List.replicate 11 0

/-- The successive batches of one step for one owner: at most 1,023 records each (R262). -/
def batchesOf (step t : W64) (p : Nat) (flags reason : Byte) (recs : List (List Byte)) : List (List Byte) :=
  let parts := if recs.isEmpty then [[]] else chunksOf 1023 (recs.length / 1023 + 1) recs
  let parts := parts.filter (fun l => recs.isEmpty || !l.isEmpty)
  parts.zipIdx.map (fun e =>
    let fl := if e.2 + 1 < parts.length then flags ||| 8#8 else flags
    batchHeader step t e.1.length p fl reason ++ e.1.flatten)

/-- The bytes an owner's spill holds. -/
def Rings.spillBytes (q : Rings) : Nat := q.spill.foldl (fun (a : Nat) b => a + b.length) 0

/-- Whether a batch fits in an owner's live ring (R365). -/
def Rings.fits (q : Rings) (n : Nat) : Bool :=
  q.outLive && decide (n + (q.outTail - q.outHead).toNat ≤ ringLen q.outLog2)

/-- One batch written to an owner's host ring, its tail written back and its vector fired (R365, R369). -/
def State.ringWrite (s : State) (p : Nat) (b : List Byte) : State :=
  let q := (s.part p).rings
  let len := ringLen q.outLog2
  let t0 := q.outTail.toNat % len
  let first := b.take (len - t0)
  let t1 := q.outTail + BitVec.ofNat 64 b.length
  let h1 := s.host.writeBytes (q.outBase.toNat + t0) first
  let h2 := h1.writeBytes q.outBase.toNat (b.drop (len - t0))
  let h3 := h2.writeLE q.outWb.toNat 8 t1.toNat
  let n := q.batches + 1
  let s1 := ({ s with host := h3 }).updRings p (fun q => { q with outTail := t1, batches := n, lastBatch := b })
  if q.irqEvery ≠ 0 ∧ n % q.irqEvery.toNat = 0 then s1.irq (ownerFn p) (if p < 16 then 1 else 2) else s1

/-- An owner's spill drained into its ring, oldest first, while batches fit (R366). -/
def State.drain (s : State) (p : Nat) : Nat → State
  | 0 => s
  | fuel + 1 => match (s.part p).rings.spill with
    | [] => s
    | b :: bs =>
      if (s.part p).rings.fits b.length then
        State.drain ((s.ringWrite p b).updRings p (fun q => { q with spill := bs })) p fuel
      else s

/-- One batch delivered: to the ring when nothing is spilled before it and it fits, otherwise to the spill (R366, R367). -/
def State.putBatch (s : State) (p : Nat) (b : List Byte) : State :=
  let q := (s.part p).rings
  if q.spill.isEmpty && q.fits b.length then s.ringWrite p b
  else s.updRings p (fun q => { q with spill := q.spill ++ [b] })

/-- A batch to an owner's gateway, sealed where the record says so (R264, R408). -/
def State.gatewayBatch (s : State) (p : Nat) (step : W64) (b : List Byte) : State :=
  let c := s.cfg p
  if c.sealOut then
    let flagged := b.set 0x13 (b.getD 0x13 0 ||| 4#8)
    let e := s.seal p 3 step flagged
    e.2.sendBytes 2 c.gwDevice c.gwInbox e.1
  else s.sendBytes 2 c.gwDevice c.gwInbox b

/-- Whether a record is a lane record with outcome EMPTY (Table 8.13). -/
def isEmptyRec (r : List Byte) : Bool :=
  decide (leAt r 4 2 < 0xFFFE) && (r.getD 6 0 == 0x02) && (r.getD 7 0 == 0)

/-- An owner's batch for a step (R262, R264, R366): a blocked owner's batch of EMPTY lane records alone is skipped. -/
def State.deliver (s : State) (p : Nat) (step t : W64) (flags reason : Byte) (recs : List (List Byte)) : State :=
  let c := s.cfg p
  if c.toGateway then (batchesOf step t p flags reason recs).foldl (fun u b => u.gatewayBatch p step b) s
  else if (s.part p).rings.blocked && recs.all isEmptyRec then
    s.updRings p (fun q => { q with skipped := satInc q.skipped })
  else (batchesOf step t p flags reason recs).foldl (fun u b => u.putBatch p b) s

/-- The output block tested after a boundary's batches (R366): it starts with less than 4 MiB of the spill free and ends when the
spill is empty; a device message reports each. -/
def State.outputBlock (s : State) (p : Nat) : State :=
  let q := (s.part p).rings
  let rs : List Receiver := if p < 16 then [.pf, .chan (2 + p)] else [.pf]
  if !q.blocked && decide (0x400000 < q.spillBytes) then
    (s.updRings p (fun q => { q with blocked := true })).event rs 0x07 (256 + p)
  else if q.blocked && q.spill.isEmpty then
    (s.updRings p (fun q => { q with blocked := false })).event rs 0x07 p
  else s

/-- OUTPUT_WRITE_ERROR: the batch last written to the ring, and every later one, stays in the spill (R367). -/
def execOutputWriteError (owner : Nat) (s : State) : Out :=
  act { parts := true } (fun s =>
    let q := (s.part owner).rings
    if q.lastBatch.isEmpty then s
    else s.updRings owner (fun q => { q with
      outHostErr := true, spill := q.lastBatch :: q.spill, lastBatch := [],
      outTail := q.outTail - BitVec.ofNat 64 q.lastBatch.length })) s

end Sys2Proof.Machine
end

