-- ==== Sys2Proof/Machine/Actions.lean ====
section
/-! DEFINITION. The nine descriptor actions (R220, R226, R241, R247, R250–R255, R259): the checks of R241 and what each does. -/

namespace Sys2Proof.Machine

/-- The outcome codes of Table 8.7. -/
inductive ActOut | applied | noRequest | mismatch | target | indexBusy | noFrames | noSpace | ended
  deriving DecidableEq, Repr

/-- Table 8.7. -/
def ActOut.code : ActOut → Byte
  | .applied => 0x00
  | .noRequest => 0x01
  | .mismatch => 0x02
  | .target => 0x03
  | .indexBusy => 0x04
  | .noFrames => 0x05
  | .noSpace => 0x06
  | .ended => 0x07

/-- An action's outcome counted and recorded for the operator's batch (R241, R262, R263). -/
def State.reportAction (s : State) (a : ActionEntry) (id : W64) (o : ActOut) : State :=
  let r : Rec := { handle := a.handle, lane := 0xFFFE, outcome := o.code, requestId := id }
  { s with srv := { s.srv with
      applied := if o = .applied then satInc s.srv.applied else s.srv.applied
      notApplied := if o = .applied then s.srv.notApplied else satInc s.srv.notApplied
      actRecs := s.srv.actRecs ++ [r.bytes] } }

/-- A request consumed with status INVALID (Table 8.7, TARGET). -/
def State.refuseTarget (s : State) (p : Nat) (r : PendReq) : State :=
  ((s.consume p r.pos).statusRec p r.req.handle r.req.requestId 0x1A 0).countStatus p 0x1A

/-- R241 for an action whose request names a sequence or prefix: the pending request, agreement of kind and handle, then the
target, which must lie in the author's range and in a state that `ok` accepts. `f` acts on the consumed request's target. -/
def State.withTarget (s : State) (a : ActionEntry) (kind : Byte) (same : Bool) (ok : Seq → Bool)
    (f : State → Nat → PendReq → State × ActOut) : State :=
  let p := a.partition
  match s.pendingReq p a.ringPos with
  | none => s.reportAction a 0 .noRequest
  | some r =>
    if r.req.kind != kind || (same && a.handle != r.req.handle) then s.reportAction a r.req.requestId .mismatch
    else if s.srv.endedNow.contains r.req.handle then
      (s.consume p r.pos).reportAction a r.req.requestId .ended
    else match s.names r.req.handle with
      | some i =>
        if (s.cfg p).hasEntry i && ok (s.seq i) then
          let res := f s i r
          res.1.reportAction a r.req.requestId res.2
        else (s.refuseTarget p r).reportAction a r.req.requestId .target
      | none => (s.refuseTarget p r).reportAction a r.req.requestId .target

/-- CANCEL (R247): the sequence ends CANCELLED; an EXPIRED entry ends EXPIRED and is freed (R254). -/
def State.doCancel (s : State) (a : ActionEntry) : State :=
  s.withTarget a 0x02 true (fun q => decide (1 ≤ q.state.toNat ∧ q.state.toNat ≤ 6)) (fun s i r =>
    ((s.consume a.partition r.pos).endSeq i (if (s.seq i).state = 6 then 0x16 else 0x12) false, .applied))

/-- PARK (R238, R253): an illegal time-to-live ends INVALID; without room in the permitted tiers the outcome is NO_SPACE. -/
def State.doPark (s : State) (a : ActionEntry) : State :=
  s.withTarget a 0x03 true (fun q => q.state == 2) (fun s i r =>
    let p := a.partition
    let l := r.req.limit
    if l ≠ 0 ∧ (l < 811 ∨ 70037842 < l) then
      (((s.consume p r.pos).statusRec p r.req.handle r.req.requestId 0x1A 0).countStatus p 0x1A, .applied)
    else match s.parkTier (s.seq i) (r.req.flags.getLsbD 0) 0 with
      | none => (s, .noSpace)
      | some t => ((s.consume p r.pos).parkSeq i t (if l = 0 then (s.cfg p).defaultTtl else l) false, .applied))

/-- The frames and the generation of a parked sequence tested as R206 and R255 ask. -/
def State.resumeFacts (s : State) (q : Seq) : List (Nat × W32 × W32) :=
  q.parkPages.map (fun _ => (q.parkFmt.toNat, q.parkGen, q.contract)) ++ s.frameFacts ((s.prefixReads q).map (·.2))

/-- Whether a sequence of a generation that a rolling rewrite replaced may be re-pinned to another (R122). -/
def State.regenOk (s : State) (q : Seq) (g : Gen) : Bool :=
  g.contract == q.contract && (s.cfg q.partition).allowRegen && (!q.adpBound || (s.adp q.adpSlot.toNat).contract == g.contract)

/-- A sequence re-pinned (R122). -/
def State.repin (s : State) (i : Nat) (slot : Bool) (g : Gen) : State :=
  s.updSeq i (fun q => { q with gen := g.number, genSlot := slot, parkGen := g.number, contract := g.contract })

/-- A parked sequence about to resume, re-pinned where a rolling rewrite replaced its generation; none where its generation is gone
(R120, R122). -/
def State.rePinned (s : State) (i : Nat) : Option State :=
  let q := s.seq i
  let has := fun (g : Gen) => decide (g.number = q.gen) && (g.state == 3 || g.state == 4 || g.state == 5)
  if has s.wgt.genA || has s.wgt.genB then some s
  else match s.liveGen with
    | some (slot, g) => if s.wgt.rolled.contains q.gen && s.regenOk q g then some (s.repin i slot g) else none
    | none => none

/-- RESUME (R255): by the state of the sequence. -/
def State.doResume (s : State) (a : ActionEntry) : State :=
  s.withTarget a 0x04 true (fun q => q.state == 3 || q.state == 4 || q.state == 6) (fun s i r =>
    let p := a.partition
    let q := s.seq i
    if q.state = 6 then ((s.consume p r.pos).endSeq i 0x16 false, .applied)
    else if q.state = 3 then
      let s1 := (s.consume p r.pos).updSeq i (fun q => { q with
        state := 2, tier := 0, pagesLeft := [], parkPages := [], parkBytes := 0, preempted := false, status := 0x05 })
      (s1.statusRec p r.req.handle r.req.requestId 0x05 0, .applied)
    else match s.rePinned i with
      | none => ((s.consume p r.pos).endSeq i 0x17 false, .applied)
      | some u =>
        let q := u.seq i
        match u.framesCheck p q.gen q.contract (u.resumeFacts q) with
        | some st => ((s.consume p r.pos).endSeq i st false, .applied)
        | none =>
          match u.allocFrames i q.parkPages with
          | none => (s, .noFrames)
          | some t =>
            let t0 := (t.seq i).frames.foldl (fun (u : State) (e : Nat × Nat) => u.updFrame e.2 (fun f => { f with fmt := q.parkFmt })) t
            let t1 := (t0.consume p r.pos).updSeq i (fun q => { q with state := 5 })
            (t1.updSeq i (fun q => { q with pagesLeft := t1.pagePlaces (t1.seq i) }), .applied))

/-- SET_MASK (R259). -/
def State.doSetMask (s : State) (a : ActionEntry) : State :=
  s.withTarget a 0x05 true (fun q => decide (1 ≤ q.state.toNat ∧ q.state.toNat ≤ 5)) (fun s i r =>
    let p := a.partition
    let s1 := s.consume p r.pos
    if r.req.flags.getLsbD 1 then
      if s.inReach p r.req.maskAddr (maskBytes (s.vocabOf (s.seq i).gen)) then
        (s1.updSeq i (fun q => { q with maskOn := true, maskAddr := r.req.maskAddr }), .applied)
      else ((s1.statusRec p r.req.handle r.req.requestId 0x1A 0).countStatus p 0x1A, .applied)
    else (s1.updSeq i (fun q => { q with maskOn := false }), .applied))

/-- Whether a sequence has a re-shard pending. -/
def State.resharding (s : State) (i : Nat) : Bool := s.srv.reshards.any (fun r => decide (r.idx = i))

/-- RESHARD (R220): decode frames for every page index held, all or none; it names no request. -/
def State.doReshard (s : State) (a : ActionEntry) : State :=
  if a.ringPos ≠ 0xFFFFFFFF then s.reportAction a 0 .mismatch
  else if s.srv.endedNow.contains a.handle then s.reportAction a 0 .ended
  else match s.names a.handle with
    | some i =>
      let q := s.seq i
      if (s.cfg a.partition).hasEntry i && q.state == 2 && q.layout == 2 && decide (q.req.count ≤ q.length) && !(s.resharding i) then
        let pages := sortBy id (q.sweep.map (·.1)).eraseDups
        match s.allocFrames i pages with
        | none => s.reportAction a q.req.requestId .noFrames
        | some t =>
          let t1 := t.updSeq i (fun q => { q with layout := 2 })
          let t2 := { t1 with srv := { t1.srv with reshards := t1.srv.reshards ++ [({ idx := i, left := pages } : Reshard)] } }
          t2.reportAction a q.req.requestId .applied
      else s.reportAction a q.req.requestId .target
    | none => s.reportAction a 0 .target

/-- An EXPIRED entry reclaimed (R254): what it still refers to goes, without a status. -/
def State.reclaim (s : State) (i : Nat) : State :=
  let q := s.seq i
  if q.state = 6 then
    let s1 := s.releaseFrames i
    let s2 := if q.adpBound then s1.updAdp q.adpSlot.toNat (fun a => { a with refs := a.refs - 1 }) else s1
    s2.updSeq i (fun _ => { tag := q.tag, status := q.status })
  else s

/-- Whether a handle may be given to a new occupant (R241): its entry FREE or EXPIRED and its tag the entry's next. -/
def State.canTake (s : State) (h : BitVec 32) : Bool :=
  let q := s.seq (handleIdx h)
  !(h.getLsbD 15) && (q.state == 0 || q.state == 6) && ((h >>> 16).truncate 16 == nextTag q.tag)

/-- PUBLISH (R226): the frames of the named pages pass to a new prefix, to which the sequence is attached. -/
def State.doPublish (s : State) (a : ActionEntry) : State :=
  let p := a.partition
  match s.pendingReq p a.ringPos with
  | none => s.reportAction a 0 .noRequest
  | some r =>
    let id := r.req.requestId
    let x := handleIdx a.handle
    if r.req.kind != 0x06 then s.reportAction a id .mismatch
    else if s.srv.endedNow.contains r.req.handle then (s.consume p r.pos).reportAction a id .ended
    else match s.names r.req.handle with
      | none => (s.refuseTarget p r).reportAction a id .target
      | some i =>
        let q := s.seq i
        let c := r.req.count
        if !((s.cfg p).hasEntry i) || !((s.cfg p).hasEntry x) || q.state != 2 || q.layout != 1 || s.resharding i ||
            q.pfxOf.isSome || !(decide (c ≤ q.length ∧ (c % 16 = 0 ∨ c = q.length))) then
          (s.refuseTarget p r).reportAction a id .target
        else if !(s.canTake a.handle) then s.reportAction a id .indexBusy
        else
          let n := (c + 15) / 16
          let fs := q.frames.filter (fun e => decide (e.1 < n))
          let s1 := (s.consume p r.pos).reclaim x
          let s2 := fs.foldl (fun (t : State) (e : Nat × Nat) =>
            t.updFrame e.2 (fun f => { f with kind := true, owner := x, refs := f.refs + 1 })) s1
          let pq : Seq := {
            tag := (a.handle >>> 16).truncate 16, state := 7, partition := p, isPrefix := true, genSlot := q.genSlot, gen := q.gen,
            contract := q.contract, length := c, layout := 1, frames := fs, handleHeld := true }
          let s3 := (s2.updSeq x (fun _ => pq)).updSeq i (fun q => { q with
            frames := q.frames.filter (fun e => !decide (e.1 < n)), pfxOf := some x })
          s3.reportAction a id .applied

/-- RELEASE (R226): the prefix's own handle on its frames is dropped. -/
def State.doRelease (s : State) (a : ActionEntry) : State :=
  s.withTarget a 0x07 true (fun q => q.state == 7 && q.handleHeld) (fun s x r =>
    let s1 := (s.consume a.partition r.pos).updSeq x (fun q => { q with handleHeld := false })
    let s2 := (s.seq x).frames.foldl (fun (t : State) (e : Nat × Nat) => t.dropRef e.2) s1
    (s2.freePrefix x, .applied))

/-- ADMIT and ATTACH (R241, R250): `attach` as flags[2] of the request must be. -/
def State.doAdmit (s : State) (a : ActionEntry) (attach : Bool) : State :=
  let p := a.partition
  match s.pendingReq p a.ringPos with
  | none => s.reportAction a 0 .noRequest
  | some r =>
    let id := r.req.requestId
    let i := handleIdx a.handle
    let pfx := if attach then s.prefixNamed p r.req.pfx else none
    if r.req.kind != 0x01 || r.req.flags.getLsbD 2 != attach then s.reportAction a id .mismatch
    else if !((s.cfg p).hasEntry i) || (attach && pfx.isNone) then (s.refuseTarget p r).reportAction a id .target
    else if !(s.canTake a.handle) then s.reportAction a id .indexBusy
    else
      let tag := (a.handle >>> 16).truncate 16
      let s1 := (s.consume p a.ringPos).reclaim i
      (State.admitReport p r i tag (s1.admitCore p r i tag pfx)).reportAction a id .applied

/-- One action resolved by its kind (Table 8.6). -/
def State.resolve (s : State) (kind : Byte) (a : ActionEntry) : State :=
  if kind = 0x01 then s.doAdmit a false
  else if kind = 0x02 then s.doAdmit a true
  else if kind = 0x03 then s.doCancel a
  else if kind = 0x04 then s.doPark a
  else if kind = 0x05 then s.doResume a
  else if kind = 0x06 then s.doSetMask a
  else if kind = 0x07 then s.doPublish a
  else if kind = 0x08 then s.doRelease a
  else if kind = 0x09 then s.doReshard a
  else s

/-! ## The rows -/

/-- An action resolved at the boundary the machine stands at: an action takes effect at a step boundary and at no other time (R10, R32,
R234). -/
def State.atOpening (s : State) (f : State → State) : State := s.when s.opening f


/-- ADMIT. -/
def execAdmitSeq (a : ActionEntry) (s : State) : Out := act {
    adps := true, frames := true, sweeps := true, seqs := true, parts := true, srv := true } (fun s =>
      s.atOpening (fun t => t.doAdmit a false)) s
/-- ATTACH. -/
def execAttach (a : ActionEntry) (s : State) : Out := act {
    adps := true, frames := true, sweeps := true, seqs := true, parts := true, srv := true } (fun s =>
      s.atOpening (fun t => t.doAdmit a true)) s
/-- CANCEL. -/
def execCancel (a : ActionEntry) (s : State) : Out := act {
    adps := true, frames := true, sweeps := true, seqs := true, parts := true, srv := true } (fun s =>
      s.atOpening (fun t => t.doCancel a)) s
/-- PARK. -/
def execPark (a : ActionEntry) (s : State) : Out := act {
    adps := true, frames := true, sweeps := true, seqs := true, parts := true, srv := true } (fun s =>
      s.atOpening (fun t => t.doPark a)) s
/-- RESUME. -/
def execResume (a : ActionEntry) (s : State) : Out := act {
    adps := true, frames := true, sweeps := true, seqs := true, parts := true, srv := true } (fun s =>
      s.atOpening (fun t => t.doResume a)) s
/-- SET_MASK. -/
def execSetMask (a : ActionEntry) (s : State) : Out := act {
    adps := true, frames := true, sweeps := true, seqs := true, parts := true, srv := true } (fun s =>
      s.atOpening (fun t => t.doSetMask a)) s
/-- PUBLISH. -/
def execPublish (a : ActionEntry) (s : State) : Out := act {
    adps := true, frames := true, sweeps := true, seqs := true, parts := true, srv := true } (fun s =>
      s.atOpening (fun t => t.doPublish a)) s
/-- RELEASE. -/
def execRelease (a : ActionEntry) (s : State) : Out := act {
    adps := true, frames := true, sweeps := true, seqs := true, parts := true, srv := true } (fun s =>
      s.atOpening (fun t => t.doRelease a)) s
/-- RESHARD. -/
def execReshardAction (a : ActionEntry) (s : State) : Out := act {
    adps := true, frames := true, sweeps := true, seqs := true, parts := true, srv := true } (fun s =>
      s.atOpening (fun t => t.doReshard a)) s

end Sys2Proof.Machine
end

