-- ==== Sys2Proof/Machine/Bundle.lean ====
section
/-! DEFINITION. A bundle as stored: its ECC (R142), its fields and their encodings (R141, R143–R155), which units a field selects
(R144, R147). -/

namespace Sys2Proof.Machine

/-! ## ECC (R142) -/

/-- The codeword positions of the 120 data bits: 1 to 127 but the powers of two, ascending. -/
def dataPositions : List Nat :=
  (List.range 128).filter (fun i => decide (i ≠ 0 ∧ i ≠ 1 ∧ i ≠ 2 ∧ i ≠ 4 ∧ i ≠ 8 ∧ i ≠ 16 ∧ i ≠ 32 ∧ i ≠ 64))

/-- Codeword w: the bundle bit at each of its 127 positions. -/
def codeword (w : Nat) : List (Nat × Nat) :=
  dataPositions.zipIdx.map (fun e => (e.1, 64 + 120 * w + e.2)) ++ (List.range 7).map (fun c => (2 ^ c, 8 * w + c))

/-- The XOR of the positions whose bit is set, and the parity of codeword and overall bit. -/
def syndrome (b : BitVec 1024) (w : Nat) : Nat × Bool :=
  (codeword w).foldl (fun (a : Nat × Bool) e => if b.getLsbD e.2 then (a.1 ^^^ e.1, !a.2) else a) (0, b.getLsbD (8 * w + 7))

/-- One codeword decoded: whether a bit was corrected, or none for an error that does not decode. -/
def decodeWord (b : BitVec 1024) (w : Nat) : Option (BitVec 1024 × Bool) :=
  let s := syndrome b w
  if !s.2 then (if s.1 = 0 then some (b, false) else none)
  else
    match (codeword w).find? (fun e => decide (e.1 = s.1)) with
    | some e => some (b ^^^ (1#1024 <<< e.2), true)
    | none => some (b ^^^ (1#1024 <<< (8 * w + 7)), true)

/-- A bundle decoded, every codeword; whether any bit was corrected. -/
def decodeBundle (b : BitVec 1024) : Option (BitVec 1024 × Bool) :=
  (List.range 8).foldl (fun (a : Option (BitVec 1024 × Bool)) w => match a with
    | some (x, c) => (decodeWord x w).map (fun r => (r.1, c || r.2))
    | none => none) (some (b, false))

/-- A bundle with its ECC field formed (R142). -/
def encodeBundle (b : BitVec 1024) : BitVec 1024 :=
  let d := (b >>> 64) <<< 64
  (List.range 8).foldl (fun (a : BitVec 1024) w =>
    let s := (dataPositions.zipIdx.foldl (fun (x : Nat) e => if d.getLsbD (64 + 120 * w + e.2) then x ^^^ e.1 else x) 0)
    let ones := (dataPositions.zipIdx.countP (fun e => d.getLsbD (64 + 120 * w + e.2))) +
      (List.range 7).countP (fun c => s / 2 ^ c % 2 = 1)
    a ||| (BitVec.ofNat 1024 (s + 128 * (ones % 2)) <<< (8 * w))) d

/-! ## Fields -/

/-- A bit field as a number. -/
def bits {n : Nat} (b : BitVec n) (hi lo : Nat) : Nat := b.toNat / 2 ^ lo % 2 ^ (hi + 1 - lo)

/-- The header (Table 5.4). -/
structure Header where
  cls : Nat
  valid : Nat
  rep : Nat
  var : Nat
  cond : Nat
  beat : Nat
  reserved : Nat

/-- A bundle's header. -/
def headerOf (b : BitVec 1024) : Header :=
  let h := b.extractLsb' 960 64
  { cls := bits h 63 60, valid := bits h 59 54, rep := bits h 53 46, var := bits h 45 40, cond := bits h 39 36, beat := bits h 35 29,
    reserved := bits h 28 0 }

/-- A unit field's operation, group value and mask. -/
structure UnitSel where
  op : Nat
  g : Nat
  m : Nat

/-- Array slot 0 or 1 (Table 5.6). -/
def arrayBits (b : BitVec 1024) (n : Nat) : BitVec 96 := if n = 0 then b.extractLsb' 864 96 else b.extractLsb' 768 96
/-- The operation, group and mask of a 96-bit field. -/
def sel96 (f : BitVec 96) : UnitSel := ⟨bits f 95 92, bits f 91 80, bits f 79 68⟩
/-- An array slot's operands. -/
def arrayOf (f : BitVec 96) : ArrayField :=
  { rg := f.extractLsb' 64 4, q := f.extractLsb' 62 2, plane := f.extractLsb' 59 3, accBank := f.extractLsb' 57 2,
    actBank := f.extractLsb' 55 2, actFmt := f.extractLsb' 50 5, sign := f.extractLsb' 48 2, aclk := f.extractLsb' 44 3,
    lmask := f.extractLsb' 28 16 }
/-- The advance bit of an array slot. -/
def arrayAdvance (f : BitVec 96) : Bool := f.getLsbD 47
/-- The accumulator field (Table 5.7). -/
def accBits (b : BitVec 1024) : BitVec 96 := b.extractLsb' 672 96
/-- Its operands. -/
def accOf (f : BitVec 96) : AccField :=
  { bank := f.extractLsb' 66 2, mode := f.extractLsb' 64 2, shift8 := f.getLsbD 63, base := f.extractLsb' 48 15,
    count := f.extractLsb' 33 15, mergeIn := f.getLsbD 32, areg := f.extractLsb' 26 6, buf := f.extractLsb' 24 2 }
/-- Route selector c: en, advance, row and its reserved bits (R151). -/
def selectorOf (b : BitVec 1024) (c : Nat) : BitVec 24 := b.extractLsb' (480 + 24 * c) 24
/-- The KV field (Table 5.8). -/
def kvBits (b : BitVec 1024) : BitVec 80 := b.extractLsb' 400 80
/-- The prefill field (Table 5.9). -/
def pfBits (b : BitVec 1024) : BitVec 80 := b.extractLsb' 320 80
/-- The operation, group and mask of an attention field. -/
def sel80 (f : BitVec 80) : UnitSel := ⟨bits f 79 76, bits f 75 64, bits f 63 52⟩
/-- The KV field's operands. -/
def kvOf (f : BitVec 80) : KvField := { head := f.extractLsb' 48 4, areg := f.extractLsb' 42 6 }
/-- The prefill field's operands. -/
def pfOf (f : BitVec 80) : PfField := { block := f.extractLsb' 36 16, opfmt := f.extractLsb' 31 5, areg := f.extractLsb' 25 6 }
/-- The precision field (Table 5.10). -/
def precBits (b : BitVec 1024) : BitVec 128 := b.extractLsb' 192 128
/-- Its operation, group and mask. -/
def sel128 (f : BitVec 128) : UnitSel := ⟨bits f 127 124, bits f 123 112, bits f 111 100⟩
/-- Its operands. -/
def precOf (f : BitVec 128) : PrecField :=
  { index := f.extractLsb' 84 16, outFmt := f.extractLsb' 79 5, src := f.extractLsb' 73 6, dst := f.extractLsb' 67 6 }
/-- The sampler and output field (R154). -/
def samplerBits (b : BitVec 1024) : BitVec 64 := b.extractLsb' 128 64
/-- The sync and control field (R155). -/
def syncBits (b : BitVec 1024) : BitVec 64 := b.extractLsb' 64 64
/-- The operation, group and mask of a 64-bit field. -/
def sel64 (f : BitVec 64) : UnitSel := ⟨bits f 63 60, bits f 59 48, bits f 47 36⟩
/-- The address register of a 64-bit field. -/
def areg64 (f : BitVec 64) : BitVec 6 := f.extractLsb' 30 6
/-- The sync field's operands. -/
def syncOf (f : BitVec 64) : SyncField := { areg := areg64 f, operand := f.extractLsb' 14 16 }

/-! ## Selection and conditions -/

/-- Whether a field selects a site of a given type (R144): a mask of zero selects every unit of the field's class. -/
def UnitSel.picks (u : UnitSel) (t : Nat) (r : ScoreRec) : Bool :=
  decide (siteType r.site = t) && decide (r.role &&& u.m = u.g &&& u.m)

/-- The site a field's class names: 1 array and accumulator, 2 KV, 3 prefill, 4 precision, 5 sampler. -/
def fieldSels (b : BitVec 1024) : List (Nat × UnitSel) :=
  [(1, sel96 (arrayBits b 0)), (1, sel96 (arrayBits b 1)), (1, sel96 (accBits b)), (2, sel80 (kvBits b)), (3, sel80 (pfBits b)),
   (4, sel128 (precBits b)), (5, sel64 (samplerBits b))]

/-- The condition kinds of Table 5.5 on a lane kind and its prefill flag. -/
def condHolds (cond kind : Nat) (pf : Bool) : Bool :=
  let live := decide (1 ≤ kind ∧ kind ≤ 7 ∧ kind ≠ 6)
  match cond with
  | 0 => live
  | 1 => decide (kind = 1)
  | 2 => decide (kind = 2)
  | 3 => decide (kind = 3)
  | 4 => decide (kind = 4 ∨ kind = 5 ∨ kind = 7)
  | 5 => live && decide (kind ≠ 1)
  | 6 => live && !pf
  | 7 => live && pf
  | 8 => decide (kind = 6)
  | _ => false

/-- A bank or buffer named by Table 5.6's codes, in a slot of parity `par` (R138). -/
def bankOf (code : BitVec 2) (par : Nat) : Nat := if code = 0 then 0 else if code = 1 then 1 else if code = 2 then par else 1 - par

/-- Repetition i of an array slot that advances (R148): for SWEEP the pair index moves by 1 or 2, for MAC the plane with carry. -/
def advanceField (op : Nat) (f : ArrayField) (i : Nat) : ArrayField :=
  let pair := 4 * f.rg.toNat + f.q.toNat
  let plane := f.plane.toNat + i
  let p := if op = 2 then (pair + i * (if f.actFmt = 5 then 1 else 2)) % 64 else (pair + plane / 8) % 64
  { f with rg := BitVec.ofNat 4 (p / 4), q := BitVec.ofNat 2 p, plane := if op = 2 then f.plane else BitVec.ofNat 3 plane }

/-! ## What a beat asks of a unit (R143, R144, R148)

A field other than an array slot acts in repetition 0 alone; `r` is the unit's score under the running variant. -/

/-- Whether an array slot of the beat has the unit do operation `op` with these fields, those of an advancing slot moved on by the
repetition. -/
def arrayAsks (b : Beat) (r : ScoreRec) (op : Nat) (f : ArrayField) : Bool :=
  (List.range 2).any (fun n =>
    let x := arrayBits b.bundle n
    let u := sel96 x
    decide (u.op = op) && u.picks 1 r && decide ((if arrayAdvance x then advanceField op (arrayOf x) b.rep else arrayOf x) = f))

/-- Whether the accumulator field asks for `op` with these operands. -/
def accAsks (b : Beat) (r : ScoreRec) (op : Nat) (f : AccField) : Bool :=
  let x := accBits b.bundle
  decide (b.rep = 0 ∧ (sel96 x).op = op) && (sel96 x).picks 1 r && decide (accOf x = f)

/-- Whether the KV field does. -/
def kvAsks (b : Beat) (r : ScoreRec) (op : Nat) (f : KvField) : Bool :=
  let x := kvBits b.bundle
  decide (b.rep = 0 ∧ (sel80 x).op = op) && (sel80 x).picks 2 r && decide (kvOf x = f)

/-- Whether the prefill field does. -/
def pfAsks (b : Beat) (r : ScoreRec) (op : Nat) (f : PfField) : Bool :=
  let x := pfBits b.bundle
  decide (b.rep = 0 ∧ (sel80 x).op = op) && (sel80 x).picks 3 r && decide (pfOf x = f)

/-- Whether the precision field does. -/
def precAsks (b : Beat) (r : ScoreRec) (op : Nat) (f : PrecField) : Bool :=
  let x := precBits b.bundle
  decide (b.rep = 0 ∧ (sel128 x).op = op) && (sel128 x).picks 4 r && decide (precOf x = f)

/-- Whether the sampler and output field does. -/
def samplerAsks (b : Beat) (r : ScoreRec) (op : Nat) (areg : BitVec 6) : Bool :=
  let x := samplerBits b.bundle
  decide (b.rep = 0 ∧ (sel64 x).op = op) && (sel64 x).picks 5 r && decide (areg64 x = areg)

/-- Whether the sync field does, of any site (Table 5.2). -/
def syncAsks (b : Beat) (r : ScoreRec) (op : Nat) (f : SyncField) : Bool :=
  let x := syncBits b.bundle
  decide (b.rep = 0 ∧ (sel64 x).op = op) && (sel64 x).picks (siteType r.site) r && decide (syncOf x = f)

/-! ## Legal encodings (R13, R146–R155, R164) -/

/-- Whether an array slot is legally encoded. -/
def arrayLegal (f : BitVec 96) : Bool :=
  let u := sel96 f
  let a := arrayOf f
  decide (bits f 27 0 = 0) &&
  (decide (u.op = 0) || (decide (u.op ≤ 2) && (a.actFmt == 5 || a.actFmt == 6) && a.sign != 3 && (a.sign != 1 || a.actFmt == 5) &&
    (decide (u.op = 1) || (a.plane == 0 && a.aclk == 0 && (a.actFmt == 5 || a.q == 0 || a.q == 2)))))

/-- Whether an accumulator field is legally encoded. -/
def accLegal (f : BitVec 96) : Bool :=
  decide ((sel96 f).op ≤ 7) && (accOf f).mode != 3 && decide (bits f 23 0 = 0)

/-- Whether a format code is legal for precision-tile outputs (Table 3.4). -/
def precOutOk (f : Nat) : Bool := decide (f = 0x05 ∨ (0x07 ≤ f ∧ f ≤ 0x0B))

/-- Whether a sync operand is legal for its operation (Table 6.5): SIGNAL raises by at least 1, MONITOR names only its register, NONE has
none. -/
def syncOperandOk (op : Nat) (x : BitVec 16) : Bool :=
  match op with
  | 0 => x == 0
  | 1 => x != 0
  | 3 => decide (bits x 12 0 = 0)
  | _ => true

/-- Whether every unit field of a bundle is legally encoded, the header included. -/
def bundleLegal (b : BitVec 1024) : Bool :=
  let h := headerOf b
  let pf := pfBits b
  let pr := precBits b
  decide (h.cls ≤ 1 ∧ h.cond ≤ 8 ∧ h.reserved = 0 ∧ (h.cls = 0 → h.valid = 0)) &&
  arrayLegal (arrayBits b 0) && arrayLegal (arrayBits b 1) && accLegal (accBits b) &&
  decide ((sel80 (kvBits b)).op ≤ 9 ∧ bits (kvBits b) 41 0 = 0) &&
  decide ((sel80 pf).op ≤ 6 ∧ bits pf 24 0 = 0) && (decide ((sel80 pf).op = 0) || (pfOf pf).opfmt == 5 || (pfOf pf).opfmt == 7 || (pfOf pf).opfmt == 8) &&
  decide ((sel128 pr).op ≤ 8 ∧ bits pr 66 0 = 0) && (decide ((sel128 pr).op = 0) || precOutOk (precOf pr).outFmt.toNat) &&
  decide ((sel64 (samplerBits b)).op ≤ 3 ∧ bits (samplerBits b) 29 0 = 0) &&
  decide ((sel64 (syncBits b)).op ≤ 3 ∧ bits (syncBits b) 13 0 = 0) && syncOperandOk (sel64 (syncBits b)).op (syncOf (syncBits b)).operand &&
  (List.range 8).all (fun c => decide (bits (selectorOf b c) 21 8 = 0)) &&
  -- a field whose valid bit is 0 is all zero
  (bits (BitVec.ofNat 6 h.valid) 5 5 = 1 || (arrayBits b 0 == 0 && arrayBits b 1 == 0)) &&
  (bits (BitVec.ofNat 6 h.valid) 4 4 = 1 || accBits b == 0) &&
  (bits (BitVec.ofNat 6 h.valid) 3 3 = 1 || (kvBits b == 0 && pfBits b == 0)) &&
  (bits (BitVec.ofNat 6 h.valid) 2 2 = 1 || precBits b == 0) &&
  (bits (BitVec.ofNat 6 h.valid) 1 1 = 1 || samplerBits b == 0) &&
  (bits (BitVec.ofNat 6 h.valid) 0 0 = 1 || syncBits b == 0)

/-! ## Weight tiles under a variant (Table 2.7, R59) -/

/-- log2 of the stack size. -/
def stackLog (mode : W64) : Nat := bits mode 2 0
/-- TILE_MODE.act_fmt as a format code. -/
def tileActFmt (mode : W64) : Nat := if bits mode 9 8 = 0 then 5 else 6
/-- TILE_AFMT of a logical array: 0 disabled, 1 B1, 2 T2, 3 S2, 4 S4. -/
def arrayFmt (afmt : W64) (l : Nat) : Nat := bits afmt (3 * l + 2) (3 * l)
/-- The columns of a weight (Table 2.1). -/
def fmtCols (f : Nat) : Nat := if f = 1 then 1 else if f = 4 then 4 else 2
/-- The format of a stack group: that of its first enabled member. -/
def groupFmt (mode afmt : W64) (g : Nat) : Nat :=
  let k := 2 ^ stackLog mode
  (((List.range k).map (fun m => arrayFmt afmt (g * k + m))).find? (fun f => decide (f ≠ 0))).getD 0
/-- The tile output channels of a tile (R49, R59): the end of its last enabled group. -/
def tileChannels (mode afmt : W64) : Nat :=
  let k := 2 ^ stackLog mode
  (List.range (16 / k)).foldl (fun (a : Nat) g =>
    let f := groupFmt mode afmt g
    if f = 0 then a else max a ((g + 1) * (2048 / fmtCols f))) 0

end Sys2Proof.Machine
end

