-- ==== Sys2Proof/Machine/Program.lean ====
section
/-! DEFINITION. Shared operations of the maintenance paths: aborting a step (R28), the death of a site (R307), marks and classes of
faults (R303), the program sessions of arrays and their limits (R112, R115, R287). -/

namespace Sys2Proof.Machine

/-! ## Abort (R28) -/

/-- Interiors in emergency that were to stop when a hold begins, stopped (R439). -/
def State.stopHeld (s : State) : State :=
  { s with thm := { s.thm with stopped := s.thm.stopped ||| s.thm.stopAtHold, stopAtHold := 0 } }

/-- Whether lane `j` of the coming step had entered its first stage by slot `t` of the present one (R26). -/
def entered (lanes depth j t : Nat) : Bool := decide (j + 1 < depth ∧ lanes + j + 1 ≤ t + depth)

/-- GCTL_MESH_MODE.entry decided at a boundary, or where a hold begins or ends (R176, R177): express service while a bank runs, but for a
STALE variant, recovery mode and test access. -/
def State.setEntry (s : State) : State :=
  { s with mesh := { s.mesh with
    express := s.running && (s.var (s.bank s.eng.bank).slot).state != 3 && !s.boot.recovery && !s.jtag.access1687 } }

/-- The sequences whose tokens an abort discards: those of the running step, and of the next step's lanes that had entered. -/
def State.inFlight (s : State) : List Nat :=
  let late := match s.runImg with
    | some v => s.nxt.lanes.zipIdx.filterMap (fun e =>
        if e.1.ran && entered v.lanes v.depth e.2 s.eng.slot then some e.1.idx else none)
    | none => []
  (s.cur.lanes.filterMap (fun l => if l.ran then some l.idx else none)) ++ late

/-- The step aborted (R28): nothing of it commits, its signals held for the commit are lost, and the step number passes it (log
entry 15). `hold` also sets STEP_CTRL.hold (R307); without it the engine restarts at the next boundary (R142). -/
def State.abortNow (s : State) (hold : Bool) : State :=
  let s0 := if hold then s.stopHeld else s
  let s1 := s.inFlight.foldl (fun (t : State) i => t.updSeq i (fun q => { q with replay := true })) s0
  let s2 := if hold then s1.setEntry else s1
  { s2 with
    cur := {}, nxt := {}
    sync := { s1.sync with
      held := [], woken := [], stalled := false, waits := [], waitTarget := none
      stallTime := if s1.sync.stalled then s1.sync.stallTime + (s1.time - s1.sync.stallStart) else s1.sync.stallTime }
    eng := { s1.eng with
      state := if hold then 0 else 5, hold := s1.eng.hold || hold, aborts := s1.eng.aborts + 1, slot := 0, fresh := false,
      beatW := none, beatE := none, quietW := 0, quietE := 0,
      stepNumber := s1.eng.stepNumber + 1, idxW := 0, idxE := 0, repW := 0, repE := 0,
      fillLeft := 0, abortDue := none, restart := true } }

/-- An abort by the state of the engine: at a hold only STEP_CTRL.hold is set; a calibration pause completes first (R307). -/
def State.abortStep (s : State) (hold : Bool) : State :=
  if s.eng.state = 0 then { s with eng := { s.eng with hold := s.eng.hold || hold } }
  else if s.eng.state = 3 then { s with eng := { s.eng with abortDue := some (hold || s.eng.abortDue.getD false) } }
  else if s.eng.state = 5 then
    { s with eng := { s.eng with hold := s.eng.hold || hold, state := if hold then 0 else 5 } }
  else s.abortNow hold

/-! ## Variants and sites -/

/-- Every resident variant that `p` holds of becomes STALE (R158, R307). -/
def State.makeStale (s : State) (p : VariantImage → Bool) : State :=
  { s with vars := s.vars.mapVals {} (fun _ v =>
      match v.img with
      | some i => if v.state == 2 && p i then { v with state := 3 } else v
      | none => v) }

/-- Whether a variant's scores mark a site present. -/
def uses (k : Nat) (v : VariantImage) : Bool := v.scores.any (fun r => decide (r.site = k))

/-- The decode frames and sweep pages a KV core holds under the variant whose frames count. -/
def State.coreHolds (s : State) (k : Nat) (q : Seq) : Bool :=
  (s.pagePlaces q).any (fun e => decide (e.1 = k))

/-- The entries that lose KV state with a core (R303, R309): sequences and prefixes with a frame in it, and every sequence attached
to such a prefix. They end FAULT_ABORTED at the next boundary. -/
def State.loseCore (s : State) (k : Nat) : State :=
  let direct := (s.seqs.entries {}).filterMap (fun e => if e.2.state ≠ 0 ∧ s.coreHolds k e.2 then some e.1 else none)
  let all := direct ++ (s.seqs.entries {}).filterMap (fun e => match e.2.pfxOf with
    | some x => if direct.contains x then some e.1 else none
    | none => none)
  all.foldl (fun (t : State) i => t.updSeq i (fun q => { q with endDue := 0x19 })) s

/-- The sessions that `p` holds of cut short: their arrays hold neither image for certain. -/
def State.cutSessions (s : State) (p : Session → Bool) : State :=
  let cut := s.wgt.sessions.filter p
  let s1 := { s with wgt := { s.wgt with sessions := s.wgt.sessions.filter (fun x => !(p x)) } }
  cut.foldl (fun (t : State) (x : Session) => t.updArr x.site x.p (fun a => { a with cut := true })) s1

/-- The install in progress stopped at an array (R113): VERIFY_FAIL with the manifest entry, the site and the physical array; its slot
stays PROGRAMMING. -/
def State.stopInstall (s : State) (entry k p : Nat) : State :=
  match s.wgt.install with
  | none => s
  | some i =>
    let s1 := { s with wgt := { s.wgt with
      install := none, phase := 0, status := 0x0A, failEntry := BitVec.ofNat 32 entry, failX := BitVec.ofNat 8 (siteX k),
      failY := BitVec.ofNat 8 (siteY k), failP := BitVec.ofNat 5 p } }
    (s1.cutSessions (fun x => match x.purpose with | .install _ => true | _ => false)).complete i.channel 0x20 i.cseq 0x0A 0

/-- The entry of the first array that an install's plan gives to a site, if it gives one. -/
def Install.entryAt (i : Install) (k : Nat) : Option Nat :=
  (i.plan.entries.find? (fun e => decide (siteAt e.x e.y = k) &&
    (match i.img.manifest[e.entry]? with | some m => m.kind == 1 | none => false))).map (·.entry)

/-- A death during the programming phase of an install whose plan names the tile stops the install as R113 does (Table 10.6). -/
def State.installDeath (s : State) (k p : Nat) : State :=
  match s.wgt.install with
  | none => s
  | some i =>
    if s.wgt.phase = 3 then
      match i.entryAt k with
      | some n => s.stopInstall n k p
      | none => s
    else s

/-- A site dies (R307): DEAD, logged and reported, the variants that use it STALE, and the step aborted where the running one
does. -/
def State.siteDie (s : State) (k : Nat) (cls : Byte) (p : Nat) : State :=
  if (s.site k).fstate = 3 then s
  else
    let x := siteX k
    let y := siteY k
    let running := match s.runImg with | some v => uses k v | none => false
    let s1 := s.updSite k (fun r => { r with fstate := 3, copyActive := false, nextValid := false })
    let s2 := (s1.log cls x y p 0 3).event [.pf, .bmc] 0x01 (65536 * cls.toNat + 256 * x + y)
    let open_ := s2.wgt.sessions.any (fun x => decide (x.site = k))
    let s3 := { s2 with flt := { s2.flt with
      deaths := satInc s2.flt.deaths
      respares := s2.flt.respares.filter (fun e => !decide (e.1 = k))
      exchanging := s2.flt.exchanging.filter (fun e => !decide (e.1 = k) || open_) } }
    let s4 := (if siteType k = 2 then s3.loseCore k else s3).makeStale (uses k)
    let s5 := if running then s4.abortStep true else s4
    s5.installDeath k p

/-- A DEAD or WORN count of sites by state. -/
def State.sitesIn (s : State) (st : BitVec 4) : Nat := (s.sites.entries {}).countP (fun e => decide (e.2.fstate = st))

/-- Every site of a list killed. -/
def State.killAll (s : State) (ks : List Nat) (cls : Byte) : State :=
  ks.foldl (fun (t : State) k => t.siteDie k cls 0x1F) s

/-! ## Residue mismatches (R294, R296, R300, R303) -/

/-- The bundle that acts in a half. -/
def State.beat (s : State) (h : Half) : Option Beat :=
  match h with
  | .west => s.eng.beatW
  | .east => s.eng.beatE

/-- The slot of the beat that acts at a site and the fill slots then left; the engine's own before the first beat. -/
def State.slotAt (s : State) (k : Nat) : Nat × Nat :=
  match s.beat (siteHalf k) with
  | some b => (b.slot, b.fillLeft)
  | none => (s.eng.slot, s.eng.fillLeft)

/-- The lane of the step engine's steps that a site serves in the slot of the beat (R136, R140): the step (false the running one, true
the next) and the lane. -/
def State.laneOf (s : State) (k : Nat) : Option (Bool × Nat) :=
  match s.runImg with
  | none => none
  | some v => match v.score? k with
    | none => none
    | some r =>
      if !r.laneBound then none
      else
        let n := (s.slotAt k).1 + v.depth - (s.slotAt k).2
        if n < 1 + r.stage then none
        else
          let j := n - 1 - r.stage
          if j < v.lanes then some (false, j) else if j - v.lanes < v.lanes then some (true, j - v.lanes) else none

/-- The lane a site serves; at a changeover the lanes of the coming step are EMPTY to the outgoing variant (R140). -/
def State.laneAt (s : State) (k : Nat) : Option Lane :=
  match s.laneOf k with
  | some (false, j) => s.cur.lanes[j]?
  | some (true, j) => if s.nxt.variant = s.cur.variant then s.nxt.lanes[j]? else none
  | none => none

/-- Whether a site takes part in the steps the engine runs: it works, and the running variant scores it (R144, R176). -/
def State.siteActs (s : State) (k : Nat) : Bool :=
  isSite k && (s.site k).fstate != 3 && !s.mappedOut k &&
  (onRing k || (!(valeBit s.pwr.dark (siteVale k)) && !(valeBit s.thm.stopped (siteVale k)))) &&
  decide (s.eng.state = 1 ∨ s.eng.state = 2) && (match s.runImg with | some v => (v.score? k).isSome | none => false)

/-- The lane whose entry keeps the result of lane `j`: the second of a pair for its first (R243). -/
def resultLane (ls : List Lane) (j : Nat) : Nat :=
  if ((ls.getD j {}).kind == 2 || (ls.getD j {}).kind == 4) && (ls.getD j {}).wide then j + 1 else j

/-- A lane of the running step, or of the next one, changed by `f`; what happens in the first lane of a pair is kept with the second. -/
def State.updLane (s : State) (l : Option (Bool × Nat)) (f : Lane → Lane) : State :=
  match l with
  | some (false, j) => { s with cur := { s.cur with lanes := s.cur.lanes.modify (resultLane s.cur.lanes j) f } }
  | some (true, j) => { s with nxt := { s.nxt with lanes := s.nxt.lanes.modify (resultLane s.nxt.lanes j) f } }
  | none => s

/-- The lane a site serves changed by `f`. -/
def State.updLaneAt (s : State) (k : Nat) (f : Lane → Lane) : State := s.updLane (s.laneOf k) f

/-- A lane marked faulted. -/
def Lane.faulted (l : Lane) : Lane := if l.ran && l.outcome == 0 then { l with outcome := 0x04 } else l

/-- The lane a site serves marked faulted (R300): an overflow of an earlier stage has already ended its work. -/
def State.faultLane (s : State) (k : Nat) : State :=
  s.updLaneAt k Lane.faulted

/-- The lane a site serves, named by the number of its step. -/
def State.laneTag (s : State) (k : Nat) : Option (W64 × Nat) :=
  match s.laneOf k with
  | some (false, j) => some (s.eng.stepNumber, j)
  | some (true, j) => some (s.eng.stepNumber + 1, j)
  | none => none

/-- A mismatch at physical array p of a site, or at another site as p = 31 (R303): the first marks the array and is logged; a further
one at a marked array, of another lane or run, is permanent and is noted for the next boundary. The mismatch registers count residue
mismatches alone, classes CYCLE and ACCUM (R296, Tables 10.7 and 10.8). -/
def State.markFault (s : State) (k p : Nat) (cls : Byte) (group : Nat) : State :=
  let tag := s.laneTag k
  let run := (s.site k).runNow
  let old := (s.site k).marks.find? (fun m => decide (m.p = p))
  let m : Mark := match old with
    | some m => { m with time := s.time }
    | none => { p := p, time := s.time, lane := tag, run := run }
  let again := match old with
    | some m => decide (m.lane ≠ tag ∨ m.run ≠ run)
    | none => false
  let residue := cls == 1 || cls == 2
  let s1 := s.updSite k (fun r => { r with
    mismatches := if residue then satInc r.mismatches else r.mismatches
    cleanTicks := if residue then 0 else r.cleanTicks
    faultTime := if residue then s.time else r.faultTime
    marks := m :: r.marks.filter (fun m => !decide (m.p = p))
    fstate := if r.fstate = 0 ∨ r.fstate = 4 then 1 else r.fstate })
  let s2 := { s1 with flt := { s1.flt with
    mismatches := if residue then satInc s1.flt.mismatches else s1.flt.mismatches
    permanent := if again then satInc s1.flt.permanent else s1.flt.permanent
    classified := if again then s1.flt.classified ++ [(k, p, cls)] else s1.flt.classified } }
  if old.isSome then s2 else s2.log cls (siteX k) (siteY k) p group 0

/-- A fault of a class detected at a site while it serves a lane (R300): the lane faulted, the fault marked. -/
def State.fault (s : State) (k p : Nat) (cls : Byte) (group : Nat) : State := (s.faultLane k).markFault k p cls group

/-! ## Arrays -/

/-- The management ticks the device has been powered for (R280). -/
def State.poweredTicks (s : State) : Nat := s.nv.agedTicks + s.tick

/-- The age of physical array p: powered ticks since its last program session, saturating (Table 9.10). -/
def State.ageOf (s : State) (k p : Nat) : Nat := min (s.poweredTicks - (s.arr k p).progTick) (2 ^ 32 - 1)

/-- Whether a tile holds a worn array (R289). -/
def State.isWorn (s : State) (k : Nat) : Bool := (List.range 17).any (fun p => (s.arr k p).worn)

/-- The key of a byte of an array's image: row r, byte b (R62). -/
def cellKey (k p r b : Nat) : Nat := ((k * 17 + p) * 1024 + r) * 262 + b

/-- The bytes of an array image. -/
def imageBytes : Nat := 268288

/-- The image of physical array p as its cells hold it. -/
def State.imageOf (s : State) (k p : Nat) : List Byte := Sparse.getList 0#8 s.cells (cellKey k p 0 0) imageBytes

/-- The CRC of physical array p (R62). -/
def State.crcOf (s : State) (k p : Nat) : W32 := crc32c (s.imageOf k p)

/-- The physical array that holds logical array l (R60). -/
def SiteSt.physOf (r : SiteSt) (l : Nat) : Nat := r.amap.phys.getD l 16

/-- The array a generation keeps at a logical array: of the slots whose golden copy is in place (R116). -/
def State.goldenOf (s : State) (k l : Nat) : Option GenArray :=
  let ok := fun (g : Gen) => g.state == 2 || g.state == 3 || g.state == 4 || g.state == 5 || g.state == 7
  ((if ok s.wgt.genA then s.wgt.genA.arrays else []) ++ (if ok s.wgt.genB then s.wgt.genB.arrays else [])).find?
    (fun a => decide (a.site = k ∧ a.logical = l))

/-- Whether a golden copy passes its check against its CRC (R125). -/
def State.goldenOk (s : State) (a : GenArray) : Bool := crc32c (s.rdBytes a.golden imageBytes) == a.crc

/-- The golden image a physical array's contents come from: of the logical array the map gives it, or of the spare's. -/
def State.imageFor (s : State) (k p : Nat) : Option GenArray :=
  let r := s.site k
  if r.amap.spare = p then (match r.spareOf with | some l => s.goldenOf k l | none => none)
  else match r.amap.phys.findIdx? (fun q => decide (q = p)) with
    | some l => s.goldenOf k l
    | none => none

/-! ## Program sessions (R112, R115, R287) -/

/-- Whether a site works: not dead, its interior powered and not stopped by an emergency. -/
def State.siteUp (s : State) (k : Nat) : Bool :=
  (s.site k).fstate != 3 && (onRing k || (!(valeBit s.pwr.dark (siteVale k)) && !(valeBit s.thm.emerg (siteVale k))))

/-- Whether a session is a refresh's (R287). -/
def Session.isRefresh (x : Session) : Bool := match x.purpose with | .refresh _ => true | _ => false

/-- Whether one more session may start at a tile (R112, R287): one per tile; 24 in a vale, or 4 for refresh, half of that in each
half of a vale of column vx 3. -/
def State.canStart (s : State) (k : Nat) (refresh : Bool) : Bool :=
  let live := s.wgt.sessions.filter (fun x => !x.suspended)
  let same := live.filter (fun x => decide (siteVale x.site = siteVale k) && (!refresh || x.isRefresh))
  let lim := if refresh then 4 else 24
  s.siteUp k && !(s.wgt.sessions.any (fun x => decide (x.site = k))) && decide (same.length < lim) &&
  (decide (siteVx k ≠ 3) || decide ((same.filter (fun x => decide (siteHalf x.site = siteHalf k))).length < lim / 2))

/-- A program session opened (R115): its cycle is counted before the array is armed. -/
def State.openSession (s : State) (x : Session) : State :=
  let s1 := s.updArr x.site x.p (fun a => { a with cycles := a.cycles + 1 })
  { s1 with wgt := { s1.wgt with sessions := s1.wgt.sessions ++ [x] } }

/-- Whether a site's SRAM is powered. -/
def State.sramUp (s : State) (k : Nat) : Bool := onRing k || !(valeBit s.pwr.dark (siteVale k))

/-- A non-array chunk copied from the golden area to its destination in a site's SRAM (R109). -/
def State.placeGolden (s : State) (c : GenChunk) : State :=
  match region s.nv.stackGb.toNat c.dest with
  | .sram k _ => if s.sramUp k then s.wrBytes c.dest (s.rdBytes c.golden c.length) else s
  | _ => s

/-- The SRAM chunks of a generation placed. -/
def State.placeChunks (s : State) (g : Gen) : State := g.chunks.foldl State.placeGolden s

/-- A session closed. -/
def State.closeSession (s : State) (k p : Nat) : State :=
  { s with wgt := { s.wgt with sessions := s.wgt.sessions.filter (fun x => !decide (x.site = k ∧ x.p = p)) } }

/-- The sessions of an interior suspended or resumed (R439, R440). -/
def State.suspendVale (s : State) (v : Nat) (on : Bool) : State :=
  { s with wgt := { s.wgt with sessions := s.wgt.sessions.map (fun (x : Session) =>
      if siteVale x.site = v ∧ !(onRing x.site) then { x with suspended := on } else x) } }

/-! ## Installs in their programming phase (R109, R112) -/

end Sys2Proof.Machine

namespace Sys2Proof

open Machine

/-- The manifest entry a plan entry places. -/
def Machine.Install.entryOf (i : Machine.Install) (e : PlanEntry) : Option ManifestEntry := i.img.manifest[e.entry]?

/-- The ARRAY entries of a plan with their place in it and their golden images, in plan order. -/
def Machine.Install.arrays (i : Machine.Install) : List (Nat × PlanEntry × ManifestEntry × Nat) :=
  (i.plan.entries.zipIdx.filterMap (fun e => match i.img.manifest[e.1.entry]? with
    | some m => if m.kind = 1 then some (e.2, e.1, m) else none
    | none => none)).map (fun x => (x.1, x.2.1, x.2.2, i.golden.getD x.1 0))

end Sys2Proof

namespace Sys2Proof.Machine

/-- One array of an install considered: skipped when it already holds the image, started when a session may start (R112). -/
def State.tryInstall (s : State) (x : Nat × PlanEntry × ManifestEntry × Nat) : State :=
  match s.wgt.install with
  | none => s
  | some i =>
    let k := siteAt x.2.1.x x.2.1.y
    let p := (s.site k).physOf x.2.1.l
    let done := fun (t : State) => ({ t with wgt := { t.wgt with install := t.wgt.install.map (fun i =>
      { i with programmed := i.programmed ++ [x.1] }) } } : State).updArr k p (fun a => { a with recCrc := x.2.2.1.arrayCrc, unverified := false })
    if i.programmed.contains x.1 || s.wgt.sessions.any (fun w => decide (w.site = k ∧ w.p = p)) then s
    else if (s.arr k p).acrc = x.2.2.1.arrayCrc ∧ !(s.arr k p).cut then done s
    else if s.canStart k false then
      let g : GenArray := { site := k, logical := x.2.1.l, entry := x.2.1.entry, crc := x.2.2.1.arrayCrc, golden := x.2.2.2 }
      let t := s.openSession { site := k, p := p, purpose := .install g, crc := g.crc, source := g.golden }
      { t with wgt := { t.wgt with install := t.wgt.install.map (fun i => { i with touched := true }) } }
    else s

/-- The groups whose every array is programmed. -/
def Install.groupsDone (i : Install) : List Nat :=
  let left := (i.arrays.filter (fun x => !(i.programmed.contains x.1))).map (fun x => x.2.2.1.group)
  (List.range i.img.groupCount).filter (fun g => !(left.contains g))

/-- The groups completed noted in GCTL_INSTALL_STATUS and in the slot's record (R121). -/
def State.noteGroups (s : State) : State :=
  match s.wgt.install with
  | none => s
  | some i =>
    ({ s with wgt := { s.wgt with groupsDone := BitVec.ofNat 16 i.groupsDone.length } }).updPgen (decide (i.slot = 1))
      (fun g => { g with groups := i.groupsDone })

/-- Sessions of the install started in group order as capacity allows, skipped arrays passed over; with every array programmed the
commit is due (R112, R114). An array planned on a dead tile stops the install. -/
def State.pumpInstall (s : State) : State :=
  match s.wgt.install with
  | none => s
  | some i =>
    if s.wgt.phase ≠ 3 then s
    else match i.arrays.find? (fun x => decide ((s.site (siteAt x.2.1.x x.2.1.y)).fstate = 3) && !(i.programmed.contains x.1)) with
    | some x => s.stopInstall x.2.1.entry (siteAt x.2.1.x x.2.1.y) 0x1F
    | none =>
      let t := (sortBy (fun x => x.2.2.1.group) i.arrays).foldl (fun (t : State) x => t.tryInstall x) s
      let t1 := t.noteGroups
      let all := match t1.wgt.install with | some j => decide (j.programmed.length = j.arrays.length) | none => false
      if all then { t1 with wgt := { t1.wgt with phase := 4 } } else t1

end Sys2Proof.Machine
end

