-- ==== Sys2Proof/Machine/Due.lean ====
section
/-! DEFINITION. What waits for a step boundary, or takes effect at once while the engine is held (R32): partition records and resets
(R396, R397, R459), the profile, keys, generation slots (R116–R122), adapter slots (R129), array maps (R60), dark interiors (R428),
freed frames (R229); and the rows that name one of them. -/

namespace Sys2Proof.Machine

/-! ## Partitions -/

/-- The non-secure channel on which an owner's events go besides the PF's. -/
def ownerRecv (p : Nat) : List Receiver := if p < 16 then [.pf, .chan (2 + p)] else [.pf]

/-- R206 applied to the sequences of an owner whose format policy changed. -/
def State.policyCheck (s : State) (p : Nat) : State :=
  ((s.seqs.entries {}).filterMap (fun e => if e.2.partition = p ∧ (e.2.state = 2 ∨ e.2.state = 3 ∨ e.2.state = 5) then some e.1 else none)).foldl
    (fun (t : State) i =>
      let q := t.seq i
      match t.framesCheck p q.gen q.contract (t.seqFacts q) with
      | some st => t.endSeq i st false
      | none => t) s

/-- One accepted configuration record takes effect (R396); the queue count of R251 restarts. -/
def State.setConfig (p : Nat) (s : State) (e : PartCfg × Nat × BitVec 4) : State :=
  let c := e.1
  let old := s.cfg p
  let s1 := s.updPart p (fun q => { q with cfg := some c, queueAdmits := 0 })
  let s2 := { s1 with nv := { s1.nv with partCfgs := s1.nv.partCfgs.set none p (some c) } }
  let s3 := if c.minKeyRank ≠ old.minKeyRank ∨ c.queryFmt ≠ old.queryFmt then s2.policyCheck p else s2
  (s3.event (ownerRecv p) 0x20 p).complete e.2.1 0x51 e.2.2 0 0

/-- The accepted configuration records of an owner take effect, in order, as far as a waiting reset that arrived before one (R373). -/
def State.applyConfig (s : State) (p : Nat) : State :=
  let q := s.part p
  let n := match q.resetDue with
    | none => q.cfgDue.length
    | some r => r.2.1
  (q.cfgDue.take n).foldl (State.setConfig p) (s.updPart p (fun q => { q with
    cfgDue := q.cfgDue.drop n, resetDue := q.resetDue.map (fun r => (r.1, 0, r.2.2)) }))

/-- Every sequence, queued request and prefix of an owner ends CANCELLED (R249). -/
def State.cancelAll (s : State) (p : Nat) : State :=
  let own := fun (t : State) (pre : Bool) => (t.seqs.entries {}).filterMap (fun e =>
    if e.2.partition = p ∧ e.2.state ≠ 0 ∧ (e.2.state = 7) = (pre = true) then some e.1 else none)
  let s1 := (own s false).foldl (fun (t : State) i => t.endSeq i 0x12 false) s
  (own s1 true).foldl (fun (t : State) i =>
    let q := t.seq i
    let t1 := if q.handleHeld then q.frames.foldl (fun (u : State) (e : Nat × Nat) => u.dropRef e.2) t else t
    t1.updSeq i (fun _ => { tag := q.tag, status := 0x12 })) s1

/-- The adapter slots of an owner, each changed by `f`. -/
def State.updAdps (s : State) (c : PartCfg) (f : Adp → Adp) : State :=
  { s with adps := s.adps.mapVals {} (fun n a => if c.adpBase ≤ n ∧ n < c.adpBase + c.adpCount then f a else a) }

/-- A partition reset resolved (R397, R459). For the operator (number 31) only its sequences end (R457). -/
def State.applyReset (s : State) (p : Nat) : State :=
  match (s.part p).resetDue with
  | none => s
  | some (unconf, _, cmds) =>
    let s0 := (s.applyConfig p).cancelAll p
    if 16 ≤ p then s0.updPart p (fun q => { q with resetDue := none })
    else
      let c := s0.cfg p
      let wasBlocked := (s0.part p).rings.blocked
      let s1 := s0.updPart p (fun q => {
        cfg := if unconf then none else q.cfg, cfgDue := q.cfgDue, zeroing := some (unconf, cmds), zeroCfg := some c })
      let s2 := s1.updSpdm (2 + p) (fun _ => {})
      let s3 := { s2 with
        fab := { s2.fab with inboxes := s2.fab.inboxes.mapVals {} (fun _ i => if i.owner.toNat = p then { i with enable := false } else i) }
        hif := { s2.hif with copies := s2.hif.copies.filter (fun k => !decide (k.channel = 2 + p)) }
        nv := if unconf then { s2.nv with partCfgs := s2.nv.partCfgs.set none p none } else s2.nv }
      let s4 := (s3.updAdps c (fun a => { a with state := 3, refs := 0 })).updChan (2 + p) (fun _ => {})
      if wasBlocked then s4.event (ownerRecv p) 0x07 p else s4

/-- The zeroing of a reset partition's areas ends (R459): its adapter slots are FREE and PARTITION_RESET is sent. -/
def State.zeroingDone (s : State) (p : Nat) : State :=
  match (s.part p).zeroing with
  | none => s
  | some (unconf, cmds) =>
    let c := ((s.part p).zeroCfg).getD {}
    let s1 := c.areas.foldl (fun (t : State) (a : Nat × Nat) => t.zeroMem a.1 a.2) s
    let s2 := (s1.updAdps c (fun _ => {})).updPart p (fun q => { q with zeroing := none, zeroCfg := none })
    let s3 := s2.event (ownerRecv p) 0x21 ((if unconf then 32 else 0) + p)
    cmds.foldl (fun (t : State) (e : Nat × BitVec 4) => t.complete e.1 0x52 e.2 0 0) s3

/-- One profile change takes effect (R391). -/
def State.setProfile (s : State) (e : Bool × Nat × BitVec 4) : State :=
  let s1 := { s with nv := { s.nv with profileShared := e.1 } }
  (s1.event [.pf, .bmc] 0x22 (if e.1 then 1 else 0)).complete e.2.1 0x53 e.2.2 0 0

/-- The accepted profile changes take effect, in order. -/
def State.applyProfile (s : State) : State :=
  s.sec.profilePending.foldl State.setProfile { s with sec := { s.sec with profilePending := [] } }

/-- One egress key takes effect: the epoch rises, the counter restarts, the previous key stays for opening (R404, R411). -/
def Part.setEgress (q : Part) (k : List Byte) : Part :=
  { q with egressKey := some k, egressPrev := q.egressKey, epoch := q.epoch + 1, egressCtr := 0 }

/-- The loaded egress keys of an owner take effect, in order. -/
def State.applyEgress (s : State) (p : Nat) : State :=
  s.updPart p (fun q => q.egressDue.foldl Part.setEgress { q with egressDue := [] })

/-! ## Generations -/

/-- The sequences pinned to a generation number, warm-parked ones included (Table 4.13). -/
def State.pinned (s : State) (n : W32) : Nat :=
  (s.seqs.entries {}).countP (fun e => decide (e.2.gen = n ∧ n ≠ 0) &&
    (e.2.state == 2 || e.2.state == 3 || e.2.state == 5 || (e.2.state == 4 && e.2.tier != 2)))

/-- The sequences pinned to a generation that are neither parked nor ended (R121). -/
def State.activePinned (s : State) (n : W32) : Nat :=
  (s.seqs.entries {}).countP (fun e => decide (e.2.gen = n ∧ n ≠ 0) && (e.2.state == 2 || e.2.state == 3 || e.2.state == 5))

/-- One switch resolved (R118): the slot left becomes DRAINING or READY; a slot no longer READY or DRAINING is not switched to. -/
def State.switchTo (s : State) (e : Nat × Nat × BitVec 4) : State :=
  let b := decide (e.1 = 1)
  if (s.gen b).state ≠ 3 ∧ (s.gen b).state ≠ 5 then s.complete e.2.1 0x21 e.2.2 0x09 0
  else
    let s1 := if s.wgt.ptrValid && s.wgt.liveSlot != b then
        s.updGen s.wgt.liveSlot (fun g => { g with state := if 0 < s.pinned g.number then 5 else 3 })
      else s
    let s2 := s1.updGen b (fun g => { g with state := 4 })
    ({ s2 with wgt := { s2.wgt with ptrValid := true, liveSlot := b } }).complete e.2.1 0x21 e.2.2 0 0

/-- A committed install's slot is READY at the boundary (R114). -/
def State.settleCommits (s : State) : State :=
  let f := fun (g : Gen) => if g.committed && g.state == 2 then { g with state := 3 } else g
  (s.updGen false f).updGen true f

/-- The change of a slot that waited for the boundary made (R116). -/
def State.settleDue (s : State) (b : Bool) : State :=
  match s.genDue b with
  | some g => (s.updGen b (fun _ => g)).setDue b none
  | none => s

/-- The changes of slots that no retirement comes before. -/
def State.settleDues (s : State) : State :=
  let due := fun (t : State) (b : Bool) => if s.retiring b then t else t.settleDue b
  due (due s false) true

/-- The pointer moves as the pending switches say, in order (R118). -/
def State.movePointer (s : State) : State :=
  let s0 := s.settleDues.settleCommits
  s0.wgt.switchPending.foldl State.switchTo { s0 with wgt := { s0.wgt with switchPending := [] } }

/-- The refreshes of a generation that goes abandoned (R287): its tiles' next maps cleared, their refresh sessions cut, and the arrays
these were programming left to be reprogrammed as spares. -/
def State.dropCopies (s : State) (g : Gen) : State :=
  let its := fun (x : Session) => x.isRefresh && g.arrays.any (fun a => decide (a.site = x.site))
  let ks := (g.arrays.map (·.site)).eraseDups
  let waits := (ks.filter (fun k => (s.site k).nextValid)).map (fun k => (k, (s.site k).amap.spare))
  let s1 := (s.cutSessions its)
  let s2 := ks.foldl (fun (t : State) k => t.updSite k (fun r => { r with copyActive := false, nextValid := false })) s1
  { s2 with flt := { s2.flt with respares := (s2.flt.respares ++ (s.wgt.sessions.filter its).map (fun x => (x.site, x.p)) ++ waits).eraseDups } }

/-- A range of memory zeroed but for what lies in another. -/
def State.zeroApart (s : State) (a n : Nat) (keep : Nat × Nat) : State :=
  if overlaps (a, n) keep then
    (s.zeroMem a (keep.1 - a)).zeroMem (max a (keep.1 + keep.2)) (a + n - max a (keep.1 + keep.2))
  else s.zeroMem a n

/-- The golden area of the install in progress. -/
def State.installArea (s : State) : Nat × Nat :=
  match s.wgt.install with
  | some i => (i.plan.goldenBase, i.plan.goldenSize)
  | none => (0, 0)

/-- A retired generation's slot emptied, its golden area zeroed before any reuse (R120); one no longer READY, or pinned, is refused. -/
def State.applyRetire (s : State) (e : Nat × Nat × BitVec 4) : State :=
  let b := decide (e.1 = 1)
  let g := s.gen b
  if g.state ≠ 3 ∨ s.pinned g.number ≠ 0 then s.complete e.2.1 0x22 e.2.2 0x09 0 else
  let s0 := s.dropCopies g
  let s1 := { s0 with vars := s0.vars.mapVals {} (fun _ v => match v.img with
    | some i => if i.imageId = g.imageId ∧ i.manifestDigest = g.digest then {} else v
    | none => v) }
  let s1 := { s1 with banks := s1.banks.mapVals {} (fun _ k =>
    if (k.state == 2 || k.state == 3) && (s1.var k.slot).img.isNone then {} else k) }
  let s2 := (s1.zeroApart g.goldenBase g.goldenSize s.installArea).updGen b (fun _ => {})
  s2.complete e.2.1 0x22 e.2.2 0 0

/-- A drained slot is READY (R116). -/
def State.drained (s : State) : State :=
  let f := fun (t : State) (b : Bool) => t.updGen b (fun g => if g.state == 5 && t.pinned g.number == 0 then { g with state := 3 } else g)
  f (f s false) true

/-- Slots that change at a boundary, after the switches: drained ones READY, retired ones EMPTY (R116). -/
def State.settleGens (s : State) : State :=
  let s1 := s.drained
  ((((s1.wgt.retireDue).foldl State.applyRetire { s1 with wgt := { s1.wgt with retireDue := [] } }).settleDue false).settleDue true).settleCommits

/-- Variants whose generation, defect map or plan is no longer current become STALE (R158). -/
def State.staleCheck (s : State) : State :=
  s.makeStale (fun v => !v.transfer && (s.genOf v).isNone)

/-- A rolling rewrite begins programming (R121): the outgoing slot YIELDING, the engine held for it. The chunks whose places its staging might
not touch, and any other SRAM chunk, are written now: DESIGN CHOICE, R109 names no time for them (log entry 72). -/
def State.rollStart (s : State) : State :=
  match s.wgt.install with
  | none => s
  | some i =>
    let out := !(decide (i.slot = 1))
    if s.wgt.phase = 2 ∧ i.roll ∧ s.activePinned (s.gen out).number = 0 ∧ !(s.retiring (!out)) then
      let s0 := (s.settleDue false).settleDue true
      let s1 := ((s0.updGen out (fun g => { g with state := 7, recState := g.state })).updGen (!out)
        (fun g => { g with state := 2 })).placeChunks (s0.gen (!out))
      (({ s1 with wgt := { s1.wgt with phase := 3, ptrValid := if s1.wgt.liveSlot = out then false else s1.wgt.ptrValid } }).staleCheck).pumpInstall
    else s

/-- Whether a rolling rewrite holds the engine (R121, R123): while a slot is YIELDING. -/
def State.rollHolds (s : State) : Bool := s.wgt.genA.state == 7 || s.wgt.genB.state == 7

/-- R122 at the first boundary of the new generation: warm-parked sequences of the outgoing one re-pinned or ended. -/
def State.applyRepin (s : State) : State :=
  match s.liveGen with
  | some (slot, g) =>
    let ids := (s.seqs.entries {}).filterMap (fun e =>
      if e.2.state = 4 ∧ e.2.tier ≠ 2 ∧ s.wgt.rolled.contains e.2.gen then some e.1 else none)
    ids.foldl (fun (t : State) i => if t.regenOk (t.seq i) g then t.repin i slot g else t.endSeq i 0x17 false) s
  | none => s

/-! ## Adapter slots (R128, R129) -/

/-- A slot loaded with success becomes READY. -/
def State.adpReady (s : State) (n : Nat) : State :=
  let a := s.adp n
  if a.state = 1 ∧ a.readyDue then
    (s.updAdp n (fun a => { a with state := 2, readyDue := false })).complete a.channel 0x28 a.cseq 0 0
  else s

/-- Adapter slots loaded with success READY at a boundary. -/
def State.settleAdps (s : State) : State :=
  ((s.adps.entries {}).filterMap (fun e => if e.2.readyDue then some e.1 else none)).foldl State.adpReady s

/-- RETIRING adapter slots that no sequence referred to when the step ended are FREE at the boundary that follows, their DRAM still to be
zeroed (R129): this comes before the boundary's commit lowers any count. -/
def State.freeAdps (s : State) : State :=
  let busy := fun (n : Nat) => owners.any (fun p => (s.part p).zeroing.isSome &&
    (let c := ((s.part p).zeroCfg).getD {}; decide (c.adpBase ≤ n ∧ n < c.adpBase + c.adpCount)))
  { s with adps := s.adps.mapVals {} (fun n a => if a.state == 3 && a.refs == 0 && !(busy n) then {} else a) }

/-! ## Array maps (R60, R286) -/

/-- The logical array that a new map moves. -/
def movedIndex (a b : AMap) : Option Nat := (List.range 16).find? (fun l => decide (a.phys.getD l 0 ≠ b.phys.getD l 0))

/-- A valid next map of a tile replaces the current one; the array it leaves waits to be reprogrammed as the new spare (R286 step 4). -/
def State.mapSwitchAt (s : State) (k : Nat) : State :=
  let r := s.site k
  if !r.nextValid then s
  else
    let s1 := s.updSite k (fun r => { r with
      amap := r.next, nextValid := false, switches := satInc r.switches, spareOf := (movedIndex r.amap r.next).or r.spareOf })
    { s1 with flt := { s1.flt with respares := s1.flt.respares ++ [(k, r.next.spare)] } }

/-- Every tile's valid next map applied (R60). -/
def State.mapSwitchAll (s : State) : State :=
  ((s.sites.entries {}).filterMap (fun e => if e.2.nextValid then some e.1 else none)).foldl State.mapSwitchAt s

/-! ## Interiors (R428, R429) -/

/-- Whether a device-local address lies in the host sync page, whose words no power state zeroes (R191). -/
def inHostPage (a : Nat) : Bool := decide (hostSyncPage ≤ a ∧ a < hostSyncPage + 0x1000)

/-- Whether a device-local address lies in the window of an interior site of a vale. -/
def inInterior (v a : Nat) : Bool :=
  decide (0x010000000000 ≤ a ∧ a < 0x016000000000) && !inHostPage a &&
  (let w := (a - 0x010000000000) / 0x800000
   let k := siteAt (w % 256) (w / 256)
   decide (siteVale k = v ∧ w % 256 < 224) && !onRing k)

/-- An interior site of a vale. -/
def isInterior (v k : Nat) : Bool := decide (siteVale k = v) && !onRing k

/-- What the sites of an interior lose with their power: SRAM, accumulators, scratch and registers; arrays keep their weights and
the recorded map stays (R428). -/
def State.loseInterior (s : State) (v : Nat) : State :=
  { s with
    mem := Sparse.drop (inInterior v) s.mem
    poison := s.poison.filter (fun a => !inInterior v a)
    acc24 := Sparse.drop (fun a => isInterior v (a / 2048 / 2 / 16)) s.acc24
    acc48 := Sparse.drop (fun a => isInterior v (a / 2048 / 16)) s.acc48
    shadow := Sparse.drop (fun a => isInterior v (if a % 2 = 0 then a / 2 / 2048 / 2 / 16 else a / 2 / 2048 / 16)) s.shadow
    kvs := s.kvs.drop (isInterior v)
    pfs := s.pfs.drop (isInterior v)
    sites := s.sites.mapVals {} (fun k r => if isInterior v k then
      { amap := r.amap, spareOf := r.spareOf, fstate := r.fstate, marks := r.marks, switches := r.switches,
        mismatches := r.mismatches, votes := r.votes, selftestFails := r.selftestFails, faultTime := r.faultTime } else r) }

/-- An interior darkened (R429): it loses power and is no longer due (Table 9.8). -/
def State.darkenNow (s : State) (v : Nat) : State :=
  let s1 := s.loseInterior v
  { s1 with
    pwr := { s1.pwr with dark := setVale s1.pwr.dark v, interiors := clrVale s1.pwr.interiors v, uncal := clrVale s1.pwr.uncal v }
    sens := { s1.sens with
      due := clrVale s1.sens.due v, statTick := clrVale s1.sens.statTick v, statRun := clrVale s1.sens.statRun v,
      statOver := clrVale s1.sens.statOver v, statDone := clrVale s1.sens.statDone v } }

/-- A darkening that waits takes effect and its command completes. -/
def State.applyDarken (s : State) (v : Nat) : State :=
  match s.pwr.darkenDue.find? (fun e => decide (e.1 = v)) with
  | none => s
  | some (_, ch, cseq) =>
    let s1 := (s.darkenNow v).complete ch 0x60 cseq 0 0
    { s1 with pwr := { s1.pwr with darkenDue := s1.pwr.darkenDue.filter (fun e => !decide (e.1 = v)) } }

/-- Every darkening that waits. -/
def State.applyDarkens (s : State) : State := (s.pwr.darkenDue.map (·.1)).foldl State.applyDarken s

/-! ## Frames freed (R229) -/

/-- Zeroed frames and sweep pages return to the free pool. -/
def State.freeZeroed (s : State) : State :=
  { s with
    frames := s.frames.mapVals {} (fun _ f => if f.life = 3 then {} else f)
    sweeps := s.sweeps.mapVals {} (fun _ f => if f.life = 3 then {} else f) }

/-! ## Banks of STALE variants (R158) -/

/-- STALE variants disarmed; the running one holds the engine, so its bank is freed only where the engine holds already. -/
def State.disarmStale (s : State) : State :=
  { s with banks := s.banks.mapVals {} (fun _ b =>
    if (b.state == 2 || (b.state == 3 && s.held)) && (s.var b.slot).state == 3 then {} else b) }

/-! ## All of it -/

/-- Every management effect that waits for a boundary, the generation switch first (R118, log entry 17). -/
def State.applyDue (s : State) : State :=
  let s1 := (s.movePointer).settleGens.applyRepin
  let s2 := owners.foldl (fun (t : State) p => (((t.applyConfig p).applyReset p).applyConfig p).applyEgress p) s1
  s2.applyProfile.settleAdps.mapSwitchAll.applyDarkens.freeZeroed.staleCheck.disarmStale

/-! ## The rows: each acts at a boundary, or where its own rule says so in a hold (R32, R33; log entry 2) -/

/-- PARTITION_CONFIG_APPLY. -/
def execPartitionConfigApply (p : Nat) (s : State) : Out := act {
    nv := true, adps := true, frames := true, sweeps := true, seqs := true, parts := true, srv := true, fab := true, chans := true,
    hif := true } (fun s => s.when s.settled (·.applyConfig p)) s
/-- PARTITION_RESET_APPLY. -/
def execPartitionResetApply (p : Nat) (s : State) : Out := act {
    nv := true, adps := true, frames := true, sweeps := true, seqs := true, parts := true, srv := true, fab := true, chans := true,
    hif := true, sec := true } (fun s =>
      s.when s.settled (·.applyReset p)) s
/-- PARTITION_ZEROING_DONE. -/
def execPartitionZeroingDone (p : Nat) (s : State) : Out := act {
    mem := true, poison := true, adps := true, parts := true, fab := true, chans := true, hif := true } (fun s => s.zeroingDone p) s
/-- PROFILE_CHANGE. -/
def execProfileChange (s : State) : Out := act { nv := true, fab := true, chans := true, hif := true, sec := true } (fun s =>
    s.when s.settled State.applyProfile) s
/-- GEN_POINTER_MOVE. -/
def execGenPointerMove (s : State) : Out := act { wgt := true, fab := true, chans := true, hif := true } (fun s =>
    s.atOpening State.movePointer) s
/-- EGRESS_KEY_APPLY. -/
def execEgressKeyApply (p : Nat) (s : State) : Out := act { parts := true } (fun s =>
    s.atOpening (·.applyEgress p)) s
/-- ADAPTER_SLOT_READY. -/
def execAdapterSlotReady (slot : Nat) (s : State) : Out := act { adps := true, fab := true, chans := true, hif := true } (fun s =>
    s.atOpening (·.adpReady slot)) s
/-- VALE_DARKEN. -/
def execValeDarken (vale : Nat) (s : State) : Out := act {
    pwr := true, mem := true, poison := true, acc24 := true, acc48 := true, shadow := true, sites := true, kvs := true, pfs := true,
    sens := true, fab := true, chans := true, hif := true } (fun s =>
      s.when s.settled (·.applyDarken vale)) s
/-- ROLL_PROGRAMMING_START. -/
def execRollProgrammingStart (s : State) : Out := act {
    mem := true, host := true, poison := true, arrs := true, wgt := true, vars := true, fab := true, chans := true, hif := true } (fun s =>
      s.when s.settled State.rollStart) s

end Sys2Proof.Machine
end

