-- ==== Sys2Proof/Machine/Latch.lean ====
section
/-! DEFINITION. Validation and latch of a step descriptor (R217, R240–R244): the checks of Table 8.9, the lane checks of R242, the
claims of deferred tokens and set positions (R94, R95, R99), notch lanes (R162), frames and copies (R214, R228). -/

namespace Sys2Proof.Machine

/-! ## The parts of an entry -/

/-- The handle of a lane entry (Table 8.5). -/
def laneHandle (w : W64) : BitVec 32 := (w >>> 32).truncate 32
/-- The kind of a lane entry: 0 EMPTY, 1 DECODE, 2 PREFILL, 3 EXTEND. -/
def laneKind (w : W64) : Nat := (w >>> 29).toNat % 8

/-- A length-table entry (R217). -/
structure Chunk where
  idx : Nat
  first : Nat
  count : Nat
  start : Nat
  deriving DecidableEq, Repr

/-- The fields of a length-table entry (R217). -/
def chunkOf (w : W64) : Chunk :=
  { idx := (w >>> 49).toNat, first := (w >>> 37).toNat % 4096, count := (w >>> 25).toNat % 4096 + 1, start := (w >>> 3).toNat % 2 ^ 22 }

/-- The chunks of a descriptor. -/
def RawDesc.table (d : RawDesc) : List Chunk := d.chunks.map chunkOf

/-- Whether a lane lies in a chunk. -/
def Chunk.has (c : Chunk) (j : Nat) : Bool := decide (c.first ≤ j ∧ j < c.first + c.count)

/-- The admission of a descriptor that creates an entry: its partition and the length its chunk starts from (R217). -/
def State.createdBy (s : State) (d : RawDesc) (i : Nat) : Option (Nat × Nat) :=
  d.actions.findSome? (fun a =>
    if (a.1 == 0x01 || a.1 == 0x02) && decide (handleIdx a.2.handle = i) then
      let len := if a.1 == 0x02 then
          (match s.pendingReq a.2.partition a.2.ringPos with
            | some r => (match s.prefixNamed a.2.partition r.req.pfx with | some x => (s.seq x).length | none => 0)
            | none => 0)
        else 0
      some (a.2.partition, len)
    else none)

/-! ## The checks of Table 8.9 -/

/-- The generation number a variant runs (R119). -/
def State.variantGen (s : State) (v : VariantImage) : Option W32 := (s.genOf v).map (fun b => (s.gen b).number)

/-- Table 8.9, GENERATION: a lane names a sequence pinned to another generation. -/
def State.badGeneration (s : State) (v : VariantImage) (d : RawDesc) : Bool :=
  !v.transfer && d.lanes.any (fun w => decide (laneKind w ≠ 0) && (match s.names (laneHandle w) with
    | some i => decide (2 ≤ (s.seq i).state.toNat ∧ (s.seq i).state.toNat ≤ 5) && decide (some (s.seq i).gen ≠ s.variantGen v)
    | none => false))

/-- Table 8.9, ADAPTERS: more than 256 distinct adapter slots (R130). -/
def State.badAdapters (s : State) (d : RawDesc) : Bool :=
  decide (256 < ((d.lanes.filterMap (fun w => if laneKind w = 0 then none else match s.names (laneHandle w) with
    | some i => if (s.seq i).adpBound then some (s.seq i).adpSlot.toNat else none
    | none => none)).eraseDups).length)

/-- Whether a sequence is spread over a ring (R222). -/
def Seq.onRing (q : Seq) : Bool := decide (2 ≤ q.req.ringSize)

/-- Whether a chunk's start is wrong (R217): it is the committed length, or for a ring sequence may lie beyond what this device has committed
(R224). -/
def State.badStart (s : State) (c : Chunk) (len : Nat) : Bool :=
  if (s.seq c.idx).onRing && (s.seq c.idx).state == 2 then decide (c.start < len) else decide (c.start ≠ len)

/-- The owner and committed length a chunk is tested against (R217). -/
def State.chunkBase (s : State) (d : RawDesc) (c : Chunk) : Nat × Nat :=
  match s.createdBy d c.idx with
  | some b => b
  | none => ((s.seq c.idx).partition, (s.seq c.idx).length)

/-- Table 8.9, LENGTH_TABLE: a rule of R217 is broken, an entry's lanes do not all carry its sequence in one kind, or a PREFILL
or EXTEND lane lies in no entry. -/
def State.badTable (s : State) (v : VariantImage) (d : RawDesc) : Bool :=
  let t := d.table
  let notch := v.notchLanes d.step.toNat
  let badChunk := fun (c : Chunk) =>
    let b := s.chunkBase d c
    let js := (List.range c.count).map (· + c.first)
    let k0 := laneKind (d.lanes.getD c.first 0)
    let h0 := laneHandle (d.lanes.getD c.first 0)
    s.badStart c b.2 || !(decide (k0 = 2 ∨ k0 = 3)) || decide (handleIdx h0 ≠ c.idx) ||
    js.any (fun j => decide (v.lanes ≤ j) || decide (v.laneOwner j ≠ b.1) || v.laneWide j || notch.contains j ||
      decide (laneKind (d.lanes.getD j 0) ≠ k0) || decide (laneHandle (d.lanes.getD j 0) ≠ h0))
  let meet := t.zipIdx.any (fun a => t.zipIdx.any (fun b => decide (a.2 < b.2) &&
    overlaps (a.1.first, a.1.count) (b.1.first, b.1.count)))
  let loose := d.lanes.zipIdx.any (fun e => decide (2 ≤ laneKind e.1) && !(t.any (fun c => c.has e.2)))
  t.any badChunk || meet || loose

/-- The attention stages of a variant: the stages of its KV cores (R136, Table 1.4). -/
def attentionStages (v : VariantImage) : List Nat := ((v.kvCores 1).map (·.stage)).eraseDups

/-- The (query, key) pairs of prefill lanes at attention stages in one slot, over the lanes of a step and of the one before it;
`lanes` gives each prefill lane's slot offset and position (R216). -/
def pairsAt (stages : List Nat) (lanes : List (Int × Nat)) (slot : Int) : Nat :=
  lanes.foldl (fun (a : Nat) l => if stages.any (fun st => decide (l.1 + (st : Int) = slot)) then a + l.2 + 1 else a) 0

/-- Table 8.9, PREFILL_COVER: the pairs of a slot exceed the variant's cover (R216). -/
def State.badCover (v : VariantImage) (prev : List Lane) (d : RawDesc) : Bool :=
  let st := attentionStages v
  let now := d.table.flatMap (fun c =>
    if laneKind (d.lanes.getD c.first 0) = 2 then (List.range c.count).map (fun n => (((c.first + n : Nat) : Int), c.start + n)) else [])
  let old := prev.zipIdx.filterMap (fun e => if e.1.ran ∧ e.1.ekind = 2 then some ((e.2 : Int) - v.lanes, e.1.pos) else none)
  let all := now ++ old
  !now.isEmpty && (all.flatMap (fun l => st.map (fun x => l.1 + (x : Int)))).any (fun slot => decide (v.prefillCover < pairsAt st all slot))

/-- The first check of Table 8.9 that a descriptor fails, or 0. -/
def State.descReason (s : State) (prev : List Lane) (d : RawDesc) : Byte :=
  let fmt := d.badCode || decide (1024 < d.chunkCount ∨ 1024 < d.actionCount) ||
    (match (s.var d.variant).img with | some v => decide (d.laneCount ≠ v.lanes) | none => false)
  if fmt then 0x02
  else if s.latchReason d.variant ≠ 0 then 0x03
  else match (s.var d.variant).img with
    | none => 0x03
    | some v =>
      if s.badGeneration v d then 0x04
      else if s.badAdapters d then 0x05
      else if s.badTable v d then 0x06
      else if State.badCover v prev d then 0x07
      else 0

/-! ## Lane checks 1 to 5 (R242) -/

/-- The lane of the step before that produces a sequence's next input, and that lane's position (R243). -/
def inputLane (prev : List Lane) (h : BitVec 32) : Option (Nat × Nat) :=
  prev.zipIdx.findSome? (fun e => if e.1.ran ∧ e.1.handle = h ∧ (e.1.ekind = 1 ∨ e.1.last) then some (e.2, e.1.pos) else none)

/-- Whether a sequence has a lane running in the step before. -/
def running? (prev : List Lane) (h : BitVec 32) : Bool := prev.any (fun l => l.ran && decide (l.handle = h))

/-- Whether page n of a sequence belongs to another device of its ring (R223): a page with prompt positions belongs to the device that
prefilled it, and one first written in decode to index n mod R. -/
def State.elsewhere (s : State) (q : Seq) (n : Nat) : Bool :=
  q.onRing && (s.frameOf q n).isNone && (decide (16 * n < q.req.count) || decide (n % q.req.ringSize ≠ q.req.ringIndex))

/-- The pages of a sequence that the device holds or will hold, each with its frame: those without one take the free frames in order (R212). -/
def State.planFrames (s : State) (v : VariantImage) (q : Seq) (n : Nat) : List (Nat × Nat) :=
  let free := (List.range v.decodeFrames).filter (fun f => decide ((s.frame f).life = 0))
  ((List.range n).foldl (fun (a : List (Nat × Nat) × List Nat) m => match s.frameOf q m with
    | some f => (a.1 ++ [(m, f)], a.2)
    | none => if s.elsewhere q m then a else (a.1 ++ [(m, a.2.headD 0)], a.2.tail)) ([], free)).1

/-- Whether the key set of position `pos` exceeds some decode core's cover (R212). -/
def State.overCover (s : State) (v : VariantImage) (q : Seq) (pos : Nat) : Bool :=
  let fs := s.planFrames v q (pos / 16 + 1)
  (v.kvCores 1).any (fun r =>
    let k := kvK r.kvMode
    let held := fs.foldl (fun (a : Nat) e => if e.2 % k = kvGidx r.kvMode then a + min 16 (pos + 1 - 16 * e.1) else a) 0
    decide (v.cover r.kvMode < held))

/-- Whether a sequence's frames or its state keep it out of a lane of this kind under a variant (R215, R219, R220, R230). -/
def State.layoutWait (s : State) (v : VariantImage) (q : Seq) (i ekind : Nat) : Bool :=
  let lid := (s.layoutId v).1
  let own := (q.frames.map (·.2)) ++ (s.prefixReads q).map (·.2)
  own.any (fun f => decide ((s.frame f).layout ≠ lid)) || q.sweep.any (fun e => decide ((s.sweepPage e.2.2).layout ≠ lid)) ||
  s.resharding i || (if ekind = 2 then !own.isEmpty else !q.sweep.isEmpty)

/-- Whether a ring sequence's chunk starts beyond positions that no device of the ring has committed before step `n` (R224). -/
def State.unready (_s : State) (q : Seq) (h : BitVec 32) (t : List Chunk) (c : Option Nat) (n : W64) : Bool :=
  match c with
  | none => false
  | some i =>
    let start := (t.getD i ⟨0, 0, 0, 0⟩).start
    q.onRing && decide (q.length < start) && !(Config.ringCommitted h start n)

/-- What checks 1 to 5 make of one lane entry (R242); `seen` are the handles and chunks of earlier lanes. -/
def State.checkLane (s : State) (v : VariantImage) (prev : List Lane) (t : List Chunk) (seen : List (BitVec 32 × Option Nat))
    (j : Nat) (w : W64) : Lane :=
  let owner := v.laneOwner j
  let h := laneHandle w
  let k := laneKind w
  let c := t.findIdx? (fun c => c.has j)
  let blocked := (s.part owner).rings.blocked || (s.part 31).rings.blocked
  if k = 0 ∨ blocked then { owner := owner }
  else
    let base : Lane := { owner := owner, handle := h, ekind := BitVec.ofNat 3 k, idx := handleIdx h, chunk := c }
    let out := fun (o : Byte) => { base with outcome := o }
    match s.names h with
    | none => out 0x09
    | some i =>
      let q := s.seq i
      let b := { base with idx := i, reqId := q.req.requestId }
      let out := fun (o : Byte) (pos : Nat) => { b with outcome := o, pos := pos }
      if q.state ≠ 2 ∨ v.transfer then out 0x09 0
      else if q.partition ≠ owner then out 0x0C 0
      else if seen.any (fun e => decide (e.1 = h) && (c.isNone || decide (e.2 ≠ c))) then out 0x0D q.length
      else
        -- check 4: the input and the position of the lane
        let inp : Option Byte × Nat × Bool :=
          if k = 1 then
            match inputLane prev h with
            | some (j0, p0) => (if j + (v.lanes - v.depth) < j0 then some 0x0B else none, p0 + 1, false)
            | none => match q.deferred with
              | some d => (if d.fault then none else some 0x0A, d.pos, d.fault)
              | none => (if q.lastToken.isNone || running? prev h then some 0x0A else none, q.length, false)
          else (none, (match c with | some n => (t.getD n ⟨0, 0, 0, 0⟩).start + j - (t.getD n ⟨0, 0, 0, 0⟩).first | none => 0), false)
        let pos := inp.2.1
        match inp.1 with
        | some o => out o pos
        | none =>
          if 2 ^ 22 ≤ pos then out 0x0F pos
          else if k ≠ 2 && s.overCover v q pos then out 0x0E pos
          else if s.unready q h t c (s.openStep + 1) then out 0x10 pos
          else if s.layoutWait v q i k then out 0x08 pos
          else { b with
            ran := true, outcome := 0, kind := 1, pos := pos, replay := inp.2.2 || q.replay,
            last := decide (k = 1) || decide (pos + 1 = q.req.count), windowUse := decide (2 ≤ q.req.ringSize) }

/-- Checks 1 to 5 of every lane, in lane order. -/
def State.checkLanes (s : State) (v : VariantImage) (prev : List Lane) (t : List Chunk) (entries : List W64) : List Lane :=
  ((List.range v.lanes).foldl (fun (a : List Lane × List (BitVec 32 × Option Nat)) j =>
    let w := entries.getD j 0
    let l := s.checkLane v prev t a.2 j w
    (a.1 ++ [l], if laneKind w = 0 then a.2 else a.2 ++ [(laneHandle w, t.findIdx? (fun c => c.has j))])) ([], [])).1

/-! ## Claims (R94, R95, R99, R162) -/

/-- A lane from which a running token is displaced keeps its record (R96, R262). -/
def Lane.displacedBy (old new_ : Lane) : Lane :=
  if old.ran then { new_ with extra := some (old.handle, old.pos, 0x06) }
  else if old.outcome ≠ 0x02 then { new_ with extra := some (old.handle, old.pos, old.outcome) } else new_

/-- A wide or fallback token placed in a pair: its result is reported by the second lane (R91, R92, R243). -/
def placePair (v : VariantImage) (ls : List Lane) (j : Nat) (l : Lane) : List Lane :=
  let fb := decide (v.slotAclk < 512)
  let a : Lane := { l with kind := if fb then 4 else 2, ran := false, outcome := 0x02, wide := true }
  let b : Lane := { l with kind := if fb then 5 else 3, ran := true, outcome := 0, wide := true }
  (ls.modify j (fun o => o.displacedBy a)).modify (j + 1) (fun o => o.displacedBy b)

/-- A token in solo fallback placed in a lane (R95). -/
def placeSolo (ls : List Lane) (j : Nat) (l : Lane) : List Lane :=
  ls.modify j (fun o => o.displacedBy { l with kind := 7, ran := true, outcome := 0, wide := true })

/-- The set positions of one chunk placed (R99): in the owner's pairs in ascending order, or in their own lanes where the owner has
none. A chunk that breaks causal order or lacks pairs runs empty with outcome CHUNK. `free` are the owner's pairs not yet claimed. -/
def State.placeChunk (s : State) (v : VariantImage) (t : List Chunk) (ls : List Lane) (free : List (Nat × List Nat)) (n : Nat) :
    List Lane × List (Nat × List Nat) :=
  let c := t.getD n ⟨0, 0, 0, 0⟩
  let l0 := ls.getD c.first {}
  let q := s.seq c.idx
  let set := (sortBy id q.ovfSet).filter (fun p => decide (c.start ≤ p ∧ p < c.start + c.count))
  let mine := (free.find? (fun e => decide (e.1 = l0.owner))).elim [] (·.2)
  let lane := fun (p : Nat) => c.first + p - c.start
  if set.isEmpty || !l0.ran then (ls, free)
  else if (v.pairsOf l0.owner).isEmpty then
    (set.foldl (fun a p => a.modify (lane p) (fun l => { l with kind := 7, wide := true })) ls, free)
  else
    let got := mine.take set.length
    let tail := decide (set.head? = some (c.start + c.count - set.length))
    let above := got.all (fun j => decide (c.first + c.count - 1 < j))
    if got.length < set.length || !tail || !above then
      ((List.range c.count).foldl (fun a i => a.modify (c.first + i) (fun l =>
        if l.ran then { l with ran := false, kind := 0, outcome := 0x10 } else l)) ls, free)
    else
      let ls1 := (set.zip got).foldl (fun a e =>
        let l := a.getD (lane e.1) {}
        placePair v (a.modify (lane e.1) (fun l => { owner := l.owner })) e.2 { l with chunk := some n }) ls
      (ls1, free.map (fun e => if e.1 = l0.owner then (e.1, e.2.drop set.length) else e))

/-- The deferred tokens of an owner that may claim, oldest deferral step first, then lowest original lane (R94). -/
def State.claimants (s : State) (v : VariantImage) (prev : List Lane) (p : Nat) : List Nat :=
  let l := (s.seqs.entries {}).filterMap (fun e =>
    let q := e.2
    match q.deferred with
    | some d =>
      if q.state = 2 ∧ q.partition = p ∧ !d.fault ∧ !(running? prev (s.handleOf e.1)) ∧ some q.gen = s.variantGen v ∧
          !(s.layoutWait v q e.1 1) then some (d.step.toNat * 4096 + d.lane, e.1) else none
    | none => none)
  (sortBy (·.1) l).map (·.2)

/-- The lane a deferred token runs in. -/
def State.deferredLane (s : State) (i : Nat) (owner : Nat) : Lane :=
  let q := s.seq i
  { owner := owner, handle := s.handleOf i, idx := i, ekind := 1, pos := (q.deferred.elim 0 (·.pos)), last := true,
    cause := (q.deferred.elim 0 (·.cause)), point := (q.deferred.elim 0 (·.point)), reqId := q.req.requestId, replay := q.replay }

/-- The deferred tokens of an owner (PART_WIDE_WAIT counts those left without a place, whatever keeps them from claiming). -/
def State.deferredOf (s : State) (p : Nat) : Nat :=
  (s.seqs.entries {}).countP (fun e => decide (e.2.partition = p) && (match e.2.deferred with | some d => !d.fault | none => false))

/-- The claims of one owner's deferred tokens: pairs, or without any pair its own lanes from the highest down (R94, R95); with each owner's
number the tokens that wait. -/
def State.claim (s : State) (v : VariantImage) (prev : List Lane) (notch : List Nat) (free : List (Nat × List Nat))
    (st : List Lane × List (Nat × Nat)) (p : Nat) : List Lane × List (Nat × Nat) :=
  let cs := s.claimants v prev p
  if (s.part p).rings.blocked || (s.part 31).rings.blocked then (st.1, st.2 ++ [(p, s.deferredOf p)])
  else
    let solo := (v.pairsOf p).isEmpty
    let slots := if solo then ((v.lanesOf p).filter (fun j => !(notch.contains j))).reverse
      else (free.find? (fun e => decide (e.1 = p))).elim [] (·.2)
    let ls := (cs.zip slots).foldl (fun a e =>
      let l := s.deferredLane e.1 p
      if solo then placeSolo a e.2 l else placePair v a e.2 l) st.1
    (ls, st.2 ++ [(p, s.deferredOf p - min cs.length slots.length)])

/-- A notch lane: a token assigned to it is displaced (R162). -/
def Lane.notched (l : Lane) : Lane :=
  if l.ran then { l with ran := false, kind := 6, outcome := 0x06 } else { l with kind := 6 }

/-! ## Frames and copies (R214, R228) -/

/-- The copies made so far at this latch, by owner. -/
abbrev Copies := List Nat

/-- Whether one more copy may be made for an owner (R228, R394). -/
def State.copyRoom (s : State) (made : Copies) (p : Nat) : Bool :=
  decide (made.length < 16) && (s.nv.profileShared || decide (made.count p < (s.cfg p).cowAllot))

/-- The page a lane writes given its frame: allocated, copied on write, or in place; none is a page wait (R214, R228). A ring device
writes only the pages it owns (R223). -/
def State.lanePage (s : State) (v : VariantImage) (made : Copies) (l : Lane) : Option (State × Copies) :=
  let q := s.seq l.idx
  let n := l.pos / 16
  if l.ekind = 2 then
    if q.sweep.any (fun e => decide (e.1 = n)) then some (s, made)
    else (s.allocSweeps l.idx n (List.range v.layers)).map (fun t => (t, made))
  else if s.elsewhere q n then some (s, made)
  else match s.frameOf q n with
    | none => (s.allocFrame l.idx n).map (fun r => (r.2, made))
    | some f =>
      if (s.frame f).refs ≤ 1 then some (s, made)
      else if !(s.copyRoom made q.partition) then none
      else match s.allocFrame l.idx n with
        | none => none
        | some (g, t) =>
          let t1 := (t.dropRef f).updFrame g (fun r => { r with copyFrom := some f, fill := (s.frame f).fill })
          let t2 := t1.updPart q.partition (fun a => { a with cow := a.cow + 1 })
          some ((match q.pfxOf with | some x => t2.freePrefix x | none => t2), q.partition :: made)

/-- Frames and copies for every running lane in lane order; a lane without its page, and the later lanes of its chunk, wait. -/
def State.latchPages (s : State) (v : VariantImage) (ls : List Lane) : State × List Lane :=
  let r := ls.foldl (fun (a : State × List Lane × Copies × List (BitVec 32)) l =>
    if !l.ran then (a.1, a.2.1 ++ [l], a.2.2.1, a.2.2.2)
    else if a.2.2.2.contains l.handle then
      (a.1, a.2.1 ++ [{ l with ran := false, kind := 0, outcome := 0x07 }], a.2.2.1, a.2.2.2)
    else match a.1.lanePage v a.2.2.1 l with
      | some (t, made) => (t, a.2.1 ++ [l], made, a.2.2.2)
      | none => (a.1, a.2.1 ++ [{ l with ran := false, kind := 0, outcome := 0x07 }], a.2.2.1, l.handle :: a.2.2.2)) (s, [], [], [])
  (r.1, r.2.1)

/-! ## The latch -/

/-- The lanes of step `n` latched under a variant: the entries of a descriptor, or none for an empty step (R240, R242). -/
def State.latch (s : State) (n : W64) (slot : Nat) (prev : List Lane) (d : Option RawDesc) (refused : Byte) : State × Desc :=
  match (s.var slot).img with
  | none => (s, { step := n, variant := slot, refused := refused })
  | some v =>
    let t := d.elim [] RawDesc.table
    let entries := d.elim [] RawDesc.lanes
    let notch := v.notchLanes n.toNat
    let l1 := s.checkLanes v prev t entries
    let free := owners.map (fun p => (p, v.pairsOf p))
    let r2 := (List.range t.length).foldl (fun a i => s.placeChunk v t a.1 a.2 i) (l1, free)
    let r3 := owners.foldl (fun a p => s.claim v prev notch r2.2 a p) (r2.1, [])
    let l4 := notch.foldl (fun a j => a.modify j Lane.notched) r3.1
    let r5 := s.latchPages v l4
    let s6 := r3.2.foldl (fun (u : State) e => if e.1 < 16 then u.updPart e.1 (fun q => { q with wideWait := BitVec.ofNat 16 e.2 }) else u) r5.1
    (s6, { step := n, variant := slot, bank := (s.armedBank slot).getD 0, empty := d.isNone, refused := refused, lanes := r5.2 })

end Sys2Proof.Machine
end

