-- ==== Sys2Proof/Machine/Repair.lean ====
section
/-! DEFINITION. Repair and refresh of arrays and sites (R60, R113, R286–R289, R303–R310, R441): classification at the boundary,
exchanges, refresh, contents moved to other sites, and what a program session comes to. -/

namespace Sys2Proof.Machine

/-! ## Golden images (R125, R286 step 1) -/

/-- A verified image for logical array l of a tile, rewritten from physical array p where the golden copy fails and p reads it. -/
def State.verifiedGolden (s : State) (k l p : Nat) : State × Option GenArray :=
  match s.goldenOf k l with
  | none => (s, none)
  | some g =>
    if s.goldenOk g then (s, some g)
    else if s.crcOf k p = g.crc then (s.wrBytes g.golden (s.imageOf k p), some g)
    else (s, none)

/-- A program session for a site's array from a golden image. -/
def sessionOf (k p : Nat) (purpose : SessionFor) (g : GenArray) : Session :=
  { site := k, p := p, purpose := purpose, crc := g.crc, source := g.golden }

/-! ## Exchanges (R304) -/

/-- Exchanges of the fault hold started as the session limits allow: the spare programmed with the faulty array's image. -/
def State.pumpExchange (s : State) (e : Nat × Nat × Nat) : State :=
  let k := e.1
  if s.wgt.sessions.any (fun x => decide (x.site = k)) || !(s.canStart k false) then s
  else
    let r := s.verifiedGolden k e.2.2 e.2.1
    match r.2 with
    | some g => r.1.openSession (sessionOf k (s.site k).amap.spare .exchange g)
    | none =>
      let s1 := { r.1 with flt := { r.1.flt with exchanging := r.1.flt.exchanging.filter (fun x => !decide (x.1 = k)) } }
      s1.siteDie k 0x0A e.2.1

/-- Spares to be reprogrammed from the image they hold, once the fault hold is over (R286 step 4, R304, R309). -/
def State.pumpRespare (s : State) (e : Nat × Nat) : State :=
  if s.eng.faultHold || !(s.canStart e.1 true) then s
  else
    let s1 := { s with flt := { s.flt with respares := s.flt.respares.filter (fun x => x != e) } }
    match (s.site e.1).spareOf with
    | none => s1
    | some l =>
      -- no generation has an image for the spare: it waits for one (R287)
      if (s.goldenOf e.1 l).isNone then s
      else
        let r := s1.verifiedGolden e.1 l e.2
        match r.2 with
        | some g => (r.1.openSession (sessionOf e.1 e.2 (.refresh 4) g)).updSite e.1 (fun q => { q with copyActive := true })
        | none => r.1.siteDie e.1 0x0A e.2

/-- A fault command that cannot finish: it completes with a status and its detail (R371) and moves nothing more. -/
def State.moveFail (s : State) (st : Byte) (detail : Nat) : State :=
  match s.flt.move with
  | none => s
  | some m =>
    let s1 := ({ s with flt := { s.flt with move := none } }).cutSessions (fun x => match x.purpose with
        | .remap _ _ => true
        | .relocate _ _ => true
        | _ => false)
    s1.complete m.channel m.code m.cseq st (BitVec.ofNat 40 detail)

/-- The arrays a fault command still has to move started as the limits allow, one array of a tile at a time (R309, R441). -/
def State.pumpMove (s : State) (m : MoveCmd) (e : Nat × GenArray) : State :=
  if s.wgt.sessions.any (fun x => decide (x.site = e.1)) || !(s.canStart e.1 false) then s
  else
    let purpose := if m.code = 0x38 then SessionFor.remap e.1 e.2 else .relocate e.1 e.2
    if s.goldenOk e.2 then s.openSession (sessionOf e.1 e.2.logical purpose e.2)
    else s.moveFail (if m.code = 0x38 then 0x06 else 0x07) (if m.code = 0x38 then 65536 * e.2.logical else 0)

/-- Everything that waits for a program session, tried in turn. -/
def State.pumpRepairs (s : State) : State :=
  let s1 := s.flt.exchanging.foldl State.pumpExchange s
  let s2 := match s1.flt.move with
    | some m => m.left.foldl (fun (t : State) e => t.pumpMove m e) s1
    | none => s1
  s2.flt.respares.foldl State.pumpRespare s2

/-! ## Classification at the boundary (R303–R306) -/

/-- A TL action for a permanent fault of a tile (R306): a higher array rail, or the tile's half at half rate. -/
def State.tlAction (s : State) (k p : Nat) (cls : Byte) : State :=
  let v := siteVale k
  let old := s.flt.tlVales.get (0, 0) v
  let s1 := s.log cls (siteX k) (siteY k) p 0 4
  if s.flt.tlMode = 1 then
    if 2 ≤ old.1 then s1.siteDie k cls p
    else
      { s1 with
        flt := { s1.flt with tlVales := s1.flt.tlVales.set (0, 0) v (old.1 + 1, s.tick), tlHoldUntil := s.tick + 2 }
        eng := { s1.eng with faultHold := true } }
  else if old.1 ≠ 0 then s1.siteDie k cls p
  else
    let s2 := { s1 with
      flt := { s1.flt with tlVales := s1.flt.tlVales.set (0, 0) v (3, s.tick) }
      eng := { s1.eng with faultHold := true } }
    match siteHalf k with
    | .west => { s2 with clk := { s2.clk with causeW := s2.clk.causeW ||| 8 } }.event [.pf, .bmc] 0x30 (256 + 4)
    | .east => { s2 with clk := { s2.clk with causeE := s2.clk.causeE ||| 8 } }.event [.pf, .bmc] 0x30 (512 + 256 + 4)

/-- A permanent fault classified (R304–R306): a site without a spare dies, a SUSPECT tile dies, a spare is reprogrammed, and an
active array of a tile is exchanged in a fault hold. -/
def State.classifyOne (s : State) (c : Nat × Nat × Byte) : State :=
  let k := c.1
  let p := c.2.1
  let r := s.site k
  if r.fstate = 3 then s
  else if siteType k ≠ 1 then s.siteDie k c.2.2 p
  else if s.flt.tlMode = 1 ∨ s.flt.tlMode = 2 then (s.updSite k (fun q => { q with
    marks := q.marks.filter (fun m => !decide (m.p = p)), fstate := if q.fstate = 1 then 0 else q.fstate })).tlAction k p c.2.2
  else if r.fstate = 2 then s.siteDie k c.2.2 p
  else
    let s1 := s.updSite k (fun q => { q with
      fstate := 2, cleanTicks := 0, copyActive := false, nextValid := false, marks := q.marks.filter (fun m => !decide (m.p = p)) })
    -- a refresh copy under way is abandoned (Table 10.6)
    let s2 := s1.cutSessions (fun x => decide (x.site = k) && x.isRefresh)
    match r.amap.phys.findIdx? (fun q => decide (q = p)) with
    | none =>
      let s3 := s2.log c.2.2 (siteX k) (siteY k) p 0 5
      { s3 with flt := { s3.flt with respares := s3.flt.respares ++ [(k, p)] } }
    | some l =>
      let s3 := s2.log c.2.2 (siteX k) (siteY k) p 0 2
      { s3 with
        flt := { s3.flt with exchanging := s3.flt.exchanging ++ [(k, p, l)] }
        eng := { s3.eng with faultHold := true } }

/-- The classifications noted in the step (R304), each array's once. -/
def State.classify (s : State) : State :=
  let cs := s.flt.classified.foldl (fun (a : List (Nat × Nat × Byte)) c =>
    if a.any (fun d => decide (d.1 = c.1 ∧ d.2.1 = c.2.1)) then a else a ++ [c]) []
  (cs.foldl State.classifyOne { s with flt := { s.flt with classified := [] } }).pumpRepairs

/-- MAP_SWITCH: the valid next maps applied, at a boundary or in a fault hold (R32, R60, R304). -/
def execMapSwitch (s : State) : Out := act {
    thm := true, mem := true, host := true, poison := true, arrs := true, sites := true, wgt := true, vars := true, eng := true,
    cur := true, nxt := true, mesh := true, sync := true, seqs := true, flt := true, fab := true, chans := true, hif := true } (fun s =>
      s.when ((s.held && s.eng.faultHold) || s.opening) (fun t => t.mapSwitchAll.pumpRepairs)) s

/-- FAULT_HOLD_END: with every exchange map applied, and the settling of a TL supply action over, the fault hold ends; the arrays left
become spares to reprogram (R304, R306). -/
def execFaultHoldEnd (s : State) : Out :=
  act {
      thm := true, mem := true, host := true, poison := true, arrs := true, sites := true, wgt := true, vars := true, eng := true,
      cur := true, nxt := true, mesh := true, sync := true, seqs := true, flt := true, fab := true, chans := true, hif := true } (fun s =>
    if s.eng.faultHold && s.flt.exchanging.isEmpty && decide (s.flt.tlHoldUntil ≤ s.tick) then
      ({ s with eng := { s.eng with faultHold := false } }).pumpRepairs
    else s) s

/-! ## Marks, suspects and TL actions -/

/-- MARK_CLEAR: a mark without a further mismatch for 64 ticks clears and counts as transient (R303). -/
def execMarkClear (site p : Nat) (s : State) : Out :=
  act { sites := true, flt := true } (fun s =>
    match (s.site site).marks.find? (fun m => decide (m.p = p)) with
    | some m =>
      if 64 * 2 ^ 20 ≤ (s.time - m.time).toNat then
        let s1 := s.updSite site (fun r =>
          let ms := r.marks.filter (fun m => !decide (m.p = p))
          { r with marks := ms, fstate := if r.fstate = 1 ∧ ms.isEmpty then 0 else r.fstate })
        { s1 with flt := { s1.flt with transient := satInc s1.flt.transient } }
      else s
    | none => s) s

/-- SUSPECT_CLEAR: a tile returns to NORMAL after 1,000 clean ticks (R305). -/
def execSuspectClear (site : Nat) (s : State) : Out :=
  act { sites := true } (fun s =>
    let r := s.site site
    s.when (r.fstate == 2 && decide (1000 ≤ r.cleanTicks.toNat)) (fun s =>
      s.updSite site (fun r => { r with fstate := if r.marks.isEmpty then 0 else 1, cleanTicks := 0 }))) s

/-- Whether some vale of a half keeps it at half rate (R306). -/
def tlClocks (m : Sparse (Nat × Nat)) (h : Half) : Bool := m.any (fun e => decide (e.2.1 = 3) && valeInHalf h e.1)

/-- The tick of the last mismatch in a vale, or of its TL action. -/
def State.lastMismatch (s : State) (vale : Nat) : Nat :=
  (s.sites.entries {}).foldl (fun (a : Nat) e => if siteVale e.1 = vale then max a (e.2.faultTime.toNat / 2 ^ 20) else a) (s.flt.tlVales.get (0, 0) vale).2

/-- TL_ACTION_CLEAR: a vale's action is removed after 1,000 clean ticks (R306). -/
def execTlActionClear (vale : Nat) (s : State) : Out :=
  act { clk := true, flt := true, fab := true, chans := true, hif := true } (fun s =>
    if (s.flt.tlVales.get (0, 0) vale).1 ≠ 0 ∧ s.lastMismatch vale + 1000 ≤ s.tick then
      let m := s.flt.tlVales.set (0, 0) vale (0, 0)
      let w := tlClocks m .west
      let e := tlClocks m .east
      let wasW := s.clk.causeW.getLsbD 3 && !w
      let wasE := s.clk.causeE.getLsbD 3 && !e
      let s1 := { s with
        flt := { s.flt with tlVales := m }
        clk := { s.clk with
          causeW := if w then s.clk.causeW else s.clk.causeW &&& 7
          causeE := if e then s.clk.causeE else s.clk.causeE &&& 7 } }
      let s2 := if wasW then s1.event [.pf, .bmc] 0x30 4 else s1
      if wasE then s2.event [.pf, .bmc] 0x30 (512 + 4) else s2
    else s) s

/-! ## Refresh (R280, R286, R287) -/

/-- Whether an array is never due: of a tile that holds arrays of no resident generation (R280). -/
def State.holdsNothing (s : State) (k : Nat) : Bool :=
  !((s.wgt.genA.arrays ++ s.wgt.genB.arrays).any (fun a => decide (a.site = k)))

/-- Whether a tile's slot keeps it out of refresh and scans (Table 4.12): STAGING, PROGRAMMING or YIELDING. -/
def State.excluded (s : State) (k : Nat) : Bool :=
  let f := fun (g : Gen) => (g.state == 1 || g.state == 2 || g.state == 7) && g.arrays.any (fun a => decide (a.site = k))
  f s.wgt.genA || f s.wgt.genB

/-- Whether an install is programming in a vale (R287). -/
def State.installIn (s : State) (v : Nat) : Bool :=
  s.wgt.phase == 3 && (match s.wgt.install with
    | some i => i.arrays.any (fun x => decide (siteVale (siteAt x.2.1.x x.2.1.y) = v))
    | none => false)

/-- The order of refresh of due arrays (R287): weak count above baseline, then age, both largest first, then x, y, p. -/
def refreshBefore (a b : Nat × Arr) : Bool :=
  let wa := (a.2.weak.toNat : Int) - a.2.baseline.toNat
  let wb := (b.2.weak.toNat : Int) - b.2.baseline.toNat
  let pa := siteX (a.1 / 17) * 4096 + siteY (a.1 / 17) * 17 + a.1 % 17
  let pb := siteX (b.1 / 17) * 4096 + siteY (b.1 / 17) * 17 + b.1 % 17
  if wa ≠ wb then decide (wb < wa) else if a.2.progTick ≠ b.2.progTick then decide (a.2.progTick < b.2.progTick) else decide (pa ≤ pb)

/-- The due array to refresh next among those whose refresh may start. -/
def State.nextRefresh (s : State) : Option (Nat × Nat) :=
  let c := (s.arrs.entries {}).filter (fun e =>
    let k := e.1 / 17
    e.2.due && !(s.holdsNothing k) && !(s.excluded k) && !(s.installIn (siteVale k)) && !(s.site k).copyActive && s.canStart k true)
  (c.foldl (fun (best : Option (Nat × Arr)) e => match best with
    | none => some e
    | some b => if refreshBefore b e then some b else some e) none).map (fun e => (e.1 / 17, e.1 % 17))

/-- REFRESH_START: the first due array: an active one copied into the spare, a spare refreshed in place (R286). -/
def execRefreshStart (s : State) : Out :=
  act {
      thm := true, mem := true, host := true, poison := true, arrs := true, sites := true, wgt := true, vars := true, eng := true,
      cur := true, nxt := true, mesh := true, sync := true, seqs := true, flt := true, fab := true, chans := true, hif := true } (fun s =>
    match s.nextRefresh with
    | none => s
    | some (k, p) =>
      let r := s.site k
      match r.amap.phys.findIdx? (fun q => decide (q = p)) with
      | some l =>
        let g := s.verifiedGolden k l p
        (match g.2 with
        | some ga => (g.1.updSite k (fun q => { q with copyActive := true })).openSession (sessionOf k r.amap.spare (.refresh 2) ga)
        | none => g.1.siteDie k 0x0A p)
      | none =>
        match r.spareOf with
        | none => s
        | some l =>
          match s.goldenOf k l with
          | some ga =>
            if s.goldenOk ga then
              (s.updSite k (fun q => { q with copyActive := true })).openSession (sessionOf k p (.refresh 0) ga)
            else s.siteDie k 0x0A p
          | none => s) s

/-! ## Contents moved to other sites (R309, R441) -/

/-- The placement of a generation with site `old` replaced by `new_`. -/
def Gen.rename (g : Gen) (old new_ : Nat) : Gen :=
  { g with
    arrays := g.arrays.map (fun a => if a.site = old then { a with site := new_ } else a)
    chunks := g.chunks.map (fun c =>
      if siteBase old ≤ c.dest ∧ c.dest < siteBase old + 0x800000 then { c with dest := c.dest - siteBase old + siteBase new_ } else c) }

/-- The non-array chunks a site holds copied from the golden area to the same offsets of another site. -/
def State.moveChunks (s : State) (old new_ : Nat) : State :=
  (s.wgt.genA.chunks ++ s.wgt.genB.chunks).foldl (fun (t : State) c =>
    if siteBase old ≤ c.dest ∧ c.dest < siteBase old + 0x800000 then
      t.wrBytes (c.dest - siteBase old + siteBase new_) (t.rdBytes c.golden c.length)
    else t) s

/-- One pair's contents moved: chunks copied, placement renamed, and the identity map with its spare for a weight tile. -/
def State.movePair (s : State) (e : Nat × Nat) : State :=
  let s1 := s.moveChunks e.1 e.2
  let s2 := { s1 with wgt := { s1.wgt with genA := s1.wgt.genA.rename e.1 e.2, genB := s1.wgt.genB.rename e.1 e.2 } }
  if siteType e.1 = 1 then
    let s3 := s2.updSite e.2 (fun q => { q with amap := {}, nextValid := false, spareOf := some 0 })
    { s3 with flt := { s3.flt with respares := s3.flt.respares ++ [(e.2, 16)] } }
  else s2

/-- A fault command's contents all moved: it completes (R309, R441). -/
def State.moveDone (s : State) : State :=
  match s.flt.move with
  | none => s
  | some m =>
    if !m.left.isEmpty then s
    else
      let stale := fun (v : VariantImage) => m.code = 0x61 && m.pairs.any (fun e => uses e.1 v)
      let s1 := (m.pairs.foldl State.movePair s).makeStale stale
      let s2 := { s1 with flt := { s1.flt with move := none } }
      (s2.complete m.channel m.code m.cseq 0 0).pumpRepairs

/-- Whether the golden copies of the chunks a site holds match their hashes (R125). -/
def State.chunksOk (s : State) (k : Nat) : Bool :=
  (s.wgt.genA.chunks ++ s.wgt.genB.chunks).all (fun c =>
    !(decide (siteBase k ≤ c.dest ∧ c.dest < siteBase k + 0x800000)) || digestBits (sha512 (s.rdBytes c.golden c.length)) == c.hash)

/-! ## Program sessions done (R113) -/

/-- An abort of a rolling rewrite ends (R123): the outgoing slot as it was, the target EMPTY. -/
def State.abortDone (s : State) : State :=
  match s.wgt.install with
  | some i =>
    if s.wgt.phase = 5 ∧ i.abortLeft.isEmpty then
      let b := decide (i.slot = 1)
      let was := (s.gen (!b)).recState
      let s0 := (s.setDue false none).setDue true none
      let s1 := ((s0.updGen b (fun _ => {})).placeChunks (s.gen (!b))).updGen (!b) (fun g => { g with state := was, recState := 0 })
      let s2 := { s1 with wgt := { s1.wgt with
        install := none, phase := 0, status := 0x0B, ptrValid := s1.wgt.ptrValid || was == 4,
        liveSlot := if was = 4 then !b else s1.wgt.liveSlot } }
      let s3 := s2.complete i.channel 0x20 i.cseq 0x0B 0
      match i.abortBy with
      | some (c, q) => s3.complete c 0x23 q 0 0
      | none => s3
    else s
  | none => s

/-- Arrays of an abort reprogrammed as the limits allow; those that hold their image already are skipped (R123), and
those of dead tiles. -/
def State.pumpAbort (s : State) : State :=
  match s.wgt.install with
  | none => s
  | some i =>
    if s.wgt.phase ≠ 5 then s
    else
      (i.abortLeft.foldl (fun (t : State) g =>
        let p := (t.site g.site).physOf g.logical
        if t.wgt.sessions.any (fun x => decide (x.site = g.site ∧ x.p = p)) then t
        else if ((t.arr g.site p).acrc = g.crc ∧ !(t.arr g.site p).cut) ∨ (t.site g.site).fstate = 3 then
          { t with wgt := { t.wgt with install := t.wgt.install.map (fun i => { i with abortLeft := i.abortLeft.filter (fun a => a != g) }) } }
        else if t.canStart g.site false then t.openSession (sessionOf g.site p (.abort g) g)
        else t) s).abortDone

/-- The install in progress changed by `f`. -/
def State.updInstall (s : State) (f : Install → Install) : State :=
  { s with wgt := { s.wgt with install := s.wgt.install.map f } }

/-- One array of a fault command moved. -/
def State.leftDone (s : State) (n : Nat) (g : GenArray) : State :=
  { s with flt := { s.flt with move := s.flt.move.map (fun m => { m with left := m.left.filter (fun e => e != (n, g)) }) } }

/-- The plan places that an array of an install fills. -/
def Install.placesOf (i : Install) (g : GenArray) : List Nat :=
  (i.arrays.filter (fun a => decide (a.2.1.entry = g.entry ∧ siteAt a.2.1.x a.2.1.y = g.site))).map (·.1)

/-- The spare or array of a session verified: what each purpose makes of it. -/
def State.sessionOk (s : State) (x : Session) : State :=
  let k := x.site
  match x.purpose with
  | .install g => (s.updInstall (fun i => { i with programmed := i.programmed ++ i.placesOf g })).pumpInstall
  | .abort g => (s.updInstall (fun i => { i with abortLeft := i.abortLeft.filter (fun a => a != g) })).pumpAbort
  | .refresh ph =>
    if ph = 2 then
      let r := s.site k
      match s.wgt.genA.arrays ++ s.wgt.genB.arrays |>.find? (fun g => decide (g.site = k ∧ g.golden = x.source)) with
      | some g =>
        let old := r.physOf g.logical
        s.updSite k (fun q => { q with
          next := { phys := q.amap.phys.set g.logical q.amap.spare, spare := old }, nextValid := true })
      | none => s.updSite k (fun q => { q with copyActive := false })
    else
      let s1 := s.updSite k (fun q => { q with copyActive := false })
      { s1 with sens := { s1.sens with refDone := s1.sens.refDone + 1 } }
  | .exchange =>
    match s.flt.exchanging.find? (fun e => decide (e.1 = k)) with
    | none => s
    | some (_, p, l) =>
      let s1 := s.updSite k (fun q => { q with
        amap := { phys := q.amap.phys.set l q.amap.spare, spare := p }, spareOf := some l, switches := satInc q.switches,
        nextValid := false })
      { s1 with flt := { s1.flt with
        exchanges := satInc s1.flt.exchanges, respares := s1.flt.respares ++ [(k, p)],
        exchanging := s1.flt.exchanging.filter (fun e => !decide (e.1 = k)) } }
  | .remap n g => (s.leftDone n g).moveDone
  | .relocate n g => (s.leftDone n g).moveDone

/-- A second read-back that differs (R113, R286): the tile goes to the fault path. -/
def State.sessionBad (s : State) (x : Session) : State :=
  let k := x.site
  match x.purpose with
  | .install g => (s.stopInstall g.entry k x.p).siteDie k 0x0B x.p
  | .abort g =>
    ((s.updInstall (fun i => { i with abortLeft := i.abortLeft.filter (fun a => a != g) })).siteDie k 0x0B x.p).pumpAbort
  | .refresh _ => (s.updSite k (fun q => { q with copyActive := false })).siteDie k 0x0A x.p
  | .exchange =>
    let s1 := { s with flt := { s.flt with exchanging := s.flt.exchanging.filter (fun e => !decide (e.1 = k)) } }
    s1.siteDie k 0x0A x.p
  | .remap _ _ => (s.moveFail 0x06 (65536 * x.p)).siteDie k 0x0B x.p
  | .relocate _ _ => (s.moveFail 0x07 0).siteDie k 0x0B x.p

/-- The cells of a physical array written from a golden image, with the bits `flips` names changed. -/
def State.programCells (s : State) (k p source : Nat) (flips : List (Nat × Byte)) : State :=
  let base := cellKey k p 0 0
  let c1 := Sparse.copyRange 0#8 s.cells s.mem source base imageBytes
  let c2 := flips.foldl (fun (c : Memory) e =>
    if e.1 < imageBytes then c.write (base + e.1) (c.read (base + e.1) ^^^ e.2) else c) c1
  { s with cells := c2 }

/-- PROGRAM_SESSION_DONE: the array read back and its CRC checked, with one retry (R113); its age restarts, and the scan sets its
baseline and offsets (R280, R281). `flips` names the bytes the session left different. -/
def execProgramSessionDone (site p : Nat) (flips : List (Nat × Byte)) (weak : Nat) (trimOffs : List Int) (s : State) : Out :=
  act {
      thm := true, mem := true, host := true, poison := true, cells := true, arrs := true, sites := true, wgt := true, vars := true,
      eng := true, cur := true, nxt := true, mesh := true, sync := true, seqs := true, sens := true, flt := true, fab := true, chans := true, hif := true } (fun s =>
    match s.wgt.sessions.find? (fun x => decide (x.site = site ∧ x.p = p) && !x.suspended) with
    | none => s
    | some x =>
      let s1 := s.programCells site p x.source flips
      let crc := s1.crcOf site p
      let s2 := s1.updArr site p (fun a => { a with
        acrc := crc, cut := false, progTick := s.poweredTicks, weak := BitVec.ofNat 16 weak, baseline := BitVec.ofNat 16 weak, trimOffs := trimOffs, due := false,
        scanRg := 0, scanWeak := 0 })
      if crc = x.crc then
        let s3 := (s2.closeSession site p).updArr site p (fun a => { a with unverified := false, recCrc := crc })
        ((s3.sessionOk x).pumpRepairs).pumpInstall
      else if !x.retried then
        let s3 := s2.updArr site p (fun a => { a with cycles := a.cycles + 1 })
        { s3 with wgt := { s3.wgt with sessions := s3.wgt.sessions.map (fun (y : Session) =>
            if y.site = site ∧ y.p = p then { y with retried := true } else y) } }
      else ((s2.closeSession site p).sessionBad x).pumpRepairs.pumpInstall) s

end Sys2Proof.Machine
end

