-- ==== Sys2Proof/Machine/SiteRegs.lean ====
section
/-! DEFINITION. The registers of a site window (R22, R37, R65, R145, R195, R199, R203, R281, R292, R317, Table 16.13): what each reads, and
which of them a step program reaches. -/

namespace Sys2Proof.Machine

/-! ## Registers from fields -/

/-- A register's value from its fields, each with the bit it begins at. -/
def reg (fs : List (Nat × Nat)) : W64 := BitVec.ofNat 64 (fs.foldl (fun (a : Nat) f => a + f.2 * 2 ^ f.1) 0)

/-- The register at an offset of a list of registers. -/
def regAt (rs : List (Nat × W64)) (o : Nat) : Option W64 := (rs.find? (fun r => decide (r.1 = o))).map (·.2)

/-- The number of element `o` lies in of an array of `n` registers at a base and stride, if it is the first byte of one. -/
def regIdx (base stride n o : Nat) : Option Nat :=
  if base ≤ o ∧ o < base + stride * n ∧ (o - base) % stride = 0 then some ((o - base) / stride) else none

/-- A flag as a number. -/
def flag (b : Bool) : Nat := if b then 1 else 0

/-! ## Weight tiles (Tables 2.7 and 9.10) -/

/-- The trim converter of a column of an array: 64 data columns each, the 48 check columns together (R37). -/
def trimConverter (column : Nat) : Nat := if column < 2048 then column / 64 else 32

/-- The trim code in force of converter t of physical array p (R37, R281): the reference code of its cluster with the group's offset, both as
the last calibration loaded them, clamped to 6 bits. -/
def State.trimCode (s : State) (k p t : Nat) : BitVec 6 :=
  BitVec.ofInt 6 (max 0 (min 63 (((s.nv.refCodes.get 0 (siteCluster k)).toNat : Int) + (s.arr k p).trims.getD t 0)))

/-- Eight entries of an array map, from logical array `l` on, five bits each. -/
def AMap.fields (m : AMap) (l : Nat) : List (Nat × Nat) := (List.range 8).map (fun i => (5 * i, m.phys.getD (l + i) 0 % 32))

/-- The score record of the bank that is RUNNING. -/
def State.scoreRunning (s : State) (k : Nat) : Option ScoreRec := s.runImg.bind (fun v => v.score? k)

/-- The registers of a weight tile. Its map and its array CRCs show their reset values until start-up has loaded the record's (R65). -/
def State.tileReg (s : State) (k o : Nat) : Option W64 :=
  let r := s.site k
  let up := s.boot.done.getLsbD 6
  let m : AMap := if up then r.amap else {}
  let n : AMap := if r.nextValid then r.next else { phys := [], spare := 0 }
  match regIdx 0x700100 8 17 o, regIdx 0x701800 8 17 o with
  | some p, _ => some (if up then (s.arr k p).acrc.zeroExtend 64 else 0)
  | _, some p => some (reg [(32, s.ageOf k p), (16, (s.arr k p).baseline.toNat), (0, (s.arr k p).weak.toNat)])
  | _, _ =>
    regAt [(0x700008, (s.scoreRunning k).elim 0 (·.tmode)), (0x700010, (s.scoreRunning k).elim 0 (·.tafmt)),
      (0x700018, reg (m.fields 0)), (0x700020, reg ((40, m.spare) :: m.fields 8)),
      (0x700028, reg (n.fields 0)), (0x700030, reg ((63, flag r.nextValid) :: (40, n.spare) :: n.fields 8)),
      (0x700038, reg [(16, r.switches.toNat), (9, flag r.copyActive), (8, flag r.nextValid), (0, m.spare)])] o

/-! ## KV cores (Tables 7.3 and 7.5) -/

/-- The KV layout a frame was written under. -/
def State.layoutOf (s : State) (f : KvFrame) : List (Nat × W64 × List W64) := s.srv.layouts.getD f.layout []

/-- The local frame of core k that holds decode frame f under a KV layout (R200). -/
def decodeIn (l : List (Nat × W64 × List W64)) (k f : Nat) : Option Nat :=
  (l.find? (fun e => decide (e.1 = k))).bind (fun e =>
    if kvRole e.2.1 = 1 ∧ f % kvK e.2.1 = kvGidx e.2.1 then some (f / kvK e.2.1) else none)

/-- The local frame of core k that holds sweep page f under a KV layout (R202). -/
def sweepIn (k : Nat) : List (Nat × W64 × List W64) → Nat → Option Nat
  | [], _ => none
  | e :: es, f =>
    if kvRole e.2.1 ≠ 2 then sweepIn k es f
    else if f < kvFrames e.2.1 then (if e.1 = k then some f else none) else sweepIn k es (f - kvFrames e.2.1)

/-- The local frames of a core that are not free, with whether each is a sweep page. -/
def State.coreFrames (s : State) (k : Nat) : List (Nat × Bool × KvFrame) :=
  (s.frames.entries {}).filterMap (fun (e : Nat × KvFrame) => (decodeIn (s.layoutOf e.2) k e.1).map (fun u => (u, false, e.2))) ++
  (s.sweeps.entries {}).filterMap (fun (e : Nat × KvFrame) => (sweepIn k (s.layoutOf e.2) e.1).map (fun u => (u, true, e.2)))

/-- The frame-map entry of a frame (Table 7.5): 0 where it is not in use. -/
def KvFrame.entry (f : KvFrame) (sweep : Bool) : W64 :=
  if f.life = 1 then
    reg [(63, 1), (61, flag sweep), (60, flag f.kind), (45, f.owner), (27, f.page), (22, f.fill), (17, f.fmt.toNat), (12, f.partition),
      (4, if sweep then f.layer else 0)]
  else 0

/-- The frame-map entry of local frame u of a core (R203). -/
def State.frameEntry (s : State) (k u : Nat) : W64 :=
  ((s.coreFrames k).find? (fun e => decide (e.1 = u))).elim 0 (fun e => e.2.2.entry e.2.1)

/-- The registers of a KV core (Table 7.3). KV_MODE and KV_HEAD, which arming writes, show the record of the RUNNING bank, under which the
core acts (log entry 10). -/
def State.kvReg (s : State) (k o : Nat) : Option W64 :=
  let r := (s.scoreRunning k).getD { site := k }
  let fs := s.coreFrames k
  let used := fs.countP (fun e => decide (e.2.2.life = 1))
  let zeroing := fs.countP (fun e => decide (e.2.2.life = 2))
  match regIdx 0x700100 8 16 o with
  | some h => some (r.kvHeads.getD h 0)
  | none => regAt [(0x700008, r.kvMode), (0x700010, reg [(32, kvFrames r.kvMode - fs.length), (16, zeroing), (0, used)])] o

/-! ## Every site -/

/-- A score bank of a site (Table 5.3): what arming has written into it. -/
def State.scoreBank (s : State) (k b : Nat) (o : Nat) : Option W64 :=
  let x := s.bank b
  match x.scores.find? (fun r => decide (r.site = k)) with
  | none => if o < 0x8000 ∧ (o ≤ 0x18 ∨ (0x100 ≤ o ∧ o < 0x300) ∨ 0x4000 ≤ o) then some 0 else none
  | some r =>
    let xst := fun (i : Nat) => ((r.xst.find? (fun e => decide (e.1 = i))).elim 0 (·.2)).toNat
    match regIdx 0x100 8 64 o, regIdx 0x4000 8 2048 o with
    | some a, _ => some (BitVec.ofNat 64 (r.addrs.getD a 0))
    | _, some i => some (reg [(0, xst (2 * i)), (32, xst (2 * i + 1))])
    | _, _ =>
      regAt [(0, reg [(20, r.role), (8, r.stage), (5, r.rclass), (1, flag r.laneBound), (0, 1)]),
        (8, reg [(32, x.variantId.toNat % 2 ^ 32), (0, x.slot)]),
        (0x10, if siteType k = 1 then r.tmode else 0), (0x18, if siteType k = 1 then r.tafmt else 0)] o

/-- SITE_ID (Table 2.7). -/
def siteId (k : Nat) : W64 := reg [(24, siteX k), (16, siteY k), (8, siteType k), (0, if siteType k = 1 then 0x11 else 0)]

/-- SITE_FAULT (Table 10.8). -/
def State.siteFault (s : State) (k : Nat) : W64 :=
  let r := s.site k
  reg [(48, r.mismatches.toNat), (32, r.cleanTicks.toNat), (24, r.votes.toNat), (19, (r.marks.head?).elim 0x1F (·.p)),
    (12, r.fstate.toNat), (8, (s.siteCode k).toNat), (0, r.selftestFails.toNat)]

/-- The 64-bit register at an offset of a site window; none where the offset is reserved. -/
def State.siteReg (s : State) (k o : Nat) : Option W64 :=
  if 0x740000 ≤ o ∧ o < 0x780000 then s.scoreBank k ((o - 0x740000) / 0x10000) ((o - 0x740000) % 0x10000)
  else match regIdx 0x700800 8 8 o with
    | some e => some (s.sync.exps.get 0 (8 * k + e))
    | none =>
      (regAt [(0x700000, siteId k), (0x702000, s.siteFault k), (0x702008, (s.site k).faultTime)] o).or
        (if siteType k = 1 then s.tileReg k o else if siteType k = 2 then s.kvReg k o else none)

/-- The byte at an offset of the register space: a byte of a register, or a TILE_TRIM entry (Table 9.10). -/
def State.siteByte (s : State) (k o : Nat) : Option Byte :=
  if siteType k = 1 ∧ 0x701000 ≤ o ∧ o < 0x701000 + 0x40 * 17 then
    (if o % 0x40 < 33 then some ((s.trimCode k ((o - 0x701000) / 0x40) (o % 0x40)).zeroExtend 8) else none)
  else (s.siteReg k (o / 8 * 8)).map (fun w => BitVec.ofNat 8 (w.toNat / 2 ^ (8 * (o % 8))))

/-- Whether an offset lies in the narrow registers, TILE_TRIM and XST, which only the service controller and arming reach (R466). -/
def narrowReg (o : Nat) : Bool :=
  decide ((0x701000 ≤ o ∧ o < 0x701800) ∨ (0x740000 ≤ o ∧ o < 0x780000 ∧ 0x4000 ≤ (o - 0x740000) % 0x10000))

/-- Whether a step program may read `n` bytes at an offset of a site's register space: whole registers of 64 bits or halves of them, none of
them reserved or narrow (R23, R466). -/
def State.okReg (s : State) (k o n : Nat) : Bool :=
  decide (o % 4 = 0 ∧ n % 4 = 0) &&
  (List.range (n / 4)).all (fun i => !(narrowReg (o + 4 * i)) && (s.siteReg k ((o + 4 * i) / 8 * 8)).isSome)

/-- The bytes a unit reads: of the registers of a site window, of the frame map of a KV core (R203), of memory. -/
def State.load (s : State) (a n : Nat) : List Byte :=
  match region s.nv.stackGb.toNat a with
  | .siteReg k o => if k = hubSite ∧ 0x7E0000 ≤ o then s.rdBytes a n
    else (List.range n).map (fun i => (s.siteByte k (o + i)).getD 0)
  | .sram k o => if siteType k = 2 ∧ 0x388000 ≤ o ∧ o < 0x38C000 then
      (List.range n).map (fun i => BitVec.ofNat 8 ((s.frameEntry k ((o + i - 0x388000) / 8)).toNat / 2 ^ (8 * ((o + i) % 8))))
    else s.rdBytes a n
  | _ => s.rdBytes a n

/-- The number the `n` bytes a unit reads hold. -/
def State.loadLE (s : State) (a n : Nat) : Nat := ofLE (s.load a n)

end Sys2Proof.Machine
end

