-- ==== Sys2Proof/Machine/Units.lean ====
section
/-! DEFINITION. Which units act in a beat, and for what lane (R65, R135–R138, R143, R144, R147, R186); what a unit does with poison
(R78, R173, R297) and with the words it hands to its router. -/

namespace Sys2Proof.Machine

/-- The score of a site under the running variant. -/
def State.scoreAt (s : State) (k : Nat) : ScoreRec :=
  match s.runImg with
  | some v => (v.score? k).getD { site := k }
  | none => { site := k }

/-- Whether a site of type `t` takes part in the steps issuing: a stall stops issue (R186). -/
def State.unitUp (s : State) (k t : Nat) : Bool := decide (siteType k = t) && s.siteActs k && !s.sync.stalled

/-- Whether a site's score marks it lane-bound. -/
def State.laneBound (s : State) (k : Nat) : Bool :=
  match s.runImg with
  | some v => (match v.score? k with | some r => r.laneBound | none => false)
  | none => false

/-- The kind of the lane a site serves (Table 5.1); a unit that serves no lane acts as for a NORMAL one. -/
def State.kindAt (s : State) (k : Nat) : Nat :=
  if s.laneBound k then (match s.laneAt k with | some l => l.kind.toNat | none => 0) else 1

/-- The prefill flag of the lane a site serves (R137, R216): that of the token, which a pair keeps with its second lane. -/
def State.prefillAt (s : State) (k : Nat) : Bool :=
  match s.laneOf k with
  | some (false, j) => (s.cur.lanes.getD (resultLane s.cur.lanes j) {}).ekind == 2
  | some (true, j) => (s.nxt.lanes.getD (resultLane s.nxt.lanes j) {}).ekind == 2
  | none => false

/-- The WORK bundle that a site's unit fields come from: none in a hold slot, where only the route field acts (R146, R176). -/
def State.beatAt (s : State) (k : Nat) : Option Beat :=
  match s.beat (siteHalf k) with
  | some b => if b.steps ∧ (headerOf b.bundle).cls = 1 then some b else none
  | none => none

/-- Whether the condition of a beat lets a lane-bound unit act (R147): an EMPTY lane never, a NOTCH lane only under NOTCH; a unit that
serves no lane evaluates none. -/
def State.condAt (s : State) (k : Nat) (b : Beat) : Bool :=
  let c := (headerOf b.bundle).cond
  !(s.laneBound k) ||
  (s.kindAt k != 0 && (s.kindAt k != 6 || decide (c = 8)) && condHolds c (s.kindAt k) (s.prefillAt k))

/-- Whether the unit of type `t` at a site does an operation in this beat: it is up, the condition holds, and the bundle asks it to. -/
def State.acts (s : State) (k t : Nat) (asks : Beat → ScoreRec → Bool) : Bool :=
  s.unitUp k t && (match s.beatAt k with | some b => s.condAt k b && asks b (s.scoreAt k) | none => false)

/-- Whether a weight tile does an array operation: 1 MAC, 2 SWEEP. -/
def State.doesArray (s : State) (k op : Nat) (f : ArrayField) : Bool := s.acts k 1 (arrayAsks · · op f)
/-- Whether a weight tile does an accumulator operation (Table 5.7). -/
def State.doesAcc (s : State) (k op : Nat) (f : AccField) : Bool := s.acts k 1 (accAsks · · op f)
/-- Whether a KV core does an operation (Table 5.8): one with role none does no attention work (R198). -/
def State.doesKv (s : State) (k op : Nat) (f : KvField) : Bool :=
  decide (kvRole (s.scoreAt k).kvMode ≠ 0) && s.acts k 2 (kvAsks · · op f)
/-- Whether a prefill core does an operation (Table 5.9). -/
def State.doesPf (s : State) (k op : Nat) (f : PfField) : Bool := s.acts k 3 (pfAsks · · op f)
/-- Whether a precision tile does an operation (Table 5.10). -/
def State.doesPrec (s : State) (k op : Nat) (f : PrecField) : Bool := s.acts k 4 (precAsks · · op f)
/-- Whether a service site does a sampler operation (R154). -/
def State.doesSampler (s : State) (k op : Nat) (areg : BitVec 6) : Bool := s.acts k 5 (samplerAsks · · op areg)
/-- Whether a site does a sync operation (R155): no condition applies, and one under way is not held up by a stall (R147, R186). -/
def State.doesSync (s : State) (k op : Nat) (f : SyncField) : Bool :=
  s.siteActs k && (match s.beatAt k with | some b => syncAsks b (s.scoreAt k) op f | none => false)

/-- The parity of the slot a site acts in (R138). -/
def State.parity (s : State) (k : Nat) : Nat :=
  (match s.beat (siteHalf k) with | some b => b.slotCount | none => s.eng.slotCount) % 2

/-! ## Faults of data, and the router -/

/-- A format fault (R78): a lane's result is withheld and its request ends FORMAT_MISMATCH at the commit. -/
def Lane.formatFaulted (l : Lane) : Lane :=
  if l.ran && l.outcome == 0 && l.endStatus == 0 then { l with endStatus := 0x18 } else l

/-- A format fault of the lane a site serves. -/
def State.formatFault (s : State) (k : Nat) : State := s.updLaneAt k Lane.formatFaulted

/-- Whether some byte of a range is poisoned (R173, R297). -/
def State.poisoned (s : State) (a n : Nat) : Bool := s.poison.any (fun x => decide (a ≤ x ∧ x < a + n))

/-- Poison consumed at a site: its lane is faulted; data of DRAM or of a port classifies no site (Table 10.1). -/
def State.consumePoison (s : State) (k : Nat) : State := s.faultLane k

/-- A unit at a site reads `n` bytes of memory: poisoned words among them are counted (FLT_SRAM, R297) and consumed. -/
def State.readPoison (s : State) (k a n : Nat) : State :=
  if s.poisoned a n then
    let t := s.consumePoison k
    let words := ((s.poison.filter (fun x => decide (a ≤ x ∧ x < a + n))).map (· / 8)).eraseDups.length
    { t with flt := { t.flt with sramPois := satAdd t.flt.sramPois words } }
  else s

/-- Poisoned flits taken from the route are consumed. -/
def State.takePoison (s : State) (k : Nat) : State :=
  if (s.site k).poisonIn then (s.updSite k (fun r => { r with poisonIn := false })).consumePoison k else s

/-- Whether two addresses lie in one stack, one site or the host window. -/
def sameRegion (a b : Region) : Bool :=
  match a, b with
  | .dram i _, .dram j _ => decide (i = j)
  | .sram i _, .sram j _ => decide (i = j)
  | .siteReg i _, .siteReg j _ => decide (i = j)
  | .host _, .host _ => true
  | _, _ => false

/-- Whether a step program of a site may touch a range: memory that exists, and no KV core's page area but its own (R23, R197); or registers
of a site window (R22, R65). -/
def State.okUnit (s : State) (k a n : Nat) : Bool :=
  let last := a + n - 1
  let gb := s.nv.stackGb.toNat
  decide (n = 0) || (sameRegion (region gb a) (region gb last) &&
    (match region gb a with
     | .siteReg j o => !s.mappedOut j && s.okReg j o n
     | .sram j o => s.okByte a && s.okByte last && decide (siteType j ≠ 2 ∨ j = k ∨ 0x38C000 ≤ o)
     | _ => s.okByte a && s.okByte last))

/-- Whether it may write there: not in the weight region, nor in the registers of a site or the frame map of a core (R24, R65, R102,
R203). -/
def State.okWrite (s : State) (k a n : Nat) : Bool :=
  s.okUnit k a n && !(s.meetsWregion a n) &&
  (match region s.nv.stackGb.toNat a with
   | .siteReg _ _ => false
   | .sram j o => decide (siteType j ≠ 2 ∨ o + n ≤ 0x388000 ∨ 0x38C000 ≤ o)
   | _ => true)

/-- Words handed to the router of a site. -/
def State.toRouter (s : State) (k : Nat) (ws : List W64) : State := s.updSite k (fun r => { r with outbox := r.outbox ++ ws })

end Sys2Proof.Machine
end

