-- ==== Sys2Proof/Machine/Sync.lean ====
section
/-! DEFINITION. Sync words (R182–R192): SIGNAL, WAIT and MONITOR, mirror words, stalls and the watchdog, and what a fill zeroes. -/

namespace Sys2Proof.Machine

/-! ## Homes (R183, R184, R190) -/

/-- An address register of a site, as the running variant's score loads it (R65). -/
def State.aregOf (s : State) (k i : Nat) : Nat :=
  match s.runImg with
  | some v => (match v.score? k with | some r => r.addrs.getD i 0 | none => 0)
  | none => 0

/-- The sync page of a resident slot (R190). -/
def State.syncPage (s : State) (slot : Nat) : Nat := s.lock.vBase.toNat * 2 ^ 30 + 0x10000 * slot

/-- The tile sync range of a score: its device-local address and length (R183). -/
def syncRange (r : ScoreRec) : Nat × Nat := (siteBase r.site + r.addrs.getD 62 0, r.addrs.getD 63 0)

/-- Where a step program's sync word lies (R184). -/
inductive Home | fill | committed | mirror | other
  deriving DecidableEq, Repr

/-- The home of a sync word under the running variant. -/
def State.home (s : State) (a : Nat) : Home :=
  let page := s.syncPage (s.bank s.eng.bank).slot
  if a % 8 ≠ 0 then .other
  else if page ≤ a ∧ a < page + 0x8000 then .fill
  else if page + 0x8000 ≤ a ∧ a < page + 0x10000 then .committed
  else if hostSyncPage + 0x800 ≤ a ∧ a < hostSyncPage + 0x1000 then .mirror
  else match s.runImg with
    | some v => if v.scores.any (fun r => decide ((syncRange r).1 ≤ a ∧ a < (syncRange r).1 + (syncRange r).2)) then .fill else .other
    | none => .other

/-! ## Signals -/

/-- A changed mirror word written to the host, and its armed interrupt raised (R192). -/
def State.mirrorWrite (s : State) (n : Nat) : State :=
  if !s.sync.mirrorEn then s
  else
    let v := s.mem.readLE (hostSyncPage + 0x800 + 8 * n) 8
    let s1 := { s with host := s.host.writeLE (s.sync.mirrorBase.toNat * 4096 + 8 * n) 8 v }
    let w := s.sync.hmon.getD (n / 64) 0
    if w.getLsbD (n % 64) then
      ({ s1 with sync := { s1.sync with hmon := s1.sync.hmon.set (n / 64) (w &&& ~~~(1#64 <<< (n % 64))) } }).irq 0 4
    else s1

/-- A write to a sync word wakes the WAITs that monitor it (R182). -/
def State.wake (s : State) (a : Nat) : State :=
  { s with sync := { s.sync with woken := s.sync.woken ++ s.sync.monitors.filterMap (fun m =>
      if m.2 = a ∧ !(s.sync.woken.contains m.1) then some m.1 else none) } }

/-- The expectation register of a site and number e. -/
def expKey (site e : Nat) : Nat := 8 * site + e

/-- Whether a WAIT's word is still below the value it awaits. -/
def State.unmet (s : State) (w : Nat × Nat × W64) : Bool := decide (s.rdLE w.2.1 8 < w.2.2.toNat)

/-- WAITs whose words have reached what they await are satisfied: the wakes armed for their registers are disarmed (R182). -/
def State.releaseWaits (s : State) : State :=
  let met := (s.sync.waits.filter (fun w => !s.unmet w)).map (·.1)
  { s with sync := { s.sync with
      waits := s.sync.waits.filter s.unmet
      monitors := s.sync.monitors.filter (fun m => !(met.contains m.1))
      woken := s.sync.woken.filter (fun k => !(met.contains k)) } }

/-- A SIGNAL applied at its home (R182). A wake only makes a pending WAIT read again sooner, so writes of other kinds need none: the model
reads the word wherever it asks whether a WAIT is satisfied. -/
def State.signalWord (s : State) (a inc : Nat) : State := ((s.addWord a inc).wake a).releaseWaits

/-- The signals held for the commit applied, one mirror write for each mirror word that changed (R184, R192). -/
def State.commitSignals (s : State) : State :=
  let s1 := s.sync.held.foldl (fun (t : State) (e : Nat × W64) => t.signalWord e.1 e.2.toNat) s
  let s2 := { s1 with sync := { s1.sync with held := [] } }
  let ms := (s.sync.held.filterMap (fun e =>
    if hostSyncPage + 0x800 ≤ e.1 ∧ e.1 < hostSyncPage + 0x1000 then some ((e.1 - hostSyncPage - 0x800) / 8) else none)).eraseDups
  ms.foldl State.mirrorWrite s2

/-- What a fill interval sets to zero before its first slot (R188). -/
def State.fillZero (s : State) (slot : Nat) : State :=
  let s1 := { s with sync := { s.sync with exps := [], monitors := [], woken := [], waits := [], waitTarget := none } }
  let s2 := s1.zeroMem (s1.syncPage slot) 0x8000
  match (s.var slot).img with
  | some v => v.scores.foldl (fun (t : State) r => t.zeroMem (syncRange r).1 (syncRange r).2) s2
  | none => s2

/-! ## Operations of step programs (Table 6.5) -/

/-- An address fault of a step program (R23, Table 10.1): logged and reported, the step aborted. -/
def State.addressFault (s : State) (k : Nat) : State :=
  (s.log 0x09 (siteX k) (siteY k) 0x1F 0 1).abortStep false

/-- SIGNAL: held for the commit at a committed-half or mirror word; an increment of 0 is reserved and adds nothing. One under way reaches
its home in a stall too: the control network is not the mesh (R181, R186). -/
def execSignal (site : Nat) (f : SyncField) (s : State) : Out :=
  act {
      thm := true, mem := true, host := true, poison := true, eng := true, cur := true, nxt := true, mesh := true, sync := true, seqs := true, flt := true } (fun s =>
    let a := s.aregOf site f.areg.toNat
    if !(s.doesSync site 1 f) then s
    else match s.home a with
      | .fill => s.signalWord a f.operand.toNat
      | .other => s.addressFault site
      | _ => { s with sync := { s.sync with held := s.sync.held ++ [(a, BitVec.ofNat 64 f.operand.toNat)] } }) s

/-- WAIT: the expectation rises; a word still below it leaves the WAIT to be released or to stall (R182, R186). -/
def execWait (site : Nat) (f : SyncField) (s : State) : Out :=
  act { thm := true, eng := true, cur := true, nxt := true, mesh := true, sync := true, seqs := true, flt := true } (fun s =>
    let a := s.aregOf site f.areg.toNat
    if !(s.doesSync site 2 f) || s.sync.stalled then s
    else if s.home a ≠ .fill then s.addressFault site
    else
      let k := expKey site (f.operand.toNat / 8192)
      let x := s.sync.exps.get 0 k + BitVec.ofNat 64 (f.operand.toNat % 8192)
      let s1 := { s with sync := { s.sync with exps := s.sync.exps.set 0 k x } }
      if x.toNat ≤ s.rdLE a 8 then
        { s1 with sync := { s1.sync with
          monitors := s1.sync.monitors.filter (fun m => !decide (m.1 = k)), woken := s1.sync.woken.filter (· ≠ k) } }
      else { s1 with sync := { s1.sync with waits := s.sync.waits.filter s.unmet ++ [(k, a, x)] } }) s

/-- MONITOR: a wake armed on writes to the word, for WAITs on register e (R182). -/
def execMonitor (site : Nat) (f : SyncField) (s : State) : Out :=
  act { thm := true, eng := true, cur := true, nxt := true, mesh := true, sync := true, seqs := true, flt := true } (fun s =>
    let a := s.aregOf site f.areg.toNat
    if !(s.doesSync site 3 f) || s.sync.stalled then s
    else if s.home a ≠ .fill then s.addressFault site
    else { s with sync := { s.sync with monitors := s.sync.monitors ++ [(expKey site (f.operand.toNat / 8192), a)] } }) s

/-! ## Stalls and the watchdog (R186, R187) -/

/-- Whether the WAIT a stall waits for is satisfied. -/
def State.waitMet (s : State) : Bool := !(s.sync.waitTarget.any s.unmet)

/-- SYNC_STALL_BEGIN: a WAIT of the site is late, and issue stops in both halves. -/
def execSyncStallBegin (site : Nat) (s : State) : Out :=
  act { sync := true } (fun s =>
    match s.sync.waits.find? (fun w => decide (w.1 / 8 = site) && s.unmet w) with
    | some w =>
      if s.sync.stalled || s.held then s
      else
        { s with sync := { s.sync with
          stalled := true, stalls := s.sync.stalls + 1, stallStart := s.time, stallAddr := BitVec.ofNat 48 w.2.1,
          x := BitVec.ofNat 8 (siteX site), y := BitVec.ofNat 8 (siteY site), waitTarget := some w } }
    | none => s) s

/-- The counts spent in the stall up to a time added to SYNC_STALL_TIME. -/
def State.stallEnds (s : State) (t : W64) : State :=
  { s with
    sync := { s.sync with stalled := false, stallTime := s.sync.stallTime + (t - s.sync.stallStart), waitTarget := none } }

/-- SYNC_STALL_END: the WAIT is satisfied and issue resumes at time t. -/
def execSyncStallEnd (t : W64) (s : State) : Out :=
  actAt { sync := true } (fun s => if s.sync.stalled && s.waitMet then maxTime s.time t else s.time)
    (fun s => if s.sync.stalled && s.waitMet then s.stallEnds (maxTime s.time t) else s) s

/-- The counts of a step of a variant: a slot lasts as long in both halves (R24, R25, R134). -/
def stepCounts (v : VariantImage) : Nat := v.lanes * v.slotAclk * (if v.plan = 0 then 1 else 2)

/-- Whether a stall has lasted the watchdog's limit at time t (R307). -/
def State.isLate (s : State) (t : W64) : Bool :=
  let limit := match s.runImg with | some v => s.sync.wdogSteps.toNat * stepCounts v | none => 0
  s.sync.stalled && !s.waitMet && decide (limit ≤ (maxTime s.time t - s.sync.stallStart).toNat)

/-- SYNC_WATCHDOG: the stall has lasted the limit; the step is aborted and the late WAIT stays recorded. A second watchdog that names
the site within 64 ticks kills it (R307). -/
def execSyncWatchdog (t : W64) (s : State) : Out :=
  actAt {
      thm := true, arrs := true, sites := true, wgt := true, vars := true, eng := true, cur := true, nxt := true, mesh := true, sync := true, seqs := true,
      flt := true, fab := true, chans := true, hif := true } (fun s => if s.isLate t then maxTime s.time t else s.time) (fun s =>
    let now := maxTime s.time t
    if s.isLate t then
      let x := s.sync.x.toNat
      let y := s.sync.y.toNat
      let k := siteAt x y
      let again := s.sync.lateTimes.any (fun e => decide (e.1 = k ∧ (now - e.2).toNat ≤ 64 * 2 ^ 20))
      let s1 := ({ s with time := now }.stallEnds now).log 0x06 x y 0x1F 0 1
      let s2 := { s1 with sync := { s1.sync with
        wdogFires := s1.sync.wdogFires + 1, lateTimes := (k, now) :: s1.sync.lateTimes.filter (fun e => !decide (e.1 = k)) } }
      let s3 := s2.abortStep false
      if again then s3.siteDie k 0x06 0x1F else s3
    else s) s

/-- SYNC_HSIG: a write adds to a host-signal word (R191). -/
def execSyncHsig (n : Nat) (part : Sys2Proof.Part) (v : W64) (s : State) : Out :=
  act { mem := true, host := true, poison := true, sync := true, hif := true } (fun s =>
    let s := s.unlatch 0
    let add := match part with
      | .whole => v.toNat
      | .lower => v.toNat % 2 ^ 32
      | .upper => v.toNat % 2 ^ 32 * 2 ^ 32
    if n < 256 && s.blockOpen then s.signalWord (hostSyncPage + 8 * n) add else s) s

end Sys2Proof.Machine
end

