-- ==== Sys2Proof/Machine/Boundary.lean ====
section
/-! DEFINITION. The step boundary (R26, R27, R139, R245): commit, resolve, latch; holds and the end of a hold (R240, R304, R454);
what ends or completes at a boundary (R246, R253–R255, R220); the service window (R229). -/

namespace Sys2Proof.Machine

/-! ## Commit (R213, R245, R261, R300) -/

/-- The record of a lane before anything is committed of it. -/
def laneRec (l : Lane) (j : Nat) : Rec :=
  { handle := l.handle, lane := j, outcome := l.outcome, requestId := l.reqId, position := l.pos, wide := l.wide,
    cause := if l.outcome = 3 then l.cause else 0 }

/-- The counters of Tables 3.10 and 7.12 that an overflow moves, once for each token or set position (R98). -/
def State.countOverflow (s : State) (p : Nat) (cause : BitVec 4) : State :=
  s.updPart p (fun q => { q with
    ovfCount := q.ovfCount + 1
    ovfCnt := if cause = 1 then satInc q.ovfCnt else q.ovfCnt
    ovfOutside := if cause = 2 then satInc q.ovfOutside else q.ovfOutside
    ovfRange := if cause = 3 then satInc q.ovfRange else q.ovfRange })

/-- The length at which a request's token is final, and why (R261): stop token, max_new, 2^22 positions; 0 is not final. -/
def finishReason (r : Request) (token generated length : Nat) : Nat :=
  if r.stop.any (fun x => decide (x.toNat = token ∧ x ≠ 0xFFFFFFFF)) then 1
  else if r.limit ≠ 0 ∧ generated = r.limit then 2
  else if length = 2 ^ 22 then 3
  else 0

/-- The token a lane samples, a free value below the vocabulary where no unit of the model has sampled it (log entry 18). -/
def State.laneToken (s : State) (l : Lane) : Nat × State :=
  match l.token with
  | some x => (x, s)
  | none =>
    let f := s.free
    let v := s.vocabOf (s.seq l.idx).gen
    (if v = 0 then f.1.toNat % 2 ^ 32 else f.1.toNat % v, f.2)

/-- The fill of the page a committed lane wrote (R203, R213). -/
def State.fillPage (s : State) (l : Lane) : State :=
  let n := l.pos / 16
  let fill := fun (f : KvFrame) => { f with fill := l.pos % 16 + 1 }
  if l.ekind = 2 then
    ((s.seq l.idx).sweep.filter (fun e => decide (e.1 = n))).foldl (fun (t : State) (e : Nat × Nat × Nat) => t.updSweep e.2.2 fill) s
  else match s.frameOf (s.seq l.idx) n with
    | some f => s.updFrame f fill
    | none => s

/-- A lane's position committed: PART_WIDE_RUNS counts it where it ran wide, in INT8 fallback, or in solo fallback: DESIGN CHOICE for the last,
Table 3.10 names the first two (log entry 77). The length, the fill, the deferral and the set it leaves, and the reserve once prefill is complete
(R99, R213, R250). -/
def State.advance (s : State) (l : Lane) : State :=
  let s1 := s.fillPage l
  let s2 := s1.updSeq l.idx (fun q =>
    let done := decide (q.req.count ≤ l.pos + 1)
    { q with
      length := l.pos + 1, deferred := none, ovfSet := q.ovfSet.filter (fun p => decide (l.pos < p)),
      reserve := if done then 0 else q.reserve, promptAt := if done then none else q.promptAt })
  if l.wide then s2.updPart l.owner (fun q => { q with wideRuns := q.wideRuns + 1 }) else s2

/-- A sampled token committed (R245, R260–R263, R302). -/
def State.commitToken (s : State) (cancels : List (BitVec 32)) (j : Nat) (l : Lane) : State × Rec :=
  let r := s.laneToken l
  let s1 := r.2.advance l
  let q := s1.seq l.idx
  let g := q.generated + 1
  let fin := finishReason q.req r.1 g (l.pos + 1)
  let w := if q.req.repWindow = 0 then [] else (q.window ++ [r.1]).drop (q.window.length + 1 - q.req.repWindow)
  let replayed := l.replay || q.replay
  let s2 := s1.updSeq l.idx (fun q => { q with
    generated := g, window := w, lastToken := some r.1, replay := false, status := if replayed then 6 else q.status })
  let s3 := s2.updPart l.owner (fun p => { p with tokens := p.tokens + 1 })
  let member := decide (2 ≤ q.req.ringSize ∧ q.req.ringIndex ≠ 0)
  let st : Byte := if fin = 0 then (if replayed then 6 else 0) else if cancels.contains l.handle then 0x11 else 0x10
  let rec_ : Rec := { laneRec l j with
    outcome := 0, status := st, token := if member then 0xFFFFFFFF else r.1, position := l.pos + 1, finish := fin,
    ringMember := member, replayed := replayed }
  let s4 := if replayed then s3.countStatus l.owner 6 else s3
  (if fin = 0 then s4 else s4.endSeq l.idx st true, rec_)

/-- A withheld token kept for its repeat (R90, R97, R99, R301). -/
def State.withhold (s : State) (k : W64) (j : Nat) (l : Lane) : State :=
  let i := l.idx
  let d := fun (cause : BitVec 4) (fault : Bool) => ({ pos := l.pos, step := k + 2, lane := j, cause := cause, fault := fault, point := if fault then 0 else l.point } : Deferred)
  if l.outcome = 3 then
    if l.ekind = 1 then (s.updSeq i (fun q => { q with deferred := some (d l.cause false) })).countOverflow l.owner l.cause
    else if (s.seq i).ovfSet.contains l.pos then s
    else (s.updSeq i (fun q => { q with ovfSet := l.pos :: q.ovfSet })).countOverflow l.owner l.cause
  else
    let s1 := s.updPart l.owner (fun q => { q with fWithheld := satInc q.fWithheld })
    let s2 := { s1 with flt := { s1.flt with withheld := satInc s1.flt.withheld } }
    s2.updSeq i (fun q => { q with
      replay := true
      deferred := if l.ekind = 1 ∧ !l.wide then some (d 0 true) else q.deferred })

/-- One lane whose work ran, committed, withheld or discarded; the flag says that nothing later of its sequence may commit. -/
def State.commitOne (s : State) (k t : W64) (cancels : List (BitVec 32)) (bad : List Nat) (failed : List (BitVec 32)) (j : Nat)
    (l : Lane) : State × Rec × Bool :=
  let r := laneRec l j
  let disc := { r with outcome := 5, cause := 0 }
  let live := decide (s.names l.handle = some l.idx) && (s.seq l.idx).state != 0
  let q := s.seq l.idx
  if l.outcome = 3 ∨ l.outcome = 4 then (if live then s.withhold k j l else s, r, true)
  else if !live then (s, disc, true)
  else if l.endStatus ≠ 0 then
    let s1 := if l.endStatus = 0x18 then s.updPart l.owner (fun p => { p with fmtFaults := p.fmtFaults + 1 }) else s
    (s1.endSeq l.idx l.endStatus true, { disc with status := l.endStatus }, true)
  else if failed.contains l.handle || (match l.chunk with | some c => bad.contains c | none => false) then (s, disc, true)
  else if q.req.deadline ≠ 0 ∧ q.req.deadline ≤ t then (s.endSeq l.idx 0x13 true, { disc with status := 0x13 }, true)
  else if l.pos ≠ q.length ∧ !(q.onRing && l.ekind == 2 && decide (q.length ≤ l.pos)) then (s, disc, true)
  else if l.last then
    let c := s.commitToken cancels j l
    (c.1, c.2, false)
  else (s.advance l, { r with outcome := 1 }, false)

/-- A lane that ran empty counted (Tables 3.10, 7.12 and 8.14). -/
def State.countEmpty (s : State) (p : Nat) (o : Byte) : State :=
  if 6 ≤ o ∧ o ≤ 0x10 then
    s.updPart p (fun q => { q with
      laneEmpty := q.laneEmpty + 1
      kvWaits := if o = 7 ∨ o = 8 then q.kvWaits + 1 else q.kvWaits
      displaced := if o = 6 then q.displaced + 1 else q.displaced })
  else s

/-- How far a commit has come: the state, the records so far with their owners, the sequences that commit nothing more, the record of
a pair's first lane. -/
structure Commit where
  s : State
  recs : List (Nat × Rec) := []
  failed : List (BitVec 32) := []
  pair : Option Rec := none

/-- One lane of the ending step committed. -/
def Commit.lane (k t : W64) (cancels : List (BitVec 32)) (bad : List Nat) (lanes : List Lane) (c : Commit) (e : Lane × Nat) : Commit :=
  let l := e.1
  let j := e.2
  let c1 : Commit := match l.extra with
    | some (h, pos, o) =>
      let id := match c.s.names h with | some i => (c.s.seq i).req.requestId | none => 0
      let x : Rec := { handle := h, lane := j, outcome := o, requestId := id, position := pos }
      let s1 := if o = 6 then c.s.updPart l.owner (fun q => { q with displaced := q.displaced + 1 }) else c.s
      { c with s := s1, recs := c.recs ++ [(l.owner, x)] }
    | none => c
  match c1.pair with
  | some r => { c1 with recs := c1.recs ++ [(l.owner, { r with lane := j })], pair := none }
  | none =>
    let first := l.wide && (l.kind == 2 || l.kind == 4)
    let w := if first then lanes.getD (j + 1) {} else l
    if w.ran then
      let o := c1.s.commitOne k t cancels bad c1.failed j w
      { s := o.1, recs := c1.recs ++ [(l.owner, o.2.1)], failed := if o.2.2 then w.handle :: c1.failed else c1.failed,
        pair := if first then some o.2.1 else none }
    else
      let s1 := c1.s.countEmpty l.owner w.outcome
      let r := laneRec w j
      { s := s1, recs := c1.recs ++ [(l.owner, r)],
        failed := if w.chunk.isSome then w.handle :: c1.failed else c1.failed, pair := if first then some r else none }

/-- Whether some token below the vocabulary is allowed by the bits at a mask address (R259). -/
def State.maskAllows (s : State) (addr vocab : Nat) : Bool :=
  (List.range vocab).any (fun t => (s.rd (addr + t / 8)).getLsbD (t % 8))

/-- The ends a lane's own inputs fix (R238, R256): a prompt token beyond the vocabulary, an empty mask. -/
def State.inputCheck (s : State) (l : Lane) : Lane :=
  let q := s.seq l.idx
  let v := s.vocabOf q.gen
  if !l.ran || decide (s.names l.handle ≠ some l.idx) then l
  else if l.ekind != 1 && (match q.promptAt with | some a => decide (v ≤ s.rdLE (a.1 + 4 * l.pos) 4) | none => false) then
    { l with outcome := 0, endStatus := 0x1A }
  else if l.last ∧ l.outcome = 0 ∧ q.maskOn ∧ !(s.maskAllows q.maskAddr v) then { l with endStatus := 0x1A }
  else l

/-- The chunks of a step whose results are withheld because one of their lanes is (R99, R301, Table 8.8). -/
def badChunks (ls : List Lane) : List Nat :=
  ls.filterMap (fun l => if l.ran && (l.outcome == 3 || l.outcome == 4 || l.endStatus != 0) then l.chunk else none)

/-- The commit phase of the ending step (R245), every lane in order. -/
def State.commitAll (s : State) (t : W64) (cancels : List (BitVec 32)) : State × List (Nat × Rec) :=
  let ls := s.cur.lanes.map s.inputCheck
  let c := ls.zipIdx.foldl (Commit.lane s.cur.step t cancels (badChunks ls) ls) { s := s }
  (c.s, c.recs)

/-- The lanes of the next step whose input was not produced, or ended its sequence (R243, R261). -/
def State.noInput (s : State) : State :=
  { s with nxt := { s.nxt with lanes := s.nxt.lanes.map (fun l =>
      let gone := s.srv.endedNow.contains l.handle
      let late := decide (s.names l.handle = some l.idx) && decide (l.pos ≠ (s.seq l.idx).length)
      if l.ran && l.ekind == 1 && (gone || late) then { l with ran := false, outcome := 0x0A } else l) } }

/-! ## Lockstep (R346) -/

/-- The fault map of the ending step sent to every known member, and the lanes that any map marks, or a missing map leaves in doubt,
withheld (R346; log entry 19). -/
def State.groupCommit (s : State) : State :=
  if !s.fab.member then s
  else
    let k := s.cur.step
    let own := s.cur.lanes.zipIdx.filterMap (fun e => if e.1.ran && e.1.outcome == 4 then some e.2 else none)
    let bytes := (List.range ((s.cur.lanes.length + 7) / 8)).map (fun b =>
      BitVec.ofNat 8 ((List.range 8).foldl (fun (a : Nat) i => if own.contains (8 * b + i) then a + 2 ^ i else a) 0))
    let s1 := s.fab.peers.foldl (fun (t : State) d => t.sendMsg 1 d 0 k.toNat (msgArg 0 0 4) bytes) s
    let held := s.fab.maps.filter (fun m => decide (m.1 = k))
    let missing := s.fab.peers.filter (fun d => !(held.any (fun m => decide (m.2.1 = d))))
    let marked := held.flatMap (fun m => m.2.2)
    let hit := fun (l : Lane) (j : Nat) => l.ran && l.outcome == 0 && (marked.contains j || (!missing.isEmpty && l.windowUse))
    { s1 with
      cur := { s1.cur with lanes := s1.cur.lanes.zipIdx.map (fun e => if hit e.1 e.2 then { e.1 with outcome := 4 } else e.1) }
      fab := { s1.fab with
        maps := s1.fab.maps.filter (fun m => !decide (m.1 = k))
        missingMaps := if missing.isEmpty then s1.fab.missingMaps else satInc s1.fab.missingMaps } }

/-! ## What completes or ends at a boundary -/

/-- The entry of a lost KV state ends FAULT_ABORTED (R225, R309); a prefix loses its handle and its frames. -/
def State.endLost (s : State) (i : Nat) : State :=
  let q := s.seq i
  if q.endDue = 0 ∨ q.state = 0 then s
  else if q.state = 7 then
    let s1 := s.updSeq i (fun q => { q with handleHeld := false, endDue := 0 })
    let s2 := if q.handleHeld then q.frames.foldl (fun (t : State) (e : Nat × Nat) => t.dropRef e.2) s1 else s1
    s2.freePrefix i
  else s.endSeq i q.endDue false

/-- The entries of the table that satisfy a test, in order. -/
def State.seqsWhere (s : State) (p : Seq → Bool) : List Nat := (s.seqs.entries {}).filterMap (fun e => if p e.2 then some e.1 else none)

/-- Whether a sequence has a lane in the step about to run. -/
def State.flying (s : State) (i : Nat) : Bool := s.nxt.lanes.any (fun l => l.ran && decide (l.idx = i ∧ l.handle = s.handleOf i))

/-- A page-out complete (R253): PARKED, its own frames retired, its status reported. -/
def State.parked (s : State) (i : Nat) : State :=
  let q := s.seq i
  if q.state = 3 ∧ q.pagesLeft.isEmpty ∧ !(s.flying i) then
    let st : Byte := if q.preempted then 4 else 3
    let s1 := q.frames.foldl (fun (t : State) (e : Nat × Nat) => t.dropRef e.2) s
    let s2 := q.sweep.foldl (fun (t : State) (e : Nat × Nat × Nat) => t.retireSweep e.2.2) s1
    let s3 := s2.updSeq i (fun q => { q with
      state := 4, frames := [], sweep := [], layout := 0, parkTick := s.tick, preempted := false, status := st })
    s3.statusRec q.partition (s.handleOf i) q.req.requestId st 0
  else s

/-- A page-in complete (R255): ACTIVE again, its warm pages freed. -/
def State.resumed (s : State) (i : Nat) : State :=
  let q := s.seq i
  if q.state = 5 ∧ q.pagesLeft.isEmpty then
    let s1 := (s.setFills i).updSeq i (fun q => { q with state := 2, tier := 0, parkBytes := 0, parkPages := [], status := 5 })
    s1.statusRec q.partition (s.handleOf i) q.req.requestId 5 0
  else s

/-- The moves of the step that ends committed (R189, R220): a page index is done when all its layers have moved. -/
def State.commitMoves (s : State) : State :=
  { s with srv := { s.srv with reshards := s.srv.reshards.map (fun r =>
      let done := r.done ++ r.moved
      let q := s.seq r.idx
      { r with
        moved := [], done := done,
        left := r.left.filter (fun n => q.sweep.any (fun e => decide (e.1 = n) && !(done.contains (n, e.2.1)))) }) } }

/-- A re-shard complete (R220): the sweep pages retired, the layout decode, the frames checked (R206). -/
def State.resharded (s : State) (r : Reshard) : State :=
  if !r.left.isEmpty then s
  else
    let q := s.seq r.idx
    let s1 := q.sweep.foldl (fun (t : State) (e : Nat × Nat × Nat) => t.retireSweep e.2.2) s
    let s2 := (s1.setFills r.idx).updSeq r.idx (fun q => { q with sweep := [], layout := 1 })
    let s3 := s2.updPart q.partition (fun p => { p with reshardDone := satInc p.reshardDone })
    let s4 := { s3 with srv := { s3.srv with reshards := s3.srv.reshards.filter (fun x => !decide (x.idx = r.idx)) } }
    match s4.framesCheck q.partition q.gen q.contract (s4.seqFacts (s4.seq r.idx)) with
    | some st => s4.endSeq r.idx st false
    | none => s4

/-- A deadline at or before t ends its sequence (R246). -/
def State.deadlineAt (s : State) (t : W64) (i : Nat) : State :=
  let q := s.seq i
  if 1 ≤ q.state.toNat ∧ q.state.toNat ≤ 5 ∧ q.req.deadline ≠ 0 ∧ q.req.deadline ≤ t then s.endSeq i 0x13 false else s

/-- A parked sequence whose time-to-live has run out becomes EXPIRED (R254). -/
def State.expire (s : State) (i : Nat) : State :=
  let q := s.seq i
  if q.state = 4 ∧ q.parkTick + q.ttl ≤ s.tick then
    let s1 := s.updSeq i (fun q => { q with state := 6, tier := 0, parkBytes := 0, status := 0x16 })
    (s1.statusRec q.partition (s.handleOf i) q.req.requestId 0x16 0).countStatus q.partition 0x16
  else s

/-! ## Descriptors (R240, R245) -/

/-- The entry that governs step n, earlier and late ones discarded (R240). -/
def pickFrom (n : W64) : List RawDesc → State → Option RawDesc × State
  | [], s => (none, s)
  | d :: ds, s =>
    if n < d.step then (none, s)
    else
      let s1 := s.dropDesc d
      if d.step = n ∧ d.inTime ≤ n then (some d, s1)
      else pickFrom n ds { s1 with srv := { s1.srv with late := s1.srv.late + 1 } }

/-- The sequences whose CANCEL a valid descriptor applies (R241, R247). -/
def State.cancelsOf (s : State) (d : RawDesc) : List (BitVec 32) :=
  d.actions.filterMap (fun (a : Byte × ActionEntry) =>
    if a.1 = 0x03 then
      match s.pendingReq a.2.partition a.2.ringPos with
      | some r => if r.req.kind = 0x02 ∧ r.req.handle = a.2.handle then some a.2.handle else none
      | none => none
    else none)

/-- The actions of one line of the resolve phase, in descriptor order, each one's record kept with its place. -/
def resolveKinds (kinds : List Byte) (acts : List ((Byte × ActionEntry) × Nat)) (a : State × List (Nat × List (List Byte))) :
    State × List (Nat × List (List Byte)) :=
  acts.foldl (fun a e =>
    if kinds.contains e.1.1 then
      let t := ({ a.1 with srv := { a.1.srv with actRecs := [] } }).resolve e.1.1 e.1.2
      (t, a.2 ++ [(e.2, t.srv.actRecs)])
    else a) a

/-- The resolve phase's actions and expiries (R245); the action records stand in descriptor order (R262). -/
def State.resolveAll (s : State) (d : Option RawDesc) : State :=
  let acts := (d.elim [] (·.actions)).zipIdx
  let a1 := resolveKinds [0x03] acts (s, [])
  let s2 := (a1.1.seqsWhere (fun q => q.state == 4)).foldl State.expire a1.1
  let a3 := [[0x04], [0x05], [0x06], [0x09], [0x07], [0x08], [0x01, 0x02]].foldl (fun a k => resolveKinds k acts a) (s2, a1.2)
  { a3.1 with srv := { a3.1.srv with actRecs := s.srv.actRecs ++ (sortBy (·.1) a3.2).flatMap (·.2) } }

/-! ## Batches (R262, R399) -/

/-- A record as the operator reads it. -/
def opView (strict : Bool) (e : Nat × Rec) : List Byte :=
  if e.1 = 31 then e.2.bytes
  else ({ e.2 with
    token := 0xFFFFFFFF, finish := if strict then 0 else e.2.finish, cause := if strict then 0 else e.2.cause }).bytes

/-- The batches of the committed step (R262, R264): the operator's carries every action outcome since its last (R241). -/
def State.batches (s : State) (k t : W64) (empty : Bool) (reason : Byte) (recs : List (Nat × Rec)) : State :=
  let flags : Byte := (if empty then 1 else 0) ||| (if 1 < reason then 2 else 0)
  let w := owners.foldl (fun (u : State) p =>
    let u1 := (u.updRings p (fun q => { q with outLive := q.outEnable })).drain p ((u.part p).rings.spill.length + 1)
    let ev := (u1.part p).rings.events
    let own := recs.filter (fun e => decide (e.1 = p))
    let body := if p = 31 then recs.map (opView (!u1.nv.profileShared)) ++ ev ++ u1.srv.actRecs else own.map (fun e => e.2.bytes) ++ ev
    if p = 31 ∨ ((u1.configured p) ∧ !body.isEmpty) then
      ((u1.deliver p k t flags reason body).updRings p (fun q => { q with events := [] })).outputBlock p
    else u1.outputBlock p) s
  { w with srv := { w.srv with actRecs := [] } }

/-! ## Holding (R304, R350, R454) -/

/-- The directions whose window data no longer fits their window set under a variant (R350). -/
def State.shortDirs (s : State) (v : VariantImage) : List Nat :=
  v.windowBytes.filterMap (fun (e : Nat × Nat) =>
    let slot := v.slotAclk * (if v.plan = 0 then 1 else 2)
    let room := ((s.windowSet e.1).map (fun _ => windowQuota slot (roleRate s.lock.plan e.1))).foldl (fun (a b : Nat) => a + b) 0
    if room < e.2 then some e.1 else none)

/-- Ports that came UP join their window set at a boundary (R341). -/
def State.joinPorts (s : State) : State :=
  { s with fab := { s.fab with ports := s.fab.ports.mapVals {} (fun _ p => { p with wasUp := p.state == 3 }) } }

/-- The check of R350 for the step about to run: short directions reported, the engine held. -/
def State.checkDirs (s : State) (slot : Nat) : State :=
  match (s.var slot).img with
  | none => s
  | some v =>
    let ds := s.shortDirs v
    let s1 := ds.foldl (fun (t : State) r => t.event [.pf, .fm] 0x06 r) s
    if ds.isEmpty then s1
    else { s1 with eng := { s1.eng with hold := true, refusedReason := 0x0A } }

/-- Whether a variant binds a port attachment site to a fabric port (R174, R343). -/
def bindsPort (v : VariantImage) : Bool :=
  v.scores.any (fun r => decide (siteType r.site = 6 ∧ 0x10 ≤ r.addrs.getD 61 0x3F ∧ r.addrs.getD 61 0x3F < 0x28))

/-- Whether some armed variant may run (R161, R306). -/
def State.someRuns (s : State) : Bool := (List.range 4).any (fun b =>
  ((s.bank b).state == 2 || (s.bank b).state == 3) && decide (s.latchReason (s.bank b).slot = 0))

/-- Whether the engine holds at this boundary in place of running step `slot`'s variant. -/
def State.mustHold (s : State) (slot : Nat) : Bool :=
  s.eng.hold || s.eng.faultHold || s.rollHolds || !s.boot.ready || s.flt.deviceFault || s.flt.unrestored || !s.someRuns ||
  (s.armedBank slot).isNone || (s.var slot).img.isNone || (s.var slot).state == 3

/-- The engine held at a boundary: the latched descriptors are not run (R304); the number is that of the next step to latch. -/
def State.enterHold (s : State) (m : W64) : State :=
  { s.stopHeld with
    cur := {}, nxt := {}
    banks := s.banks.mapVals {} (fun _ b => if (b.state == 2 || b.state == 3) && (s.var b.slot).state == 3 then {} else b)
    eng := { s.eng with
      state := 0, stepNumber := m + 1, slot := 0, fillLeft := 0, idxW := 0, idxE := 0, repW := 0, repE := 0, fresh := false,
      beatW := none, beatE := none, quietW := 0, quietE := 0 } }

/-! ## The boundary -/

/-- Which boundary it is: at the end of a step, after an abort, at the end of a hold. -/
inductive BoundaryKind | run | restart | exit
  deriving DecidableEq, Repr

/-- The empty step that opens after a hold or an abort (R240): every lane EMPTY, notch lanes marked. -/
def State.openEmpty (s : State) (m : W64) (slot : Nat) : Desc :=
  match (s.var slot).img with
  | none => { step := m, variant := slot }
  | some v =>
    let notch := v.notchLanes m.toNat
    { step := m, variant := slot, bank := (s.armedBank slot).getD 0, empty := true,
      lanes := (List.range v.lanes).map (fun j => { owner := v.laneOwner j, kind := if notch.contains j then 6 else 0 }) }

/-- A pipeline that restarts empty (R188): nothing on the mesh, nothing waiting at a router. -/
def State.clearRoutes (s : State) : State :=
  { s with
    mesh := { s.mesh with flits := [] }
    sites := s.sites.mapVals {} (fun _ (r : SiteSt) => { r with inbox := [], outbox := [], poisonIn := false }) }

/-- The index lists of a variant's quantisation points put in the SRAM of the precision tiles that quantise at them, at set_base (R84; how
they come there is the model's, log entry 70). -/
def State.placeIndices (s : State) (v : VariantImage) : State :=
  let used := (v.west ++ v.east).filterMap (fun b =>
    let f := precBits b
    if (sel128 f).op = 1 then some (precOf f).index.toNat else none)
  (v.scores.filter (fun r => decide (siteType r.site = 4))).foldl (fun (t : State) r =>
    (v.quant.filter (fun d => used.contains d.point)).foldl (fun (u : State) d =>
      u.wrBytes (siteBase r.site + d.setBase) (d.indices.flatMap (leBytes 4))) t) s

/-- The beats for which each half is quiet before a step under plan `new_` (R139): two of each half whose rate changes. -/
def quietBeats (old new_ : BitVec 2) (h : Half) : Nat := if planHalf old h != planHalf new_ h then 2 else 0

/-- The counts of a variant's fill interval. -/
def fillCounts (v : VariantImage) : Nat := (v.depth - 1) * v.slotAclk * (if v.plan = 0 then 1 else 2)

/-- The step that is to run put in place (R139, R140): its bank RUNNING, those of STALE variants freed (R158); then, a calibration pause apart,
a clock quiesce where a half's rate changes, and the fill where one is due, which moves a group's later pitch points (R348). The first fill slot has slot counter 0: DESIGN CHOICE, R138 only
says that it counts the slots since the start of the fill (log entry 78). -/
def State.startStep (s : State) (kind : BoundaryKind) (old : Nat) (opening latched : Desc) : State :=
  let slot := opening.variant
  match (s.var slot).img with
  | none => s
  | some v =>
    let b := (s.armedBank slot).getD s.eng.bank
    let change := decide (kind ≠ .run) || decide (old ≠ slot)
    let fill := if change then v.depth - 1 else 0
    let west := quietBeats s.clk.plan v.plan .west
    let east := quietBeats s.clk.plan v.plan .east
    let s1 := { s with banks := s.banks.mapVals {} (fun n k =>
      if k.state = 3 ∧ n ≠ b then (if (s.var k.slot).state = 3 then {} else { k with state := 2 }) else k) }
    let s2 := s1.updBank b (fun k => { k with state := 3 })
    let s3 := if change then ((s2.fillZero slot).clearRoutes).placeIndices v else s2
    ({ s3 with
      fab := { s3.fab with
        slipping := false
        pitch := if s3.fab.member && change && decide (kind ≠ .exit) then s3.fab.pitch + BitVec.ofNat 64 (fillCounts v) else s3.fab.pitch }
      cur := opening, nxt := latched
      eng := { s3.eng with
        bank := b, running := true, slot := 0, stepNumber := opening.step, fresh := true, beatW := none, beatE := none,
        clkW := if change then 0 else s3.eng.clkW, clkE := if change then 0 else s3.eng.clkE, quietW := west, quietE := east,
        state := if west + east ≠ 0 then 4 else if fill ≠ 0 then 1 else 2,
        fills := if change then s3.eng.fills + 1 else s3.eng.fills,
        fillLeft := fill,
        slotCount := if change then 0 else s3.eng.slotCount,
        idxW := 0, idxE := 0, repW := 0, repE := 0, restart := false,
        calPauseDue := decide (kind ≠ .exit) } } : State).setEntry

/-- A descriptor that fails a check recorded (R161, R244). -/
def State.refuseDesc (s : State) (reason : Byte) (slot : Nat) : State :=
  { s with
    srv := { s.srv with descRefused := satInc s.srv.descRefused, descReason := reason }
    eng := if reason = 3 then
        { s.eng with refusedCount := satInc s.eng.refusedCount, refusedReason := s.latchReason slot } else s.eng }

/-- The events a boundary resolves before the actions (R245): management effects, ends, completions, deadlines. -/
def State.resolveEvents (s : State) (t : W64) : State :=
  let s1 := s.applyDue
  let s2 := (s1.seqsWhere (fun q => q.endDue != 0)).foldl State.endLost s1
  let s3 := (s2.seqsWhere (fun q => q.state == 3)).foldl State.parked s2
  let s4 := (s3.seqsWhere (fun q => q.state == 5)).foldl State.resumed s3
  let s5 := s4.srv.reshards.foldl State.resharded s4
  (s5.seqsWhere (fun q => q.req.deadline != 0)).foldl (fun (u : State) i => u.deadlineAt t i) s5

/-- A boundary resolved: the state with everything committed, resolved and latched, the step that opens, its variant's slot, its
descriptor and the latched one, and the steps that count as empty if it runs. -/
structure Resolved where
  s : State
  m : W64
  slot : Nat
  opening : Desc
  latched : Desc
  empties : W64

/-- What a boundary commits, resolves and latches (R27, R245). `m` is the step that opens, whose descriptor was latched before where a step
ends here. -/
def State.resolveBoundary (s : State) (kind : BoundaryKind) : Resolved :=
  let t := s.time
  let run := decide (kind = .run)
  let m := if run then s.eng.stepNumber + 1 else s.eng.stepNumber
  let n := m + 1
  let s1 := (if run then s.freeAdps.commitMoves else s.freeAdps)
  let s1 := { s1 with srv := { s1.srv with endedNow := [] } }
  let s2 := s1.fetchDescs (if kind = .exit then 0 else m + 2) 4096
  let s3 := if run then s2.groupCommit else s2
  let pick := pickFrom n s3.srv.fetched s3
  let s4 := pick.2
  -- whether the descriptor is valid decides which CANCELs meet a final token (R245, R247)
  let try_ := if run then (s4.commitAll t []).1.movePointer else s4
  let valid := match pick.1 with | some d => decide (try_.descReason s4.nxt.lanes d = 0) | none => false
  let cancels := match pick.1 with | some d => if valid then s4.cancelsOf d else [] | none => []
  let com := if run then s4.commitAll t cancels else (s4, [])
  let s5 := com.1.commitSignals.noInput.joinPorts
  let s6 := s5.resolveEvents t
  let reason : Byte := match pick.1 with | some d => s6.descReason s6.nxt.lanes d | none => 1
  let s7 := if 1 < reason then s6.refuseDesc reason (pick.1.elim 0 (·.variant)) else s6
  let d := if reason = 0 then pick.1 else none
  let bankSlot := (s7.bank s7.eng.bank).slot
  let slot := if run then s7.nxt.variant
    else match pick.1 with
      | some d => if kind = .exit ∧ s7.latchReason d.variant = 0 then d.variant else bankSlot
      | none => bankSlot
  let nextSlot := match d with | some d => d.variant | none => slot
  let cap := match (s7.var nextSlot).img with | some v => if v.transfer then s7.srv.capSlot else nextSlot | none => s7.srv.capSlot
  let s8 := ({ s7 with srv := { s7.srv with capSlot := cap } }).resolveAll d
  let s9 := (s8.admitQueues (s8.seqs.length + 1)).drained.rollStart
  let s10 := if run then s9.batches s.cur.step t s.cur.empty s.cur.refused com.2 else s9
  let opening := if run then s10.nxt else s10.openEmpty m slot
  let l := s10.latch n nextSlot opening.lanes d (if 1 < reason then reason else 0)
  let empties := (if d.isNone then 1 else 0) + (if run then 0 else 1)
  let s12 := (l.1.checkDirs slot).classify
  let s13 := if s12.eng.faultHold && !s.eng.faultHold then s12.event [.pf] 0x02 s12.flt.exchanging.length else s12
  { s := s13, m := m, slot := slot, opening := { opening with step := m }, latched := l.2, empties := empties }

/-- Whether a boundary so resolved ends in a hold: STEP_CTRL.hold was set before, or something holds the engine now. -/
def Resolved.holds (r : Resolved) (hold : Bool) : Bool := hold || r.s.mustHold r.slot

/-- A boundary (R27, R245, R454): resolved, then a hold or the step that opens. -/
def State.boundary (s : State) (kind : BoundaryKind) : State :=
  let r := s.resolveBoundary kind
  if r.holds s.eng.hold then r.s.enterHold r.m
  else
    ({ r.s with srv := { r.s.srv with emptySteps := r.s.srv.emptySteps + r.empties } }).startStep kind s.cur.variant r.opening r.latched

/-- Whether the step in progress has issued its last slot (R25–R27), or slips past its boundary (R347). -/
def State.stepDone (s : State) : Bool :=
  s.eng.state == 2 && (s.fab.slipping || (match s.runImg with | some v => decide (v.lanes ≤ s.eng.slot) | none => true))

/-- Whether a boundary can come: a step whose last slot has issued, held off by no stall, or one that follows an abort. -/
def State.atBoundary (s : State) : Bool := !s.sync.stalled && (s.stepDone || s.eng.state == 5)

/-- STEP_BOUNDARY: the boundary at device time t, of a step that has issued all its slots or after an abort (R142, R245). -/
def execStepBoundary (t : W64) (s : State) : Out :=
  actAt {
      freeCount := true, clk := true, thm := true, pwr := true, nv := true, mem := true, host := true, poison := true,
      acc24 := true, acc48 := true, shadow := true, arrs := true, sites := true, wgt := true, adps := true, vars := true, banks := true,
      eng := true, cur := true, nxt := true, mesh := true, sync := true, kvs := true, pfs := true, frames := true, sweeps := true,
      seqs := true, parts := true, srv := true, sens := true, flt := true, fab := true, chans := true, hif := true, sec := true }
      (fun s => if s.atBoundary then maxTime s.time t else s.time) (fun s =>
    let s1 := { s with time := maxTime s.time t }
    if !s.atBoundary then s
    else if s.eng.state = 5 then s1.boundary .restart
    else s1.boundary .run) s

/-- Whether nothing but a group's start keeps a hold from ending (R240, R343, R454): nothing holds the engine, the entry for the step
after the opening one is fetched, and an armed variant may run. -/
def State.runReady (s : State) : Bool :=
  let n := s.eng.stepNumber + 1
  let slot := match s.srv.fetched.find? (fun d => decide (d.step = n)) with | some d => d.variant | none => 64
  let v := if s.latchReason slot = 0 then slot else (s.bank s.eng.bank).slot
  let windows := match (s.var v).img with | some i => bindsPort i | none => false
  s.held && !s.eng.hold && !s.eng.faultHold && !s.rollHolds && s.boot.ready && !s.flt.deviceFault && !s.flt.unrestored &&
  s.srv.fetched.any (fun d => decide (d.step = n)) && decide (s.latchReason v = 0) &&
  (!windows || (s.fab.member && s.fab.aligned && !s.fab.regroup))

/-- Whether a hold may end; a lockstep member begins at the announced pitch point (R345). -/
def State.mayRun (s : State) : Bool :=
  s.runReady && (!s.fab.member || (match s.fab.startAt with | some t => decide (t ≤ s.time) | none => false))

/-- The first pitch point after a hold announced by the master, eight ticks ahead (R345). -/
def State.announceStart (s : State) : State :=
  if s.runReady && s.fab.member && decide (s.fab.master.toNat = s.device) && s.fab.startAt.isNone then
    let p := s.time + BitVec.ofNat 64 (8 * 2 ^ 20)
    let s1 := s.fab.peers.foldl (fun (t : State) d => t.sendMsg 1 d 0 (p + s.fab.gtime).toNat (msgArg 0 0 4) []) s
    { s1 with fab := { s1.fab with startAt := some p, pitch := p + s.fab.gtime } }
  else s

/-- A member's next pitch point, past the fill and the step that open (R345, R348). -/
def State.firstPitch (s : State) : State :=
  match s.runImg with
  | some v => if s.fab.member then
      { s with fab := { s.fab with
        startAt := none, pitch := s.fab.pitch + BitVec.ofNat 64 (fillCounts v + stepCounts v) + s.fab.guard.zeroExtend 64 } }
    else s
  | none => s

/-- HOLD_END: boundary Bn at the end of a hold; nothing commits and an empty step opens (R454). A group's master first announces the
pitch point of the start. -/
def execHoldEnd (s : State) : Out :=
  act {
      freeCount := true, clk := true, thm := true, pwr := true, nv := true, mem := true, host := true, poison := true, acc24 := true,
      acc48 := true, shadow := true, arrs := true, sites := true, wgt := true, adps := true, vars := true, banks := true, eng := true,
      cur := true, nxt := true, mesh := true, sync := true, kvs := true, pfs := true, frames := true, sweeps := true, seqs := true,
      parts := true, srv := true, sens := true, flt := true, fab := true, chans := true, hif := true, sec := true } (fun s =>
        if s.mayRun then (s.boundary .exit).firstPitch else s.announceStart) s

/-- DEADLINE_REACHED: the deadline of one sequence tested (R246). -/
def execDeadlineReached (entry : Nat) (s : State) : Out := act {
    adps := true, frames := true, sweeps := true, seqs := true, parts := true, srv := true } (fun s => s.atOpening (fun t => t.deadlineAt t.time entry)) s

/-- PARK_TTL_EXPIRY: the time-to-live of one parked sequence tested (R254). -/
def execParkTtlExpiry (entry : Nat) (s : State) : Out := act { seqs := true, parts := true } (fun s => s.atOpening (·.expire entry)) s

/-! ## The service window (R228, R229) -/

/-- The place of a frame in a core: the site, where its head slices begin, their length, and the same of its value exponents
(R201, R202). -/
structure FramePlace where
  site : Nat
  slices : Nat
  len : Nat
  exps : Nat
  elen : Nat

/-- Local frame u of a core with this KV_MODE. -/
def placeIn (k : Nat) (m : W64) (u : Nat) : FramePlace :=
  let h := kvHeads m
  { site := k, slices := siteBase k + u * h * sliceBytes (kvFmt m), len := h * sliceBytes (kvFmt m),
    exps := siteBase k + 0x380000 + 16 * u * h, elen := 16 * h }

/-- The places of decode frame f under a KV layout, one in each head group (R198, R200). -/
def layoutPlaces (l : List (Nat × W64 × List W64)) (f : Nat) : List FramePlace :=
  l.filterMap (fun (e : Nat × W64 × List W64) =>
    if kvRole e.2.1 = 1 ∧ f % kvK e.2.1 = kvGidx e.2.1 then some (placeIn e.1 e.2.1 (f / kvK e.2.1)) else none)

/-- The place of sweep page f under a KV layout (R202). -/
def layoutSweep : List (Nat × W64 × List W64) → Nat → Option FramePlace
  | [], _ => none
  | e :: es, f =>
    if kvRole e.2.1 ≠ 2 then layoutSweep es f
    else if f < kvFrames e.2.1 then some (placeIn e.1 e.2.1 f) else layoutSweep es (f - kvFrames e.2.1)

/-- The bytes of place `p` that hold what a copy of `n` positions takes: of each head slice the elements and the scales of those positions, in the
key area and in the value area (Table 7.4), with the value exponents (R228). -/
def FramePlace.ranges (fmt n : Nat) (p : FramePlace) : List (Nat × Nat) :=
  let e := if isMx fmt then 4 * mxBlockBytes fmt else 128 * elemBytes fmt
  let area := 16 * e + (if isMx fmt then 64 else 0)
  (List.range (p.len / sliceBytes fmt)).flatMap (fun h =>
    let at_ := p.slices + h * sliceBytes fmt
    [(at_, n * e), (at_ + 16 * e, if isMx fmt then 4 * n else 0), (at_ + area, n * e), (at_ + area + 16 * e, if isMx fmt then 4 * n else 0),
     (p.exps + 16 * h, n)])

/-- The committed positions of one place of a frame copied to another. -/
def State.copyPlace (s : State) (fmt n : Nat) (a b : FramePlace) : State :=
  ((a.ranges fmt n).zip (b.ranges fmt n)).foldl (fun (t : State) e => t.wrBytes e.2.1 (s.rdBytes e.1.1 e.1.2)) s

/-- The queued copies performed (R228). -/
def State.doCopies (s : State) : State :=
  (s.frames.entries {}).foldl (fun (t : State) (e : Nat × KvFrame) => match e.2.copyFrom with
    | some f =>
      let l := t.layoutOf e.2
      let t1 := ((layoutPlaces l f).zip (layoutPlaces l e.1)).foldl (fun (u : State) p => u.copyPlace e.2.fmt.toNat e.2.fill p.1 p.2) t
      t1.updFrame e.1 (fun r => { r with copyFrom := none })
    | none => t) s

/-- The bytes each core copies in the next service window. -/
def State.copying (s : State) : List (Nat × Nat) :=
  (s.frames.entries {}).flatMap (fun (e : Nat × KvFrame) =>
    if e.2.copyFrom.isSome then (layoutPlaces (s.layoutOf e.2) e.1).map (fun p => (p.site, p.len)) else [])

/-- How far the zeroing of one window has come: the state, and by core the bytes that it may still zero. -/
structure Zeroing where
  s : State
  used : List (Nat × Nat) := []

/-- The bytes a core has used of the 128 KiB of a window. -/
def Zeroing.usedBy (z : Zeroing) (k : Nat) : Nat := (z.used.filter (fun e => decide (e.1 = k))).foldl (fun (a : Nat) e => a + e.2) 0

/-- One retired frame zeroed in every core that holds it, if all have the time in this window; in 16 ACLK a core copies 64 KiB or zeroes
128 KiB (R229). -/
def Zeroing.frame (z : Zeroing) (ps : List FramePlace) (done : State → State) : Zeroing :=
  if ps.all (fun p => decide (z.usedBy p.site + p.len ≤ 0x20000)) then
    { s := done (ps.foldl (fun (t : State) p => (t.zeroMem p.slices p.len).zeroMem p.exps p.elen) z.s)
      used := z.used ++ ps.map (fun p => (p.site, p.len)) }
  else z

/-- Frames and pages whose last readers have committed zeroed in every core that holds them, as far as the window goes (R229). -/
def State.doZeroes (s : State) (copied : List (Nat × Nat)) : State :=
  let ready := fun (r : KvFrame) => r.life == 2 && decide (r.retiredAt < s.eng.stepNumber)
  let z := (s.frames.entries {}).foldl (fun (z : Zeroing) (e : Nat × KvFrame) =>
    if ready e.2 then z.frame (layoutPlaces (s.layoutOf e.2) e.1) (fun t => t.updFrame e.1 (fun r => { r with life := 3 })) else z)
    { s := s, used := copied.map (fun e => (e.1, 2 * e.2)) }
  ((s.sweeps.entries {}).foldl (fun (z : Zeroing) (e : Nat × KvFrame) =>
    if ready e.2 then z.frame (layoutSweep (s.layoutOf e.2) e.1).toList (fun t => t.updSweep e.1 (fun r => { r with life := 3 })) else z) z).s

/-- SERVICE_WINDOW: queued copies, then retired frames zeroed (R228, R229); a stall issues no slot, so it has no window (R186). -/
def execServiceWindow (s : State) : Out := act { mem := true, host := true, poison := true, frames := true, sweeps := true } (fun s =>
    if s.running && !s.sync.stalled then s.doCopies.doZeroes s.copying else s) s

end Sys2Proof.Machine
end

