-- ==== Sys2Proof/Machine/Startup.lean ====
section
/-! DEFINITION. Start-up, reset and recovery (chapter 15), the neighbour vote (R312, R313), the PCIe link's resets (R455–R459). -/

namespace Sys2Proof.Machine

/-! ## The neighbour vote (R312, R313) -/

/-- The sites a mesh link or saddle buffer joins to a site (R312). -/
def neighbours (k : Nat) : List Nat :=
  let x := siteX k
  let y := siteY k
  (if 0 < x then [siteAt (x - 1) y] else []) ++ (if x < 223 then [siteAt (x + 1) y] else []) ++
  (if 0 < y then [siteAt x (y - 1)] else []) ++ (if y < 191 then [siteAt x (y + 1)] else [])

/-- Whether a site has power: its ring, or its powered interior (R428, R430). -/
def State.powered (s : State) (k : Nat) : Bool :=
  if onRing k then s.pwr.ringUp else valeBit s.pwr.interiors (siteVale k)

/-- Whether a site fails a round in which the sites of `out` cast no counted vote. -/
def State.failsRound (s : State) (v : VoteInput) (out : List Nat) (k : Nat) : Bool :=
  let voters := (neighbours k).filter (fun n => s.powered n && !(v.selfFail.contains n) && !(out.contains n))
  let bad := voters.filter (fun n => v.failLinks.contains (n, k))
  v.selfFail.contains k || voters.isEmpty || decide (voters.length ≤ 2 * bad.length)

/-- The sites that can fail a round: those named, and the neighbours of named ones. -/
def voteCandidates (v : VoteInput) : List Nat :=
  let named := v.selfFail ++ v.failLinks.flatMap (fun e => [e.1, e.2])
  ((named ++ named.flatMap neighbours).filter isSite).eraseDups

/-- The vote map (R312): the sites under test that fail the second round. -/
def State.vote (s : State) (v : VoteInput) (under : Nat → Bool) : List Nat :=
  let c := (voteCandidates v).filter (fun k => s.powered k)
  let first := c.filter (s.failsRound v [])
  c.filter (fun k => under k && s.failsRound v first k)

/-- A failing site reconciled with the record (R313). -/
def State.reconcile (s : State) (bringUp : Bool) (k : Nat) : State :=
  if s.siteCode k = 0 then s.siteDie k 0x08 0x1F
  else if s.siteCode k = 1 then
    if bringUp then s.setCode k 2 else s.updSite k (fun r => { r with failed := true })
  else s

/-- The vote run and reconciled over the sites under test. -/
def State.runVote (s : State) (v : VoteInput) (bringUp : Bool) (under : Nat → Bool) : State :=
  (s.vote v under).foldl (fun (t : State) k => t.reconcile bringUp k) s

/-! ## What a reset keeps (R458, Table 15.4) -/

/-- A generation slot after power-on or a device reset (R116, R448, Table 15.5). -/
def Gen.afterReset (g : Gen) (roll : Bool) : Gen :=
  if g.state = 0 then g
  else if g.state = 7 then { g with committed := true }
  else if g.state = 1 then {}
  else if g.state = 2 ∧ roll then g
  else { g with state := 6 }

/-- The firmware image an update left half written fails its digest (R460). -/
def State.flashAfter (s : State) : FwImage :=
  if s.sec.fwWrite.length ≠ 0 then { s.nv.flash with digestOk := false } else s.nv.flash

/-- The state a power-on or device reset starts from: the non-volatile state, and what Table 15.4 says is kept. GCTL_GEN_PTR comes from the
record (Table 4.13); what its live_slot reads while ptr_valid is 0 no rule says: DESIGN CHOICE, 0 (log entry 80). -/
def State.wipe (s : State) (power : Bool) (kind : BitVec 4) : State :=
  let roll := s.wgt.genA.state == 7 || s.wgt.genB.state == 7
  -- an image that was only staging leaves the slot's record as it was
  let kept := fun (b : Bool) => match s.wgt.install with
    | some i => if decide (i.slot = 1) = b ∧ (s.wgt.phase = 1 ∨ s.wgt.phase = 2) then i.prior else s.pgen b
    | none => s.pgen b
  { pending := s.pending
    time := if power then 0 else s.time
    freeCount := s.freeCount + 4
    nv := { s.nv with
      flash := s.flashAfter, agedTicks := if power then s.nv.agedTicks + s.tick else s.nv.agedTicks }
    lock := {
      plan := s.lock.recPlan.getD 0x03333000, topo := s.lock.recTopo, recPlan := s.lock.recPlan, recTopo := s.lock.recTopo }
    host := s.host
    cells := s.cells
    arrs := s.arrs.mapVals {} (fun _ a => { a with
      acrc := a.recCrc, unverified := false, trims := a.trimOffs, weak := 0, scanRg := 0, scanWeak := 0, scans := 0 })
    sites := s.sites.mapVals {} (fun _ r => { amap := r.amap, spareOf := r.spareOf })
    wgt := { genA := (kept false).afterReset roll, genB := (kept true).afterReset roll, rolled := s.wgt.rolled }
    clk := if power then {} else { s.clk with plan := 0, causeW := 0, causeE := 0 }
    thm := { alertN := true, tripN := true }
    boot := { resetKind := kind, restarts := if power then 0 else s.boot.restarts,
              restartTimes := if power then [] else s.boot.restartTimes, maddr := s.boot.maddr }
    sec := { nonce := newNonce s.freeCount, lifecycle := if power then 0 else if s.sec.scope = 0 then 0 else 1,
             scope := if power then 0 else s.sec.scope, unlocked := !power && s.sec.unlocked }
    hif := if power then { perst := s.hif.perst } else {
      perst := s.hif.perst, eidSmbus := s.hif.eidSmbus, eidI3c := s.hif.eidI3c, ownerSmbus := s.hif.ownerSmbus, ownerI3c := s.hif.ownerI3c }
    jtag := if power then {} else s.jtag }

/-! ## The stages (R446, Table 15.1) -/

/-- Whether a start-up stage is complete. -/
def State.stageDone (s : State) (c : Nat) : Bool := s.boot.done.getLsbD c

/-- Every stage below a code complete. -/
def State.stagesBelow (s : State) (c : Nat) : Bool := (List.range c).all (fun i => s.stageDone i)

/-- A stage complete. -/
def State.finish (s : State) (c : Nat) : State := { s with boot := { s.boot with done := s.boot.done ||| (1#10 <<< c) } }

/-- GCTL_BOOT.stage: the lowest stage not complete, READY once it is, or RECOVERY (Table 15.1). -/
def State.bootStage (s : State) : Nat :=
  if s.boot.recovery then 0xB
  else if s.boot.ready then 0xA
  else ((List.range 10).find? (fun c => !s.stageDone c)).getD 0xA

/-- Recovery mode with its cause (R460, R462): only the always-on domain and the host PHY are powered. -/
def State.recover (s : State) (cause : Byte) : State :=
  { s with boot := { s.boot with recovery := true, rcvyCause := cause }, sec := { s.sec with lifecycle := 2 } }

/-- The first check of R413 that the flash image fails, as GCTL_BOOT.rcvy_cause codes it. -/
def State.fwCheck (s : State) : Byte :=
  let f := s.nv.flash
  if !f.headerOk then 1 else if !f.chainOk then 2 else if !f.signatureOk then 3 else if !f.digestOk then 4
  else if f.svn < s.nv.minSvn then 5 else 0

/-- The records in force: partitions configured from their stored records, no keys set; the operator always is (R447, R448). -/
def State.loadRecords (s : State) : State :=
  owners.foldl (fun (t : State) p => match t.nv.partCfgs.get none p with
    | some c => t.updPart p (fun q => { q with cfg := some c })
    | none => if p = 31 then t.updPart p (fun q => { q with cfg := some { partition := 31 } }) else t) s

/-- Stages FIRMWARE to RAILS (R446, R460): recovery on a failed check, a stop on a record without a valid copy or a rail that does
not come up. `hang` is the third boot restart within 60 s. -/
def State.bootFirmware (s : State) (env : BootEnv) (hang : Bool) : State :=
  let s0 := { s with boot := { s.boot with forceRcvyLow := env.forceRcvyLow } }
  if env.forceRcvyLow then s0.recover 6
  else if hang then s0.recover 7
  else if s0.fwCheck ≠ 0 then s0.recover s0.fwCheck
  else
    let s1 := { (s0.finish 1) with nv := { s0.nv with fwVersion := s0.nv.flash.version, fwSvn := s0.nv.flash.svn } }
    if !s1.nv.recordsValid then { s1 with boot := { s1.boot with stopped := true } }.event [.pf, .bmc] 0x03 0
    else
      let s2 := s1.loadRecords.finish 2
      if env.railsOk then { (s2.finish 3) with pwr := { s2.pwr with ringUp := true } }
      else { s2 with boot := { s2.boot with stopped := true } }.event [.pf, .bmc] 0x35 4

/-- Injection-node lock: device time 0, the address straps sampled at the end of stage ROM, then the stages that follow it (R31, R446,
R479). -/
def State.romLock (s : State) (env : BootEnv) : State :=
  (({ s with time := 0, clk := { s.clk with refPresent := true }, boot := { s.boot with maddr := env.maddr } }).finish 0).bootFirmware env false

/-- The SMBus address the straps give, 0x40 to 0x4F (R479). -/
def State.smbusAddress (s : State) : Nat := 0x40 + s.boot.maddr.toNat

/-- Whether a start is allowed from OFF (Table 17.3): after an overvoltage or a trip only once VAUX has fallen. -/
def State.mayStart (s : State) : Bool :=
  !s.pwr.off || !s.pwr.vauxUp || s.pwr.offCause == .powerFail || s.pwr.offCause == .none

/-- POWER_ON_RESET: VAON rises and start-up begins at stage ROM (R446, R455, R477). -/
def execPowerOnReset (env : BootEnv) (s : State) : Out :=
  if s.mayStart then
    let s1 := s.wipe true 0
    .next (State.only .all s (if env.refclk then s1.romLock env else s1))
  else .next s

/-- MESH_LOCK: with REFCLK present the injection nodes lock the mesh (R423); a start-up that waits for REFCLK goes on, and stage LOCK
completes, the interiors of column vx 0 rising. -/
def execMeshLock (env : BootEnv) (s : State) : Out :=
  act Foot.all (fun s =>
    if !env.refclk || s.boot.recovery then s
    else if !s.stageDone 0 then s.romLock env
    else
      let s1 := { s with clk := { s.clk with refPresent := true } }
      if s1.stagesBelow 4 && !s1.stageDone 4 && !s1.boot.stopped then
        let col := (List.range 12).foldl (fun (a : BitVec 84) vy => setVale a (7 * vy)) s1.pwr.interiors
        { (s1.finish 4) with
          clk := { s1.clk with refLocked := true }
          pwr := { s1.pwr with interiors := col }
          cool := { s1.cool with goodTicks := 0 } }
      else s1) s

/-- Every powered vale due for calibration, its statistics tick to come (R283). -/
def State.makeDue (s : State) (vs : BitVec 84) : State :=
  { s with
    sens := { s.sens with
      due := s.sens.due ||| vs, statTick := s.sens.statTick ||| vs, statRun := s.sens.statRun &&& ~~~vs,
      statOver := s.sens.statOver &&& ~~~vs, statDone := s.sens.statDone &&& ~~~vs }
    pwr := { s.pwr with uncal := s.pwr.uncal ||| vs } }

/-- COOLANT_CONFIRMED: 8 good ticks; the remaining interiors and the DRAM rails rise, and the vote runs (R446). -/
def execCoolantConfirmed (vote : VoteInput) (s : State) : Out :=
  act {
      thm := true, pwr := true, boot := true, nv := true, arrs := true, sites := true, wgt := true, vars := true, eng := true, cur := true,
      nxt := true, mesh := true, sync := true, seqs := true, sens := true, flt := true, fab := true, chans := true, hif := true } (fun s =>
    if s.stagesBelow 5 && !s.stageDone 5 && decide (8 ≤ s.cool.goodTicks) then
      let s1 := { (s.finish 5) with pwr := { s.pwr with interiors := BitVec.allOnes 84, dramUp := true } }
      ((s1.runVote vote true (fun _ => true)).finish 6).makeDue
        (BitVec.allOnes 84)
    else s) s

/-- The physical arrays that a record or a programmed cell names. -/
def State.knownArrays (s : State) : List Nat :=
  (s.arrs.map (fun (e : Nat × Arr) => e.1) ++ s.cells.map (fun (e : Nat × Byte) => e.1 / (1024 * 262))).eraseDups

/-- INTEGRITY_CHECK: every physical array read and its CRC stored; those that differ from the record are unverified (R451). An array no
entry names is erased, and its CRC is the recorded one (log entry 20). -/
def execIntegrityCheck (s : State) : Out :=
  act { boot := true, arrs := true } (fun s =>
    if s.stagesBelow 8 && !s.stageDone 8 then
      s.knownArrays.foldl (fun (t : State) n =>
        let k := n / 17
        let p := n % 17
        let c := t.crcOf k p
        t.updArr k p (fun a => { a with acrc := c, unverified := a.cut || decide (c ≠ a.recCrc) })) (s.finish 8)
    else s) s

/-- DRAM_INIT: the stacks that train are in service, and every DRAM byte is zero (R446, R449). -/
def execDramInit (trained : BitVec 16) (s : State) : Out :=
  act { boot := true, mem := true, poison := true } (fun s =>
    if s.stageDone 5 && !s.stageDone 9 then
      let s1 := (s.zeroMem 0 0x00C000000000).finish 9
      { s1 with boot := { s1.boot with stacksOk := trained } }
    else s) s

/-- READY: every stage complete, IDLE_HOLD with the engine held (R448). -/
def execReady (s : State) : Out :=
  act { pwr := true, boot := true, nv := true, eng := true, fab := true, chans := true, hif := true } (fun s =>
    if s.stagesBelow 10 && !s.boot.ready && !s.boot.recovery then
      let s1 := { s with
        boot := { s.boot with ready := true, readyTime := s.time }
        nv := { s.nv with minSvn := if s.nv.minSvn < s.nv.fwSvn then s.nv.fwSvn else s.nv.minSvn }
        eng := { s.eng with hold := true, state := 0, stepNumber := 0 }
        pwr := { s.pwr with state := 0b010 } }
      let s2 := s1.event [.pf, .bmc] 0x08 0
      -- words queued before READY go now (R448)
      (List.range 22).foldl State.pump s2
    else s) s

/-- Whether a range lies inside the committed weight region (R451). -/
def State.inWregion (s : State) (a n : Nat) : Bool :=
  decide (s.lock.wBase.toNat * 2 ^ 30 ≤ a ∧ a + n ≤ (s.lock.wBase.toNat + s.lock.wSize.toNat) * 2 ^ 30)

/-- The golden copy of one array rebuilt where its read CRC is the recorded one (R126, R451). -/
def State.rebuildOne (s : State) (g : GenArray) : State :=
  let p := (s.site g.site).physOf g.logical
  if (s.arr g.site p).acrc = g.crc ∧ !(s.arr g.site p).cut then s.wrBytes g.golden (s.imageOf g.site p) else s

/-- GOLDEN_REBUILD (R126, R450, R451): once the global block is committed and every recorded golden area lies in the weight region. -/
def execGoldenRebuild (s : State) : Out :=
  act { boot := true, mem := true, host := true, poison := true } (fun s =>
    let gs := [s.wgt.genA, s.wgt.genB].filter (fun g => g.state == 6 || g.state == 7)
    if s.boot.ready && s.lock.cGlobal && !s.boot.goldenRebuilt && gs.all (fun g => s.inWregion g.goldenBase g.goldenSize) then
      let s1 := gs.foldl (fun (t : State) g =>
        if t.okDram g.goldenBase g.goldenSize then g.arrays.foldl State.rebuildOne t else t) s
      { s1 with boot := { s1.boot with goldenRebuilt := true } }
    else s) s

/-! ## Device resets (R455, R456, R461, R463) -/

/-- A device reset: the step aborted, the ports DOWN, the rails lowered, and a start at stage FIRMWARE. -/
def State.deviceReset (s : State) (kind : BitVec 4) (env : BootEnv) (hang : Bool) : State :=
  ((s.wipe false kind).finish 0).bootFirmware env hang

/-- SYS_RST_N_RESET: held low for at least 10 µs. -/
def execSysRstNReset (lowNs : Nat) (env : BootEnv) (s : State) : Out :=
  act Foot.all (fun s => s.when (decide (10000 ≤ lowNs)) (fun s => s.deviceReset 1 env false)) s

/-- DEV_RESET (R456). -/
def execDevReset (b : CmdBlock) (env : BootEnv) (s : State) : Out :=
  act Foot.all (fun s => s.accept ⟨0x68, true, [0, 18]⟩ false false b (fun t =>
    if b.par 0 1 = 1 then (t.result b 0x68 0).deviceReset 2 env false else t.result b 0x68 1)) s

/-- A boot restart counted; the third within 60 s is a hang (R460, R461). -/
def State.bootRestart (s : State) (env : BootEnv) : State :=
  let near := s.boot.restartTimes.filter (fun t => decide ((s.time - t).toNat ≤ 60 * 850000000))
  let s1 := { s with boot := { s.boot with restarts := satInc s.boot.restarts, restartTimes := s.time :: near } }
  s1.deviceReset 3 env (decide (2 ≤ near.length))

/-- BOOT_WATCHDOG_EXPIRY. -/
def execBootWatchdogExpiry (env : BootEnv) (s : State) : Out := act Foot.all (fun s => s.bootRestart env) s

/-- RECOVERY_UPDATE_RESTART: after an update written in recovery mode (R463). -/
def execRecoveryUpdateRestart (env : BootEnv) (s : State) : Out :=
  act Foot.all (fun s => s.when (s.boot.recovery && s.boot.recoveryUpdated) (fun s => s.bootRestart env)) s

/-! ## Resets of the link and of functions (R457, R459) -/

/-- Partition resets requested; at once while the engine is held (R459). They reach the records, the sequences and what a partition
keeps, and nothing of the engine. -/
def State.resetParts (s : State) (ps : List Nat) : State :=
  State.only {
      nv := true, adps := true, frames := true, sweeps := true, seqs := true, parts := true, srv := true, fab := true, chans := true,
      hif := true, sec := true } s <|
  let s1 := ps.foldl (fun (t : State) p =>
    if (t.part p).zeroing.isSome then t
    else t.updPart p (fun q => { q with resetDue := some (q.resetDue.getD (false, q.cfgDue.length, [])) })) s
  if s1.held then ps.foldl State.applyReset s1 else s1

/-- The partitions that are configured. -/
def State.tenants (s : State) : List Nat := (List.range 16).filter (fun p => s.configured p)

/-- What a LINK reset and a PF_FLR do (R457). -/
def State.functionReset (s : State) (kind : BitVec 4) : State :=
  let s1 := { s with
    boot := { s.boot with resetKind := kind }
    mem := s.mem.zero hostSyncPage 0x1000
    sync := { wdogSteps := 4, exps := s.sync.exps, monitors := s.sync.monitors, woken := s.sync.woken, held := s.sync.held,
              stalled := s.sync.stalled, stallStart := s.sync.stallStart, waits := s.sync.waits, waitTarget := s.sync.waitTarget,
              lateTimes := s.sync.lateTimes }
    hif := { s.hif with
      vfEnable := false, latches := [], descBase := 0, descTailErr := false, descEnable := false, descEntries := 4, descHead := 0,
      descTail := 0, notBase := 0, notIrq := 1, notEnable := false, notLog2 := 6, notTail := 0, notHead := 0 }
    srv := { s.srv with fetched := [], fetchedTo := 0 }
    eng := { s.eng with hold := true } }
  let s2 := s1.updRings 31 (fun _ => {})
  let s3 := (s2.updChan 0 (fun _ => {})).updChan 1 (fun _ => {})
  let s4 := (s3.updSpdm 0 (fun _ => {})).updSpdm 1 (fun _ => {})
  s4.resetParts (s4.tenants ++ [31])

/-- LINK_RESET: PERST_N, a Hot Reset or loss of the link. In recovery mode the endpoint alone retrains. -/
def execLinkReset (cause : LinkCause) (s : State) : Out :=
  act {
      boot := true, nv := true, mem := true, adps := true, eng := true, sync := true, frames := true, sweeps := true, seqs := true,
      parts := true, srv := true, fab := true, chans := true, hif := true, sec := true } (fun s =>
    let s1 := { s with hif := { s.hif with linkWidth := 0, perst := s.hif.perst || decide (cause = .perst) } }
    if s1.boot.recovery then s1 else s1.functionReset 4) s

/-- PERST_N_DEASSERT: the endpoint trains (R449). -/
def execPerstNDeassert (width : BitVec 4) (s : State) : Out :=
  act { hif := true } (fun s => { s with hif := { s.hif with perst := false, linkWidth := width } }) s

/-- PCIE_LINK_UP: training after a Hot Reset or a link loss is complete (R354). -/
def execPcieLinkUp (width : BitVec 4) (s : State) : Out :=
  act { hif := true } (fun s => s.when (!s.hif.perst) (fun s => { s with hif := { s.hif with linkWidth := width } })) s

/-- PF_FLR. -/
def execPfFlr (s : State) : Out := act {
    boot := true, nv := true, mem := true, adps := true, eng := true, sync := true, frames := true, sweeps := true, seqs := true,
    parts := true, srv := true, fab := true, chans := true, hif := true, sec := true } (fun s => s.functionReset 5) s

/-- VF_FLR: a reset of partition p (R459). -/
def execVfFlr (p : Nat) (s : State) : Out :=
  act {
      nv := true, adps := true, frames := true, sweeps := true, seqs := true, parts := true, srv := true, fab := true, chans := true,
      hif := true, sec := true } (fun s => s.when (decide (p < 16) && s.configured p) (fun s => s.resetParts [p])) s

/-- VF_ENABLE_CLEAR: every partition reset (R455). -/
def execVfEnableClear (s : State) : Out :=
  act {
      nv := true, adps := true, frames := true, sweeps := true, seqs := true, parts := true, srv := true, fab := true, chans := true,
      hif := true, sec := true } (fun s => ({ s with hif := { s.hif with vfEnable := false } }).resetParts s.tenants) s

/-- VF_ENABLE_SET: the windows of configured partitions become reachable (R355). -/
def execVfEnableSet (s : State) : Out := act { hif := true } (fun s => { s with hif := { s.hif with vfEnable := true } }) s

end Sys2Proof.Machine
end

