-- ==== Sys2Proof/Machine/HostIf.lean ====
section
/-! DEFINITION. The host interface (chapter 12): mailbox words, doorbells, copies, lost peers, the step hold and the commits. -/

namespace Sys2Proof.Machine

/-! ## Reach of the windows (R355, R357, R449) -/

/-- Whether the window of partition p answers: enabled in SR-IOV, its partition configured, and the device serving. -/
def State.vfOpen (s : State) (p : Nat) : Bool := s.hif.vfEnable && s.configured p && s.blockOpen

/-- A request that completes with Unsupported Request or reads zero, counted (R355). -/
def State.unsupported (s : State) : State := { s with hif := { s.hif with unsupported := satInc s.hif.unsupported } }

/-- Whether an owner reaches its doorbells. -/
def State.ownerOpen (s : State) (p : Nat) : Bool := if p < 16 then s.vfOpen p else decide (p = 31) && s.blockOpen

/-! ## Mailboxes (R371, R372, R375) -/

/-- The command codes the device knows (Tables 12.11, 13.8, 14.10, R456). -/
def knownCodes : List Nat :=
  [0x20, 0x21, 0x22, 0x23, 0x24, 0x28, 0x29, 0x30, 0x31, 0x32, 0x33, 0x38, 0x39, 0x40, 0x48, 0x50, 0x51, 0x52, 0x53, 0x54, 0x55,
   0x56, 0x57, 0x60, 0x61, 0x62, 0x68]

/-- The reason a waiting word is rejected with before any block is read: BAD_MESSAGE, QUEUE_FULL, or NOT_PERMITTED for a code no
channel may send. -/
def State.wordReason (s : State) (c : Nat) (w : W64) : Option Byte :=
  if wordType w ≠ 1 ∨ w.toNat % 8 ≠ 0 then some 0x01
  else if knownCodes.contains (w.toNat / 2 ^ 52 % 256) then none
  else if 16 ≤ (s.chan c).openCmds.length then some 0x02 else some 0x04

/-- A word that arrives on a channel: stored, and taken at once where it is rejected by itself. -/
def State.arrive (s : State) (c : Nat) (w : W64) : State :=
  if (s.chan c).inFull then s.mbxIn c w
  else match s.wordReason c w with
    | some r => ((s.mbxIn c w).takeIn c).sendWord c (msgWord 5 (BitVec.ofNat 8 (w.toNat / 2 ^ 52)) (BitVec.ofNat 4 (w.toNat / 2 ^ 48)) (r ++ 0#40))
    | none => s.mbxIn c w

/-- MBX_IN_WRITE. -/
def execMbxInWrite (channel : Nat) (word : W64) (s : State) : Out :=
  act { mem := true, host := true, poison := true, fab := true, chans := true, hif := true } (fun s =>
    let s := s.unlatchChan channel
    if 22 ≤ channel then s
    else if decide (2 ≤ channel ∧ channel < 18) && !(s.vfOpen (channel - 2)) then s.unsupported
    else s.arrive channel word) s

/-- MBX_OUT_READ: the word returned, the register and out_full cleared, the next queued word placed. -/
def execMbxOutRead (channel : Nat) (s : State) : Out :=
  act { fab := true, chans := true, hif := true } (fun s =>
    let s := s.unlatchChan channel
    if 22 ≤ channel then s
    else if decide (2 ≤ channel ∧ channel < 18) && !(s.vfOpen (channel - 2)) then
      let t := s.unsupported
      { t with hif := { t.hif with readData := 0 } }
    else
      let t := { s with hif := { s.hif with readData := (s.chan channel).outWord } }
      (t.updChan channel (fun h => { h with outWord := 0, outFull := false })).pump channel) s

/-! ## Doorbells (R360, R361, R363, R365, R466) -/

/-- The count a doorbell write carries: a write of the upper half is ignored. -/
def bellValue (part : Sys2Proof.Part) (v : W64) : Option W32 :=
  match part with
  | .upper => none
  | _ => some (v.truncate 32)

/-- DESC_TAIL: accepted when it neither overruns nor withdraws (R360). While the engine is held each entry is fetched at once (R454). -/
def execDescTail (part : Sys2Proof.Part) (v : W64) (s : State) : Out :=
  act { srv := true, hif := true } (fun s =>
    let s := s.unlatch 0
    match bellValue part v with
    | none => s
    | some t =>
      if !s.blockOpen then s
      else if (t - s.hif.descHead).toNat ≤ s.hif.descEntries.toNat ∧ (t - s.hif.descTail).toNat ≤ s.hif.descEntries.toNat then
        let s1 := { s with hif := { s.hif with descTail := t } }
        if s1.held then s1.fetchDescs 0 4096 else s1
      else { s with hif := { s.hif with descTailErr := true } }) s

/-- RQ_TAIL: records announced. -/
def execRqTail (owner : Nat) (part : Sys2Proof.Part) (v : W64) (s : State) : Out :=
  act { parts := true, hif := true } (fun s =>
    let s := s.unlatchOwner owner
    if !(s.ownerOpen owner) then s.when (decide (owner < 16)) State.unsupported
    else match bellValue part v with
      | none => s
      | some t => s.updRings owner (fun q => { q with rqTail := t })) s

/-- OUT_HEAD: output ring space returned, and the spill drained into it (R365, R366). -/
def execOutHead (owner : Nat) (v : W64) (s : State) : Out :=
  act { host := true, parts := true, hif := true } (fun s =>
    let s := s.unlatchOwner owner
    if !(s.ownerOpen owner) then s.when (decide (owner < 16)) State.unsupported
    else
      let s1 := s.updRings owner (fun q => { q with outHead := v })
      if (s1.part owner).rings.outHostErr then s1 else s1.drain owner ((s1.part owner).rings.spill.length + 1)) s

/-- NOTICE_HEAD: notice entries freed. -/
def execNoticeHead (part : Sys2Proof.Part) (v : W64) (s : State) : Out :=
  act { hif := true } (fun s =>
    let s := s.unlatch 0
    match bellValue part v with
    | none => s
    | some t => if s.blockOpen then { s with hif := { s.hif with notHead := t } } else s) s

/-! ## STEP_CTRL.hold (R166, R454) -/

/-- STEP_HOLD_SET. -/
def execStepHoldSet (s : State) : Out :=
  act { eng := true, hif := true } (fun s => (s.unlatch 0).when s.blockOpen (fun s => { s with eng := { s.eng with hold := true } })) s

/-- STEP_HOLD_CLEAR. -/
def execStepHoldClear (s : State) : Out :=
  act { eng := true, hif := true } (fun s => (s.unlatch 0).when s.blockOpen (fun s => { s with eng := { s.eng with hold := false } })) s

/-! ## Commits (R159, R327, R450, R452) -/

/-- The committed weight region's range. -/
def State.wRange (s : State) : Nat × Nat := (s.lock.wBase.toNat * 2 ^ 30, s.lock.wSize.toNat * 2 ^ 30)

/-- The variant area's range. -/
def State.vRange (s : State) : Nat × Nat := (s.lock.vBase.toNat * 2 ^ 30, s.lock.vSize.toNat * 2 ^ 30)

/-- COMMIT_GLOBAL: ignored where GCTL_WREGION includes DRAM that is unpopulated or out of service (R450). -/
def execCommitGlobal (s : State) : Out :=
  act { lock := true, hif := true } (fun s =>
    let s := s.unlatch 0
    if s.lock.wSize = 0 || s.okDram s.wRange.1 s.wRange.2 then { s with lock := { s.lock with cGlobal := true } } else s) s

/-- Whether STEP_VAREA keeps the rules of R159. -/
def State.vareaOk (s : State) : Bool :=
  let v := s.vRange
  s.lock.vSize == 0 ||
  (s.inWregion v.1 v.2 && s.okDram v.1 v.2 &&
   s.gens.all (fun g => g.state == 0 || !(overlaps v (g.goldenBase, g.goldenSize))) &&
   owners.all (fun p => !(overlaps v (s.cfg p).adpArea)))

/-- COMMIT_STEP: ignored where STEP_VAREA breaks a rule of R159. -/
def execCommitStep (s : State) : Out :=
  act { lock := true, hif := true } (fun s =>
    let s := s.unlatch 0
    if s.vareaOk then { s with lock := { s.lock with cStep := true } } else s) s

/-- A port that leaves service: DOWN, its transmission and admission state lost; pins, digests and counters stay. -/
def Port.toDown (p : Port) : Port :=
  { pin := p.pin, digest := p.digest, disable := p.disable, fec := p.fec, crcDrops := p.crcDrops, retrans := p.retrans,
    winMissing := p.winMissing, state := if p.disable then 6 else 0 }

/-- A port that begins to train (R329). -/
def Port.toTraining (p : Port) : Port := if p.disable then p.toDown else { p.toDown with state := 1 }

/-- Every port the plan gives a role trains (R329, R353). -/
def State.trainPorts (s : State) : State :=
  (List.range 24).foldl (fun (t : State) n => if portRole t.lock.plan n = 0 then t else t.updPort n Port.toTraining) s

/-- COMMIT_FABRIC: the plan and shape recorded, and the ports train; an illegal plan leaves them DOWN with reason PLAN (R327). -/
def execCommitFabric (s : State) : Out :=
  act { lock := true, fab := true, hif := true } (fun s =>
    let s := s.unlatch 0
    if s.lock.cFabric then s
    else
      let s1 := { s with
        lock := { s.lock with cFabric := true, recPlan := some s.lock.plan, recTopo := s.lock.topo } }
      if topoLegal s1.lock.topo && planLegal s1.lock.plan s1.lock.topo then s1.trainPorts
      else (List.range 24).foldl (fun (t : State) n => t.updPort n (fun p => { p.toDown with reason := 6 })) s1) s

/-! ## HOST_COPY and PEER_LOST (R377, R351, R225) -/

/-- A HOST_COPY's own checks, and the copy begun: between the sender's host reach and its DRAM reach. -/
def State.hostCopy (t : State) (b : CmdBlock) : State :=
  let src := b.par 0 8
  let dst := b.par 8 8
  let n := b.par 16 8
  let p := chanOwner b.channel
  if !((inHost src n && t.inDramReach p dst n) || (inHost dst n && t.inDramReach p src n)) then t.result b 0x40 1
  else if n < 64 ∨ 2 ^ 30 < n ∨ n % 64 ≠ 0 then t.result b 0x40 2
  else
    let t1 := t.opened b 0x40
    { t1 with hif := { t1.hif with copies := t1.hif.copies ++ [{ channel := b.channel, cseq := b.cseq, src := src, dst := dst, len := n }] } }

/-- HOST_COPY accepted. -/
def execHostCopy (b : CmdBlock) (s : State) : Out :=
  act { nv := true, mem := true, host := true, poison := true, parts := true, fab := true, chans := true, hif := true, sec := true } (fun s =>
      s.accept ⟨0x40, false, [0, 1] ++ vfChans⟩ false false b (fun t => t.hostCopy b)) s

/-- The first `n` bytes of a copy moved. -/
def State.moveBytes (s : State) (c : Copy) (n : Nat) : State :=
  let h := 0x020000000000
  if h ≤ c.src ∧ c.src < 0x030000000000 then
    { s with
      mem := Sparse.copyRange 0#8 s.mem s.host (c.src - h) c.dst n
      poison := s.poison.filter (fun x => !decide (c.dst ≤ x ∧ x < c.dst + n)) }
  else { s with host := Sparse.copyRange 0#8 s.host s.mem c.src (c.dst - h) n }

/-- HOST_COPY_COMPLETE: the last byte written, or a completion error with the bytes before it written. -/
def execHostCopyComplete (channel : Nat) (cseq : BitVec 4) (fault : Option Nat) (s : State) : Out :=
  act { mem := true, host := true, poison := true, fab := true, chans := true, hif := true } (fun s =>
    match s.hif.copies.find? (fun c => decide (c.channel = channel ∧ c.cseq = cseq)) with
    | none => s
    | some c =>
      let s1 := { s with hif := { s.hif with copies := s.hif.copies.filter (fun k => k != c) } }
      match fault with
      | none => (s1.moveBytes c c.len).complete channel 0x40 cseq 0 0
      | some n => (s1.moveBytes c (min n c.len)).complete channel 0x40 cseq 3 0) s

/-- Whether the source an install or a variant load names can be reached (R110): an address in the operator's reach, or an inbox of the
operator that is enabled. -/
def State.sourceOk (s : State) (b : CmdBlock) (kind inbox : Nat) : Bool :=
  if kind = 1 then (let i := s.fab.inboxes.get {} inbox; i.enable && i.owner == 0x1F) else s.inReach 31 (b.par 8 8) (b.par 16 8)

/-- PEER_LOST: the ring sequences with pages on the device end FAULT_ABORTED at the next boundary, and the group must be formed again (R225,
R351). Which index of a ring a device has the spec does not say: a sequence of a ring has pages there as soon as it has a position
(log entry 79). -/
def execPeerLost (b : CmdBlock) (s : State) : Out :=
  act {
      nv := true, mem := true, host := true, poison := true, seqs := true, parts := true, fab := true, chans := true, hif := true,
      sec := true } (fun s => s.accept ⟨0x48, false, [0, 20]⟩ false false b (fun t =>
    let d := b.par 0 2
    if 1023 < d ∨ d = t.device then t.result b 0x48 4
    else
      let t1 := t.opened b 0x48
      let t2 := { t1 with fab := { t1.fab with lost := d :: t1.fab.lost.filter (fun x => decide (x ≠ d)) } }
      let inGroup := t2.fab.member && (t2.fab.peers.contains d || decide (t2.fab.master.toNat = d))
      let t3 := if inGroup then
          let t4 := { t2 with fab := { t2.fab with regroup := true, aligned := false, peers := t2.fab.peers.filter (fun x => decide (x ≠ d)) } }
          (t4.seqsWhere (fun q => decide (2 ≤ q.state.toNat ∧ q.state.toNat ≤ 5 ∧ 2 ≤ q.req.ringSize ∧ 0 < q.length))).foldl (fun (u : State) i =>
            u.updSeq i (fun q => { q with endDue := 0x19 })) t4
        else t2
      t3.complete b.channel 0x48 b.cseq 0 0)) s

end Sys2Proof.Machine
end

