-- ==== Sys2Proof/Machine/Weights.lean ====
section
/-! DEFINITION. Installing weight images (R102–R117), generations (R118–R120), rolling rewrites (R121–R123), fixed weights (R131). -/

namespace Sys2Proof.Machine

/-! ## The image (R103–R105, R111) -/

/-- A little-endian field of a byte string. -/
def fieldOf (bs : List Byte) (a n : Nat) : Nat := ofLE ((bs.drop a).take n)

/-- Whether a range of a byte string is zero. -/
def zeroIn (bs : List Byte) (a n : Nat) : Bool := ((bs.drop a).take n).all (fun b => b == 0)

/-- The manifest entry that 128 bytes spell (Table 4.4). -/
def manifestEntry (bs : List Byte) : ManifestEntry := {
  kind := bs.getD 0 0, format := bs.getD 1 0, rank := fieldOf bs 2 2, group := fieldOf bs 4 2, matrix := fieldOf bs 6 2
  fragment := fieldOf bs 8 4, offset := fieldOf bs 0x10 8, length := fieldOf bs 0x18 8, arrayCrc := BitVec.ofNat 32 (fieldOf bs 0x20 4)
  rows := fieldOf bs 0x24 2, cols := fieldOf bs 0x26 2, reservedZero := zeroIn bs 0xC 4 && zeroIn bs 0x28 24
  hash := digestBits ((bs.drop 0x40).take 64) }

/-- The image that its bytes below the chunk area spell (Tables 4.2 and 4.3). The manifest digest is SHA-512 of the manifest (log entry
73). -/
def parseImage (bs : List Byte) (sig : ImageSig) : WeightImage :=
  let n := fieldOf bs 0x18 4
  let sigAt := 0x100 + 128 * n
  let cert := fieldOf bs (sigAt + 2) 2
  let manifest := (bs.drop 0x100).take (128 * n)
  { magic := BitVec.ofNat 32 (fieldOf bs 0 4), containerVersion := BitVec.ofNat 16 (fieldOf bs 4 2)
    member := BitVec.ofNat 16 (fieldOf bs 6 2), imageId := BitVec.ofNat 64 (fieldOf bs 8 8)
    imageVersion := BitVec.ofNat 32 (fieldOf bs 0x10 4), contractId := BitVec.ofNat 32 (fieldOf bs 0x14 4)
    entryCount := n, groupCount := fieldOf bs 0x1C 2, deviceCount := fieldOf bs 0x1E 2, chunkAreaOffset := fieldOf bs 0x20 8
    chunkAreaSize := fieldOf bs 0x28 8, flags := BitVec.ofNat 32 (fieldOf bs 0x30 4)
    reservedZero := zeroIn bs 0x34 12 && zeroIn bs 0xC0 64 && zeroIn bs (sigAt + 4) 4 && zeroIn bs (sigAt + 140) 4
    keyId := digestBits ((bs.drop 0x40).take 64)
    manifest := ((chunksOf 128 n manifest).take n).map manifestEntry
    manifestDigest := digestBits (sha512 manifest)
    sigAlg := fieldOf bs sigAt 2, sigEnd := sigAt + 144 + cert
    padZero := zeroIn bs (sigAt + 144 + cert) (fieldOf bs 0x20 8 - (sigAt + 144 + cert)), sig := sig }

/-- The container checks of R111 step 1, on the header of Table 4.3 and the manifest's layout, for an image of `size` bytes. -/
def containerOk (img : WeightImage) (size : Nat) (adapter : Bool) : Bool :=
  img.magic == 0x49475749 && img.containerVersion == 1 && img.member == 3 && img.reservedZero && img.padZero && img.sigAlg == 1 &&
  decide (1 ≤ img.entryCount ∧ img.entryCount ≤ 2 ^ 24 ∧ img.manifest.length = img.entryCount ∧ 1 ≤ img.groupCount ∧
    img.groupCount ≤ 4096 ∧ 1 ≤ img.deviceCount ∧ img.deviceCount ≤ 1024 ∧ img.chunkAreaOffset % 4096 = 0 ∧
    img.sigEnd ≤ img.chunkAreaOffset ∧ img.chunkAreaOffset + img.chunkAreaSize ≤ size) &&
  img.flags == (if adapter then 1 else 0) &&
  img.manifest.all (fun m => decide (m.offset + m.length ≤ img.chunkAreaSize ∧ m.group < img.groupCount ∧
    (m.rank < img.deviceCount ∨ m.rank = 0xFFFF)))

/-- The chain and the signature (R105, R111 steps 2 and 3): 0, UNTRUSTED_PUBLISHER or BAD_SIGNATURE. The chain ends at a provisioned root
and the leaf's key hashes to publisher_key_id. -/
def State.trustStatus (s : State) (img : WeightImage) : Byte :=
  if !(img.sig.chainOk && s.nv.roots.contains img.sig.root && digestBits (sha512 img.sig.leaf) == img.keyId) then 3
  else if !img.sig.signatureOk then 2 else 0

/-- The formats a chunk kind may have (Tables 3.4 and 4.5). -/
def kindFormat (kind format : Byte) : Bool :=
  let f := format.toNat
  match kind.toNat with
  | 1 => decide (1 ≤ f ∧ f ≤ 4)
  | 2 => decide (f = 9)
  | 3 => decide (f = 5)
  | 4 => decide (f = 9 ∨ f = 0xB)
  | 5 => decide (f = 5 ∨ f = 7 ∨ f = 8 ∨ f = 9)
  | 6 => decide (f = 5 ∨ f = 7 ∨ f = 8 ∨ f = 9 ∨ f = 0xB)
  | _ => false

/-- Whether byte `j` of an array row holds a non-zero pad bit (R45) or, in T2, the pair (1, 1) (R44). -/
def badCell (format cols j : Nat) (b : Byte) : Bool :=
  (if cols ≤ 8 * j then b != 0 else decide (cols < 8 * j + 8) && decide (b.toNat / 2 ^ (cols - 8 * j) ≠ 0)) ||
  (decide (format = 2) && (b &&& (b >>> 1) &&& 0x55) != 0)

/-- Whether an ARRAY chunk's content is illegal (R44, R45). -/
def badArray (format rows cols : Nat) (bs : List Byte) : Bool :=
  (chunksOf 256 1024 bs).zipIdx.any (fun r =>
    if rows ≤ r.2 then r.1.any (fun b => b != 0) else r.1.zipIdx.any (fun e => badCell format cols e.2 e.1))

/-- Whether every element of a byte string in a plain format is finite (R78). -/
def allFinite (format : Nat) (bs : List Byte) : Bool :=
  match fmtOf format with
  | some f => (chunksOf (elemBytes format) bs.length bs).all (fun e => f.finite (ofLE e))
  | none => true

/-- Whether the BF16 scales that follow the rows of an INT8 tensor are finite (Table 4.5, R78, R125). -/
def rowScalesFinite (row : Nat) (bs : List Byte) : Bool :=
  (chunksOf (row + 2) bs.length bs).all (fun r => allFinite 9 (r.drop row))

/-- The checks of one received chunk of an image (R111 step 5): its hash, then its content. -/
def chunkStatus (image : W64) (m : ManifestEntry) (bs : List Byte) : Byte :=
  if bs.length ≠ m.length || digestBits (sha512 bs) != m.hash then 4
  else if !(kindFormat m.kind m.format) || !m.reservedZero then 5
  else if m.kind = 1 then
    (if m.length = 262144 && decide (1 ≤ m.rows ∧ m.rows ≤ 1024 ∧ 1 ≤ m.cols ∧ m.cols ≤ 2048) &&
        !(badArray m.format.toNat m.rows m.cols bs) then 0 else 5)
  else if m.arrayCrc ≠ 0 ∨ m.rows ≠ 0 ∨ m.cols ≠ 0 then 5
  else if m.kind = 6 ∧ m.format = 5 then (if rowScalesFinite (Config.tensorRow image m.matrix) bs then 0 else 6)
  else if allFinite m.format.toNat bs then 0 else 6

/-- The bits set in a byte. -/
def popByte (b : Byte) : Nat := (List.range 8).countP (fun i => b.getLsbD i)

/-- The residue of one check group of a row: 16 bytes (R293). -/
def residue (bs : List Byte) : Nat := (bs.map popByte).sum % 7

/-- A row of an array image: 256 data bytes and the 48 check columns (R62, R293). -/
def imageRow (row : List Byte) : List Byte :=
  let n := ((chunksOf 16 16 row).map residue).foldr (fun r a => r + 8 * a) 0
  row ++ leBytes 6 n

/-- The array image of an ARRAY chunk: 268,288 bytes (R104, R109). -/
def arrayImage (bs : List Byte) : List Byte := (chunksOf 256 1024 bs).flatMap imageRow

/-! ## The plan (R106, R107, R117) -/

/-- The plan entry that 16 bytes spell (Table 4.6). -/
def planEntry (bs : List Byte) : PlanEntry :=
  { entry := fieldOf bs 0 4, x := fieldOf bs 4 1, y := fieldOf bs 5 1, l := fieldOf bs 6 1, reserved := bs.getD 7 0, dest := fieldOf bs 8 8 }

/-- The install plan that a byte string spells (R106): a 32-byte header and the entries that follow. -/
def parsePlan (bs : List Byte) : InstallPlan :=
  { count := fieldOf bs 0 4, rank := fieldOf bs 4 2, slot := bs.getD 6 0, mode := bs.getD 7 0, goldenBase := fieldOf bs 8 8
    goldenSize := fieldOf bs 16 8, reserved := BitVec.ofNat 64 (fieldOf bs 24 8)
    entries := ((chunksOf 16 bs.length (bs.drop 32)).filter (fun e => !e.isEmpty)).map planEntry }

/-- The length of an entry in the golden area. -/
def goldenLen (m : ManifestEntry) : Nat := if m.kind = 1 then imageBytes else m.length

/-- Whether a plan entry is placed in the DRAM tier (Table 4.6). -/
def inDram (e : PlanEntry) : Bool := decide (e.x = 0xFF ∧ e.y = 0xFF)

/-- The lowest place at or above `a` for `n` bytes clear of rising ranges. -/
def fitFrom (a n : Nat) : List (Nat × Nat) → Nat
  | [] => a
  | r :: rs => if a + n ≤ r.1 then a else fitFrom (max a (r.1 + r.2)) n rs

/-- Where each plan entry's golden copy lies (R109, log entry 16): DRAM kinds at their destination, the others in plan order at the
lowest addresses clear of those. The second part is the end of the last one. -/
def goldenPlaces (base : Nat) (taken : List (Nat × Nat)) : List (PlanEntry × ManifestEntry) → List Nat × Nat
  | [] => ([], base)
  | (e, m) :: rest =>
    if inDram e then
      let r := goldenPlaces base taken rest
      (e.dest :: r.1, r.2)
    else
      let a := fitFrom base (goldenLen m) taken
      let r := goldenPlaces (a + goldenLen m) taken rest
      (a :: r.1, r.2)

/-- The plan entries with their manifest entries. -/
def planItems (img : WeightImage) (plan : InstallPlan) : List (PlanEntry × ManifestEntry) :=
  plan.entries.filterMap (fun e => img.manifest[e.entry]?.map (fun m => (e, m)))

/-- The golden places of a plan. -/
def placesOf (img : WeightImage) (plan : InstallPlan) : List Nat × Nat :=
  let items := planItems img plan
  let taken := sortBy (fun (r : Nat × Nat) => r.1) (items.filterMap (fun x => if inDram x.1 then some (x.1.dest, x.2.length) else none))
  goldenPlaces plan.goldenBase taken items

/-- Whether a plan entry names a place fit for its chunk (R107, Tables 4.5 and 4.6): a site of the right type that the defect map
holds GOOD and no fault has taken, within its SRAM, or a DRAM address inside the golden area. -/
def State.entryOk (s : State) (plan : InstallPlan) (e : PlanEntry) (m : ManifestEntry) : Bool :=
  let k := siteAt e.x e.y
  let site := fun (t : Nat) => decide (e.x < 224 ∧ e.y < 192) && decide (siteType k = t) && s.siteCode k == 0 && (s.site k).fstate != 3
  let sram := fun (t : Nat) => site t && decide (e.l = 0xFF ∧ e.dest + m.length ≤ sramSize t)
  let dram := inDram e && decide (e.l = 0xFF ∧ plan.goldenBase ≤ e.dest ∧ e.dest + m.length ≤ plan.goldenBase + plan.goldenSize)
  match m.kind.toNat with
  | 1 => site 1 && decide (e.l < 16 ∧ e.dest = 0)
  | 2 => sram 1
  | 3 => sram 4
  | 4 => sram 4
  | 5 => sram 4 || dram
  | 6 => dram
  | _ => true

/-- Weight tiles that may hold arrays under the defect map (R117). -/
def State.usableTiles (s : State) : Nat :=
  (List.range (224 * 192)).countP (fun k => decide (siteType k = 1) && s.siteCode k == 0)

/-- The plan against the manifest (R107): whether it is PLAN_MISMATCH. A plan whose header names another slot, mode or number of entries than
the command and its own length is one too: DESIGN CHOICE, the spec names no status for it (log entry 74). -/
def State.planMismatch (s : State) (slot : Nat) (roll : Bool) (img : WeightImage) (plan : InstallPlan) : Bool :=
  let mine := img.manifest.zipIdx.filterMap (fun x => if x.1.rank = plan.rank ∨ x.1.rank = 0xFFFF then some x.2 else none)
  let named := plan.entries.map (·.entry)
  let arrays := (planItems img plan).filterMap (fun x => if x.2.kind = 1 then some (x.1.x, x.1.y, x.1.l) else none)
  decide (plan.count ≠ plan.entries.length) || plan.slot.toNat ≠ slot || plan.mode.toNat ≠ (if roll then 1 else 0) || decide (img.deviceCount ≤ plan.rank) ||
  !(mine.all (fun n => named.contains n)) || decide (named.length ≠ mine.length) || !(named.all (fun n => mine.contains n)) ||
  decide (arrays.eraseDups.length ≠ arrays.length) || !((planItems img plan).all (fun x => s.entryOk plan x.1 x.2))

/-- The generation slots as they will be once the changes of slots, the switches and the retirements pending at the next boundary have taken
effect (R108): these follow from the slots and the sequences pinned to them alone. -/
def State.projected (s : State) : State := (State.only { wgt := true, seqs := true } .reset s).movePointer.settleGens

/-- The capacity rules of R107 and R117 for an install into slot b. -/
def State.planCapacity (s : State) (b roll : Bool) (img : WeightImage) (plan : InstallPlan) : Bool :=
  let area := (plan.goldenBase, plan.goldenSize)
  let other := s.projected.gen (!b)
  let items := planItems img plan
  let arrays := items.countP (fun x => decide (x.2.kind = 1))
  s.inWregion area.1 area.2 && !(other.state != 0 && overlaps area (other.goldenBase, other.goldenSize)) &&
  !(overlaps area s.vRange) && !(owners.any (fun p => overlaps area (s.cfg p).adpArea)) && s.okDram area.1 area.2 &&
  decide ((placesOf img plan).2 ≤ area.1 + area.2) &&
  (roll || other.state == 0 ||
    (!(items.any (fun x => decide (x.2.kind = 1) && other.arrays.any (fun a => decide (a.site = siteAt x.1.x x.1.y)))) &&
     decide (arrays + other.arrays.length ≤ 16 * s.usableTiles)))

/-- The first failure of R111 steps 1 to 4 of an image of `size` bytes, or 0. -/
def State.imageStatus (s : State) (slot : Nat) (roll : Bool) (size : Nat) (img : WeightImage) (plan : InstallPlan) : Byte :=
  if !(containerOk img size false) then 1
  else if s.trustStatus img ≠ 0 then s.trustStatus img
  else if plan.goldenBase % 2 ^ 20 ≠ 0 ∨ plan.reserved ≠ 0 ∨ plan.entries.any (fun e => e.reserved != 0) then 5
  else if s.planMismatch slot roll img plan then 7
  else if !(s.planCapacity (decide (slot = 1)) roll img plan) then 8
  else 0

/-- What a generation slot holds from the time an image stages into it (R106, R114). -/
def Gen.staging (g : Gen) (img : WeightImage) (plan : InstallPlan) : Gen :=
  let items := (planItems img plan).zip (placesOf img plan).1
  let dest := fun (e : PlanEntry) => if inDram e then e.dest else siteBase (siteAt e.x e.y) + e.dest
  { g with
    state := if g.state = 2 ∧ !g.committed then 2 else 1, contract := img.contractId, imageId := img.imageId, digest := img.manifestDigest,
    arrays := items.filterMap (fun x => if x.1.2.kind = 1 then some
      { site := siteAt x.1.1.x x.1.1.y, logical := x.1.1.l, entry := x.1.1.entry, crc := x.1.2.arrayCrc, golden := x.2 } else none)
    chunks := items.filterMap (fun x => if x.1.2.kind = 1 then none else some
      { entry := x.1.1.entry, kind := x.1.2.kind, format := x.1.2.format, matrix := x.1.2.matrix, dest := dest x.1.1, length := x.1.2.length, hash := x.1.2.hash, golden := x.2 })
    goldenBase := plan.goldenBase, goldenSize := plan.goldenSize, committed := false,
    groups := if g.state = 2 ∧ g.digest = img.manifestDigest then g.groups else [] }

/-! ## The course of an install -/

/-- The target slot of an install. -/
def Install.target (i : Install) : Bool := decide (i.slot = 1)

/-- The install in progress ends in staging with a status: its slot as it was (R111, R116). -/
def State.failInstall (s : State) (st : Byte) (entry : Nat) : State :=
  match s.wgt.install with
  | none => s
  | some i =>
    let s1 := s.moveGen i.target (fun _ => i.prior)
    let s2 := { s1 with wgt := { s1.wgt with install := none, phase := 0, status := st, failEntry := BitVec.ofNat 32 entry } }
    s2.complete i.channel 0x20 i.cseq st 0

/-- The loader sends the header, the manifest and the signature block to the other devices of an install (R110). -/
def State.forwardHeader (s : State) (head : List Byte) (i : Install) : State :=
  ((List.range i.img.deviceCount).filter (fun d => decide (d ≠ i.plan.rank))).foldl
    (fun (t : State) d => t.sendBytes 3 d i.inbox (head.take i.img.sigEnd)) s

/-- The loader sends a chunk of another rank to its device, and one of every rank on the broadcast tree (R110, R338). -/
def State.forwardChunk (s : State) (i : Install) (m : ManifestEntry) (bs : List Byte) : State :=
  if !i.loader then s
  else if m.rank = 0xFFFF then
    (chunksOf 4096 (bs.length / 4096 + 1) bs).zipIdx.foldl (fun (t : State) e =>
      if e.1.isEmpty then t
      else
        let f := { (t.msgFrame 3 t.device i.inbox (4096 * e.2) (msgArg 0 0 1) e.1) with flags := 4 }
        ((List.range 24).filter (fun n => t.fab.children.getLsbD n && (t.port n).state == 3)).foldl
          (fun (u : State) n => u.updPort n (fun p => p.push f)) t) s
  else if m.rank ≠ i.plan.rank then s.sendBytes 3 m.rank i.inbox bs
  else s

/-- The install a WGT_INSTALL begins. -/
def installOf (b : CmdBlock) (slot : Nat) (roll : Bool) (img : WeightImage) (plan : InstallPlan) (prior : Gen) (tick : Nat) : Install :=
  { channel := b.channel
    cseq := b.cseq
    slot := slot
    roll := roll
    img := img
    plan := plan
    loader := decide (b.par 3 1 = 1)
    inbox := b.par 4 2
    golden := (placesOf img plan).1
    prior := prior
    lastTick := tick }

/-- Whether the golden copy of a plan entry is in place already, as its manifest entry has it (R114, R121). -/
def State.staged (s : State) (i : Install) (n : Nat) : Bool :=
  let at_ := i.golden.getD (i.plan.entries.findIdx (fun e => decide (e.entry = n))) 0
  match i.img.manifest[n]? with
  | some m => if m.kind = 1 then crc32c (s.rdBytes at_ imageBytes) == m.arrayCrc else digestBits (sha512 (s.rdBytes at_ m.length)) == m.hash
  | none => false

/-- Programming begins: the SRAM chunks placed that staging could not place, and arrays started (R109). -/
def State.beginProgramming (s : State) (i : Install) : State :=
  let s1 := (s.moveGen i.target (fun g => { g with state := 2 })).placeChunks (s.pgen i.target)
  ({ s1 with wgt := { s1.wgt with phase := 3 } }).pumpInstall

/-- The resume of a rolling rewrite (R121): the golden copies still in place count as staged, the groups recorded as programmed; with every
copy in place, programming goes on at once (log entry 30). -/
def State.resumeRoll (s : State) (i : Install) : State :=
  let groups := (s.pgen i.target).groups
  let have_ := (i.plan.entries.map (·.entry)).filter (s.staged i)
  let done := (i.arrays.filter (fun x => groups.contains x.2.2.1.group)).map (·.1)
  let s1 := s.updInstall (fun i => { i with received := have_, programmed := done })
  if i.plan.entries.all (fun e => have_.contains e.entry) then s1.beginProgramming i else s1

/-- The outcome of the image checks: the install failed, or its image staging, the header forwarded by a loader. -/
def State.imageChecked (s : State) (head : List Byte) (i : Install) (st : Byte) : State :=
  if st ≠ 0 then s.failInstall st 0
  else
    let s1 := s.moveGen i.target (fun g => g.staging i.img i.plan)
    let s2 := if i.loader then s1.forwardHeader head i else s1
    if i.roll ∧ (s2.gen (!i.target)).state = 7 then s2.resumeRoll i else s2

/-- An accepted install: its slot STAGING, its image checked as far as the plan (R108, R109, R111; log entries 29 and 30). A slot whose rewrite
resumes stays PROGRAMMING. -/
def State.beginInstall (s : State) (b : CmdBlock) (slot : Nat) (roll : Bool) (head : List Byte) (sig : ImageSig) (plan : List Byte) : State :=
  let img := parseImage head sig
  let p := parsePlan plan
  let i := installOf b slot roll img p (s.projected.gen (decide (slot = 1))) s.tick
  let s1 := s.opened b 0x20
  let s2 := { s1 with wgt := { s1.wgt with
    install := some i, phase := 1, slot := i.target, status := 0, groupsDone := 0, groupsTotal := BitVec.ofNat 16 img.groupCount } }
  s2.imageChecked head i (s.imageStatus slot roll (b.par 16 8) img p)

/-- Whether the parameters of WGT_INSTALL are legal for a mode (Table 12.11). -/
def installParams (b : CmdBlock) (mode : Nat) : Bool :=
  decide (b.par 0 1 ≤ 1 ∧ b.par 1 1 = mode ∧ b.par 2 1 ≤ 1 ∧ b.par 3 1 ≤ 1 ∧ b.par 6 2 = 0)

/-- Whether a slot's record names an image. -/
def Gen.sameImage (g : Gen) (img : WeightImage) : Bool := g.imageId == img.imageId && g.digest == img.manifestDigest

/-- Whether an install's image and its plan can be reached. -/
def State.installSource (s : State) (b : CmdBlock) : Bool :=
  s.sourceOk b (b.par 2 1) (b.par 4 2) && s.inReach 31 (b.par 0x18 8) (b.par 0x20 8)

/-- The last checks of WGT_INSTALL in either mode: the weight region, the source. -/
def State.startInstall (s : State) (b : CmdBlock) (roll : Bool) (head : List Byte) (sig : ImageSig) (plan : List Byte) : State :=
  if s.lock.wSize = 0 then s.result b 0x20 8
  else if !(s.installSource b) then s.result b 0x20 0x0C
  else s.beginInstall b (b.par 0 1) roll head sig plan

/-- WGT_INSTALL in mode NEW (R116, R124, R131), judged with what is pending at the next boundary (R108). -/
def State.installNew (s : State) (b : CmdBlock) (head : List Byte) (sig : ImageSig) (plan : List Byte) : State :=
  if !(installParams b 0) then s.result b 0x20 5
  else if s.wgt.install.isSome then s.result b 0x20 9
  else
    let t := decide (b.par 0 1 = 1)
    let u := s.projected
    let g := u.gen t
    let img := parseImage head sig
    let restore := (g.state == 6 || (g.state == 2 && !g.committed)) && g.sameImage img && (u.gen (!t)).state != 7
    if g.fixed && !restore then s.result b 0x20 0x0D
    else if g.state ≠ 0 ∧ !restore then s.result b 0x20 9
    else s.startInstall b false head sig plan

/-- WGT_INSTALL in mode ROLL (R121, R124, R131): a fixed generation in the target slot, or as the outgoing one, is FIXED. -/
def State.installRoll (s : State) (b : CmdBlock) (head : List Byte) (sig : ImageSig) (plan : List Byte) : State :=
  if !(installParams b 1) then s.result b 0x20 5
  else if s.wgt.install.isSome then s.result b 0x20 9
  else
    let t := decide (b.par 0 1 = 1)
    let u := s.projected
    let g := u.gen t
    let o := u.gen (!t)
    if g.state == 2 && g.sameImage (parseImage head sig) && o.state == 7 then s.startInstall b true head sig plan
    else if (g.fixed && g.state != 0) || (o.fixed && (o.state == 3 || o.state == 4)) then s.result b 0x20 0x0D
    else if !(g.state == 0 && (o.state == 3 || o.state == 4)) then s.result b 0x20 9
    else s.startInstall b true head sig plan

/-- WGT_INSTALL_NEW. -/
def execWgtInstallNew (b : CmdBlock) (head : List Byte) (sig : ImageSig) (plan : List Byte) (s : State) : Out :=
  act {
      nv := true, mem := true, host := true, poison := true, arrs := true, wgt := true, parts := true, fab := true, chans := true, hif := true,
      sec := true } (fun s => s.accept ⟨0x20, true, [0, 18]⟩ false false b (fun t => t.installNew b head sig plan)) s

/-- WGT_INSTALL_ROLL. -/
def execWgtInstallRoll (b : CmdBlock) (head : List Byte) (sig : ImageSig) (plan : List Byte) (s : State) : Out :=
  act {
      nv := true, mem := true, host := true, poison := true, arrs := true, wgt := true, parts := true, fab := true, chans := true, hif := true,
      sec := true } (fun s => s.accept ⟨0x20, true, [0, 18]⟩ false false b (fun t => t.installRoll b head sig plan)) s

/-- Whether a chunk's destination lies in no site that the other slot's generation uses: staging touches none of those (R109). -/
def State.mayPlace (s : State) (i : Install) (c : GenChunk) : Bool :=
  let o := s.gen (!i.target)
  let in_ := fun (k : Nat) => decide (siteBase k ≤ c.dest ∧ c.dest < siteBase k + 0x800000)
  o.state == 0 || !(o.arrays.any (fun a => in_ a.site) ||
    o.chunks.any (fun d => match region s.nv.stackGb.toNat d.dest with | .sram k _ => in_ k | _ => false))

/-- A chunk that passes its checks written to its golden place, and to its destination where no resident generation is there (R104,
R109). -/
def State.storeChunk (s : State) (i : Install) (n : Nat) (m : ManifestEntry) (bs : List Byte) : State :=
  let at_ := i.golden.getD (i.plan.entries.findIdx (fun e => decide (e.entry = n))) 0
  let s1 := s.wrBytes at_ (if m.kind = 1 then arrayImage bs else bs)
  ((s1.pgen i.target).chunks.filter (fun c => decide (c.entry = n) && s1.mayPlace i c)).foldl State.placeGolden s1

/-- INSTALL_CHUNK_RECEIVED: hash, then content (R111); nothing of an image that fails is programmed. -/
def execInstallChunkReceived (entry : Nat) (bytes : List Byte) (s : State) : Out :=
  act { mem := true, host := true, poison := true, wgt := true, fab := true, chans := true, hif := true } (fun s =>
    match s.wgt.install with
    | none => s
    | some i =>
      match i.img.manifest[entry]? with
      | none => s
      | some m =>
        if s.wgt.phase ≠ 1 then s
        else
          let s1 := (s.updInstall (fun i => { i with lastTick := s.tick })).forwardChunk i m bytes
          if !(i.plan.entries.any (fun e => decide (e.entry = entry))) || i.received.contains entry then s1
          else
            let st := chunkStatus i.img.imageId m bytes
            if st ≠ 0 then s1.failInstall st entry
            else (s1.storeChunk i entry m bytes).updInstall (fun i => { i with received := i.received ++ [entry] })) s

/-- INSTALL_SOURCE_TIMEOUT: no chunk data for 1,024 ticks (R110). -/
def execInstallSourceTimeout (s : State) : Out :=
  act { wgt := true, fab := true, chans := true, hif := true } (fun s =>
    match s.wgt.install with
    | none => s
    | some i => if s.wgt.phase = 1 ∧ i.lastTick + 1024 ≤ s.tick then s.failInstall 0x0C 0 else s) s

/-- STAGING_COMPLETE: every chunk of the device's rank has passed; programming begins, or waits for the drain of a rolling rewrite
(R109, R121). -/
def execStagingComplete (s : State) : Out :=
  act { mem := true, host := true, poison := true, arrs := true, wgt := true, vars := true, fab := true, chans := true, hif := true } (fun s =>
    match s.wgt.install with
    | none => s
    | some i =>
      if s.wgt.phase ≠ 1 ∨ !(i.plan.entries.all (fun e => i.received.contains e.entry)) then s
      else if i.roll ∧ (s.gen (!i.target)).state ≠ 7 then
        let s1 := { s with wgt := { s.wgt with phase := 2 } }
        if s1.held then s1.rollStart else s1
      else
        s.beginProgramming i) s

/-- GENERATION_COMMIT (R114, R121): the record written and its number given; a new generation READY at the boundary, or at once while
the engine is held; a rolled one LIVE, the pointer with it, and the outgoing slot EMPTY. -/
def execGenerationCommit (s : State) : Out :=
  act {
      nv := true, mem := true, poison := true, arrs := true, sites := true, wgt := true, vars := true, flt := true, fab := true,
      chans := true, hif := true } (fun s =>
    match s.wgt.install with
    | none => s
    | some i =>
      if s.wgt.phase ≠ 4 then s
      else
        let t := i.target
        let old := s.pgen t
        let number := if old.number ≠ 0 then old.number else s.nv.largestGen + 1
        let s1 := { s with
          nv := { s.nv with largestGen := if s.nv.largestGen < number then number else s.nv.largestGen }
          flt := { s.flt with unrestored := false }
          wgt := { s.wgt with install := none, phase := 0, status := 0, groupsDone := s.wgt.groupsTotal } }
        let s2 := s1.updPgen t (fun g => { g with number := number, vocab := Config.vocabulary g.imageId, committed := true, groups := [] })
        let s3 :=
          if i.roll then
            let out := s2.gen (!t)
            let u := (((((s2.settleDue false).settleDue true).dropCopies out).zeroMem out.goldenBase out.goldenSize).updGen (!t) (fun _ => {})).updGen t (fun g => { g with state := 4 })
            ({ u with wgt := { u.wgt with ptrValid := true, liveSlot := t, rolled := u.wgt.rolled ++ [out.number] } }).staleCheck
          else if s2.settled && !(s2.retiring t) then (s2.settleDue t).settleCommits else s2
        s3.complete i.channel 0x20 i.cseq 0 (BitVec.ofNat 40 number.toNat)) s

/-! ## The other weight commands -/

/-- WGT_SWITCH (R118, R124). -/
def State.wgtSwitch (s : State) (b : CmdBlock) : State :=
  let st := (s.projected.gen (decide (b.par 0 1 = 1))).state
  if 1 < b.par 0 1 then s.result b 0x21 5
  else if s.rollHolds || (match s.wgt.install with | some i => i.roll | none => false) then s.result b 0x21 9
  else if st ≠ 3 ∧ st ≠ 5 then s.result b 0x21 9
  else
    let s1 := s.opened b 0x21
    { s1 with wgt := { s1.wgt with switchPending := s1.wgt.switchPending ++ [(b.par 0 1, b.channel, b.cseq)] } }

/-- WGT_SWITCH. -/
def execWgtSwitch (b : CmdBlock) (s : State) : Out :=
  act {
      nv := true, mem := true, host := true, poison := true, wgt := true, vars := true, banks := true, parts := true, fab := true,
      chans := true, hif := true, sec := true } (fun s => s.accept ⟨0x21, true, [0, 18]⟩ false false b (fun t => t.wgtSwitch b)) s

/-- WGT_RETIRE (R120, R124, R131). -/
def State.wgtRetire (s : State) (b : CmdBlock) : State :=
  let p := s.projected
  let g := p.gen (decide (b.par 0 1 = 1))
  if 1 < b.par 0 1 then s.result b 0x22 5
  else if g.state ≠ 3 ∨ p.pinned g.number ≠ 0 then s.result b 0x22 9
  else if g.fixed then s.result b 0x22 0x0D
  else
    let s1 := s.opened b 0x22
    { s1 with wgt := { s1.wgt with retireDue := s1.wgt.retireDue ++ [(b.par 0 1, b.channel, b.cseq)] } }

/-- WGT_RETIRE. -/
def execWgtRetire (b : CmdBlock) (s : State) : Out :=
  act {
      nv := true, mem := true, host := true, poison := true, wgt := true, vars := true, banks := true, parts := true, fab := true,
      chans := true, hif := true, sec := true } (fun s => s.accept ⟨0x22, true, [0, 18]⟩ false false b (fun t => t.wgtRetire b)) s

/-- WGT_FIX (R131): a generation already fixed stays as it is. -/
def State.wgtFix (s : State) (b : CmdBlock) : State :=
  let t := decide (b.par 0 1 = 1)
  let st := (s.projected.gen t).state
  if 1 < b.par 0 1 then s.result b 0x24 5
  else if (s.pgen t).state ≠ 0 ∧ (s.pgen t).fixed then (s.opened b 0x24).complete b.channel 0x24 b.cseq 0 0
  else if st ≠ 3 ∧ st ≠ 4 then s.result b 0x24 9
  else ((s.opened b 0x24).updPgen t (fun g => { g with fixed := true })).complete b.channel 0x24 b.cseq 0 0

/-- WGT_FIX. -/
def execWgtFix (b : CmdBlock) (s : State) : Out :=
  act {
      nv := true, mem := true, host := true, poison := true, wgt := true, vars := true, banks := true, parts := true, fab := true,
      chans := true, hif := true, sec := true } (fun s => s.accept ⟨0x24, true, [0, 18]⟩ false false b (fun t => t.wgtFix b)) s

/-- The slot an aborted install leaves (R116): as it was, or EMPTY where arrays were partly programmed in mode NEW. What becomes of a fixed
generation whose restore was partly programmed R116 and R131 leave open: DESIGN CHOICE, it is DORMANT with its record, for only a vendor
record releases it (log entry 75). -/
def abortedSlot (i : Install) : Gen :=
  if !i.roll && (i.touched || i.prior.state == 2) then (if i.prior.fixed then { i.prior with state := 6 } else {}) else i.prior

/-- WGT_ABORT (R116, R123): in the programming phase of a rolling rewrite the rewritten arrays are reprogrammed first. -/
def State.wgtAbort (s : State) (b : CmdBlock) : State :=
  match s.wgt.install with
  | none => s.result b 0x23 9
  | some i =>
    if s.wgt.phase = 5 then s.result b 0x23 9
    else
      let s1 := (s.opened b 0x23).cutSessions (fun x => match x.purpose with | .install _ => true | _ => false)
      if i.roll ∧ (s.wgt.phase = 3 ∨ s.wgt.phase = 4 ∨ (s.gen (!i.target)).state = 7) then
        let s2 := s1.updInstall (fun i => { i with abortBy := some (b.channel, b.cseq), abortLeft := (s.gen (!i.target)).arrays })
        ({ s2 with wgt := { s2.wgt with phase := 5 } }).pumpAbort
      else
        let s2 := s1.moveGen i.target (fun _ => abortedSlot i)
        let s3 := { s2 with wgt := { s2.wgt with install := none, phase := 0, status := 0x0B } }
        (s3.complete i.channel 0x20 i.cseq 0x0B 0).complete b.channel 0x23 b.cseq 0 0

/-- WGT_ABORT. -/
def execWgtAbort (b : CmdBlock) (s : State) : Out :=
  act {
      nv := true, mem := true, host := true, poison := true, arrs := true, wgt := true, parts := true, fab := true, chans := true,
      hif := true, sec := true } (fun s => s.accept ⟨0x23, true, [0, 18]⟩ false false b (fun t => t.wgtAbort b)) s

end Sys2Proof.Machine
end

