-- ==== Sys2Proof/Machine/Adapters.lean ====
section
/-! DEFINITION. Adapter slots: loading, checking and retiring adapter images (R127–R129). -/

namespace Sys2Proof.Machine

/-- The place and the size of an adapter slot's DRAM: an equal share of its owner's area, at most 1 GiB (R127, log entry 31). -/
def PartCfg.adpPlace (c : PartCfg) (n : Nat) : Nat × Nat :=
  let share := min (c.adpArea.2 / c.adpCount) (2 ^ 30)
  (c.adpArea.1 + (n - c.adpBase) * share, share)

/-- The owner of an adapter slot by the configuration records (R127). -/
def PartCfg.ownsSlot (c : PartCfg) (n : Nat) : Bool := decide (c.adpBase ≤ n ∧ n < c.adpBase + c.adpCount)

/-- ADP_LOAD (R128): a FREE slot of the issuer becomes LOADING, its DRAM zeroed first (R129). -/
def State.adpLoad (s : State) (b : CmdBlock) : State :=
  let p := chanOwner b.channel
  let n := b.par 0 2
  let size := b.par 16 8
  let c := s.cfg p
  if !(c.ownsSlot n) || !(s.inReach p (b.par 8 8) size) then s.result b 0x28 5
  else if s.lock.wSize = 0 ∨ (c.adpPlace n).2 < size then s.result b 0x28 8
  else if (s.adp n).state ≠ 0 then s.result b 0x28 9
  else
    ((s.opened b 0x28).zeroMem (c.adpPlace n).1 (c.adpPlace n).2).updAdp n (fun _ =>
      { state := 1, channel := b.channel, cseq := b.cseq, limit := size })

/-- ADP_LOAD. -/
def execAdpLoad (b : CmdBlock) (s : State) : Out :=
  act {
      nv := true, mem := true, host := true, poison := true, adps := true, parts := true, fab := true, chans := true, hif := true,
      sec := true } (fun s => s.accept ⟨0x28, false, [0, 1] ++ vfChans⟩ false false b (fun t => t.adpLoad b)) s

/-- Whether the scales of a pair in an MX format are no NaN (R75, R78): those of A after A's blocks, those of B at the end. -/
def mxScalesOk (format n : Nat) (bs : List Byte) : Bool :=
  let a := (n + 31) / 32
  let b := (bs.length - a * (mxBlockBytes format + 1)) / (mxBlockBytes format + 1)
  ((bs.drop (a * mxBlockBytes format)).take a).all (· != 0xFF) && (bs.drop (bs.length - b)).all (· != 0xFF)

/-- The checks of an adapter pair of a contract (R127, R128): its header, and finite elements and scales. -/
def pairStatus (contract : W32) (m : ManifestEntry) (bs : List Byte) : Byte :=
  let r := ofLE ((bs.drop 2).take 2)
  let f := ofLE ((bs.drop 4).take 1)
  if bs.length ≠ m.length || digestBits (sha512 bs) != m.hash then 4
  else if m.kind ≠ 7 ∨ !m.reservedZero ∨ m.arrayCrc ≠ 0 ∨ m.rows ≠ 0 ∨ m.cols ≠ 0 then 5
  else if bs.length < 16 ∨ r < 1 ∨ 256 < r ∨ m.format.toNat ≠ f ∨ !(decide (f = 9 ∨ f = 7) || isMx f) then 5
  else if ((bs.drop 5).take 11).any (fun x => x != 0) then 5
  else if isMx f then (if mxScalesOk f (Config.inputDim contract (ofLE (bs.take 2)) * r) (bs.drop 16) then 0 else 6)
  else if allFinite f (bs.drop 16) then 0 else 6

/-- The first failure of an adapter image of `size` bytes (R111, R128): container, trust where the owner's record asks for it, every chunk. A
chunk that is no ADAPTER_PAIR is BAD_CONTAINER, and an image larger than its slot CAPACITY: DESIGN CHOICE, R127 and R128 name no status for
them (log entry 76). -/
def State.adapterStatus (s : State) (c : PartCfg) (size : Nat) (img : WeightImage) (chunks : List (List Byte)) : Byte :=
  if !(containerOk img size true) || img.manifest.any (fun m => m.kind != 7) || decide (chunks.length ≠ img.manifest.length) then 1
  else if c.signedAdapters && s.trustStatus img != 0 then s.trustStatus img
  else ((img.manifest.zip chunks).map (fun x => pairStatus img.contractId x.1 x.2)).foldl (fun (a : Byte) x => if a ≠ 0 then a else x) 0

/-- The record whose range holds an adapter slot. -/
def State.adpCfg (s : State) (n : Nat) : Option PartCfg :=
  (owners.map s.cfg).find? (fun c => c.ownsSlot n)

/-- ADP_LOAD_DONE (R128): on success the chunks lie in the slot's DRAM and the slot is READY at the next boundary; a failure returns it
to FREE with the status. -/
def execAdpLoadDone (slot : Nat) (head : List Byte) (sig : ImageSig) (chunks : List (List Byte)) (s : State) : Out :=
  act { mem := true, host := true, poison := true, adps := true, fab := true, chans := true, hif := true } (fun s =>
    let a := s.adp slot
    match s.adpCfg slot with
    | none => s
    | some c =>
      if a.state ≠ 1 ∨ a.readyDue then s
      else
        let img := parseImage head sig
        let st := s.adapterStatus c a.limit img chunks
        let st1 : Byte := if st = 0 ∧ (c.adpPlace slot).2 < img.chunkAreaSize then 8 else st
        if st1 ≠ 0 then (s.updAdp slot (fun _ => {})).complete a.channel 0x28 a.cseq st1 0
        else
          let s1 := (img.manifest.zip chunks).foldl (fun (t : State) x => t.wrBytes ((c.adpPlace slot).1 + x.1.offset) x.2) s
          s1.updAdp slot (fun a => { a with
            contract := img.contractId, imageId := img.imageId, readyDue := true,
            pairs := (img.manifest.zip chunks).map (fun x => (ofLE (x.2.take 2), x.1.offset)) })) s

/-- ADP_RETIRE (R128): a READY slot accepts no new binding. -/
def State.adpRetire (s : State) (b : CmdBlock) : State :=
  let n := b.par 0 2
  if !((s.cfg (chanOwner b.channel)).ownsSlot n) then s.result b 0x29 5
  else if (s.adp n).state ≠ 2 then s.result b 0x29 9
  else ((s.opened b 0x29).updAdp n (fun a => { a with state := 3 })).complete b.channel 0x29 b.cseq 0 0

/-- ADP_RETIRE. -/
def execAdpRetire (b : CmdBlock) (s : State) : Out :=
  act {
      nv := true, mem := true, host := true, poison := true, adps := true, parts := true, fab := true, chans := true, hif := true,
      sec := true } (fun s => s.accept ⟨0x29, false, [0, 1] ++ vfChans⟩ false false b (fun t => t.adpRetire b)) s

end Sys2Proof.Machine
end

