-- ==== Sys2Proof/Machine/Power.lean ====
section
/-! DEFINITION. Clocks, power and cooling (chapter 14): rate causes, emergencies, coolant and supply protection, OFF, dark interiors,
STANDBY, relocation. -/

namespace Sys2Proof.Machine

/-! ## Rate causes (R427, R444) -/

/-- The argument of event THROTTLE (Table 14.12). -/
def rateArg (h : Half) (entered : Bool) (cause : Nat) : Nat :=
  (match h with | .west => 0 | .east => 512) + (if entered then 256 else 0) + cause

/-- A rate cause of a half set or cleared; bit 0 thermal, 1 coolant, 2 supply, 3 TL clock. A change is reported with its cause code. -/
def State.setCause (s : State) (h : Half) (bit : Nat) (on : Bool) : State :=
  let old := s.causes h
  if old.getLsbD bit = on then s
  else
    let new_ := if on then old ||| (1#4 <<< bit) else old &&& ~~~(1#4 <<< bit)
    let s1 := match h with
      | .west => { s with clk := { s.clk with causeW := new_ } }
      | .east => { s with clk := { s.clk with causeE := new_ } }
    s1.event [.pf, .bmc] 0x30 (rateArg h on (bit + 1))

/-- A rate cause of both halves. -/
def State.setBoth (s : State) (bit : Nat) (on : Bool) : State := (s.setCause .west bit on).setCause .east bit on

/-! ## Emergencies (R439, R440) -/

/-- The cross mask in force for a score bank (R163). -/
def State.bankCross (s : State) (b : Nat) (v : VariantImage) : BitVec 128 :=
  if (s.bank b).gapSet = 0 then 0 else v.crossMasks.getD ((s.bank b).gapSet.toNat - 1) 0

/-- Whether a vale lies in the use or cross mask of the variant in a bank. -/
def State.bankUses (s : State) (b vale : Nat) : Bool :=
  match (s.var (s.bank b).slot).img with
  | some v => (v.useMask ||| s.bankCross b v).getLsbD vale
  | none => false

/-- Whether an interior is powered. -/
def State.interiorUp (s : State) (v : Nat) : Bool := valeBit s.pwr.interiors v

/-- A powered interior enters emergency (R439): it stops at once, or when the hold begins that the device then sets. -/
def State.emergencyIn (s : State) (v : Nat) : State :=
  if valeBit s.thm.emerg v || !(s.interiorUp v) then s
  else
    let used := s.running && s.bankUses s.eng.bank v
    let wait := used && !s.held
    let s1 := (s.suspendVale v true).event [.pf, .bmc] 0x31 (256 + v)
    { s1 with
      thm := { s1.thm with
        emergencies := satInc s1.thm.emergencies
        emerg := setVale s1.thm.emerg v
        coolTicks := s1.thm.coolTicks.set 0 v 0
        stopped := if wait then s1.thm.stopped else setVale s1.thm.stopped v
        stopAtHold := if wait then setVale s1.thm.stopAtHold v else s1.thm.stopAtHold }
      eng := { s1.eng with hold := s1.eng.hold || used } }

/-- EMERGENCY_ENTER: an urgent TEMP request with the emergency code confirmed by a converter of the vale. -/
def execEmergencyEnter (vale : Nat) (s : State) : Out :=
  act { thm := true, wgt := true, eng := true, fab := true, chans := true, hif := true } (fun s =>
    let hot := (List.range 32).any (fun c => match (s.conv (32 * vale + c)).crossed with
      | some (ch, thr, f) => ch == 0 && decide (640 ≤ thr) && f
      | none => false)
    s.when (decide (vale < 84) && hot) (fun s => s.emergencyIn vale)) s

/-- EMERGENCY_EXIT: 64 ticks with every cluster at or below 100 °C; the interior restarts, due for calibration. -/
def execEmergencyExit (vale : Nat) (s : State) : Out :=
  act {
      thm := true, pwr := true, mem := true, host := true, poison := true, arrs := true, sites := true, wgt := true, vars := true,
      eng := true, cur := true, nxt := true, mesh := true, sync := true, seqs := true, sens := true, flt := true, fab := true, chans := true, hif := true } (fun s =>
    if valeBit s.thm.emerg vale && decide (64 ≤ s.thm.coolTicks.get 0 vale) then
      let s1 := { s with thm := { s.thm with
        emerg := clrVale s.thm.emerg vale, stopped := clrVale s.thm.stopped vale, stopAtHold := clrVale s.thm.stopAtHold vale,
        coolTicks := s.thm.coolTicks.set 0 vale 0 } }
      let s2 := (s1.suspendVale vale false).event [.pf, .bmc] 0x31 vale
      if s2.interiorUp vale then (s2.makeDue (setVale 0 vale)).pumpRepairs else s2
    else s) s

/-- THROTTLE_EXIT: 64 consecutive ticks with every vale the half counts below t_warn (R438). -/
def execThrottleExit (h : Half) (s : State) : Out :=
  act { clk := true, thm := true, fab := true, chans := true, hif := true } (fun s =>
    let below := match h with | .west => s.thm.belowW | .east => s.thm.belowE
    let st := match h with | .west => s.thm.westState | .east => s.thm.eastState
    if st = 2 ∧ 64 ≤ below then
      let s1 := match h with
        | .west => { s with thm := { s.thm with westState := 0 } }
        | .east => { s with thm := { s.thm with eastState := 0 } }
      s1.setCause h 0 false
    else s) s

/-! ## Coolant (R436) -/

/-- COOLANT_RATE_CAUSE: 8 consecutive ticks of a hot inlet, or of low flow. -/
def execCoolantRateCause (c : CoolCause) (s : State) : Out :=
  act { clk := true, cool := true, fab := true, chans := true, hif := true } (fun s =>
    match c with
    | .inletHigh =>
      if 8 ≤ s.cool.hotInletTicks ∧ !s.cool.causeInlet then
        ({ s with cool := { s.cool with causeInlet := true, inletClearTicks := 0 } }).setBoth 1 true
      else s
    | .flowLow =>
      if 8 ≤ s.cool.lowFlowTicks ∧ !s.cool.causeFlow then
        (({ s with cool := { s.cool with causeFlow := true, flowClearTicks := 0 } }).event [.pf, .bmc] 0x32 3).setBoth 1 true
      else s) s

/-- COOLANT_CAUSE_CLEAR: 64 consecutive ticks without the condition; the coolant bit clears with its last condition. -/
def execCoolantCauseClear (c : CoolCause) (s : State) : Out :=
  act { clk := true, cool := true, fab := true, chans := true, hif := true } (fun s =>
    let s1 := match c with
      | .inletHigh => s.when (s.cool.causeInlet && decide (64 ≤ s.cool.inletClearTicks)) (fun s =>
          { s with cool := { s.cool with causeInlet := false } })
      | .flowLow => s.when (s.cool.causeFlow && decide (64 ≤ s.cool.flowClearTicks)) (fun s =>
          { s with cool := { s.cool with causeFlow := false } })
    if s1.cool.causeInlet || s1.cool.causeFlow then s1 else s1.setBoth 1 false) s

/-- COOLANT_FAIL: 8 consecutive ticks of very low flow, or both leak lines active: every powered interior enters emergency. -/
def execCoolantFail (s : State) : Out :=
  act { thm := true, cool := true, wgt := true, eng := true, fab := true, chans := true, hif := true } (fun s =>
    if !s.cool.fail && (decide (8 ≤ s.cool.veryLowTicks) || (s.cool.leakA && s.cool.leakB)) then
      let s1 := ({ s with cool := { s.cool with fail := true, failTicks := 0, failClearTicks := 0 } }).event [.pf, .bmc] 0x32 5
      (List.range 84).foldl State.emergencyIn s1
    else s) s

/-- COOLANT_FAIL_CLEAR: 64 consecutive ticks of good flow and no leak. -/
def execCoolantFailClear (s : State) : Out :=
  act { cool := true, fab := true, chans := true, hif := true } (fun s =>
    if s.cool.fail && decide (64 ≤ s.cool.failClearTicks) then
      ({ s with cool := { s.cool with fail := false, failTicks := 0 } }).event [.pf, .bmc] 0x32 6
    else s) s

/-! ## STANDBY (R433) -/

/-- Every port taken out of service. -/
def State.dropPorts (s : State) : State :=
  { s with fab := { s.fab with
      ports := s.fab.ports.mapVals {} (fun _ p => p.toDown), winGot := [], winPoisoned := [], aligned := false, peers := [], maps := [] } }

/-- What the sites of the rings lose when their rails fall; the host sync page keeps its words (R191). -/
def State.loseRings (s : State) : State :=
  let site := fun (a : Nat) => decide (0x010000000000 ≤ a ∧ a < 0x016000000000) && !inHostPage a
  { s with
    mem := Sparse.drop site s.mem
    poison := s.poison.filter (fun a => !site a)
    acc24 := [], acc48 := [], shadow := [], kvs := [], pfs := [], outl := []
    sites := s.sites.mapVals {} (fun _ r => { r with inbox := [], outbox := [], poisonIn := false, copyActive := false, nextValid := false })
    frames := s.frames.mapVals {} (fun _ f => if f.life = 1 then f else {})
    sweeps := s.sweeps.mapVals {} (fun _ f => if f.life = 1 then f else {})
    convs := s.convs.mapVals {} (fun _ _ => {}) }

/-- STANDBY entered: banks FREE, ports DOWN, every rail outside the always-on domain down. -/
def State.enterStandby (s : State) : State :=
  let s1 := ((List.range 84).foldl State.loseInterior s).loseRings.dropPorts
  { s1 with
    banks := []
    cur := {}, nxt := {}
    eng := { s1.eng with running := false, state := 0 }
    clk := { s1.clk with refLocked := false }
    thm := { s1.thm with emerg := 0, stopped := 0, stopAtHold := 0 }
    pwr := { s1.pwr with state := 0b011, interiors := 0, ringUp := false } }

/-- Whether a frame or sweep page is in use (R433). -/
def State.framesInUse (s : State) : Bool := (s.frames.entries {}).any (fun e => decide (e.2.life = 1)) || (s.sweeps.entries {}).any (fun e => decide (e.2.life = 1))

/-- Whether something PWR_STATE STANDBY must wait for is in progress (R433). -/
def State.busyForStandby (s : State) : Bool :=
  s.wgt.install.isSome || s.flt.move.isSome || s.wgt.sessions.any Session.isRefresh || (s.vars.entries {}).any (fun e => e.2.state == 1) ||
  (s.banks.entries {}).any (fun e => e.2.state == 1)

/-- The code, criticality and channels of PWR_STATE (Table 14.10). -/
def pwrStateInfo : CmdInfo := ⟨0x62, true, [0, 18]⟩

/-- PWR_STATE with target STANDBY. -/
def execPwrStateStandby (b : CmdBlock) (s : State) : Out :=
  act {
      clk := true, thm := true, pwr := true, nv := true, mem := true, host := true, poison := true, acc24 := true, acc48 := true,
      shadow := true, sites := true, banks := true, eng := true, cur := true, nxt := true, kvs := true, pfs := true, outl := true,
      frames := true, sweeps := true, parts := true, convs := true, fab := true, chans := true, hif := true, sec := true } (fun s =>
        s.accept pwrStateInfo false false b (fun t =>
    if b.par 0 1 ≠ 1 then t.result b 0x62 9
    else if t.pwr.state = 0b011 ∨ t.pwr.state = 0b100 then t.result b 0x62 8
    else if !t.held then t.result b 0x62 2
    else if t.framesInUse then t.result b 0x62 1
    else if t.busyForStandby then t.result b 0x62 5
    else (t.opened b 0x62).enterStandby.complete b.channel 0x62 b.cseq 0 0)) s

/-- The volatile chunks of resident generations restored from their golden areas into the sites `p` holds of (R109, R429, R433). -/
def State.restoreChunks (s : State) (p : Nat → Bool) : State :=
  let ok := fun (g : Gen) => g.state == 2 || g.state == 3 || g.state == 4 || g.state == 5
  ([s.wgt.genA, s.wgt.genB].filter ok).foldl (fun (t : State) g => g.chunks.foldl (fun (u : State) c =>
    match region u.nv.stackGb.toNat c.dest with
    | .sram k _ => if p k then u.wrBytes c.dest (u.rdBytes c.golden c.length) else u
    | _ => u) t) s

/-- PWR_STATE with target ACTIVE: EXITING, with the rails risen, the mesh locked, the vote run, the chunks restored, the ports
training and every vale due for calibration (log entry 22). -/
def execPwrStateActive (b : CmdBlock) (vote : VoteInput) (s : State) : Out :=
  act {
      clk := true, thm := true, pwr := true, nv := true, mem := true, host := true, poison := true, arrs := true, sites := true, wgt := true, vars := true,
      eng := true, cur := true, nxt := true, mesh := true, sync := true, seqs := true, parts := true, sens := true, flt := true, fab := true,
      chans := true, hif := true, sec := true } (fun s => s.accept pwrStateInfo false false b (fun t =>
    if b.par 0 1 ≠ 0 then t.result b 0x62 9
    else if t.pwr.state ≠ 0b011 then t.result b 0x62 8
    else
      let t1 := t.opened b 0x62
      let up := (List.range 84).foldl (fun (a : BitVec 84) v => if valeBit t1.pwr.dark v then a else setVale a v) 0
      let t2 := { t1 with
        pwr := { t1.pwr with state := 0b100, interiors := up, ringUp := true, exitCmd := some (b.channel, b.cseq) }
        clk := { t1.clk with refLocked := true } }
      ((((t2.runVote vote false (fun _ => true)).restoreChunks (fun k => t2.powered k)).trainPorts).makeDue up))) s

/-- STANDBY_EXIT_DONE: the first calibration run, IDLE_HOLD and READY. -/
def execStandbyExitDone (s : State) : Out :=
  act { pwr := true, fab := true, chans := true, hif := true } (fun s =>
    if s.pwr.state = 0b100 ∧ s.pwr.uncal = 0 then
      let s1 := ({ s with pwr := { s.pwr with state := 0b010, exitCmd := none } }).event [.pf, .bmc] 0x08 0
      match s.pwr.exitCmd with
      | some (c, q) => s1.complete c 0x62 q 0 0
      | none => s1
    else s) s

/-- COOLANT_FAIL_TIMEOUT: STANDBY as if commanded, refusals of R433 notwithstanding: frames in use are lost and their requests end
FAULT_ABORTED. -/
def execCoolantFailTimeout (s : State) : Out :=
  act {
      clk := true, thm := true, pwr := true, mem := true, poison := true, acc24 := true, acc48 := true, shadow := true, sites := true,
      banks := true, eng := true, cur := true, nxt := true, mesh := true, sync := true, kvs := true, pfs := true, outl := true, frames := true,
      sweeps := true, seqs := true, convs := true, fab := true } (fun s =>
    if s.cool.fail && decide (810 ≤ s.cool.failTicks) && s.pwr.state != 0b011 then
      let s1 := if s.held then { s with eng := { s.eng with hold := true } } else s.abortNow true
      let lost := s1.seqsWhere (fun q => q.state != 0 && (!q.frames.isEmpty || !q.sweep.isEmpty || !(s1.prefixReads q).isEmpty))
      let s2 := lost.foldl (fun (t : State) i => t.updSeq i (fun q => { q with endDue := 0x19 })) s1
      s2.enterStandby
    else s) s

/-! ## The supply and OFF (R431, R432, R477) -/

/-- SUPPLY_LIMIT: input current above 500 A for 50 µs. A current of 450 A or more restarts the count of ticks below it. -/
def execSupplyLimit (amps us : Nat) (s : State) : Out :=
  act { clk := true, pwr := true, fab := true, chans := true, hif := true } (fun s =>
    let s0 := if 450 ≤ amps then { s with pwr := { s.pwr with limitTicks := 0 } } else s
    if 500 < amps ∧ 50 ≤ us ∧ !s.pwr.limit then
      (({ s0 with pwr := { s0.pwr with limit := true, limits := satInc s0.pwr.limits } }).event [.pf, .bmc] 0x35 2).setBoth 2 true
    else s0) s

/-- SUPPLY_LIMIT_CLEAR: 810 ticks below 450 A. -/
def execSupplyLimitClear (s : State) : Out :=
  act { clk := true, pwr := true, fab := true, chans := true, hif := true } (fun s =>
    if s.pwr.limit && decide (810 ≤ s.pwr.limitTicks) then
      (({ s with pwr := { s.pwr with limit := false } }).event [.pf, .bmc] 0x35 3).setBoth 2 false
    else s) s

/-- Every rail down: OFF, with its cause. -/
def State.goOff (s : State) (c : OffCause) : State :=
  { s with pwr := { s.pwr with off := true, offCause := c, interiors := 0, ringUp := false, dramUp := false } }

/-- POWER_FAIL: the bus below 55 V for 10 µs: the step aborted, then OFF. -/
def execPowerFail (mv us : Nat) (s : State) : Out :=
  act { thm := true, pwr := true, eng := true, cur := true, nxt := true, mesh := true, sync := true, seqs := true } (fun s =>
      s.when (decide (mv < 55000 ∧ 10 ≤ us)) (fun s => (s.abortStep false).goOff .powerFail)) s

/-- OVERVOLTAGE_CUT: the bus above 72 V for 10 µs. Above 80 V no behaviour is specified (R473). -/
def execOvervoltageCut (mv us : Nat) (s : State) : Out :=
  if 80000 < mv then .fault .beyondRatings
  else act { pwr := true } (fun s => s.when (decide (72000 < mv ∧ 10 ≤ us)) (fun s => s.goOff .overvoltage)) s

/-- THERMAL_TRIP: a cluster at 125 °C or more (code 700): THERM_TRIP_N asserted, every rail cut. A power fail that has not reached
OFF yet counts as a trip (Table 17.3). -/
def execThermalTrip (cluster tempCode : Nat) (s : State) : Out :=
  if s.pwr.off && s.pwr.offCause != .powerFail then .next s
  else if cluster < 2688 ∧ 700 ≤ tempCode then
    .next { (s.goOff .trip) with thm := { s.thm with tripN := false } }
  else .next s

/-- VAUX_FALLS: the bus below 40 V: THERM_TRIP_N released, and nothing is powered. -/
def execVauxFalls (s : State) : Out :=
  .next { (s.goOff s.pwr.offCause) with
    thm := { s.thm with tripN := true }
    pwr := { (s.goOff s.pwr.offCause).pwr with vauxUp := false } }

/-- RAIL_FAULT: an interior rail out of tolerance kills every site of the interior. -/
def execRailFault (vale : Nat) (s : State) : Out :=
  act {
      thm := true, pwr := true, arrs := true, sites := true, wgt := true, vars := true, eng := true, cur := true, nxt := true, mesh := true, sync := true, seqs := true, flt := true,
      fab := true, chans := true, hif := true } (fun s =>
    if vale < 84 ∧ s.interiorUp vale then
      let s1 := { s with pwr := { s.pwr with railFaults := satInc s.pwr.railFaults } }
      (s1.killAll (interiorSites vale) 0x08).event [.pf, .bmc] 0x35 4
    else s) s

/-! ## References and nodes (R424, R425) -/

/-- HOLDOVER_ENTER: REFCLK has no edge for 100 ns. -/
def execHoldoverEnter (s : State) : Out :=
  act { clk := true, fab := true, chans := true, hif := true } (fun s =>
    if s.stageDone 0 && !s.clk.holdover then
      ({ s with clk := { s.clk with holdover := true, refPresent := false, refLosses := satInc s.clk.refLosses } }).event [.pf, .bmc] 0x36 1
    else s) s

/-- RELOCK: the reference returns. -/
def execRelock (s : State) : Out :=
  act { clk := true, fab := true, chans := true, hif := true } (fun s =>
    if s.clk.holdover then
      ({ s with clk := { s.clk with holdover := false, refPresent := true } }).event [.pf, .bmc] 0x36 0
    else s) s

/-- FREF_LOSS: the fabric SerDes fall back to the 100 MHz reference. -/
def execFrefLoss (s : State) : Out := act { clk := true } (fun s => { s with clk := { s.clk with frefPresent := false } }) s

/-- FREF_RETURN. -/
def execFrefReturn (s : State) : Out := act { clk := true } (fun s => { s with clk := { s.clk with frefPresent := true } }) s

/-- NODE_DECOUPLE: a node out of lock for more than 1 µs is decoupled and its cluster dies. -/
def execNodeDecouple (cluster : Nat) (s : State) : Out :=
  act {
      clk := true, thm := true, arrs := true, sites := true, wgt := true, vars := true, eng := true, cur := true, nxt := true, mesh := true, sync := true, seqs := true, flt := true,
      fab := true, chans := true, hif := true } (fun s =>
    if cluster < 2688 ∧ s.clk.refLocked ∧ !(s.clk.decoupledSet.contains cluster) then
      ({ s with clk := { s.clk with decoupled := s.clk.decoupled + 1, decoupledSet := cluster :: s.clk.decoupledSet } }).killAll
        (clusterSites cluster) 0x08
    else s) s

/-! ## Dark interiors (R428, R429) -/

/-- VALE_POWER (Table 14.10). -/
def valePowerInfo : CmdInfo := ⟨0x60, false, [0, 1, 18]⟩

/-- Whether a KV core of an interior holds a frame or sweep page in use. -/
def State.interiorHolds (s : State) (v : Nat) : Bool :=
  (s.seqs.entries {}).any (fun e => decide (e.2.state ≠ 0) && (s.pagePlaces e.2).any (fun x => isInterior v x.1))

/-- VALE_POWER off: darkened at the next boundary, or at once while held. -/
def execValePowerOff (b : CmdBlock) (s : State) : Out :=
  act {
      pwr := true, nv := true, mem := true, host := true, poison := true, acc24 := true, acc48 := true, shadow := true, sites := true,
      kvs := true, pfs := true, parts := true, sens := true, fab := true, chans := true, hif := true, sec := true } (fun s =>
        s.accept valePowerInfo false false b (fun t =>
    let v := b.par 0 1
    if 84 ≤ v ∨ b.par 1 1 ≠ 0 then t.result b 0x60 9
    else if v % 7 = 0 || valeBit t.pwr.dark v || t.pwr.darkenDue.any (fun e => decide (e.1 = v)) then t.result b 0x60 3
    else if (List.range 4).any (fun n => (t.bank n).state != 0 && t.bankUses n v) || t.interiorHolds v then t.result b 0x60 1
    else
      let t1 := t.opened b 0x60
      let t2 := { t1 with pwr := { t1.pwr with darkenDue := t1.pwr.darkenDue ++ [(v, b.channel, b.cseq)] } }
      if t2.held then t2.applyDarken v else t2)) s

/-- VALE_POWER on: rails, re-coupling, vote, restored chunks, then due; it completes with the vale's calibration. -/
def execValePowerOn (b : CmdBlock) (vote : VoteInput) (s : State) : Out :=
  act {
      thm := true, pwr := true, nv := true, mem := true, host := true, poison := true, arrs := true, sites := true, wgt := true, vars := true, eng := true,
      cur := true, nxt := true, mesh := true, sync := true, seqs := true, parts := true, sens := true, flt := true, fab := true, chans := true,
      hif := true, sec := true } (fun s => s.accept valePowerInfo false false b (fun t =>
    let v := b.par 0 1
    if 84 ≤ v ∨ b.par 1 1 ≠ 1 then t.result b 0x60 9
    else if !(valeBit t.pwr.dark v) then t.result b 0x60 3
    else
      let t1 := t.opened b 0x60
      let t2 := { t1 with pwr := { t1.pwr with
        dark := clrVale t1.pwr.dark v, interiors := setVale t1.pwr.interiors v, onDue := t1.pwr.onDue ++ [(v, b.channel, b.cseq)] } }
      ((t2.runVote vote false (isInterior v)).restoreChunks (isInterior v)).makeDue (setVale 0 v))) s

/-! ## Relocation (R441) -/

/-- The pairs of a THM_RELOCATE block: source and destination sites. -/
def relocPairs (b : CmdBlock) : List (Nat × Nat) :=
  (List.range (b.par 0 2)).map (fun i =>
    (siteAt (b.par (8 + 4 * i) 1) (b.par (9 + 4 * i) 1), siteAt (b.par (10 + 4 * i) 1) (b.par (11 + 4 * i) 1)))

/-- Whether every coordinate of a relocation block names a site. -/
def relocInDie (b : CmdBlock) : Bool :=
  (List.range (b.par 0 2)).all (fun i =>
    decide (b.par (8 + 4 * i) 1 < 224 ∧ b.par (9 + 4 * i) 1 < 192 ∧ b.par (10 + 4 * i) 1 < 224 ∧ b.par (11 + 4 * i) 1 < 192))

/-- The generations whose contents may move: READY, LIVE or DRAINING. -/
def Gen.servable (g : Gen) : Bool := g.state == 3 || g.state == 4 || g.state == 5

/-- Whether a generation holds something at a site: an array, or a chunk in its window. -/
def Gen.holds (g : Gen) (k : Nat) : Bool :=
  g.arrays.any (fun a => decide (a.site = k)) ||
  g.chunks.any (fun c => decide (siteBase k ≤ c.dest ∧ c.dest < siteBase k + 0x800000))

/-- The arrays a servable generation holds at a site. -/
def State.heldArrays (s : State) (k : Nat) : List GenArray :=
  ([s.wgt.genA, s.wgt.genB].filter Gen.servable).flatMap (fun g => g.arrays.filter (fun a => decide (a.site = k)))

/-- Whether one pair of a relocation may be moved (R441). -/
def State.pairOk (s : State) (e : Nat × Nat) : Bool :=
  let t := siteType e.1
  let any := fun (p : Gen → Bool) (k : Nat) => [s.wgt.genA, s.wgt.genB].any (fun g => p g && g.holds k)
  any Gen.servable e.1 && decide (siteType e.2 = t) && (t == 1 || t == 4) && s.siteCode e.2 == 0 && (s.site e.2).fstate != 3 &&
  !(any (fun g => g.state != 0) e.2) && !(valeBit s.darkFor (siteVale e.2))

/-- THM_RELOCATE. -/
def execThmRelocate (b : CmdBlock) (s : State) : Out :=
  act {
      thm := true, nv := true, mem := true, host := true, poison := true, arrs := true, sites := true, wgt := true, vars := true,
      eng := true, cur := true, nxt := true, mesh := true, sync := true, seqs := true, parts := true, flt := true, fab := true, chans := true,
      hif := true, sec := true } (fun s => s.accept ⟨0x61, false, [0, 1, 18]⟩ false false b (fun t =>
    let n := b.par 0 2
    let ps := relocPairs b
    if n = 0 ∨ 512 < n ∨ b.params.length < 8 + 4 * n ∨ !(relocInDie b) then t.result b 0x61 9
    else if !t.held then t.result b 0x61 2
    else if t.wgt.install.isSome || t.flt.move.isSome then t.result b 0x61 5
    else if !(ps.all t.pairOk) || decide ((ps.map (·.2)).eraseDups.length ≠ n) || decide ((ps.map (·.1)).eraseDups.length ≠ n) then
      t.result b 0x61 4
    else
      let t1 := t.opened b 0x61
      let left := ps.flatMap (fun e => (t1.heldArrays e.1).map (fun a => (e.2, a)))
      let m : MoveCmd := { channel := b.channel, cseq := b.cseq, code := 0x61, pairs := ps, left := left }
      let t2 := { t1 with flt := { t1.flt with move := some m } }
      if left.all (fun e => t2.goldenOk e.2) && ps.all (fun e => t2.chunksOk e.1) then t2.pumpRepairs.moveDone
      else t2.moveFail 0x06 0)) s

end Sys2Proof.Machine
end

