-- ==== Sys2Proof/Machine/Sensing.lean ====
section
/-! DEFINITION. Sensing, margin scans and calibration (chapter 09): converters and their sequence tables, accumulator sets and
windows, reference codes, calibration pauses, the weak counts and ages behind refresh. -/

namespace Sys2Proof.Machine

/-! ## Converters (R269–R274)

Converter c below 2,688 is the cluster converter of cluster c; 2688 + 4 v + i is hub converter i of vale v. -/

/-- A converter named by the model's numbering. -/
def isHub (c : Nat) : Bool := decide (2688 ≤ c)

/-- The vale a converter stands in. -/
def convVale (c : Nat) : Nat := if isHub c then (c - 2688) / 4 else c / 32

/-- Whether a cluster's node and converter keep running when its interior is dark (R428). -/
def runsDark (c : Nat) : Bool :=
  let cx := c % 8
  let cy := c % 32 / 8
  !(decide (1 ≤ cx ∧ cx ≤ 6 ∧ 1 ≤ cy ∧ cy ≤ 2)) || (decide (c / 32 % 7 = 3) && decide (cx = 3 ∨ cx = 4))

/-- Whether a converter has power: the converters of the rings, and those of powered interiors (R428, R430). -/
def State.convUp (s : State) (c : Nat) : Bool :=
  decide (c < 3024) && s.pwr.ringUp && ((!(isHub c) && runsDark c) || s.interiorUp (convVale c)) &&
  (!(isHub c) || (s.site (siteAt (32 * (convVale c % 7) + 1) (16 * (convVale c / 7) + 10))).fstate != 3)

/-- valid of a sequence entry (Table 9.2). -/
def seValid (e : BitVec 32) : Bool := e.getLsbD 31
/-- wrap. -/
def seWrap (e : BitVec 32) : Bool := e.getLsbD 30
/-- channel. -/
def seChannel (e : BitVec 32) : Nat := e.toNat / 2 ^ 25 % 32
/-- set. -/
def seSet (e : BitVec 32) : Nat := e.toNat / 2 ^ 22 % 8
/-- repeat. -/
def seRepeat (e : BitVec 32) : Nat := e.toNat / 2 ^ 16 % 64
/-- pull. -/
def sePull (e : BitVec 32) : Nat := e.toNat / 2 ^ 14 % 4
/-- sync. -/
def seSync (e : BitVec 32) : Bool := e.getLsbD 13

/-- Whether a channel code is legal for a converter (Table 9.1). -/
def channelOk (c ch : Nat) : Bool :=
  if isHub c then decide (ch = 4 ∨ ch = 0x10) || (decide (0x18 ≤ ch) && decide (convVale c = 0))
  else decide (ch ≤ 4)

/-- Whether a valid entry is legal for a converter (Tables 9.1 and 9.2). -/
def entryOk (c : Nat) (e : BitVec 32) : Bool :=
  !(seValid e) ||
  (channelOk c (seChannel e) && decide (e.toNat % 2 ^ 13 = 0) && decide (sePull e ≠ 3) &&
   (decide (sePull e = 0) || decide (0x18 ≤ seChannel e)) && (!(seSync e) || isHub c) &&
   (decide (seChannel e ≠ 3) || decide (seSet e % 2 = 0)))

/-- The valid entry to run from position `n` on: skipping entries that are not valid; none once the table ends (R271). -/
def nextEntry (table : List (BitVec 32)) (n : Nat) : Option Nat :=
  ((List.range 32).filter (fun i => decide (n ≤ i))).find? (fun i => seValid (table.getD i 0))

/-- A converter standing at entry n with its conversions still to do, or stopped. -/
def Conv.goto (c : Conv) (n : Option Nat) : Conv :=
  match n with
  | some i => { c with cur := i, left := seRepeat (c.table.getD i 0) + 1, running := true }
  | none => { c with running := false, cur := 0, left := 0 }

/-- Whether a converter stands at a sync entry that has not been triggered. -/
def Conv.atSync (c : Conv) : Bool := c.running && seSync (c.table.getD c.cur 0) && !c.trig

/-- The common trigger of a hub: it fires once all four converters stand at a sync entry (R272). -/
def State.hubTrigger (s : State) (c : Nat) : State :=
  if isHub c then
    let hub := (List.range 4).map (fun i => 2688 + 4 * convVale c + i)
    if hub.all (fun i => (s.conv i).atSync) then hub.foldl (fun (t : State) i => t.updConv i (fun k => { k with trig := true })) s
    else s
  else s

/-- SEQUENCE_TABLE_WRITE: the table of a stopped converter, refused where an entry is illegal; the sequence starts (R271). -/
def execSequenceTableWrite (conv : Nat) (entries : List (BitVec 32)) (s : State) : Out :=
  act { convs := true } (fun s =>
    if s.convUp conv && !(s.conv conv).running && decide (entries.length ≤ 32) && entries.all (entryOk conv) then
      (s.updConv conv (fun c => ({ c with table := entries, trig := false }).goto (nextEntry entries 0))).hubTrigger conv
    else s) s

/-- A conversion added to an accumulator set (R274). -/
def Acc.add (a : Acc) (code : BitVec 10) : Acc :=
  { sum := a.sum + code.zeroExtend 40, sumsq := a.sumsq + BitVec.ofNat 40 (code.toNat * code.toNat), count := a.count + 1
    min := if code < a.min then code else a.min
    max := if a.max < code then code else a.max }

/-- An accumulator set of a converter with a conversion added. -/
def Conv.addTo (c : Conv) (set : Nat) (code : BitVec 10) : Conv := { c with accs := c.accs.upd {} set (Acc.add · code) }

/-- An urgent conversion made: it leaves only whether its threshold was crossed (R273). -/
def Conv.urgentDone (c : Conv) (u : BitVec 5 × BitVec 10 × BitVec 10) : Conv :=
  { c with urgent := none, crossed := some (u.1, u.2.1, decide (u.2.1 ≤ u.2.2)) }

/-- One conversion of an entry done: the next of the entry, the next entry, entry 0 after a wrap, or the end (R271); an urgent request
that waited for the common trigger is made. -/
def Conv.advance (c : Conv) : Conv :=
  let c1 := { c with trig := false }
  let c2 := if 1 < c1.left then { c1 with left := c1.left - 1 }
    else c1.goto (nextEntry c1.table (if seWrap (c1.table.getD c1.cur 0) then 0 else c1.cur + 1))
  match c2.urgent with
  | some u => c2.urgentDone u
  | none => c2

/-- Whether a cluster has a spare the cell walker may use (R282): verified, in no session, waiting for none. -/
def State.walkerSpare (s : State) (cluster : Nat) : Bool :=
  (clusterSites cluster).any (fun k => siteType k == 1 &&
    (let r := s.site k
     r.fstate != 3 && !r.copyActive && !(s.arr k r.amap.spare).unverified &&
     !(s.wgt.sessions.any (fun x => decide (x.site = k ∧ x.p = r.amap.spare))) && !(s.flt.respares.any (fun e => decide (e.1 = k)))))

/-- One half of an open-wire check noted, and the input decided once both are in (R277). -/
def State.openWire (s : State) (input : Nat) (up : Bool) (code : BitVec 10) : State :=
  let old := s.sens.pulls.get (none, none) input
  let p := if up then (some code, old.2) else (old.1, some code)
  match p with
  | (some u, some d) =>
    let isOpen := decide (1000 ≤ u.toNat ∧ d.toNat ≤ 10)
    { s with sens := { s.sens with
      pulls := s.sens.pulls.set (none, none) input (none, none)
      openWire := if isOpen then s.sens.openWire ||| (1#8 <<< input) else s.sens.openWire &&& ~~~(1#8 <<< input) } }
  | _ => { s with sens := { s.sens with pulls := s.sens.pulls.set (none, none) input p } }

/-- What a conversion of one entry adds and notes. -/
def State.convert1 (s : State) (conv : Nat) (e : BitVec 32) (code : BitVec 10) (cellBit : Bool) : State :=
  let ch := seChannel e
  if sePull e ≠ 0 then
    (s.updConv conv (fun c => c.addTo 7 code)).openWire (ch - 0x18) (decide (sePull e = 1)) code
  else
    let s1 := s.updConv conv (fun c => c.addTo (if ch = 3 ∧ cellBit then seSet e + 1 else seSet e) code)
    if ch = 0 then s1.updConv conv (fun c => { c with tickSum := c.tickSum + code.toNat, tickCnt := c.tickCnt + 1 })
    else if 0x18 ≤ ch then
      let o := s1.sens.modTick.get (0, 0) (ch - 0x18)
      { s1 with sens := { s1.sens with modTick := s1.sens.modTick.set (0, 0) (ch - 0x18) (o.1 + code.toNat, o.2 + 1) } }
    else s1

/-- CONVERSION_COMPLETE: one conversion of the running sequence (R274). A sync entry waits for its trigger; CELL needs a spare. -/
def execConversionComplete (conv : Nat) (code : BitVec 10) (cellBit : Bool) (s : State) : Out :=
  act { convs := true, sens := true } (fun s =>
    let c := s.conv conv
    let e := c.table.getD c.cur 0
    if c.running && s.convUp conv && !c.atSync then
      let done := seChannel e != 3 || s.walkerSpare conv
      let s1 := if done then s.convert1 conv e code cellBit else s
      (s1.updConv conv Conv.advance).hubTrigger conv
    else s) s

/-- URGENT_REQUEST: one conversion of a channel against a threshold, at once or after the triggered conversion in progress (R273). -/
def execUrgentRequest (conv : Nat) (channel : BitVec 5) (threshold code : BitVec 10) (s : State) : Out :=
  act { convs := true } (fun s =>
    if s.convUp conv && channelOk conv channel.toNat then
      s.updConv conv (fun c =>
        if c.trig then { c with urgent := some (channel, threshold, code) } else c.urgentDone (channel, threshold, code))
    else s) s

/-! ## Windows (R275) -/

/-- An accumulator set added to an aggregate. -/
def Agg.add (g : Agg) (a : Acc) : Agg :=
  if a.count = 0 then g
  else
    { sum := g.sum + a.sum.toNat, sumsq := g.sumsq + a.sumsq.toNat, count := g.count + a.count.toNat
      min := if g.count = 0 ∨ a.min < g.min then a.min else g.min
      max := if g.count = 0 ∨ g.max < a.max then a.max else g.max }

/-- The channel that feeds a set of a converter: that of the first entry that names it without a pull. -/
def Conv.feeds (c : Conv) (set : Nat) : Option Nat :=
  (c.table.find? (fun e => seValid e && decide (sePull e = 0 ∧ seChannel e ≠ 3 ∧ seSet e = set))).map seChannel

/-- One converter's sets of a channel added to an aggregate. -/
def Conv.fold (c : Conv) (ch : Nat) (g : Agg) : Agg :=
  c.accs.foldl (fun (g : Agg) e => if c.feeds e.1 = some ch then g.add e.2 else g) g

/-- A vale's aggregate of a channel over its cluster converters, and over its hub converters' CORNER for the extremes of VCORE. -/
def State.valeAgg (s : State) (v ch : Nat) : Agg :=
  let g := (List.range 32).foldl (fun (g : Agg) i => (s.conv (32 * v + i)).fold ch g) {}
  if ch = 1 then
    let h := (List.range 4).foldl (fun (g : Agg) i => (s.conv (2688 + 4 * v + i)).fold 0x10 g) g
    { g with min := h.min, max := h.max }
  else g

/-- SENSOR_WINDOW_END: the sets folded into the aggregates, and cleared; the new window length takes effect. `energy` is the input energy
of the window in mJ, as measured. -/
def execSensorWindowEnd (energy : W64) (s : State) : Out :=
  act { pwr := true, convs := true, sens := true } (fun s =>
    if s.sens.windowDue then
      let vs := List.range 84
      let hub := fun (ch : Nat) => (List.range 4).foldl (fun (g : Agg) i => (s.conv (2688 + i)).fold ch g) {}
      let valid := (List.range 8).foldl (fun (a : Byte) i =>
        if 0 < (hub (0x18 + i)).count ∧ !(s.sens.openWire.getLsbD i) then a ||| (1#8 <<< i) else a) 0
      { s with
        convs := s.convs.mapVals {} (fun _ c => { c with accs := [] })
        pwr := { s.pwr with energy := energy }
        sens := { s.sens with
          windowDue := false, window := s.sens.windowNext
          windowStart := s.tick, windowTicks := s.tick - s.sens.windowStart
          valeT := vs.foldl (fun (m : Sparse Agg) v => m.set {} v (s.valeAgg v 0)) []
          valeV := vs.foldl (fun (m : Sparse Agg) v => m.set {} v (s.valeAgg v 1)) []
          modIn := (List.range 8).foldl (fun (m : Sparse Agg) i => m.set {} i (hub (0x18 + i))) []
          valid := valid } }
    else s) s

/-! ## Vale temperatures (R283, R428) -/

/-- The sum and count of a vale's TEMP conversions in the tick. -/
def State.valeTick (s : State) (v : Nat) : Nat × Nat :=
  (List.range 32).foldl (fun (a : Nat × Nat) i => (a.1 + (s.conv (32 * v + i)).tickSum, a.2 + (s.conv (32 * v + i)).tickCnt)) (0, 0)

/-- A mean as a code, to nearest with ties to even. -/
def meanCode (t : Nat × Nat) : BitVec 10 := BitVec.ofNat 10 (rneNat t.1 t.2)

/-- Whether a vale's T_v lies more than ΔT_cal from its reference temperature (R283). -/
def State.moved (s : State) (v : Nat) : Bool :=
  let t := s.valeTick v
  let d : Int := (t.1 : Int) - (s.sens.tref.get 0 v).toNat * t.2
  decide (0 < t.2 ∧ 4 * s.sens.dtCal.toNat * t.2 < d.natAbs)

/-- The reference code the cell sets of a cluster give, none below 256 conversions in either (R282). -/
def Conv.refCode (c : Conv) : Option Nat :=
  match c.table.find? (fun e => seValid e && decide (seChannel e = 3)) with
  | none => none
  | some e =>
    let a := c.accs.get {} (seSet e)
    let b := c.accs.get {} (seSet e + 1)
    if a.count.toNat < 256 ∨ b.count.toNat < 256 then none
    else some (rneNat (a.sum.toNat * b.count.toNat + b.sum.toNat * a.count.toNat) (32 * a.count.toNat * b.count.toNat))

/-- The cell sets of a converter cleared (R283). -/
def Conv.clearCells (c : Conv) : Conv :=
  match c.table.find? (fun e => seValid e && decide (seChannel e = 3)) with
  | none => c
  | some e => { c with accs := (Sparse.set {} c.accs (seSet e) {}).set {} (seSet e + 1) {} }

/-- The vales of a set. -/
def valesOf (m : BitVec 84) : List Nat := (List.range 84).filter (valeBit m)

/-- The converters of a vale's clusters changed by `f`. -/
def State.updClusters (s : State) (v : Nat) (f : Conv → Conv) : State :=
  (List.range 32).foldl (fun (t : State) i => t.updConv (32 * v + i) f) s

/-- The statistics of a vale's statistics tick taken at its end: reference codes, and T_v. -/
def State.statTake (s : State) (v : Nat) : State :=
  let t := s.valeTick v
  let s1 := s.updClusters v (fun c => { c with stat := c.refCode })
  { s1 with sens := { s1.sens with
    statT := s1.sens.statT.set none v (if t.2 = 0 then none else some (meanCode t))
    statRun := clrVale s1.sens.statRun v, statOver := setVale s1.sens.statOver v } }

/-- A vale's statistics tick begins: its cell sets are cleared. -/
def State.statBegin (s : State) (v : Nat) : State :=
  let s1 := s.updClusters v Conv.clearCells
  { s1 with sens := { s1.sens with statTick := clrVale s1.sens.statTick v, statRun := setVale s1.sens.statRun v } }

/-- What the end of a tick does for calibration (R283): statistics ticks end, vales that moved become due, statistics ticks begin. -/
def State.calTick (s : State) : State :=
  let s1 := (valesOf s.sens.statRun).foldl State.statTake s
  let new_ := (List.range 84).filter (fun v => s1.interiorUp v && !(valeBit s1.sens.due v) && s1.moved v)
  let s2 := new_.foldl (fun (t : State) v => { t with sens := { t.sens with
    due := setVale t.sens.due v, statTick := setVale t.sens.statTick v } }) s1
  (valesOf s2.sens.statTick).foldl State.statBegin s2

/-! ## The calibration pause (R284, R392, R348) -/

/-- The vales whose calibration has fallen due. -/
def State.calDue (s : State) : BitVec 84 := s.sens.due &&& s.sens.statDone

/-- Whether a pause is to be taken here: at a boundary, before anything of the next step, or in a hold, once in a tick, for a due vale under SHARED, on the cadence under
STRICT, at the group's pause in a lockstep group; the first calibration of a start-up is unconditional. -/
def State.pauseHere (s : State) : Bool :=
  let place := s.held || ((s.eng.state == 1 || s.eng.state == 2 || s.eng.state == 4) && s.eng.calPauseDue && s.eng.fresh)
  let cause :=
    if !s.boot.ready || s.pwr.state == 0b100 then s.calDue != 0
    else if s.fab.member && !s.held then (match s.fab.pauseAt with | some t => decide (t ≤ s.time) | none => false)
    else if s.nv.profileShared then s.calDue != 0
    else decide (s.tick % (max 1 s.sens.cadence.toNat) = 0)
  place && cause && decide (s.sens.calPauseTick ≠ some s.tick) && s.stageDone 4

/-- New codes in a vale (R281): each cluster's reference code where its statistics gave one, and the measured offsets of its arrays, of
which the codes are formed (State.trimCode). -/
def State.loadCodes (s : State) (v : Nat) : State :=
  let s1 := (List.range 32).foldl (fun (t : State) i =>
    match (t.conv (32 * v + i)).stat with
    | some r => { t with nv := { t.nv with refCodes := t.nv.refCodes.set 0 (32 * v + i) (BitVec.ofNat 10 r) } }
    | none => { t with sens := { t.sens with skipped := satInc t.sens.skipped } }) s
  { (s1.updClusters v (fun c => { c with stat := none })) with
    arrs := s1.arrs.mapVals {} (fun n a => if siteVale (n / 17) = v then { a with trims := a.trimOffs } else a) }

/-- CALIBRATION_PAUSE: issue stops for 34,000 counts and every vale whose calibration has fallen due takes its new codes; the later pitch
points of a group move by as much (R348). -/
def execCalibrationPause (s : State) : Out :=
  act { nv := true, arrs := true, eng := true, convs := true, sens := true, fab := true } (fun s =>
    if s.pauseHere then
      let s1 := (valesOf s.calDue).foldl State.loadCodes s
      { s1 with
        eng := { s1.eng with state := 3, resume := s.eng.state, calPauseDue := false, pauseEnd := s.time + 34000 }
        fab := { s1.fab with pauseAt := none, pitch := if s.held then s1.fab.pitch else s1.fab.pitch + 34000 }
        sens := { s1.sens with
          pausing := s.calDue, pauses := satInc s1.sens.pauses, lastTick := BitVec.ofNat 16 s.tick, calPauseTick := some s.tick } }
    else s) s

/-- A vale calibrated: its reference temperature, its due bits cleared, a VALE_POWER that waited completed (R284, R429). -/
def State.calibrated (s : State) (v : Nat) : State :=
  let s1 := { s with
    sens := { s.sens with
      tref := match s.sens.statT.get none v with | some c => s.sens.tref.set 0 v c | none => s.sens.tref
      statT := s.sens.statT.set none v none
      cals := s.sens.cals.upd 0 v satInc
      due := clrVale s.sens.due v, statDone := clrVale s.sens.statDone v }
    pwr := { s.pwr with uncal := clrVale s.pwr.uncal v } }
  match s.pwr.onDue.find? (fun e => decide (e.1 = v)) with
  | some (_, ch, cseq) =>
    ({ s1 with pwr := { s1.pwr with onDue := s1.pwr.onDue.filter (fun e => !decide (e.1 = v)) } }).complete ch 0x60 cseq 0 0
  | none => s1

/-- CALIBRATION_PAUSE_END: 34,000 counts after it began; issue resumes at the beat at which it stopped, and an abort that waited for
the end follows (R307). It completes start-up's stage CALIBRATION. -/
def execCalibrationPauseEnd (s : State) : Out :=
  actAt {
      thm := true, pwr := true, boot := true, eng := true, cur := true, nxt := true, mesh := true, sync := true, seqs := true, sens := true,
      fab := true, chans := true, hif := true } (fun s => if s.eng.state = 3 then maxTime s.time s.eng.pauseEnd else s.time) (fun s =>
    if s.eng.state = 3 then
      let s1 := (valesOf s.sens.pausing).foldl State.calibrated { s with time := maxTime s.time s.eng.pauseEnd }
      let s2 := { s1 with sens := { s1.sens with pausing := 0 }, eng := { s1.eng with state := s1.eng.resume, resume := 0 } }
      let s3 := s2.when (s2.stagesBelow 7 && !s2.stageDone 7) (fun s => s.finish 7)
      match s3.eng.abortDue with
      | some h => ({ s3 with eng := { s3.eng with abortDue := none } }).abortStep h
      | none => s3
    else s) s

/-! ## Margin scans and ages (R278–R280, R289) -/

/-- Whether physical array p of a tile may be scanned now (R279): out of service, or in a notch slot of its tile. -/
def State.mayScan (s : State) (k p : Nat) : Bool :=
  let inUse := s.running && !s.held && (s.site k).amap.spare != p && (match s.runImg with | some v => uses k v | none => false)
  siteType k == 1 && decide (p < 17) && s.siteUp k && !(s.wgt.sessions.any (fun x => decide (x.site = k ∧ x.p = p))) &&
  (!inUse || (match s.laneAt k with | some l => l.kind == 6 | none => false))

/-- The arrays a pass covers: those of every powered weight tile that is neither mapped out nor dead (R279). -/
def State.passArrays (s : State) : List (Nat × Nat) :=
  ((List.range (224 * 192)).filter (fun k => siteType k == 1 && s.siteUp k && !(s.mappedOut k))).flatMap (fun k =>
    (List.range 17).map (fun p => (k, p)))

/-- An array that becomes due under its weak count is worn when it became so within a day (R289): it is recorded. -/
def State.markDue (s : State) (k p : Nat) : State :=
  let worn := decide (s.ageOf k p < 70037842) && !(s.arr k p).worn
  let s1 := s.updArr k p (fun a => { a with due := true, worn := a.worn || worn })
  if worn then
    ({ s1 with nv := { s1.nv with
        wornCount := satInc s1.nv.wornCount, wornFirst := s1.nv.wornFirst.or (some (k, p)) } }).log 0x0C (siteX k) (siteY k) p 0 5
  else s1

/-- MARGIN_SCAN: one row group of an array, its weak cells counted; the last one gives the array's weak count (R278, R280). -/
def execMarginScan (site p rg : Nat) (weak : Nat) (s : State) : Out :=
  act { nv := true, arrs := true, sens := true, flt := true } (fun s =>
    let a := s.arr site p
    if s.mayScan site p && decide (rg = a.scanRg) then
      if rg < 15 then s.updArr site p (fun a => { a with scanRg := rg + 1, scanWeak := a.scanWeak + weak })
      else
        let w := a.scanWeak + weak
        let s1 := s.updArr site p (fun a => { a with
          scanRg := 0, scanWeak := 0, weak := BitVec.ofNat 16 (min w 65535), scans := a.scans + 1 })
        let s2 := if a.baseline.toNat + s.sens.weakLimit.toNat < w ∧ !(s.holdsNothing site) ∧ !a.due then s1.markDue site p else s1
        let n := s2.sens.passes.toNat
        if s2.passArrays.all (fun e => decide (n < (s2.arr e.1 e.2).scans)) then
          { s2 with sens := { s2.sens with
            passes := s2.sens.passes + 1, passTicks := BitVec.ofNat 32 (s2.tick - s2.sens.passStart), passStart := s2.tick } }
        else s2
    else s) s

/-- ARRAY_AGE_DUE: the age of an array has reached REF_CFG.max_age. -/
def execArrayAgeDue (site p : Nat) (s : State) : Out :=
  act { arrs := true } (fun s =>
    if decide (p < 17 ∧ s.sens.maxAge.toNat ≤ s.ageOf site p) && !(s.holdsNothing site) then
      s.updArr site p (fun a => { a with due := true })
    else s) s

end Sys2Proof.Machine
end

