-- ==== Sys2Proof/Machine/Fabric.lean ====
section
/-! DEFINITION. The Torren link (chapter 11): training and admission of ports, TIME exchanges, window and message frames, link
protection, failures, and lockstep groups. -/

namespace Sys2Proof.Machine

/-! ## Training and admission (R320, R329–R332) -/

/-- A TIME frame sent on a port (R333): this device's time, and the last such time received from the peer. -/
def State.sendTime (s : State) (n : Nat) : State :=
  s.updPort n (fun p =>
    let bytes := leBytes 8 s.time.toNat ++ leBytes 8 p.peerTime.toNat ++ List.replicate 16 0
    let f : Frame := {
      kind := 4, cls := 0, flags := 0, units := 1, src := BitVec.ofNat 16 s.device, dst := 0, lseq := 0, fmt := 0, hops := 0, tag := 0,
      offset := 0, arg := 0, payload := bytes, crc := 0 }
    { p with out := p.out ++ [{ f with crc := f.crcOf }] })

/-- PORT_TRAINED: PMD training and PCS alignment with all four lanes, and TIME exchanges begin; with fewer the port stays down as a whole (R320). -/
def execPortTrained (port : Nat) (rate : BitVec 2) (lanesOk : BitVec 4) (s : State) : Out :=
  act { fab := true } (fun s =>
    if port < 24 ∧ (s.port port).state = 1 ∧ rate ≠ 3 then
      if lanesOk = 0xF then
        (s.updPort port (fun p => { p with rate := rate, lanesOk := lanesOk, timeCount := 0, admitTicks := 0, hello := none })).sendTime port
      else s.updPort port (fun p => { p with lanesOk := lanesOk, rate := 3, state := if 0 < p.backoff then 5 else 1, admitTicks := 0 })
    else s) s

/-- The bytes of this device's hello (R330): device number, port, role, plan code, a fresh nonce, its chain. -/
def State.sendHello (s : State) (n : Nat) : State :=
  let a := s.free
  let b := a.2.free
  let c := b.2.free
  let d := c.2.free
  let bytes := leBytes 2 s.device ++ leBytes 1 n ++ leBytes 1 (portRole s.lock.plan n) ++ leBytes 4 s.lock.plan.toNat ++
    leBytes 8 a.1.toNat ++ leBytes 8 b.1.toNat ++ leBytes 8 c.1.toNat ++ leBytes 8 d.1.toNat ++ Config.spdmBytes 0x82 s.freeCount
  let f : Frame := {
    kind := 5, cls := 0, flags := 0, units := BitVec.ofNat 16 ((bytes.length + 31) / 32), src := BitVec.ofNat 16 s.device,
    dst := 0, lseq := 0, fmt := 0, hops := 0, tag := 0, offset := 0, arg := 0, payload := bytes, crc := 0 }
  d.2.updPort n (fun p => { p with state := 2, out := p.out ++ [{ f with crc := f.crcOf }] })

/-- Torus distance between two basin positions. -/
def torusDistance (dims a b : Nat × Nat × Nat) : Nat :=
  let along := fun (d x y : Nat) => let k := (y + d - x) % d; min k (d - k)
  along dims.1 a.1 b.1 + along dims.2.1 a.2.1 b.2.1 + along dims.2.2 a.2.2 b.2.2

/-- FAB_GTIME and FAB_GROUP.aligned formed anew (R344): from the offset of the link to a neighbouring master; beyond it the rest of the
path contributes a free value (log entry 24). -/
def State.align (s : State) : State :=
  let m := s.fab.master.toNat
  let dims := topoDims s.lock.topo
  if !s.fab.member then { s with fab := { s.fab with aligned := false } }
  else if m = s.device then { s with fab := { s.fab with aligned := true, gtime := 0 } }
  else if m / 64 ≠ s.device / 64 ∨ 8 < torusDistance dims (topoPos s.lock.topo) (posOf dims (m % 64)) then
    { s with fab := { s.fab with aligned := false } }
  else match (s.routeRole m).bind (fun r => (s.upPorts r).head?) with
    | none => { s with fab := { s.fab with aligned := false } }
    | some n =>
      let far := decide ((s.port n).peer.toNat ≠ m)
      let rest := if far then s.free else (0, s)
      { rest.2 with fab := { rest.2.fab with aligned := true, gtime := (s.port n).offset + rest.1 } }

/-- TIME_FRAME: the link's latency and the peer's offset from the exchange (R333; log entry 23); after two exchanges the port admits. -/
def execTimeFrame (port : Nat) (sent : W64) (echo : W64) (s : State) : Out :=
  act { freeCount := true, fab := true } (fun s =>
    let p := s.port port
    if port < 24 ∧ p.rate ≠ 3 ∧ (p.state = 1 ∨ p.state = 2 ∨ p.state = 3) then
      let lat := (s.time - echo).toNat / 2
      let l2 := if p.timeCount = 0 then lat else (p.lastLat + lat) / 2
      let s1 := s.updPort port (fun p => { p with
        timeCount := min 2 (p.timeCount + 1), lastLat := lat, peerTime := sent, latency := BitVec.ofNat 16 (min l2 65535)
        isLong := decide (578 < l2), offset := sent + BitVec.ofNat 64 l2 - s.time })
      let s2 := if p.state = 1 ∧ 1 ≤ p.timeCount then s1.sendHello port else s1
      s2.align
    else s) s

/-- ADMIT_HELLO: the peer's hello kept until its proof arrives, and this side's proof sent (R330). -/
def execAdmitHello (port : Nat) (hello : Hello) (s : State) : Out :=
  act { freeCount := true, fab := true } (fun s =>
    if port < 24 ∧ (s.port port).state = 2 then
      let bytes := Config.spdmBytes 0x83 s.freeCount
      let f : Frame := {
        kind := 5, cls := 0, flags := 0, units := BitVec.ofNat 16 ((bytes.length + 31) / 32), src := BitVec.ofNat 16 s.device,
        dst := 0, lseq := 0, fmt := 0, hops := 0, tag := 0, offset := 0, arg := 0, payload := bytes, crc := 0 }
      ({ s with freeCount := s.freeCount + 1 }).updPort port (fun p =>
        { p with hello := some hello, out := p.out ++ [{ f with crc := f.crcOf }] })
    else s) s

/-- The first reason of Table 11.5 that refuses a peer, or NONE. -/
def State.admitReason (s : State) (n : Nat) (h : Hello) (signatureOk : Bool) : Byte :=
  let p := s.port n
  let r := portRole s.lock.plan n
  if !h.chainOk then 1
  else if !signatureOk then 2
  else if p.pin ≠ 0 ∧ p.pin ≠ h.keyDigest then 3
  else if h.role.toNat ≠ facing r then 4
  else if r ≠ 7 ∧ h.device ≠ s.neighbour r then 5
  else if h.plan ≠ s.lock.plan ∨ p.rate ≠ roleRate s.lock.plan r then 6
  else 0

/-- A port REFUSED and reported (R331). -/
def State.refusePort (s : State) (n : Nat) (reason : Byte) : State :=
  (s.updPort n (fun p => { p with state := 4, reason := reason })).event [.pf, .fm] 0x04 (256 * n + reason.toNat)

/-- ADMIT_PROOF: the peer admitted, or refused with the first failing reason (R330); a changed digest is reported (R331). -/
def execAdmitProof (port : Nat) (signatureOk : Bool) (s : State) : Out :=
  act { freeCount := true, fab := true, chans := true, hif := true } (fun s =>
    match (s.port port).hello with
    | none => s
    | some h =>
      if 24 ≤ port ∨ (s.port port).state ≠ 2 then s
      else
        let r := s.admitReason port h signatureOk
        if r ≠ 0 then s.refusePort port r
        else
          let old := (s.port port).digest
          let s1 := s.updPort port (fun p => { p with
            state := 3, reason := 0, peer := BitVec.ofNat 10 h.device, digest := h.keyDigest, backoff := 0, admitTicks := 0 })
          let s2 := if old ≠ 0 ∧ old ≠ h.keyDigest then s1.event [.pf, .fm] 0x05 (65536 * port + h.device % 1024) else s1
          s2.align) s

/-- ADMISSION_TIMEOUT: 8 ticks after PCS alignment without admission (R329). -/
def execAdmissionTimeout (port : Nat) (s : State) : Out :=
  act { fab := true, chans := true, hif := true } (fun s =>
    let p := s.port port
    if port < 24 ∧ ((p.state = 1 ∧ p.rate ≠ 3) ∨ p.state = 2) ∧ 8 ≤ p.admitTicks then s.refusePort port 7 else s) s

/-! ## Link protection (R322–R324, R336) -/

/-- The burst size of an MX format, or 0 (R75, R323). -/
def burstBytes (fmt : Nat) : Nat :=
  match fmt with
  | 0x0C => 136
  | 0x0D => 200
  | 0x0E => 264
  | _ => 0

/-- Whether a frame is legal as to kind, class, reserved fields, its format (Tables 3.1, 11.2 and 11.3) and bursts (R323), and its CRC holds (R324). -/
def frameLegal (f : Frame) : Bool :=
  let n := 32 * f.units.toNat
  let b := burstBytes f.fmt.toNat
  let used := if b = 0 then n else n / b * b
  f.crc == f.crcOf && decide (f.units.toNat ≤ 128) && f.payload.length == n &&
  (f.flags.toNat < 8) && (f.src.toNat < 1024) && (if f.flags.getLsbD 2 then f.dst == 0xFFFF else decide (f.dst.toNat < 1024)) &&
  decide (f.fmt.toNat ≤ 0x10) &&
  ((f.kind == 1 && f.cls == 0) || (f.kind == 2 && (f.cls == 1 || f.cls == 2 || f.cls == 3) && decide (f.tag.toNat < 256))) &&
  (b == 0 || (decide (f.offset.toNat % b = 0) && (f.payload.drop used).all (fun x => x == 0)))

/-- A LINK frame of this device: a cumulative acknowledgement, or a retransmission request as offset 1 (R324; log entry 25). -/
def State.linkFrame (s : State) (lseq : W32) (resend : Bool) : Frame :=
  let f : Frame := {
    kind := 3, cls := 0, flags := 0, units := 0, src := BitVec.ofNat 16 s.device, dst := 0, lseq := lseq, fmt := 0, hops := 0, tag := 0,
    offset := if resend then 1 else 0, arg := 0, payload := [], crc := 0 }
  { f with crc := f.crcOf }

/-- A MESSAGE frame taken from an UP port: dropped and counted where it is illegal, resent where it is out of order, acknowledged
otherwise and handed on (R324). -/
def State.taken (s : State) (n : Nat) (f : Frame) (k : State → State) : State :=
  let p := s.port n
  if 24 ≤ n ∨ p.state ≠ 3 then s
  else if !(frameLegal f) then s.updPort n (fun p => { p with crcDrops := satInc p.crcDrops })
  else if f.lseq ≠ p.expectLseq then
    s.updPort n (fun p => { p with out := p.out ++ [s.linkFrame p.expectLseq ((f.lseq - p.expectLseq).toNat < 2 ^ 31)] })
  else
    k (s.updPort n (fun p => { p with expectLseq := p.expectLseq + 1, out := p.out ++ [s.linkFrame f.lseq false] }))

/-- Frames of a port put on other ports: the next UP port of its direction, or by routing (R349). -/
def State.rerouteAll (s : State) (n : Nat) (fs : List Frame) : State :=
  let r := portRole s.lock.plan n
  match (s.upPorts r).filter (fun m => decide (m ≠ n)) with
  | m :: _ => fs.foldl (fun (t : State) f => t.updPort m (fun p => p.push f)) s
  | [] => fs.foldl State.sendFrame s

/-- LINK_ACK: every frame up to the acknowledged one leaves the replay buffer. -/
def execLinkAck (port : Nat) (lseq : W32) (s : State) : Out :=
  act { fab := true } (fun s => s.when (decide (port < 24)) (fun s =>
    s.updPort port (fun p => { p with replay := p.replay.filter (fun f => decide ((f.lseq - lseq - 1).toNat < 2 ^ 31)) }))) s

/-- RETRANSMISSION_REQUEST: the frames of the replay buffer from the named one on, again. -/
def execRetransmissionRequest (port : Nat) (lseq : W32) (s : State) : Out :=
  act { fab := true } (fun s => s.when (decide (port < 24 ∧ (s.port port).state = 3)) (fun s =>
    s.updPort port (fun p =>
      let again := p.replay.filter (fun f => decide ((f.lseq - lseq).toNat < 2 ^ 31))
      { p with out := p.out ++ again, retrans := satAdd p.retrans again.length }))) s

/-- RETRANSMIT_TIMEOUT: the oldest frame unacknowledged for 4 µs, again. -/
def execRetransmitTimeout (port : Nat) (s : State) : Out :=
  act { fab := true } (fun s => s.when (decide (port < 24 ∧ (s.port port).state = 3)) (fun s =>
    s.updPort port (fun p => match p.replay with
      | [] => p
      | f :: _ => { p with out := p.out ++ [f], retrans := satInc p.retrans }))) s

/-- LINK_CREDIT: credits of a class returned, and frames of it that wait sent. -/
def execLinkCredit (port : Nat) (cls : Nat) (credits : Nat) (s : State) : Out :=
  act { fab := true } (fun s => s.when (decide (port < 24 ∧ 1 ≤ cls ∧ cls ≤ 3)) (fun s =>
    s.updPort port (fun p => ({ p with credits := p.credits.set cls (p.credits.getD cls 0 + credits) }).flush))) s

/-- PORT_FAIL: the port leaves UP; its unacknowledged frames go another way and it will train again (R349). -/
def execPortFail (port : Nat) (cause : PortFailCause) (s : State) : Out :=
  act { freeCount := true, fab := true } (fun s =>
    let p := s.port port
    if port < 24 ∧ p.state = 3 then
      let s1 := s.updPort port (fun p => { p.toDown with
        state := 5, lanesOk := p.lanesOk
        fec := if cause = .fec then satAdd p.fec 17 else p.fec })
      (s1.rerouteAll port (p.replay ++ p.wait)).align
    else s) s

/-- PORT_RETRY: a failed port trains again: at once, then after 1, 2, 4, … up to 1,024 ticks (R349). -/
def execPortRetry (port : Nat) (s : State) : Out :=
  act { fab := true } (fun s =>
    let p := s.port port
    if port < 24 ∧ p.state = 5 ∧ !p.disable ∧ p.backoff ≤ p.admitTicks then
      s.updPort port (fun p => { p with state := 1, rate := 3, admitTicks := 0, backoff := if p.backoff = 0 then 1 else min 1024 (2 * p.backoff) })
    else s) s

/-- PORT_RETRAIN: FAB_PORT_CTRL.retrain written: the port trains again from DOWN (R331, R353). -/
def execPortRetrain (port : Nat) (s : State) : Out :=
  act { freeCount := true, fab := true, hif := true } (fun s =>
      (s.unlatch 0).when (s.blockOpen && s.lock.cFabric && decide (port < 24 ∧ portRole s.lock.plan port ≠ 0)) (fun s =>
    (s.updPort port Port.toTraining).align)) s

/-- PORT_DISABLE: FAB_PORT_CTRL.disable written. -/
def execPortDisable (port : Nat) (disable : Bool) (s : State) : Out :=
  act { freeCount := true, fab := true, hif := true } (fun s => (s.unlatch 0).when (s.blockOpen && decide (port < 24)) (fun s =>
    let s1 := s.updPort port (fun p =>
      if disable then { p with disable := true }.toDown
      else if p.disable then
        (if s.lock.cFabric && decide (portRole s.lock.plan port ≠ 0) then { p with disable := false }.toTraining
         else { p with disable := false }.toDown)
      else p)
    s1.align)) s

/-! ## Messages (R334, R335, R337, R338) -/

/-- The op, index and increment of a MESSAGE's arg (Table 11.6). -/
def argOp (a : W32) : Nat := a.toNat % 16
/-- index. -/
def argIndex (a : W32) : Nat := a.toNat / 16 % 4096
/-- increment. -/
def argInc (a : W32) : Nat := a.toNat / 65536

/-- The channel of the fabric manager whose inbox this is (R382). -/
def State.fmChannel (s : State) (inbox : Nat) : Option Nat :=
  if inbox = s.hif.secureInbox.toNat then some 20 else if inbox = s.hif.plainInbox.toNat then some 21 else none

/-- Whether an inbox accepts a frame (R334): enabled, of its class, from an accepted source, within its area. -/
def inboxTakes (i : Inbox) (f : Frame) : Bool :=
  let op := argOp f.arg
  i.enable && f.cls == i.cls.zeroExtend 4 && (i.anySrc || f.src == i.src.zeroExtend 16) &&
  (!(decide (op = 1 ∨ op = 2)) || decide (f.offset.toNat + f.payload.length ≤ 4096 * i.pages.toNat)) &&
  (!(decide (op = 2 ∨ op = 3)) || decide (8 * argIndex f.arg + 8 ≤ 4096 * i.pages.toNat))

/-- The payload of a frame stored in memory, with the frame's poison mark (R173). -/
def State.putPayload (s : State) (a : Nat) (f : Frame) : State :=
  let t := s.wrBytes a f.payload
  if f.flags.getLsbD 0 ∧ !(decide (0x020000000000 ≤ a ∧ a < 0x030000000000)) then
    { t with poison := t.poison ++ (List.range f.payload.length).map (a + ·) }
  else t

/-- A MESSAGE delivered into this device's own inbox (R335); one to a fabric manager's channel at offset 0 is a mailbox word (R382). -/
def State.deliverMsg (s : State) (f : Frame) : State :=
  let n := f.tag.toNat
  let i := s.fab.inboxes.get {} n
  if !(inboxTakes i f) then { s with fab := { s.fab with drops := satInc s.fab.drops } }
  else
    let op := argOp f.arg
    let base := i.base.toNat * 4096
    let s1 := if op = 1 ∨ op = 2 then s.putPayload (base + f.offset.toNat) f else s
    let s2 := if op = 2 ∨ op = 3 then s1.signalWord (base + 8 * argIndex f.arg) (argInc f.arg) else s1
    match s.fmChannel n with
    | some c => if op = 1 ∧ f.offset = 0 then s2.arrive c (BitVec.ofNat 64 (ofLE (f.payload.take 8))) else s2
    | none => s2

/-- A frame for another device passed on (R337). -/
def State.passOn (s : State) (f : Frame) : State :=
  s.sendFrame { f with hops := f.hops + 1 }

/-- Whether the arg of a message is one of Table 11.6 for an operation. -/
def argOk (op : Nat) (a : W32) : Bool :=
  decide (argOp a = op) && (if op = 2 ∨ op = 3 then decide (1 ≤ argInc a) else decide (argInc a = 0))

/-- A message of one operation from a port. -/
def State.message (s : State) (n op : Nat) (f : Frame) : State :=
  s.taken n f (fun t =>
    if f.kind ≠ 2 ∨ f.flags.getLsbD 2 ∨ !(argOk op f.arg) then t.updPort n (fun p => { p with crcDrops := satInc p.crcDrops })
    else if f.dst.toNat = t.device then t.deliverMsg f
    else t.passOn f)

/-- MSG_PUT. -/
def execMsgPut (port : Nat) (f : Frame) (s : State) : Out := act {
    mem := true, host := true, poison := true, sync := true, fab := true, chans := true, hif := true } (fun s => s.message port 1 f) s
/-- MSG_PUT_SIGNAL. -/
def execMsgPutSignal (port : Nat) (f : Frame) (s : State) : Out := act {
    mem := true, host := true, poison := true, sync := true, fab := true, chans := true, hif := true } (fun s => s.message port 2 f) s
/-- MSG_SIGNAL. -/
def execMsgSignal (port : Nat) (f : Frame) (s : State) : Out := act {
    mem := true, host := true, poison := true, sync := true, fab := true, chans := true, hif := true } (fun s => s.message port 3 f) s

/-- BROADCAST_FRAME: from the parent port: delivered here, and forwarded on each child port (R338). -/
def execBroadcastFrame (port : Nat) (f : Frame) (s : State) : Out :=
  act { mem := true, host := true, poison := true, sync := true, fab := true, chans := true, hif := true } (fun s => s.taken port f (fun t =>
    if f.kind ≠ 2 ∨ f.cls ≠ 3 ∨ !(f.flags.getLsbD 2) ∨ !((List.range 3).any (fun o => argOk (o + 1) f.arg)) then
      t.updPort port (fun p => { p with crcDrops := satInc p.crcDrops })
    else if t.fab.parent.toNat ≠ port then { t with fab := { t.fab with unroutable := satInc t.fab.unroutable } }
    else
      ((List.range 24).filter (fun n => t.fab.children.getLsbD n && (t.port n).state == 3)).foldl (fun (u : State) n =>
        u.updPort n (fun p => p.push { f with hops := f.hops + 1 })) (t.deliverMsg f))) s

/-! ## Lockstep groups (R344–R348) -/

/-- A GROUP message sent to a member. -/
def State.sendGroup (s : State) (dst : Nat) (offset : Nat) (payload : List Byte) : State :=
  s.sendMsg 1 dst 0 offset (msgArg 0 0 4) payload

/-- A group pause announced by the master at a pitch point at least one pitch ahead (R348). -/
def State.announcePause (s : State) : State :=
  match s.fab.pauseAt, s.runImg with
  | none, some v =>
    let at_ := s.fab.pitch + BitVec.ofNat 64 (stepCounts v) + s.fab.guard.zeroExtend 64
    let s1 := s.fab.peers.foldl (fun (t : State) d => t.sendGroup d at_.toNat [2]) s
    { s1 with fab := { s1.fab with pauseAt := some (at_ - s1.fab.gtime) } }
  | _, _ => s

/-- A member due for calibration asks the master for a pause; the master announces it (R348). -/
def State.askPause (s : State) : State :=
  if !s.fab.member then s
  else if s.fab.master.toNat = s.device then s.announcePause
  else s.sendGroup s.fab.master.toNat 0 [1]

/-- The effect of a GROUP message. -/
def State.group (s : State) (src : Nat) (g : GroupMsg) : State :=
  let s0 := { s with fab := { s.fab with peers := if s.fab.peers.contains src then s.fab.peers else s.fab.peers ++ [src] } }
  match g with
  | .faultMap step lanes => { s0 with fab := { s0.fab with
      maps := s0.fab.maps.filter (fun m => !decide (m.1 = step ∧ m.2.1 = src)) ++ [(step, src, lanes)] } }
  | .start pitch => { s0 with fab := { s0.fab with pitch := pitch, startAt := some (pitch - s0.fab.gtime) } }
  | .calRequest => if s0.fab.master.toNat = s0.device then s0.announcePause else s0
  | .pauseAt pitch => { s0 with fab := { s0.fab with pauseAt := some (pitch - s0.fab.gtime) } }

/-- MSG_GROUP: lockstep control, class 1 only. -/
def execMsgGroup (port : Nat) (f : Frame) (g : GroupMsg) (s : State) : Out :=
  act { fab := true } (fun s => s.taken port f (fun t =>
    if f.kind ≠ 2 ∨ f.cls ≠ 1 ∨ !(argOk 4 f.arg) then t.updPort port (fun p => { p with crcDrops := satInc p.crcDrops })
    else if f.dst.toNat ≠ t.device then t.passOn f
    else if t.fab.member then t.group f.src.toNat g
    else { t with fab := { t.fab with drops := satInc t.fab.drops } })) s

/-- Whether a member's step may begin at its pitch point: a step in progress of which no slot has issued. -/
def State.atPitch (s : State) : Bool :=
  s.runImg.isSome && s.fab.member && (s.eng.state == 1 || s.eng.state == 2) && decide (s.eng.slot = 0)

/-- The device time `late` counts after the next pitch point of the group. -/
def State.pitchTime (s : State) (late : Nat) : W64 := s.fab.pitch - s.fab.gtime + BitVec.ofNat 64 late

/-- PITCH_POINT: a member begins its step, `late` counts after the pitch point; more than 17 is a slip, and the step is skipped: no
slot issues and no lane commits (R345, R347). -/
def execPitchPoint (late : Nat) (s : State) : Out :=
  actAt { cur := true, fab := true } (fun s => if s.atPitch then maxTime s.time (s.pitchTime late) else s.time) (fun s =>
    match s.runImg with
    | none => s
    | some v =>
      if s.atPitch then
        let next := s.fab.pitch + BitVec.ofNat 64 (stepCounts v) + s.fab.guard.zeroExtend 64
        let s1 := { s with fab := { s.fab with pitch := next } }
        if 17 < late then
          { s1 with
            fab := { s1.fab with slips := satInc s1.fab.slips, slipping := true }
            cur := { s1.cur with empty := true, lanes := s1.cur.lanes.map (fun l => if l.ran then { l with ran := false, outcome := 0x02 } else l) } }
        else s1
      else s) s

/-! ## Windows (R339–R342) -/

/-- WINDOW_FRAME: placed by its tag and offset, or forwarded within the basin by at most 3 hops (R341, R342). -/
def execWindowFrame (port : Nat) (f : Frame) (s : State) : Out :=
  act { fab := true } (fun s =>
    let p := s.port port
    if 24 ≤ port ∨ p.state ≠ 3 then s
    else if !(frameLegal f) ∨ f.kind ≠ 1 ∨ portRole s.lock.plan port = 7 ∨ p.isLong then
      s.updPort port (fun p => { p with crcDrops := satInc p.crcDrops })
    else if f.dst.toNat = s.device then
      { s with fab := { s.fab with
        winGot := s.fab.winGot ++ [(f.arg.toNat, f.tag.toNat, f.offset.toNat, f.payload)]
        winPoisoned := if f.flags.getLsbD 0 then s.fab.winPoisoned ++ [(f.arg.toNat, f.tag.toNat)] else s.fab.winPoisoned } }
    else if f.dst.toNat / 64 = s.device / 64 ∧ f.hops.toNat < 3 then
      (match s.routeRole f.dst.toNat with
       | some r =>
         (match s.windowSet r with
          | n :: _ =>
            let g := { f with hops := f.hops + 1 }
            s.updPort n (fun p => { p with out := p.out ++ [{ g with crc := g.crcOf }] })
          | [] => s)
       | none => s)
    else { s with fab := { s.fab with unroutable := satInc s.fab.unroutable } }) s

/-- The `n` bytes of a window received for a slot that begin at an offset, none where one is missing. -/
def State.windowPart (s : State) (slot tag start n : Nat) : Option (List Byte) :=
  let parts := s.fab.winGot.filter (fun e => decide (e.1 = slot ∧ e.2.1 = tag))
  let at_ := fun (i : Nat) => parts.findSome? (fun e => if e.2.2.1 ≤ i then e.2.2.2[i - e.2.2.1]? else none)
  (List.range n).mapM (fun i => at_ (start + i))

/-- The bytes of a window received for a slot, none where a part is missing. -/
def State.windowData (s : State) (slot tag len : Nat) : Option (List Byte) := s.windowPart slot tag 0 len

/-- The 64-bit words of a byte list, for a site's route inbox. -/
def wordsOf (bs : List Byte) : List W64 := (chunksOf 8 (bs.length / 8 + 1) bs).filterMap (fun c => if c.isEmpty then none else some (BitVec.ofNat 64 (ofLE c)))

/-- The 256-bit flits of a window received for a slot: those of which a byte is missing are poisoned (R340), and all of them where a frame
came with its poison mark (R173). -/
def State.windowFlits (s : State) (slot : Nat) (w : Nat × Nat × List Nat) : List (List W64 × Bool) :=
  let mark := s.fab.winPoisoned.contains (slot, w.1)
  (List.range ((w.2.1 + 31) / 32)).map (fun i =>
    let n := min 32 (w.2.1 - 32 * i)
    match s.windowPart slot w.1 (32 * i) n with
    | some bs => (wordsOf bs, mark)
    | none => (List.replicate ((n + 7) / 8) 0, true))

/-- Whether a port attachment site is bound to a fabric port under the running variant (R174). -/
def State.portBound (s : State) (k : Nat) : Bool :=
  match s.runImg.bind (fun v => v.score? k) with
  | some r => decide (siteType k = 6 ∧ 0x10 ≤ r.addrs.getD 61 0x3F ∧ r.addrs.getD 61 0x3F < 0x28)
  | none => false

/-- A window delivered to one of its sites: a bound port attachment site receives its flits by its express port, one in an NCLK (R175); another
site has them at once (log entry 26). -/
def State.deliverTo (s : State) (fs : List (List W64 × Bool)) (k : Nat) : State :=
  if s.portBound k then
    let h := siteHalf k
    { s with mesh := { s.mesh with flits := s.mesh.flits ++ fs.zipIdx.map (fun e =>
        { dest := .router k 6, due := s.eng.clkOf h + e.2 * nclkTime s.clk.plan h, words := e.1.1, poisoned := e.1.2 }) } }
  else s.updSite k (fun r => { r with inbox := r.inbox ++ fs.flatMap (·.1), poisonIn := r.poisonIn || fs.any (·.2) })

/-- One window delivered to its sites (R339, R340). -/
def State.deliverWindow (s : State) (slot : Nat) (w : Nat × Nat × List Nat) : State := w.2.2.foldl (fun (t : State) k => t.deliverTo (s.windowFlits slot w) k) s

/-- WINDOW_DEADLINE: the start of slot t + w: the slot-t data of every window delivered, what is missing as poisoned flits. Missing
windows are counted on the lowest port of an UP direction (log entry 26). No slot starts in a stall (R186). -/
def execWindowDeadline (slot : Nat) (s : State) : Out :=
  act { sites := true, mesh := true, fab := true } (fun s =>
    match s.runImg with
    | none => s
    | some v =>
      if s.sync.stalled then s else
      let missing := v.windows.filter (fun w => (s.windowData slot w.1 w.2.1).isNone)
      let s1 := v.windows.foldl (fun (t : State) w => t.deliverWindow slot w) s
      let s2 := { s1 with fab := { s1.fab with
        winGot := s1.fab.winGot.filter (fun e => decide (e.1 ≠ slot))
        winPoisoned := s1.fab.winPoisoned.filter (fun e => decide (e.1 ≠ slot)) } }
      match (List.range 24).find? (fun n => decide (1 ≤ portRole s.lock.plan n ∧ portRole s.lock.plan n ≤ 6)) with
      | some n => s2.updPort n (fun p => { p with winMissing := satAdd p.winMissing missing.length })
      | none => s2) s

end Sys2Proof.Machine
end

