-- ==== Sys2Proof/Machine/Tick.lean ====
section
/-! DEFINITION. The management tick (R32): thermal states (R437, R438), coolant supervision (R436), calibration due (R283), TIME
exchanges (R333), and the consecutive-tick counts behind the rows of chapters 10, 11 and 14. -/

namespace Sys2Proof.Machine

/-! ## Thermal states (R437, R438, R440, R480) -/

/-- The powered vales with a T_v in the tick that ends, each with its sum and count of conversions. -/
def State.tickVales (s : State) : List (Nat × Nat × Nat) :=
  ((List.range 84).filter s.interiorUp).filterMap (fun v =>
    let t := s.valeTick v
    if t.2 = 0 then none else some (v, t))

/-- Whether a mean of conversions is at or above a code. -/
def atLeast (t : Nat × Nat) (code : Nat) : Bool := decide (code * t.2 ≤ t.1)

/-- The hottest of a list of vales, the lowest index among equals. -/
def hottest (vs : List (Nat × Nat × Nat)) : Option (Nat × Nat × Nat) :=
  vs.foldl (fun (b : Option (Nat × Nat × Nat)) v => match b with
    | none => some v
    | some w => if w.2.1 * v.2.2 < v.2.1 * w.2.2 then some v else some w) none

/-- The thermal state of a half and its count of ticks below t_warn decided at the end of a tick (R437, R438). -/
def State.halfState (s : State) (vs : List (Nat × Nat × Nat)) (h : Half) : State :=
  let own := vs.filter (fun v => valeInHalf h v.1)
  let old := match h with | .west => s.thm.westState | .east => s.thm.eastState
  let below := match h with | .west => s.thm.belowW | .east => s.thm.belowE
  if own.isEmpty then s
  else
    let warm := own.any (fun v => atLeast v.2 s.thm.tWarn.toNat)
    let hot := own.any (fun v => atLeast v.2 s.thm.tThrottle.toNat)
    let st : BitVec 2 := if hot ∨ old = 2 then 2 else if warm then 1 else 0
    let n := if warm then 0 else below + 1
    let s1 := match h with
      | .west => { s with thm := { s.thm with westState := st, belowW := n } }
      | .east => { s with thm := { s.thm with eastState := st, belowE := n } }
    let s2 := if old = 0 ∧ st ≠ 0 then s1.event [.pf, .bmc] 0x37 ((hottest own).elim 0 (·.1)) else s1
    if hot then s2.setCause h 0 true else s2

/-- The ticks that a vale in emergency has been cool (R440). -/
def State.coolTick (s : State) (v : Nat) : State :=
  let cs := ((List.range 32).map (fun i => s.conv (32 * v + i))).filter (fun c => decide (0 < c.tickCnt))
  let cool := !cs.isEmpty && cs.all (fun c => decide (c.tickSum ≤ 600 * c.tickCnt))
  { s with thm := { s.thm with coolTicks := s.thm.coolTicks.upd 0 v (fun n => if cool then n + 1 else 0) } }

/-- Everything the TEMP conversions of the tick decide. -/
def State.thermalTick (s : State) : State :=
  let vs := s.tickVales
  let s1 := match hottest vs with
    | some v => { s with thm := { s.thm with hotVale := BitVec.ofNat 7 v.1, hotCode := meanCode v.2 } }
    | none => s
  let s2 := (s1.halfState vs .west).halfState vs .east
  (valesOf s2.thm.emerg).foldl State.coolTick s2

/-! ## Coolant (R435, R436) -/

/-- The sum and count of a module input's conversions in the tick. -/
def State.modIn? (s : State) (i : Nat) : Nat × Nat := s.sens.modTick.get (0, 0) i

/-- Whether an input's tick mean lies below a code; an input without conversions is not evaluated (log entry 21). -/
def meanBelow (t : Nat × Nat) (code : Nat) : Bool := decide (t.1 < code * t.2)

/-- Whether an input's tick mean lies above a code. -/
def meanAbove (t : Nat × Nat) (code : Nat) : Bool := decide (code * t.2 < t.1)

/-- Flow below Q_min(T_in), from the sums of the inlet and flow inputs: code − 100 < 300 + 12 · max(0, inlet − 375) / 5 (R435). -/
def flowBelowQmin (inlet flow : Nat × Nat) : Bool :=
  if inlet.1 ≤ 375 * inlet.2 then meanBelow flow 400
  else decide (5 * flow.1 * inlet.2 < 2000 * flow.2 * inlet.2 + 12 * (inlet.1 - 375 * inlet.2) * flow.2)

/-- Q_min in 0.1 L/min at an inlet mean, to nearest. -/
def qMinOf (inlet : Nat × Nat) : BitVec 10 :=
  BitVec.ofNat 10 (rneNat (1500 * inlet.2 + 12 * (inlet.1 - 375 * inlet.2)) (5 * inlet.2))

/-- A consecutive-tick count continued while its condition holds. -/
def consec (n : Nat) (c : Bool) : Nat := if c then n + 1 else 0

/-- Events for a condition that arises. -/
def State.arises (s : State) (old new_ : Bool) (code : Byte) (arg : Nat) : State :=
  if new_ && !old then s.event [.pf, .bmc] code arg else s

/-- The coolant inputs evaluated on their tick means (Table 14.6). An open inlet or flow input counts as low flow; with the hub's
service site dead every input counts as open. -/
def State.coolantTick (s : State) : State :=
  let lost := decide ((s.site hubSite).fstate = 3)
  let wire : Nat → Bool := fun i => lost || s.sens.openWire.getLsbD i
  let inl := s.modIn? 0
  let out := s.modIn? 1
  let flw := s.modIn? 2
  let openIn := wire 0
  let openFl := wire 2
  let known := (openIn || openFl) || (decide (0 < inl.2) && decide (0 < flw.2))
  let keep := fun (i : Nat) (old new_ : Bool) => if wire i then false else if (s.modIn? i).2 = 0 then old else new_
  let high := keep 0 s.cool.inletHigh (meanAbove inl 450)
  let low := keep 0 s.cool.inletLow (meanBelow inl 325)
  let rise := if wire 0 || wire 1 then false else if inl.2 = 0 ∨ out.2 = 0 then s.cool.outletRise
    else decide (inl.1 * out.2 + 75 * inl.2 * out.2 < out.1 * inl.2)
  let flowLow := if openIn || openFl then true else if known then flowBelowQmin inl flw else s.cool.flowLow
  let veryLow := !openFl && meanBelow flw 340
  let leakA := keep 3 s.cool.leakA (meanBelow (s.modIn? 3) 100)
  let leakB := keep 4 s.cool.leakB (meanBelow (s.modIn? 4) 100)
  let bus := let t := s.modIn? 5
    if t.2 = 0 then s.pwr.busRange else meanBelow t 750 || meanAbove t 850
  let very45 := !openIn && meanAbove inl 475
  let anyOpen := (List.range 8).any wire
  let good := known && !flowLow && !(leakA || leakB) && !anyOpen && !(meanBelow inl 325) && !(meanAbove inl 475)
  let newOpen := (List.range 5).filter (fun i => wire i && !(s.cool.isOpen.getLsbD i))
  let opens := if lost && !s.cool.hubLost then newOpen ++ [5, 6, 7] else newOpen
  let s1 := s.arises s.cool.inletHigh high 0x32 1
  let s2 := s1.arises s.cool.inletLow low 0x32 2
  let s3 := s2.arises s.cool.outletRise rise 0x32 4
  let s4 := s3.arises false ((leakA && !s.cool.leakA) || (leakB && !s.cool.leakB)) 0x33
    ((if leakB then 2 else 0) + (if leakA then 1 else 0))
  let s5 := opens.foldl (fun (t : State) i => t.event [.pf, .bmc] 0x34 i) s4
  let s6 := s5.arises s.pwr.busRange bus 0x35 1
  let c := s.cool
  { s6 with
    pwr := { s6.pwr with busRange := bus, limitTicks := if s.pwr.limit then s.pwr.limitTicks + 1 else 0 }
    cool := { s6.cool with
      qMin := if openIn ∨ inl.2 = 0 then c.qMin else qMinOf inl
      isOpen := (List.range 5).foldl (fun (a : BitVec 5) i => if wire i then a ||| (1#5 <<< i) else a) 0
      hubLost := lost, leakA := leakA, leakB := leakB, flowLow := flowLow, outletRise := rise, inletLow := low, inletHigh := high
      goodTicks := consec c.goodTicks good
      hotInletTicks := consec c.hotInletTicks very45
      lowFlowTicks := if known then consec c.lowFlowTicks flowLow else c.lowFlowTicks
      veryLowTicks := if openFl || decide (0 < flw.2) then consec c.veryLowTicks veryLow else c.veryLowTicks
      inletClearTicks := consec c.inletClearTicks (!very45)
      flowClearTicks := consec c.flowClearTicks (known && !flowLow)
      failTicks := if c.fail then c.failTicks + 1 else 0
      failClearTicks := consec c.failClearTicks (known && !flowLow && !leakA && !leakB) } }

/-! ## Counts of other chapters -/

/-- A clean tick of a SUSPECT tile counted (R305): none in a tick with a mismatch, or with its spare in a session or waiting for one. -/
def State.cleanTick (s : State) (k : Nat) (r : SiteSt) : SiteSt :=
  if r.fstate = 2 ∧ r.faultTime.toNat / 2 ^ 20 ≠ s.tick ∧ !(s.wgt.sessions.any (fun x => decide (x.site = k ∧ x.p = r.amap.spare))) ∧
      !(s.flt.respares.any (fun e => decide (e.1 = k))) then
    { r with cleanTicks := satInc r.cleanTicks }
  else r

/-- The ticks a port has waited for its admission, or since it failed. -/
def Port.waitTick (p : Port) : Port :=
  if (p.state = 1 ∧ p.rate ≠ 3) ∨ p.state = 2 ∨ p.state = 5 then { p with admitTicks := p.admitTicks + 1 } else p

/-- The tick's TIME frames: on every port that is UP or has begun its exchanges (R329, R333). -/
def State.timeFrames (s : State) : State :=
  ((List.range 24).filter (fun n => let p := s.port n; p.state == 3 || p.state == 2 || (p.state == 1 && p.rate != 3))).foldl
    State.sendTime s

/-- THERM_ALERT_N at the end of a tick (R480). -/
def State.alertTick (s : State) : State :=
  { s with thm := { s.thm with
    alertN := s.thm.westState == 0 && s.thm.eastState == 0 && s.thm.emerg == 0 &&
      !(s.cool.causeInlet || s.cool.causeFlow || s.cool.fail) } }

/-- The group pause a master announces under STRICT for every cadence tick (R392). -/
def State.cadencePause (s : State) : State :=
  if !s.nv.profileShared && s.fab.member && decide (s.fab.master.toNat = s.device ∧ (s.tick + 1) % (max 1 s.sens.cadence.toNat) = 0) then
    s.announcePause
  else s

/-- FAB_ALIGN.err: the largest error of the tick, which the clocks of two devices decide: free, at most 17 counts while aligned (R344). -/
def State.alignErr (s : State) : State :=
  if s.fab.member && decide (s.fab.master.toNat ≠ s.device) then
    let r := s.free
    { r.2 with fab := { r.2.fab with err := BitVec.ofNat 16 (if s.fab.aligned then r.1.toNat % 18 else r.1.toNat) } }
  else { s with fab := { s.fab with err := 0 } }

/-- Whether a chunk stays in the DRAM tier: a DRAM tensor, or a precision matrix placed there (R125). -/
def GenChunk.inDram (c : GenChunk) : Bool := decide ((c.kind = 5 ∨ c.kind = 6) ∧ c.dest < 0x00C000000000)

/-- A chunk of the DRAM tier whose contents no longer have its SHA-512: a silent error (R125). Which class of Table 10.1 that is the spec does
not say: DESIGN CHOICE, its data is poison from then on, which classifies no site, and an entry of class POISON is logged (log entry 81). -/
def State.checkChunk (s : State) (c : GenChunk) : State :=
  if digestBits (sha512 (s.rdBytes c.dest c.length)) = c.hash then s
  else
    ({ s with
      poison := s.poison.filter (fun x => !decide (c.dest ≤ x ∧ x < c.dest + c.length)) ++ (List.range c.length).map (c.dest + ·)
    } : State).log 0x04 0 0 0x1F 0 0

/-- The background pass over the DRAM tier of both generation slots, complete once in 2^16 ticks (R125); the model makes the whole of it in the
tick that ends the interval (log entry 81). -/
def State.dramPass (s : State) : State :=
  if (s.tick + 1) % 2 ^ 16 = 0 then
    (([s.wgt.genA, s.wgt.genB].filter (·.committed)).flatMap (fun g => g.chunks.filter GenChunk.inDram)).foldl State.checkChunk s
  else s

/-- What the end of management tick n does. -/
def State.endTick (s : State) : State :=
  let s1 := (s.thermalTick).coolantTick.calTick
  let s2 := { s1 with
    convs := s1.convs.mapVals {} (fun _ c => { c with tickSum := 0, tickCnt := 0 })
    sens := { s1.sens with
      modTick := []
      windowDue := s1.sens.windowDue || decide ((s.tick + 1) % s1.sens.window.toNat = 0) }
    sites := s1.sites.mapVals {} (fun k r => s1.cleanTick k r)
    fab := { s1.fab with ports := s1.fab.ports.mapVals {} (fun _ p => p.waitTick) } }
  ((s2.timeFrames).alertTick.alignErr.cadencePause).dramPass

/-- MANAGEMENT_TICK: the device time reaches the end of the tick, and its evaluations are made. -/
def execManagementTick (s : State) : Out :=
  actAt {
      freeCount := true, clk := true, thm := true, pwr := true, cool := true, poison := true, sites := true, convs := true, sens := true,
      flt := true, fab := true, chans := true, hif := true }
      (fun s => if s.boot.done.getLsbD 0 then BitVec.ofNat 64 ((s.tick + 1) * 2 ^ 20) else s.time)
      (fun s => if s.boot.done.getLsbD 0 then s.endTick else s) s

/-- STATISTICS_TICK_END: the calibration of every vale whose statistics tick is over falls due; a group's member asks for a pause
(R283, R348). -/
def execStatisticsTickEnd (s : State) : Out :=
  act { sens := true, fab := true } (fun s =>
    if s.sens.statOver = 0 then s
    else
      let s1 := { s with sens := { s.sens with statDone := s.sens.statDone ||| s.sens.statOver, statOver := 0 } }
      if s1.nv.profileShared then s1.askPause else s1) s

end Sys2Proof.Machine
end

