-- ==== Sys2Proof/Machine/Faults.lean ====
section
/-! DEFINITION. The scrubber (R298), tile self-tests (R305) and the fault commands FLT_REMAP and FLT_MAPOUT (R308, R309). -/

namespace Sys2Proof.Machine

/-! ## The scrubber (R298) -/

/-- A global word without a majority: device_fault, which holds the engine until a reset. -/
def State.noMajority (s : State) : State :=
  ({ s with flt := { s.flt with deviceFault := true } }).event [.pf, .bmc] 0x03 0

/-- SCRUB_VISIT: the three copies of a hardened word voted: a minority copy rewritten and counted, or no majority. The value the model
holds is the majority's (log entry 27). -/
def execScrubVisit (target : ScrubTarget) (a b c : W64) (s : State) : Out :=
  act {
      thm := true, arrs := true, sites := true, wgt := true, vars := true, eng := true, cur := true, nxt := true, mesh := true, sync := true, seqs := true, flt := true, fab := true,
      chans := true, hif := true } (fun s =>
    let same := a == b && b == c
    let none_ := a != b && b != c && a != c
    let s1 := if same || none_ then s else { s with flt := { s.flt with votes := s.flt.votes + 1 } }
    match target with
    | .site k _ =>
      if !(isSite k && s.powered k) then s
      else if none_ then s.siteDie k 0x07 0x1F
      else if same then s
      else s1.updSite k (fun r => { r with votes := satInc r.votes })
    | .global _ => if none_ then s.noMajority else s1) s

/-- Whether a tile's self-test passes (R305): for a weight tile the spare's read-back and sweep as well as the vote and the scrub. -/
def State.selfTestOk (s : State) (k : Nat) (r : SelfTestResult) : Bool :=
  let q := (s.site k).amap.spare
  r.voteOk && r.sramOk && (siteType k != 1 || (r.sweepOk && s.crcOf k q == (s.arr k q).acrc))

/-- Whether a tile gets a self-test: it works, and its spare is neither in a session nor waiting for one. -/
def State.selfTestable (s : State) (k : Nat) : Bool :=
  let q := (s.site k).amap.spare
  isSite k && s.powered k && s.siteUp k &&
  (siteType k != 1 || (!(s.site k).copyActive && !(s.wgt.sessions.any (fun x => decide (x.site = k ∧ x.p = q))) &&
    !(s.flt.respares.any (fun e => decide (e.1 = k)))))

/-- TILE_SELF_TEST: a failure kills the tile. -/
def execTileSelfTest (site : Nat) (r : SelfTestResult) (s : State) : Out :=
  act {
      thm := true, arrs := true, sites := true, wgt := true, vars := true, eng := true, cur := true, nxt := true, mesh := true, sync := true, seqs := true, flt := true, fab := true,
      chans := true, hif := true } (fun s =>
    if !(s.selfTestable site) || s.selfTestOk site r then s
    else (s.updSite site (fun q => { q with selftestFails := satInc q.selftestFails })).siteDie site 0x08 0x1F) s

/-! ## Fault commands (R308, R309, R311, R376) -/

/-- A DEAD site not yet marked FAILED. -/
def State.deadSite (s : State) (k : Nat) : Bool := (s.site k).fstate == 3 && s.siteCode k != 3

/-- A WORN tile: one that shows no other fault state (Table 10.8). -/
def State.wornSite (s : State) (k : Nat) : Bool := (s.site k).fstate == 0 && s.isWorn k && s.siteCode k != 3

/-- Whether a fault command, an exchange or an install's programming is in progress (BUSY). -/
def State.faultBusy (s : State) : Bool :=
  s.flt.move.isSome || !s.flt.exchanging.isEmpty || s.wgt.phase == 3 || s.wgt.phase == 5

/-- The defect map with a list of codes written: signed, its version raised by one, every resident variant STALE (R309, R311). Reserves
that failed a vote in service are mapped out with it (R313). -/
def State.writeMap (s : State) (codes : List (Nat × BitVec 4)) : State :=
  let bad := (s.sites.entries {}).filterMap (fun e => if e.2.failed then some e.1 else none)
  let all := bad.map (fun k => (k, (2 : BitVec 4))) ++ codes
  let s1 := { s with
    nv := { s.nv with
      defects := all.foldl (fun (m : Sparse (Option (BitVec 4))) (e : Nat × BitVec 4) => m.set none e.1 (some e.2)) s.nv.defects
      defectVersion := s.nv.defectVersion + 1 }
    sites := s.sites.mapVals {} (fun _ r => { r with failed := false }) }
  s1.makeStale (fun _ => true)

/-- Whether a replacement suits a site (Table 10.3, REPLACEMENT): its type, and RESERVE for a weight tile, GOOD for the others. -/
def State.replaces (s : State) (k n : Nat) : Bool :=
  siteType n == siteType k && (s.site n).fstate != 3 && !(s.site n).failed &&
  s.siteCode n == (if siteType k = 1 then 1 else 0) && decide (n ≠ k)

/-- The generations that hold something at a site. -/
def State.gensAt (s : State) (k : Nat) : List Gen := [s.wgt.genA, s.wgt.genB].filter (fun g => g.state != 0 && g.holds k)

/-- The contents of a failed site moved to its replacement, where its generation is servable and its golden copy passes (R309). -/
def State.remapMove (s : State) (b : CmdBlock) (k n : Nat) : State :=
  let gs := s.gensAt k
  let t := siteType k
  if gs.isEmpty ∨ (t ≠ 1 ∧ t ≠ 4) then s.complete b.channel 0x38 b.cseq 0 0
  else if !(gs.all Gen.servable) then ({ s with flt := { s.flt with unrestored := true } }).complete b.channel 0x38 b.cseq 0 0
  else
    let left := if t = 1 then (s.heldArrays k).map (fun a => (n, a)) else []
    let m : MoveCmd := { channel := b.channel, cseq := b.cseq, code := 0x38, pairs := [(k, n)], left := left }
    let s1 := { s with flt := { s.flt with move := some m } }
    if left.all (fun e => s1.goldenOk e.2) && s1.chunksOk k then s1.pumpRepairs.moveDone
    else ({ s1 with flt := { s1.flt with unrestored := true } }).moveFail 0x05 0

/-- The site a fault command names at an offset of its parameters. -/
def siteArg (b : CmdBlock) (o : Nat) : Option Nat :=
  if b.par o 1 < 224 ∧ b.par (o + 1) 1 < 192 then some (siteAt (b.par o 1) (b.par (o + 1) 1)) else none

/-- FLT_REMAP. -/
def execFltRemap (b : CmdBlock) (s : State) : Out :=
  act {
      thm := true, nv := true, mem := true, host := true, poison := true, arrs := true, sites := true, wgt := true, vars := true,
      eng := true, cur := true, nxt := true, mesh := true, sync := true, seqs := true, parts := true, flt := true, fab := true, chans := true,
      hif := true, sec := true } (fun s => s.accept ⟨0x38, false, [0, 1]⟩ false false b (fun t =>
    if !t.held then t.result b 0x38 1
    else match siteArg b 0, siteArg b 2 with
      | some k, some n =>
        if !(t.deadSite k || t.wornSite k) then t.result b 0x38 2
        else if !(t.replaces k n) then t.result b 0x38 3
        else if valeBit t.pwr.dark (siteVale n) then t.result b 0x38 4
        else if t.faultBusy then t.result b 0x38 7
        else
          let t1 := (t.opened b 0x38).writeMap (if siteType k = 1 then [(k, 3), (n, 0)] else [(k, 3)])
          let t2 := if siteType k = 2 then t1.loseCore k else t1
          t2.remapMove b k n
      | _, _ => t.result b 0x38 2)) s

/-- FLT_MAPOUT. -/
def execFltMapout (b : CmdBlock) (s : State) : Out :=
  act {
      nv := true, mem := true, host := true, poison := true, sites := true, vars := true, seqs := true, parts := true, fab := true,
      chans := true, hif := true, sec := true } (fun s => s.accept ⟨0x39, false, [0, 1]⟩ false false b (fun t =>
    if !t.held then t.result b 0x39 1
    else match siteArg b 0 with
      | none => t.result b 0x39 2
      | some k =>
        if !(t.deadSite k || t.siteCode k == 1) then t.result b 0x39 2
        else if t.faultBusy then t.result b 0x39 7
        else if !(t.gensAt k).isEmpty then t.result b 0x39 8
        else
          let t1 := (t.opened b 0x39).writeMap [(k, 3)]
          let t2 := if siteType k = 2 then t1.loseCore k else t1
          t2.complete b.channel 0x39 b.cseq 0 0)) s

end Sys2Proof.Machine
end

