-- ==== Sys2Proof/Machine/Engine.lean ====
section
/-! DEFINITION. The issue of bundles (R134, R135, R138, R142, R143, R176) and what a beat moves on the mesh (R151, R170–R180). -/

namespace Sys2Proof.Machine

/-! ## The mesh in one NCLK -/

/-- The place of a router output's far end: the neighbour and the input its facing port is (Table 5.3's input codes). -/
def linkOf (k out : Nat) : Option (Nat × Nat) :=
  let x := siteX k
  let y := siteY k
  match out with
  | 0 => if y = 0 then none else some (siteAt x (y - 1), 3)
  | 1 => if x = 223 then none else some (siteAt (x + 1) y, 4)
  | 2 => if y = 191 then none else some (siteAt x (y + 1), 1)
  | 3 => if x = 0 then none else some (siteAt (x - 1) y, 2)
  | _ => none

/-- Whether a router is powered: on its vale's always-on ring, or in an interior that is neither dark nor stopped (R18, R428, R439). -/
def State.routerUp (s : State) (k : Nat) : Bool :=
  onRing k || (!(valeBit s.pwr.dark (siteVale k)) && !(valeBit s.thm.stopped (siteVale k)))

/-- XST[r][e] of a score. -/
def xstEntry (r : ScoreRec) (row e : Nat) : BitVec 32 := ((r.xst.find? (fun x => decide (x.1 = 16 * row + e))).elim 0 (·.2))

/-- The crossbar entry a router applies in NCLK e of a beat: 0 where its selector is not enabled (R151). -/
def crossbar (b : BitVec 1024) (rep : Nat) (r : ScoreRec) (e : Nat) : BitVec 32 :=
  let c := selectorOf b r.rclass
  if !(c.getLsbD 23) then 0 else xstEntry r (bits c 7 0 + (if c.getLsbD 22 then rep else 0)) e

/-- The input an entry gives output `out`: 0 north, 1 east, 2 south, 3 west, 4 local, 5 express. -/
def inputOf (x : BitVec 32) (out : Nat) : Nat := bits x (3 * out + 2) (3 * out)

/-- The score of a router under the armed gap-route set: the rows of the set's record replace its XST rows, entry by entry those the
record lists and no other (R163). -/
def State.routerScore (s : State) (v : VariantImage) (k : Nat) : Option ScoreRec :=
  match v.score? k with
  | none => none
  | some r =>
    let g := (s.bank s.eng.bank).gapSet.toNat
    let rows := (v.gaps.filter (fun x => decide (x.set = g ∧ x.site = k))).flatMap (·.xst)
    some (if rows.isEmpty then r else
      { r with xst := rows ++ r.xst.filter (fun x => !(rows.any (fun y => decide (y.1 / 16 = x.1 / 16)))) })

/-- The crossbar entry of a site's router in NCLK e: 0 where it has no score or no power. -/
def State.routerEntry (s : State) (v : VariantImage) (b : BitVec 1024) (rep e k : Nat) : BitVec 32 :=
  if s.routerUp k then (match s.routerScore v k with | some r => crossbar b rep r e | none => 0) else 0

/-- The attachment a port attachment site is bound to in express service (R174–R176). -/
def State.boundTo (s : State) (v : VariantImage) (k : Nat) : Option (Nat × Attach) :=
  match v.score? k with
  | none => none
  | some r =>
    let c := r.addrs.getD 61 0x3F
    if siteType k = 6 ∧ s.mesh.express then (attachOf c).map (fun a => (c, a)) else none

/-- Where a flit goes that leaves a site's router by an output, and the time it is on the way after the router (R171, R175, R178): the
unit by the local output, the attachment by the express output, a neighbour over a link or, across the seam, through a saddle buffer that
routers on both sides have power to serve (R180). -/
def State.leaves (s : State) (v : VariantImage) (k out : Nat) : Option (FlitTo × Nat) :=
  if out = 4 then some (.unit k, 0)
  else if out = 5 then (s.boundTo v k).map (fun a => (.attachment a.1, a.2.expressNclk k * nclkTime s.clk.plan (siteHalf k)))
  else match linkOf k out with
    | none => none
    | some n =>
      if siteHalf n.1 = siteHalf k then some (.router n.1 n.2, 0)
      else if s.routerUp n.1 then some (.router n.1 n.2, saddleTime s.clk.plan) else none

/-- A flit discarded and counted (R172). -/
def State.dropFlits (s : State) (n : Nat) : State :=
  { s with mesh := { s.mesh with dropped := s.mesh.dropped + BitVec.ofNat 64 n } }

/-- A flit at a router input in the NCLK that begins at time `now` leaves by every output whose entry names its input, two NCLK later, or
is discarded and counted (R171, R172). -/
def State.routeFlit (s : State) (v : VariantImage) (x : BitVec 32) (now k input : Nat) (f : Flit) : State :=
  let ways := ((List.range 6).filter (fun o => decide (inputOf x o = input))).filterMap (s.leaves v k)
  if ways.isEmpty then s.dropFlits 1
  else
    let past := now + 2 * nclkTime s.clk.plan (siteHalf k)
    { s with mesh := { s.mesh with
      flits := s.mesh.flits ++ ways.map (fun w => { f with dest := w.1, due := past + w.2 }) } }

/-- How many bits of a vector are set. -/
def ones {n : Nat} (b : BitVec n) : Nat := (List.range n).countP (fun i => b.getLsbD i)

/-- A flit checked at a router input (R173): one wrong bit is corrected and counted; more poison it, and it travels on as it reads. The
code of a flit is not given: DESIGN CHOICE, every error of two bits or more is found (log entry 67). -/
def State.checkFlit (s : State) (us : List FlitUpset) (e k input : Nat) (f : Flit) : State × Flit :=
  let u := us.foldl (fun (a : BitVec 266) x => if x.nclk = e ∧ x.site = k ∧ x.input = input then a ^^^ x.bits else a) 0
  if ones u = 0 then (s, f)
  else if ones u = 1 then ({ s with mesh := { s.mesh with corrected := satInc s.mesh.corrected } }, f)
  else ({ s with mesh := { s.mesh with poisoned := satInc s.mesh.poisoned } },
    { f with poisoned := true, words := f.words.zipIdx.map (fun w => w.1 ^^^ u.extractLsb' (64 * w.2) 64) })

/-- A flit at an input: checked, then routed. -/
def State.enterRouter (s : State) (v : VariantImage) (us : List FlitUpset) (b : BitVec 1024) (rep e now k input : Nat) (f : Flit) : State :=
  let c := s.checkFlit us e k input f
  c.1.routeFlit v (c.1.routerEntry v b rep e k) now k input c.2

/-- A flit that has arrived: at a router input, at a unit, at an attachment. -/
def State.flitArrives (s : State) (v : VariantImage) (us : List FlitUpset) (b : BitVec 1024) (rep e now : Nat) (f : Flit) : State :=
  match f.dest with
  | .router k i => s.enterRouter v us b rep e now k i f
  | .unit k => s.updSite k (fun r => { r with inbox := r.inbox ++ f.words, poisonIn := r.poisonIn || f.poisoned })
  | .attachment c => { s with mesh := { s.mesh with arrived := s.mesh.arrived.upd [] c (· ++ [(f.words, f.poisoned)]) } }

/-- A site with words for the router sends one flit of up to four in an NCLK in which an output names its local input (R170, R172). -/
def State.localFlit (s : State) (v : VariantImage) (us : List FlitUpset) (b : BitVec 1024) (rep e now k : Nat) : State :=
  let x := s.routerEntry v b rep e k
  if (List.range 6).all (fun o => decide (inputOf x o ≠ 5)) then s
  else (s.updSite k (fun r => { r with outbox := r.outbox.drop 4, outOld := r.outOld - 4 })).enterRouter v us b rep e now k 5
    { dest := .router k 5, due := now, words := (s.site k).outbox.take 4 }

/-- The half a flit is bound for. -/
def FlitTo.half : FlitTo → Half
  | .router k _ => siteHalf k
  | .unit k => siteHalf k
  | .attachment c => match attachOf c with | some a => a.half | none => .west

/-- NCLK e of a beat of a half: every flit that arrives in it moves on (R171). -/
def State.nclk (s : State) (v : VariantImage) (h : Half) (us : List FlitUpset) (b : BitVec 1024) (rep e : Nat) : State :=
  let now := s.eng.clkOf h + e * nclkTime s.clk.plan h
  let here := fun (f : Flit) => decide (f.dest.half = h ∧ f.due ≤ now)
  let senders := (s.sites.entries {}).filterMap (fun k => if siteHalf k.1 = h ∧ k.2.outbox ≠ [] then some k.1 else none)
  let s1 := { s with mesh := { s.mesh with flits := s.mesh.flits.filter (fun f => !here f) } }
  let s2 := (s.mesh.flits.filter here).foldl (fun (t : State) f => t.flitArrives v us b rep e now f) s1
  senders.foldl (fun (t : State) k => t.localFlit v us b rep e now k) s2

/-- The 16 NCLK of a beat. -/
def State.meshBeat (s : State) (v : VariantImage) (h : Half) (us : List FlitUpset) (b : BitVec 1024) (rep : Nat) : State :=
  (List.range 16).foldl (fun (t : State) e => t.nclk v h us b rep e) s

/-- The end of a slot (R172): words that a site handed to its router before the slot began, and that no output took in it, are discarded and
counted as the flits they fill (log entry 44). -/
def State.dropOld (s : State) : State :=
  let t := { s with sites := s.sites.mapVals {} (fun _ r => { r with outbox := r.outbox.drop r.outOld, outOld := r.outbox.length - r.outOld }) }
  t.dropFlits ((s.sites.entries {}).foldl (fun (n : Nat) e => n + (min e.2.outOld e.2.outbox.length + 3) / 4) 0)

/-! ## Where issue stands -/

/-- The index and repetition of a half. -/
def State.issueAt (s : State) (h : Half) : Nat × Nat :=
  match h with
  | .west => (s.eng.idxW, s.eng.repW)
  | .east => (s.eng.idxE, s.eng.repE)

/-- The index and repetition of a half set. -/
def State.setIssue (s : State) (h : Half) (idx rep : Nat) : State :=
  match h with
  | .west => { s with eng := { s.eng with idxW := idx, repW := rep } }
  | .east => { s with eng := { s.eng with idxE := idx, repE := rep } }

/-- The body a half issues. -/
def Bank.body (b : Bank) (h : Half) : List (BitVec 1024) := match h with | .west => b.west | .east => b.east

/-- The slot after the one that ends: the fill slots first, then the slots of the step; hold slots count for nothing (R138, R140, R176). -/
def Eng.nextSlot (e : Eng) : Eng :=
  let e1 := { e with idxW := 0, repW := 0, idxE := 0, repE := 0 }
  if e.state = 0 then e1
  else if e.state = 1 then
    { e1 with slotCount := e.slotCount + 1, fillLeft := e.fillLeft - 1, state := if e.fillLeft ≤ 1 then 2 else 1 }
  else { e1 with slotCount := e.slotCount + 1, slot := e.slot + 1 }

/-- The time of a half moved on by a beat. -/
def Eng.tickBeat (e : Eng) (plan : BitVec 2) (h : Half) : Eng :=
  match h with
  | .west => { e with clkW := e.clkW + 16 * nclkTime plan .west }
  | .east => { e with clkE := e.clkE + 16 * nclkTime plan .east }

/-- Issue moved on by one beat of a half; the slot ends when both halves have issued their bodies (R134). -/
def State.moveIssue (s : State) (h : Half) (r : Nat) : State :=
  let at_ := s.issueAt h
  let s0 := { s with eng := { s.eng.tickBeat s.clk.plan h with fresh := false } }
  let s1 := if at_.2 < r then s0.setIssue h at_.1 (at_.2 + 1) else s0.setIssue h (at_.1 + 1) 0
  let k := s1.bank s1.eng.bank
  if k.west.length ≤ s1.eng.idxW ∧ k.east.length ≤ s1.eng.idxE then ({ s1 with eng := s1.eng.nextSlot }).dropOld else s1

/-! ## Bundle faults (R142, Table 10.1) -/

/-- A body reloaded from the variant image stored for its slot. -/
def State.reloadBody (s : State) (h : Half) : State :=
  match (s.var (s.bank s.eng.bank).slot).img with
  | none => s
  | some v => s.updBank s.eng.bank (fun k => match h with | .west => { k with west := v.west } | .east => { k with east := v.east })

/-- A bundle fault: the bundle is not issued, the step aborted, the fault counted and logged, the body reloaded; three within 64 ticks
set device_fault and hold the engine. -/
def State.bundleFault (s : State) (h : Half) : State :=
  let recent := s.eng.faultTimes.filter (fun t => decide ((s.time - t).toNat < 64 * 2 ^ 20))
  let s1 := ({ s with eng := { s.eng with
      eccFaults := satInc s.eng.eccFaults, faultTimes := (s.time :: recent).take 3 } }).log 0x05 0 0 0x1F 0 1
  let s2 := s1.reloadBody h
  let s3 := (s2.abortStep false).setIssue h 0 0
  if 2 ≤ recent.length then s3.noMajority else s3

/-! ## BUNDLE_ISSUE -/

/-- Whether a half may issue its next beat: both halves issue in the same device time, so neither runs ahead of the other (R134). -/
def Eng.halfDue (e : Eng) (h : Half) : Bool :=
  match h with
  | .west => decide (e.clkW ≤ e.clkE)
  | .east => decide (e.clkE ≤ e.clkW)

/-- Whether the engine has bundles to issue: steps, or hold slots of a running bank; not in a pause, after an abort, or in a step that a
member slips (R29, R142, R176, R347). A stall stops issue, but not the decoding of the next bundle (R187). -/
def State.decodes (s : State) : Bool :=
  s.running && s.boot.ready && !s.fab.slipping &&
  decide (s.eng.state = 0 ∨ s.eng.state = 1 ∨ (s.eng.state = 2 ∧ (match s.runImg with | some v => decide (s.eng.slot < v.lanes) | none => false) = true))

/-- Whether the engine issues bundles. -/
def State.issues (s : State) : Bool := s.decodes && !s.sync.stalled

/-- The bundle delivered to its half: what the units there act on until the next beat (R135). -/
def State.deliverBundle (s : State) (h : Half) (b : BitVec 1024) : State :=
  let e := s.eng
  let x : Beat := { bundle := b, rep := (s.issueAt h).2, slot := e.slot, fillLeft := e.fillLeft, slotCount := e.slotCount, steps := e.state != 0 }
  { s with eng := match h with
    | .west => { e with beatW := some x }
    | .east => { e with beatE := some x } }

/-- A decoded bundle issued in its repetition. -/
def State.issueBundle (s : State) (v : VariantImage) (h : Half) (us : List FlitUpset) (b : BitVec 1024) : State :=
  ((s.deliverBundle h b).meshBeat v h us b (s.issueAt h).2).moveIssue h (headerOf b).rep

/-- A stored bundle decoded when its first repetition issues (R142, R146); in a stall only a bundle fault has an effect (R187). -/
def State.decodeIssue (s : State) (v : VariantImage) (h : Half) (us : List FlitUpset) (stored flips : BitVec 1024) : State :=
  let first := decide ((s.issueAt h).2 = 0)
  match decodeBundle (if first then stored ^^^ flips else stored) with
  | none => s.bundleFault h
  | some d =>
    if (headerOf d.1).var ≠ (s.bank s.eng.bank).slot then s.bundleFault h
    else if s.sync.stalled then s
    else (if d.2 then { s with eng := { s.eng with eccCorrected := satInc s.eng.eccCorrected } } else s).issueBundle v h us d.1

/-- One beat of a half in a clock quiesce (R139): when every half whose rate changes has had its two beats, the rates are the new variant's
and the fill begins. -/
def State.quietBeat (s : State) (v : VariantImage) (h : Half) : State :=
  let e := match h with
    | .west => { s.eng with quietW := s.eng.quietW - 1, fresh := false }
    | .east => { s.eng with quietE := s.eng.quietE - 1, fresh := false }
  if e.quietW = 0 ∧ e.quietE = 0 then
    { s with clk := { s.clk with plan := v.plan }, eng := { e with state := if 0 < e.fillLeft then 1 else 2 } }
  else { s with eng := e }

/-- BUNDLE_ISSUE: one beat of a half, with its next bundle; `flips` are the bits that read wrong when it is fetched, `upsets` those of
flits at router inputs in the beat. A half whose body is done, or that is ahead, waits for the other; a beat of a clock quiesce carries no
bundle. -/
def execBundleIssue (h : Half) (flips : BitVec 1024) (upsets : List FlitUpset) (s : State) : Out :=
  act {
      clk := true, thm := true, sites := true, banks := true, eng := true, cur := true, nxt := true, mesh := true, sync := true, seqs := true,
      flt := true, fab := true, chans := true, hif := true } (fun s =>
    match s.runImg, ((s.bank s.eng.bank).body h)[(s.issueAt h).1]? with
    | some v, some b =>
      if s.eng.state = 4 then s.quietBeat v h
      else if s.decodes && s.eng.halfDue h then s.decodeIssue v h upsets b flips else s
    | _, _ => s) s

end Sys2Proof.Machine
end

