-- ==== Sys2Proof/Machine/ArrayUnits.lean ====
section
/-! DEFINITION. The operations of weight tiles (chapter 02): array cycles and sweeps, promotion, reduction, merges, conversion, and the
residue checks on them (R293–R296). -/

namespace Sys2Proof.Machine

/-! ## Array cycles (R42, R46, R47, R294) -/

/-- The 64 rows of a row group whose activation bit in a plane is 1. -/
def State.activeRows (s : State) (k act m rg plane : Nat) : List Nat :=
  ((List.range 64).map (· + 64 * rg)).filter (fun r => (s.mem.read (siteBase k + 0x4000 * act + 1024 * m + r)).getLsbD plane)

/-- S of a column: the rows of the list whose cell reads 1 (R35, R42). -/
def State.colCount (s : State) (k p : Nat) (rows : List Nat) (c : Nat) : Nat :=
  rows.countP (fun r => (Memory.read s.cells (cellKey k p r (c / 8))).getLsbD (c % 8))

/-- The plane partial of the weight at a column from the counts and the plane popcount (Table 2.2). -/
def planePartial (fmt : Nat) (S : Nat → Nat) (pop c : Nat) : Int :=
  match fmt with
  | 1 => 2 * S c - pop
  | 2 => (S c : Int) - S (c + 1)
  | 3 => 4 * S (c + 1) + 2 * S c - 3 * pop
  | 4 => 16 * S (c + 3) + 8 * S (c + 2) + 4 * S (c + 1) + 2 * S c - 15 * pop
  | _ => 0

/-- The weight of an activation plane (R46); INT4 has planes 0 to 3. -/
def planeWeight (int4 uns : Bool) (i : Nat) : Option Int :=
  if int4 then (if i < 3 then some (2 ^ i : Nat) else if i = 3 then some (-8) else none)
  else if i < 7 then some (2 ^ i : Nat) else some (if uns then 128 else -128)

/-- The keys of ACC24 and ACC48 registers, and of their shadows. -/
def key24 (k l b c : Nat) : Nat := ((k * 16 + l) * 2 + b) * 2048 + c
/-- The key of an ACC48 register. -/
def key48 (k l c : Nat) : Nat := (k * 16 + l) * 2048 + c

/-- A value mod 7, 0 to 6 (R295). -/
def mod7 (x : Int) : Nat := (x % 7).toNat

/-- A value added into an ACC24 with its shadow; one that does not fit leaves a free value and reports it (R54). -/
def State.add24 (s : State) (key : Nat) (x : Int) (sh : Nat) : State × Bool :=
  let v := s.acc24.get 0 key + x
  let s1 := { s with shadow := s.shadow.set 0 (2 * key) ((s.shadow.get 0 (2 * key) + sh) % 7) }
  if -(2 ^ 23) ≤ v ∧ v < 2 ^ 23 then ({ s1 with acc24 := s1.acc24.set 0 key v }, false)
  else
    let f := s1.free
    ({ f.2 with acc24 := f.2.acc24.set 0 key (f.1.truncate 24).toInt }, true)

/-- A value set into an ACC48 with its shadow, likewise. -/
def State.set48 (s : State) (key : Nat) (v : Int) (sh : Nat) : State × Bool :=
  let s1 := { s with shadow := s.shadow.set 0 (2 * key + 1) (sh % 7) }
  if -(2 ^ 47) ≤ v ∧ v < 2 ^ 47 then ({ s1 with acc48 := s1.acc48.set 0 key v }, false)
  else
    let f := s1.free
    ({ f.2 with acc48 := f.2.acc48.set 0 key (f.1.truncate 48).toInt }, true)

/-- A value added into an ACC48 with its shadow. -/
def State.add48 (s : State) (key : Nat) (x : Int) (sh : Nat) : State × Bool :=
  s.set48 key (s.acc48.get 0 key + x) (s.shadow.get 0 (2 * key + 1) + sh)

/-- The check groups of a quarter whose counts disagree with their check columns (R294). -/
def cycleMismatch (S : Nat → Nat) (q : Nat) : Option Nat :=
  ((List.range 4).map (· + 4 * q)).find? (fun g =>
    decide (((List.range 128).foldl (fun (a : Nat) i => a + S (128 * g + i)) 0) % 7 ≠
      (S (2048 + 3 * g) + 2 * S (2049 + 3 * g) + 4 * S (2050 + 3 * g)) % 7))

/-- One array cycle of a logical array: its plane partials, times the plane weight, added to ACC24 bank `b` (R47). -/
def State.arrayCycle (s : State) (k l fmt m rg q plane b act : Nat) (w : Int) : State :=
  let p := (s.site k).physOf l
  let rows := s.activeRows k act m rg plane
  if rows.isEmpty then s
  else
    let S := s.colCount k p rows
    let n := fmtCols fmt
    let r := (List.range (512 / n)).foldl (fun (a : State × Bool) j =>
      let c := 512 * q + n * j
      let u := planePartial fmt S rows.length c
      if u = 0 then a
      else
        let x := a.1.add24 (key24 k l b c) (u * w) ((mod7 u * mod7 w) % 7)
        (x.1, a.2 || x.2)) (s, false)
    let s1 := if r.2 then r.1.fault k p 0x03 0 else r.1
    match cycleMismatch S q with
    | some g => s1.fault k p 0x01 g
    | none => s1

/-- The cycles of one operation, in order: row group, quarter and plane. -/
def State.arrayCycles (s : State) (k l : Nat) (f : ArrayField) (cycles : List (Nat × Nat × Nat)) : State :=
  let r := s.scoreAt k
  let fmt := arrayFmt r.tafmt l
  let uns := decide (f.sign = 1) || (decide (f.sign = 2) && decide (s.kindAt k = 3))
  if fmt = 0 ∨ !(f.lmask.getLsbD l) then s
  else cycles.foldl (fun (t : State) c => match planeWeight (f.actFmt == 6) uns c.2.2 with
    | some w => t.arrayCycle k l fmt (l % 2 ^ stackLog r.tmode) c.1 c.2.1 c.2.2 (bankOf f.accBank (s.parity k)) (bankOf f.actBank (s.parity k)) w
    | none => t) s

/-- The run in an ACC24 bank, numbered by the promotions before it (R50). -/
def SiteSt.runTag (r : SiteSt) (b : Nat) : Nat := if b = 0 then 2 * r.promotes0 else 2 * r.promotes1 + 1

/-- An array operation over every logical array it names; the activation bank of the run is kept for its conversion (R56). -/
def State.arrayOp (s : State) (k : Nat) (f : ArrayField) (cycles : List (Nat × Nat × Nat)) : State :=
  let act := bankOf f.actBank (s.parity k)
  let s0 := s.readPoison k (siteBase k + 0x4000 * act) 0x4000
  let b := bankOf f.accBank (s.parity k)
  let s1 := s0.updSite k (fun r => { r with
    run0 := if b = 0 then act else r.run0, run1 := if b = 0 then r.run1 else act, runNow := r.runTag b })
  (List.range 16).foldl (fun (t : State) l => t.arrayCycles k l f cycles) s1

/-- Whether an array field is legally encoded for MAC (1) or SWEEP (2) (R13, Table 5.6). -/
def arrayFieldOk (op : Nat) (f : ArrayField) : Bool :=
  (f.actFmt == 5 || f.actFmt == 6) && f.sign != 3 && (f.sign != 1 || f.actFmt == 5) &&
  (decide (op = 1) || (f.plane == 0 && f.aclk == 0 && (f.actFmt == 5 || f.q == 0 || f.q == 2)))

/-- MAC: one array cycle. -/
def execMac (site : Nat) (f : ArrayField) (s : State) : Out :=
  act { freeCount := true, acc24 := true, shadow := true, sites := true, cur := true, nxt := true, flt := true } (fun s =>
      if s.doesArray site 1 f && arrayFieldOk 1 f then s.arrayOp site f [(f.rg.toNat, f.q.toNat, f.plane.toNat)] else s) s

/-- The cycles of a SWEEP (Table 2.4). -/
def sweepCycles (f : ArrayField) : List (Nat × Nat × Nat) :=
  if f.actFmt = 6 then
    (List.range 4).map (fun i => (f.rg.toNat, f.q.toNat, i)) ++ (List.range 4).map (fun i => (f.rg.toNat, f.q.toNat + 1, i))
  else (List.range 8).map (fun i => (f.rg.toNat, f.q.toNat, i))

/-- SWEEP: all planes of one row group and quarter, or of a pair of quarters for INT4. -/
def execSweep (site : Nat) (f : ArrayField) (s : State) : Out :=
  act { freeCount := true, acc24 := true, shadow := true, sites := true, cur := true, nxt := true, flt := true } (fun s =>
      if s.doesArray site 2 f && arrayFieldOk 2 f then s.arrayOp site f (sweepCycles f) else s) s

/-! ## Accumulators (R49, R55, R149, R295, R296) -/

/-- The columns of a block of registers that a store lists. -/
def listed (lo : Nat) (m : Sparse Int) : List Nat :=
  (m.filter (fun e => decide (lo ≤ e.1 ∧ e.1 < lo + 2048))).map (fun e => e.1 - lo)

/-- A register whose value mod 7 is not its shadow faults the array (R296). -/
def State.checkShadow (s : State) (k l : Nat) (v : Int) (sh : Nat) : State :=
  if mod7 v = sh then s else s.fault k ((s.site k).physOf l) 0x02 0

/-- An overflow of an accumulator faults the array (R54). -/
def State.orFault (r : State × Bool) (k l : Nat) : State := if r.2 then r.1.fault k ((r.1.site k).physOf l) 0x03 0 else r.1

/-- How a PROMOTE acts for a lane kind: shift by 8, and add in place of set (R52, Table 5.7); none is reserved. -/
def promoteMode (f : AccField) (kind : Nat) : Option (Bool × Bool) :=
  if f.mode = 0 then some (f.shift8, false)
  else if f.mode = 1 then some (f.shift8, true)
  else if f.mode = 2 then
    some (decide (kind = 2), decide (kind = 3 ∨ kind = 5))
  else none

/-- One column promoted: checked before the shift, set or added into ACC48, its ACC24 cleared. -/
def State.promoteCol (s : State) (k l b : Nat) (shift add : Bool) (c : Nat) : State :=
  let a := key24 k l b c
  let v := s.acc24.get 0 a
  let sh := s.shadow.get 0 (2 * a)
  let s1 := s.checkShadow k l v sh
  let x := if shift then v * 256 else v
  let y := sh * (if shift then 4 else 1)
  let r := if add then s1.add48 (key48 k l c) x y else s1.set48 (key48 k l c) x y
  let s2 := State.orFault r k l
  { s2 with acc24 := s2.acc24.set 0 a 0, shadow := s2.shadow.set 0 (2 * a) 0 }

/-- PROMOTE over every logical array and column of a tile. -/
def State.promoteTile (s : State) (k b : Nat) (shift add : Bool) : State :=
  let s1 := (List.range 16).foldl (fun (t : State) l =>
    ((listed (key24 k l b 0) t.acc24 ++ listed (key48 k l 0) t.acc48).eraseDups).foldl
      (fun (u : State) c => u.promoteCol k l b shift add c) t) (s.updSite k (fun r => { r with runNow := r.runTag b }))
  s1.updSite k (fun r => { r with
    promoted := if b = 0 then r.run0 else r.run1
    promotes0 := if b = 0 then r.promotes0 + 1 else r.promotes0, promotes1 := if b = 0 then r.promotes1 else r.promotes1 + 1 })

/-- REDUCE: members 1 to k − 1 of every stack group added into member 0. -/
def State.reduceTile (s : State) (k : Nat) : State :=
  let n := 2 ^ stackLog (s.scoreAt k).tmode
  (List.range (16 / n)).foldl (fun (t : State) g => (List.range (n - 1)).foldl (fun (u : State) m =>
    let l := g * n + m + 1
    (listed (key48 k l 0) u.acc48).eraseDups.foldl (fun (w : State) c =>
      let v := w.acc48.get 0 (key48 k l c)
      let sh := w.shadow.get 0 (2 * key48 k l c + 1)
      State.orFault ((w.checkShadow k l v sh).add48 (key48 k (g * n) c) v sh) k (g * n)) u) t) s

/-- In a lane that holds the first of two runs, nothing follows the promotion (R149). -/
def heldBack (kind : Nat) : Bool := decide (kind = 2 ∨ kind = 4)

/-- PROMOTE (R49, R149). -/
def execPromote (site : Nat) (f : AccField) (s : State) : Out :=
  act { freeCount := true, acc24 := true, acc48 := true, shadow := true, sites := true, cur := true, nxt := true, flt := true } (fun s =>
      match promoteMode f (s.kindAt site) with
    | some m => if s.doesAcc site 1 f then s.promoteTile site (bankOf f.bank (s.parity site)) m.1 m.2 else s
    | none => s) s

/-- PROMOTE_REDUCE: PROMOTE, then REDUCE where it is not suppressed. -/
def execPromoteReduce (site : Nat) (f : AccField) (s : State) : Out :=
  act { freeCount := true, acc24 := true, acc48 := true, shadow := true, sites := true, cur := true, nxt := true, flt := true } (fun s =>
      match promoteMode f (s.kindAt site) with
    | some m =>
      if s.doesAcc site 2 f then
        let s1 := s.promoteTile site (bankOf f.bank (s.parity site)) m.1 m.2
        if heldBack (s.kindAt site) then s1 else s1.reduceTile site
      else s
    | none => s) s

/-- REDUCE. -/
def execReduce (site : Nat) (f : AccField) (s : State) : Out :=
  act { freeCount := true, acc48 := true, shadow := true, sites := true, cur := true, nxt := true, flt := true } (fun s =>
      if s.doesAcc site 3 f && !(heldBack (s.kindAt site)) then s.reduceTile site else s) s

/-- The home of tile output channel o: logical array, column and format (R49, R59). Where the stack groups of one tile hold different
formats, the ranges R49 gives them may overlap or leave gaps, and the spec does not say which group holds a channel: DESIGN CHOICE, the
lowest group whose range holds it (log entry 69). -/
def chanPlace (mode afmt : W64) (o : Nat) : Option (Nat × Nat × Nat) :=
  let n := 2 ^ stackLog mode
  (List.range (16 / n)).findSome? (fun g =>
    let f := groupFmt mode afmt g
    let w := 2048 / fmtCols f
    if f ≠ 0 ∧ g * w ≤ o ∧ o < (g + 1) * w then some (g * n, fmtCols f * (o - g * w), f) else none)

/-- The ACC48 value of a partial word, none where bits [63:48] do not repeat bit 47 (R55). -/
def partialValue (w : W64) : Option Int :=
  let v := (w.truncate 48).toInt
  if w = BitVec.ofInt 64 v then some v else none

/-- A partial word added into a channel's ACC48: one that is no proper sign extension faults the tile and leaves a free value. -/
def State.mergeWord (s : State) (k o : Nat) (w : W64) : State :=
  let r := s.scoreAt k
  match chanPlace r.tmode r.tafmt o with
  | none => s
  | some (l, c, _) =>
    match partialValue w with
    | some v => State.orFault (s.add48 (key48 k l c) v (mod7 v)) k l
    | none =>
      let f := s.free
      ({ f.2 with acc48 := f.2.acc48.set 0 (key48 k l c) (f.1.truncate 48).toInt }).fault k ((s.site k).physOf l) 0x03 0

/-- MERGE: the words the route has delivered added channel by channel. -/
def execMerge (site : Nat) (f : AccField) (s : State) : Out :=
  act { freeCount := true, acc48 := true, shadow := true, sites := true, cur := true, nxt := true, flt := true } (fun s =>
    if s.doesAcc site 4 f && !(heldBack (s.kindAt site)) then
      let ws := (s.site site).inbox.take (f.count.toNat + 1)
      let s1 := (s.updSite site (fun r => { r with inbox := r.inbox.drop (f.count.toNat + 1) })).takePoison site
      ws.zipIdx.foldl (fun (t : State) w => t.mergeWord site (f.base.toNat + w.2) w.1) s1
    else s) s

/-- The channels an accumulator field names. -/
def channelsOf (f : AccField) : List Nat := (List.range (f.count.toNat + 1)).map (· + f.base.toNat)

/-- EMIT of one channel: its ACC48 checked and sent as a partial word. -/
def State.emitChan (s : State) (k o : Nat) : State :=
  let r := s.scoreAt k
  match chanPlace r.tmode r.tafmt o with
  | none => s
  | some (l, c, _) =>
    let v := s.acc48.get 0 (key48 k l c)
    (s.checkShadow k l v (s.shadow.get 0 (2 * key48 k l c + 1))).toRouter k [BitVec.ofInt 64 v]

/-- EMIT. -/
def execEmit (site : Nat) (f : AccField) (s : State) : Out :=
  act { sites := true, cur := true, nxt := true, flt := true } (fun s =>
    if s.doesAcc site 5 f && !(heldBack (s.kindAt site)) then (channelsOf f).foldl (fun (t : State) o => t.emitChan site o) s else s) s

/-! ## The conversion point (R56) -/

/-- The output format of a tile (Table 2.7). -/
def outFmt (mode : W64) : FFmt :=
  match bits mode 15 12 with
  | 1 => bf16
  | 2 => fp16
  | 3 => e4m3
  | 4 => e5m2
  | _ => fp32

/-- The bytes of an encoding of a format. -/
def FFmt.bytes (f : FFmt) : Nat := (f.eb + f.mb + 1) / 8

/-- y of R56 for an ACC48, a channel scale, a token scale and an array format: rounded once. -/
def convertValue (out : FFmt) (acc : Int) (sc st : Nat) (fmt : Nat) : Nat :=
  let a := bf16.val sc
  let b := fp32.val st
  let neg := if acc = 0 then false else (decide (acc < 0) != bf16.neg sc) != fp32.neg st
  out.round neg (acc * a.m * b.m) 1 (a.e + b.e + (if fmt = 3 ∨ fmt = 4 then -1 else 0))

/-- CONVERT of one channel: the partial buffer's word merged first where it is asked for, the register checked, rounded once. A scale
that is not finite is a format fault, and the value a free finite one (R77, R78). -/
def State.convertChan (s : State) (k buf : Nat) (f : AccField) (o : Nat) : State × List Byte :=
  let r := s.scoreAt k
  match chanPlace r.tmode r.tafmt o with
  | none => (s, [])
  | some (l, c, fmt) =>
    let at_ := siteBase k + r.addrs.getD ((f.areg.toNat + buf) % 64) 0 + 8 * (o - f.base.toNat)
    let s1 := if f.mergeIn then
        (s.readPoison k at_ 8).mergeWord k o (BitVec.ofNat 64 (s.mem.readLE at_ 8))
      else s
    let v := s1.acc48.get 0 (key48 k l c)
    let s2 := s1.checkShadow k l v (s1.shadow.get 0 (2 * key48 k l c + 1))
    let sc := s2.mem.readLE (siteBase k + 0x8000 + 2 * o) 2
    let st := s2.mem.readLE (siteBase k + 0x18000 + 8 * (s2.site k).promoted) 4
    let out := outFmt r.tmode
    if bf16.finite sc && fp32.finite st then (s2, leBytes out.bytes (convertValue out v sc st fmt))
    else
      let x := (s2.formatFault k).free
      (x.2, leBytes out.bytes (out.anyFinite x.1))

/-- Words the route has delivered fill the partial buffer of a CONVERT that merges it (R150; log entry 32). -/
def State.fillBuffer (s : State) (k buf : Nat) (f : AccField) : State :=
  let ws := ((s.site k).inbox).take (f.count.toNat + 1)
  if !f.mergeIn || ws.isEmpty then s
  else
    let s1 := (s.updSite k (fun r => { r with inbox := r.inbox.drop (f.count.toNat + 1) })).takePoison k
    s1.wrBytes (siteBase k + (s.scoreAt k).addrs.getD ((f.areg.toNat + buf) % 64) 0) (ws.flatMap (fun w => leBytes 8 w.toNat))

/-- CONVERT: the named channels converted and handed to the router. -/
def execConvert (site : Nat) (f : AccField) (s : State) : Out :=
  act {
      freeCount := true, mem := true, host := true, poison := true, acc48 := true, shadow := true, sites := true, cur := true, nxt := true,
      flt := true } (fun s =>
    if s.doesAcc site 6 f && !(heldBack (s.kindAt site)) then
      let buf := bankOf f.buf (s.parity site)
      let r := (channelsOf f).foldl (fun (a : State × List Byte) o =>
        let x := a.1.convertChan site buf f o
        (x.1, a.2 ++ x.2)) (s.fillBuffer site buf f, [])
      r.1.toRouter site (wordsOf r.2)
    else s) s

/-- CLEAR: every ACC48 of the tile and its shadow set to zero. -/
def execClear (site : Nat) (f : AccField) (s : State) : Out :=
  act { acc48 := true, shadow := true } (fun s =>
    if s.doesAcc site 7 f then
      let lo := key48 site 0 0
      let mine := fun (a : Nat) => decide (lo ≤ a ∧ a < lo + 16 * 2048)
      { s with
        acc48 := Sparse.drop mine s.acc48
        shadow := Sparse.drop (fun a => decide (a % 2 = 1) && mine (a / 2)) s.shadow }
    else s) s

end Sys2Proof.Machine
end

