-- ==== Sys2Proof/Machine/Attention.lean ====
section
/-! DEFINITION. The operations of KV cores and prefill cores (chapter 07): integer forms, exact-sum attention, pages in and out of DRAM,
re-shards, the prefill passes. -/

namespace Sys2Proof.Machine

/-! ## Slices (R201, R202) -/

/-- The bytes of one position's elements in an area. -/
def elemLen (fmt : Nat) : Nat := if isMx fmt then 4 * mxBlockBytes fmt else 128 * elemBytes fmt

/-- Where a position's elements, and its scales where it has them, lie in a head slice: the key area, or the value area (Table 7.4). -/
def vecAt (fmt : Nat) (value : Bool) (p : Nat) : Nat × Nat :=
  let area := 16 * elemLen fmt + (if isMx fmt then 64 else 0)
  let base := if value then area else 0
  (base + p * elemLen fmt, base + 16 * elemLen fmt + 4 * p)

/-- The vector of a position in a slice, as exact values, and whether every one is finite and widens exactly (R79, R83). -/
def State.readVec (s : State) (slice fmt : Nat) (value : Bool) (p : Nat) : List Dy × Bool :=
  let a := vecAt fmt value p
  if isMx fmt then
    let blocks := (List.range 4).flatMap (fun b =>
      let sc := s.mem.read (slice + a.2 + b)
      (mxUnpack fmt (s.mem.readBytes (slice + a.1 + b * mxBlockBytes fmt) (mxBlockBytes fmt))).map (fun e => (mxVal fmt sc e, sc != 0xFF)))
    (blocks.map (·.1), blocks.all (fun e => e.2 && fitsBf16 e.1))
  else
    match fmtOf fmt with
    | none => ([], true)
    | some f =>
      let ws := (List.range 128).map (fun d => s.mem.readLE (slice + a.1 + d * elemBytes fmt) (elemBytes fmt))
      (ws.map f.val, ws.all f.finite)

/-- The bytes of a vector stored in a KV format: elements and scales (R76, R80). -/
def vecEncode (fmt : Nat) (vs : List Dy) : List Byte × List Byte :=
  if isMx fmt then
    let bs := (List.range 4).map (fun b => mxEncode fmt ((vs.drop (32 * b)).take 32))
    (bs.flatMap (fun b => mxPack fmt b.2), bs.map (·.1))
  else
    match fmtOf fmt with
    | none => ([], [])
    | some f => (vs.flatMap (fun v => leBytes (elemBytes fmt) (f.round v.neg v.m 1 v.e)), [])

/-- A vector written at a position of a slice. -/
def State.writeVec (s : State) (slice fmt : Nat) (value : Bool) (p : Nat) (vs : List Dy) : State :=
  let a := vecAt fmt value p
  let e := vecEncode fmt vs
  (s.wrBytes (slice + a.1) e.1).wrBytes (slice + a.2) e.2

/-- The head slice of local frame u and head slot h of a core, and its value exponents. -/
def sliceAt (k : Nat) (m : W64) (u h : Nat) : Nat × Nat :=
  (siteBase k + (u * kvHeads m + h) * sliceBytes (kvFmt m), siteBase k + 0x380000 + 16 * (u * kvHeads m + h))

/-- The value exponent of a position recomputed from its stored value (R202, R205). -/
def State.setExp (s : State) (k : Nat) (m : W64) (u h p : Nat) : State :=
  let at_ := sliceAt k m u h
  s.wrBytes (at_.2 + p) [BitVec.ofInt 8 (intForm (s.readVec at_.1 (kvFmt m) true p).1).1]

/-! ## Lanes and frames of a core -/

/-- The KV head of a head slot. -/
def headNumber (w : W64) : Nat := (w >>> 8).toNat % 256

/-- The local frame in which a core holds page n for a lane's sequence: of a decode core its frame of the page, of a sweep core its page
of the layer of its head slots, or else of any layer (R198, R200, R202). -/
def State.localFrame (s : State) (r : ScoreRec) (q : Seq) (n : Nat) : Option Nat :=
  match s.runImg with
  | none => none
  | some v =>
    if kvRole r.kvMode = 1 then
      (match s.frameOf q n with
       | some f => if f % kvK r.kvMode = kvGidx r.kvMode ∧ (s.frame f).life = 1 then some (f / kvK r.kvMode) else none
       | none => none)
    else if kvRole r.kvMode = 2 then
      let mine := q.sweep.filterMap (fun e => match sweepPlace (v.kvCores 2) e.2.2 with
        | some x => if e.1 = n ∧ x.1 = r.site ∧ (s.sweepPage e.2.2).life = 1 then some (e.2.1, x.2) else none
        | none => none)
      match mine.find? (fun e => decide (e.1 = headLayer (r.kvHeads.getD 0 0))) with
      | some e => some e.2
      | none => mine.head?.map (·.2)
    else none

/-- The positions of a lane's key set that a core holds: each with its local frame and its place in the page (R212). -/
def State.keySet (s : State) (r : ScoreRec) (l : Lane) : List (Nat × Nat × Nat) :=
  let q := s.seq l.idx
  (List.range (l.pos / 16 + 1)).flatMap (fun n => match s.localFrame r q n with
    | some u => ((List.range 16).filter (fun p => decide (16 * n + p ≤ l.pos))).map (fun p => (16 * n + p, u, p))
    | none => [])

/-- An operand address of a site: an offset in its own window, or a device-local address (Table 5.3). -/
def State.operandAt (s : State) (k : Nat) (areg : BitVec 6) : Nat :=
  let a := (s.scoreAt k).addrs.getD areg.toNat 0
  if a < 0x800000 then siteBase k + a else a

/-- A KV core's scratch. -/
def State.kv (s : State) (k : Nat) : KvScratch := s.kvs.get {} k
/-- A KV core's scratch changed by `f`. -/
def State.updKv (s : State) (k : Nat) (f : KvScratch → KvScratch) : State := { s with kvs := s.kvs.upd {} k f }

/-- An element of a list set, the list extended with `d` where it is too short. -/
def setAt {α : Type} (d : α) (l : List α) (i : Nat) (x : α) : List α :=
  (l ++ List.replicate (i + 1 - l.length) d).set i x

/-- The query format of a partition (R395). -/
def State.queryFmt (s : State) (p : Nat) : Nat := (s.cfg p).queryFmt.toNat

/-- Free INT8 elements with a free exponent, for a vector that is not finite. -/
def State.freeForm (s : State) (n : Nat) : (Int × List Int) × State :=
  ((((Config.freeValue s.freeCount).truncate 8).toInt,
    (List.range n).map (fun i => ((Config.freeValue (s.freeCount + 1 + i)).truncate 8).toInt)),
   { s with freeCount := s.freeCount + 1 + n })

/-- The integer form of a vector of encodings; a non-finite one is a format fault and its form is free (R78, R205). -/
def State.formOf (s : State) (k : Nat) (f : FFmt) (ws : List Nat) : (Int × List Int) × State :=
  if ws.all f.finite then (intForm (ws.map f.val), s) else (s.formatFault k).freeForm ws.length

/-- The integer forms of a list of vectors. -/
def State.formsOf (s : State) (k : Nat) (f : FFmt) (vs : List (List Nat)) : List (Int × List Int) × State :=
  vs.foldl (fun (a : List (Int × List Int) × State) v =>
    let r := a.2.formOf k f v
    (a.1 ++ [r.1], r.2)) ([], s)

/-! ## KV core operations (Table 7.7) -/

/-- The bytes that words of the route carry. -/
def wordBytes (ws : List W64) : List Byte := ws.flatMap (fun w => leBytes 8 w.toNat)

/-- `n` vectors of 128 elements in a format, taken from the words a site has received (R170): the encodings, and the state without them. -/
def State.takeVecs (s : State) (k n : Nat) (f : FFmt) (bytes : Nat) : List (List Nat) × State :=
  let words := (n * 128 * bytes + 7) / 8
  let bs := wordBytes ((s.site k).inbox.take words)
  let es := (chunksOf bytes (n * 128) bs).map (fun e => ofLE e % 2 ^ (f.eb + f.mb + 1))
  (((chunksOf 128 n es).take n).filter (fun v => !v.isEmpty),
   (s.takePoison k).updSite k (fun r => { r with inbox := r.inbox.drop words }))

/-- QLOAD: the query vectors of a head slot taken from the route, in query format, and put into integer form. -/
def execQload (site : Nat) (f : KvField) (s : State) : Out :=
  act { freeCount := true, sites := true, cur := true, nxt := true, kvs := true } (fun s =>
    if !(s.doesKv site 1 f) then s
    else
      let code := s.queryFmt (match s.laneAt site with | some l => l.owner | none => 31)
      match fmtOf code with
      | none => s
      | some q =>
        let v := s.takeVecs site (kvG (s.scoreAt site).kvMode) q (elemBytes code)
        let r := v.2.formsOf site q v.1
        r.2.updKv site (fun x => { x with q := setAt [] x.q f.head.toNat r.1 })) s

/-- KVAPPEND: the lane's key and value of a head slot written at its position, with the value exponent. -/
def execKvappend (site : Nat) (f : KvField) (key value : List W32) (s : State) : Out :=
  act { mem := true, host := true, poison := true, sites := true, cur := true, nxt := true } (fun s =>
    if !(s.doesKv site 2 f) then s
    else
      match s.laneAt site with
      | none => s
      | some l =>
        let r := s.scoreAt site
        let q := s.seq l.idx
        match s.localFrame r q (l.pos / 16) with
        | none => s
        | some u =>
          if kvHeads r.kvMode ≤ f.head.toNat then s
          else
            let s1 := s.takePoison site
            let slice := (sliceAt site r.kvMode u f.head.toNat).1
            let p := l.pos % 16
            if key.all finite32 && value.all finite32 then
              let s2 := s1.writeVec slice (kvFmt r.kvMode) false p (key.map (fun x => fp32.val x.toNat))
              let s3 := s2.writeVec slice (kvFmt r.kvMode) true p (value.map (fun x => fp32.val x.toNat))
              s3.setExp site r.kvMode u f.head.toNat p
            else s1.formatFault site) s

/-- Whether a lane's sequence is spread over a ring. -/
def State.ringLane (s : State) (l : Lane) : Bool := decide (2 ≤ (s.seq l.idx).req.ringSize)

/-- How many words the other devices of a ring send a core for one head slot: `per` of each core of its head group in each of them (log entry
34). -/
def State.ringCount (s : State) (k : Nat) (l : Lane) (per : Nat) : Nat :=
  ((s.seq l.idx).req.ringSize - 1) * kvK (s.scoreAt k).kvMode * per

/-- The words of the route that a ring's other devices have sent for a head slot, none where the sequence is on no ring. -/
def State.ringWords (s : State) (k : Nat) (l : Lane) (per : Nat) : List Int :=
  if s.ringLane l then ((s.site k).inbox.take (s.ringCount k l per)).map (fun w => w.toInt) else []

/-- The words of a ring for a head slot taken. -/
def State.dropRing (s : State) (k : Nat) (l : Lane) (per : Nat) : State :=
  if s.ringLane l then s.updSite k (fun r => { r with inbox := r.inbox.drop (s.ringCount k l per) }) else s

/-- What a core computes for a head slot of a ring lane handed to the route for the other devices (R222). -/
def State.sendRing (s : State) (k : Nat) (l : Lane) (xs : List Int) : State :=
  if s.ringLane l then s.toRouter k (xs.map (BitVec.ofInt 64)) else s

/-- The word that stands for no maximum. -/
def noMax : Int := -(2 ^ 63)

/-- A maximum read from its word. -/
def maxOf (x : Int) : Option Int := if x = noMax then none else some x

/-- Pass one over the positions a core holds, for one head slot: scores by query head, with the maxima M and E (R207, R209), which
the other devices of a ring are sent (R222). -/
def State.scoreHead (s : State) (k h : Nat) (sigma : W32) (l : Lane) : State :=
  let r := s.scoreAt k
  let ps := s.keySet r l
  let qs := (s.kv k).q.getD h []
  let keys := ps.map (fun e =>
    let at_ := sliceAt k r.kvMode e.2.1 h
    let v := s.readVec at_.1 (kvFmt r.kvMode) false e.2.2
    (e.1, intForm v.1, v.2, (s.mem.read (at_.2 + e.2.2)).toInt))
  let s1 := if keys.all (fun e => e.2.2.1) then s else s.formatFault k
  let top := maxInt? (keys.map (fun e => e.2.2.2))
  let zs := qs.map (fun q => keys.map (fun e => (e.1, scoreOf sigma q e.2.1)))
  (s1.sendRing k l (zs.flatMap (fun z => [(maxInt? (z.map (·.2))).getD noMax, top.getD noMax]))).updKv k (fun x => { x with
    scores := setAt [] x.scores h zs
    m := setAt [] x.m h (zs.map (fun z => maxInt? (z.map (·.2))))
    e := setAt none x.e h top })

/-- Whether a core's page area is poisoned where a lane's key set lies. -/
def State.poisonedKeys (s : State) (k : Nat) : Bool := s.poisoned (siteBase k) 0x388000

/-- SCORE: pass one; the score scale of the layer is read at the field's address register (log entry 33). -/
def execScore (site : Nat) (f : KvField) (s : State) : Out :=
  act { thm := true, sites := true, eng := true, cur := true, nxt := true, mesh := true, sync := true, kvs := true, seqs := true, flt := true } (fun s =>
    if !(s.doesKv site 3 f) then s
    else
      match s.laneAt site with
      | none => s
      | some l =>
        let a := s.operandAt site f.areg
        let sg : W32 := BitVec.ofNat 32 (s.rdLE a 4)
        if !(s.okUnit site a 4) then s.addressFault site
        else
          let s1 := s.readPoison site (siteBase site) 0x388000
          if !(finite32 sg) then s1.formatFault site else s1.scoreHead site f.head.toNat sg l) s

/-- The cores of a head group: those with the same head slots (R198). -/
def State.headGroup (s : State) (r : ScoreRec) : List ScoreRec :=
  match s.runImg with
  | none => []
  | some v => (v.kvCores 1).filter (fun x => decide (x.kvHeads = r.kvHeads))

/-- Query head `i` of the maxima a ring's words carry: M and E, two words a query head (log entry 34). -/
def ringMax (ws : List Int) (g i : Nat) : Option Int × Option Int :=
  (chunksOf 2 (ws.length + 1) ws).zipIdx.foldl (fun (a : Option Int × Option Int) c =>
    if g ≠ 0 ∧ c.2 % g = i ∧ c.1.length = 2 then (maxOpt a.1 (maxOf (c.1.headD noMax)), maxOpt a.2 (maxOf ((c.1.drop 1).headD noMax))) else a) (none, none)

/-- Query head `i` of the partial sums a ring's words carry: the denominator and 128 numerators a query head. -/
def ringSum (ws : List Int) (g i : Nat) : List Int × Int :=
  (chunksOf 129 (ws.length + 1) ws).zipIdx.foldl (fun (a : List Int × Int) c =>
    if g ≠ 0 ∧ c.2 % g = i ∧ c.1.length = 129 then ((a.1.zip (c.1.drop 1)).map (fun x => x.1 + x.2), a.2 + c.1.headD 0) else a)
    (List.replicate 128 0, 0)

/-- Pass two of one head slot with the head group's M and E, and a ring's: num and den by query head (R209, R210), which the
other devices of a ring are sent (R222). -/
def State.expHead (s : State) (k h : Nat) (l : Lane) : State :=
  let r := s.scoreAt k
  let group := s.headGroup r
  let g := kvG r.kvMode
  let ws := s.ringWords k l (2 * g)
  let e := (group.map (fun x => (s.kv x.site).e.getD h none)).foldl maxOpt ((List.range g).foldl (fun a i => maxOpt a (ringMax ws g i).2) none)
  let ps := s.keySet r l
  let vals := ps.map (fun p =>
    let at_ := sliceAt k r.kvMode p.2.1 h
    let ev := (s.mem.read (at_.2 + p.2.2)).toInt
    let v := s.readVec at_.1 (kvFmt r.kvMode) true p.2.2
    (p.1, ev, v.1.map (fun x => clampInt (-127) 127 (rneScaled x.m 1 (x.e + 6 - ev))), v.2))
  let s1 := if vals.all (fun x => x.2.2.2) then s else s.formatFault k
  let one := fun (i : Nat) =>
    let m := (group.map (fun x => ((s.kv x.site).m.getD h []).getD i none)).foldl maxOpt (ringMax ws g i).1
    let zs := ((s.kv k).scores.getD h []).getD i []
    match m, e with
    | some m, some e =>
      (zs.zip vals).foldl (fun (a : List Int × Int) (t : (Nat × Int) × (Nat × Int × List Int × Bool)) => attendTerm m e a (t.1.2, t.2.2.1, t.2.2.2.1)) (List.replicate 128 0, 0)
    | _, _ => (List.replicate 128 0, 0)
  let sums := (List.range ((s.kv k).q.getD h []).length).map one
  ((s1.dropRing k l (2 * g)).sendRing k l (sums.flatMap (fun x => x.2 :: x.1))).updKv k (fun x => { x with
    num := setAt [] x.num h (sums.map (·.1)), den := setAt [] x.den h (sums.map (·.2)), e := setAt none x.e h e })

/-- EXPSUM: pass two. -/
def execExpsum (site : Nat) (f : KvField) (s : State) : Out :=
  act { sites := true, cur := true, nxt := true, kvs := true, flt := true } (fun s =>
    if !(s.doesKv site 4 f) then s
    else
      match s.laneAt site with
      | none => s
      | some l => (s.readPoison site (siteBase site) 0x388000).expHead site f.head.toNat l) s

/-- Free values for outputs in a format: finite, as arithmetic makes nothing else (R77). -/
def State.freeOuts (s : State) (f : FFmt) (n : Nat) : List W32 × State :=
  ((List.range n).map (fun i => BitVec.ofNat 32 (f.anyFinite (Config.freeValue (s.freeCount + i)))), { s with freeCount := s.freeCount + n })

/-- The outputs of one query head: divided and rounded once; a denominator of 0 has no quotient, and its outputs are free. -/
def State.divide (s : State) (e : Option Int) (num : List Int) (den : Int) : List W32 × State :=
  match e with
  | some e => if den = 0 then s.freeOuts fp32 num.length else (num.map (attendOut e den), s)
  | none => s.freeOuts fp32 num.length

/-- FP32 values as words for the router. -/
def fp32Words (xs : List W32) : List W64 := wordsOf (xs.flatMap (fun x => leBytes 4 x.toNat))

/-- FINISH: the head group's partial words merged into group index 0, divided and handed to the route (R209, R210). -/
def execFinish (site : Nat) (f : KvField) (s : State) : Out :=
  act { freeCount := true, sites := true } (fun s =>
    if !(s.doesKv site 5 f) then s
    else
      match s.laneAt site with
      | none => s
      | some l =>
        let r := s.scoreAt site
        let h := f.head.toNat
        if kvGidx r.kvMode ≠ 0 then s
        else
          let group := s.headGroup r
          let g := kvG r.kvMode
          let ws := s.ringWords site l (129 * g)
          let n := ((s.kv site).q.getD h []).length
          let out := (List.range n).foldl (fun (a : List W32 × State) i =>
            let sum := group.foldl (fun (b : List Int × Int) x =>
              ((b.1.zip (((s.kv x.site).num.getD h []).getD i (List.replicate 128 0))).map (fun y => y.1 + y.2),
                b.2 + ((s.kv x.site).den.getD h []).getD i 0)) (ringSum ws g i)
            let d := a.2.divide ((s.kv site).e.getD h none) sum.1 sum.2
            (a.1 ++ d.1, d.2)) ([], s)
          (out.2.dropRing site l (129 * g)).toRouter site (fp32Words out.1)) s

/-- ZERO: the lane's scores, query forms and sums cleared. -/
def execZero (site : Nat) (f : KvField) (s : State) : Out :=
  act { kvs := true } (fun s => if s.doesKv site 9 f then s.updKv site (fun _ => {}) else s) s

/-! ## Pages in and out (R204, R253, R255, R408–R410) -/

/-- The entry whose page lies in a core's local frame and waits for a page operation, in a state of Table 8.1. -/
def State.pageOwner (s : State) (state : BitVec 4) (k u : Nat) : Option Nat :=
  ((s.seqs.entries {}).find? (fun e => decide (e.2.state = state) && e.2.pagesLeft.contains (k, u))).map (·.1)

/-- The page index and layer of a core's local frame for its owner. -/
def State.pageAt (s : State) (r : ScoreRec) (q : Seq) (u : Nat) : Option (Nat × Nat) :=
  match s.runImg with
  | none => none
  | some v =>
    if kvRole r.kvMode = 1 then
      (q.frames.find? (fun e => decide (e.2 % kvK r.kvMode = kvGidx r.kvMode ∧ e.2 / kvK r.kvMode = u))).map
        (fun e => (e.1, headLayer (r.kvHeads.getD 0 0)))
    else (q.sweep.find? (fun e => decide (sweepPlace (v.kvCores 2) e.2.2 = some (r.site, u)))).map (fun e => (e.1, e.2.1))

/-- The KV heads of a core with the head slot of each: its own head slots, or all heads of a sweep core. -/
def coreHeads (r : ScoreRec) : List (Nat × Nat) :=
  if kvRole r.kvMode = 1 then
    ((List.range (kvHeads r.kvMode)).map (fun h => (h, headNumber (r.kvHeads.getD h 0))))
  else (List.range (kvHeads r.kvMode)).map (fun h => (h, h))

/-- The value exponents of a slice recomputed. -/
def State.setExps (s : State) (k : Nat) (m : W64) (u h : Nat) : State :=
  (List.range 16).foldl (fun (t : State) p => t.setExp k m u h p) s

/-- The bytes of a canonical page that a core's head slots take written into its local frame. -/
def State.placePage (s : State) (r : ScoreRec) (u : Nat) (page : List Byte) : State :=
  let n := sliceBytes (kvFmt r.kvMode)
  (coreHeads r).foldl (fun (t : State) e =>
    (t.wrBytes (sliceAt r.site r.kvMode u e.1).1 ((page.drop (e.2 * n)).take n)).setExps r.site r.kvMode u e.1) s

/-- The plaintext of a cold object at an address, none where it is refused (R410). -/
def State.openCold (s : State) (i layer n addr : Nat) : Option (List Byte) :=
  let q := s.seq i
  let p := s.part q.partition
  let h := s.rdBytes addr 32
  let len := ofLE ((h.drop 0x1C).take 4)
  let epoch := ofLE ((h.drop 6).take 2)
  let key := if epoch = p.epoch.toNat then p.egressKey else if epoch + 1 = p.epoch.toNat then p.egressPrev else none
  let object := (s.handleOf i).toNat * 2 ^ 32 + layer * 2 ^ 24 + n
  if h.take 6 ≠ [0x49, 0x57, 0x53, 0x4C, 0x01, BitVec.ofNat 8 q.partition] ∨ ofLE ((h.drop 0x14).take 8) ≠ object ∨
      ofLE ((h.drop 12).take 8) < q.parkCtr.toNat then none
  else match key with
    | none => none
    | some k => openObject k h (s.rdBytes (addr + 32) (len + 16))

/-- A page done: it leaves the list its sequence waits for. -/
def State.pageDone (s : State) (i k u : Nat) : State :=
  s.updSeq i (fun q => { q with pagesLeft := q.pagesLeft.filter (fun e => !decide (e = (k, u))) })

/-- A cold object refused at resume: the request ends FAULT_ABORTED (R410). -/
def State.refuseObject (s : State) (i : Nat) : State :=
  (s.updSeq i (fun q => { q with endDue := 0x19 })).updPart (s.seq i).partition (fun p => { p with sealFaults := satInc p.sealFaults })

/-- The frame of a page that is read in belongs to the KV layout of the variant that runs (R230, R255). -/
def State.layFrame (s : State) (q : Seq) (n : Nat) : State :=
  match s.runImg, q.frames.find? (fun e => decide (e.1 = n)) with
  | some v, some e =>
    let l := s.layoutId v
    l.2.updFrame e.2 (fun f => { f with layout := l.1 })
  | _, _ => s

/-- A page of a RESUMING sequence read into a core's local frame, its value exponents recomputed. -/
def State.pageIn (s : State) (r : ScoreRec) (i u addr : Nat) : State :=
  let q := s.seq i
  let n := sliceBytes (kvFmt r.kvMode)
  let heads := match s.runImg with | some v => v.kvHeadCount | none => 0
  match s.pageAt r q u with
  | none => s
  | some (page, layer) =>
    let cold := decide (q.tier = 2)
    let len := if cold then 32 + heads * n + 16 else heads * n
    if !(s.okDram addr len) then s.addressFault r.site
    else
      let s1 := s.readPoison r.site addr len
      if cold then (match s.openCold i layer page addr with
        | some bs => ((s1.placePage r u bs).layFrame q page).pageDone i r.site u
        | none => s1.refuseObject i)
      else ((s1.placePage r u (s.rdBytes addr len)).layFrame q page).pageDone i r.site u

/-- PAGEIN: one canonical page into a local frame, in a step whose variant has the format the page was written in (R255). -/
def execPagein (site : Nat) (f : KvField) (local_ : Nat) (addr : Nat) (s : State) : Out :=
  act {
      thm := true, mem := true, host := true, poison := true, eng := true, cur := true, nxt := true, mesh := true, sync := true, frames := true, seqs := true,
      parts := true, srv := true, flt := true } (fun s =>
    if !(s.doesKv site 6 f) then s
    else
      let r := s.scoreAt site
      match s.pageOwner 5 site local_ with
      | none => s
      | some i => if (s.seq i).parkFmt.toNat = kvFmt r.kvMode then s.pageIn r i local_ addr else s) s

/-- A canonical page assembled from the cores that hold it (R204). -/
def State.canonPage (s : State) (v : VariantImage) (q : Seq) (page layer : Nat) : List Byte :=
  (List.range v.kvHeadCount).flatMap (fun hd =>
    ((v.scores.filter (fun r => decide (siteType r.site = 2 ∧ kvRole r.kvMode ≠ 0))).findSome? (fun r =>
      match (coreHeads r).find? (fun e => decide (e.2 = hd)), s.localFrame r q page with
      | some e, some u =>
        if s.pageAt r q u = some (page, layer) then some (s.rdBytes (sliceAt r.site r.kvMode u e.1).1 (sliceBytes (kvFmt r.kvMode))) else none
      | _, _ => none)).getD [])

/-- The parked state of a sequence as a cold STATE object carries it, 4 KiB (R253; log entry 35). -/
def parkState (q : Seq) : List Byte :=
  let b := q.req.header ++ leBytes 4 q.generated ++ leBytes 4 q.length ++ leBytes 8 q.maskAddr ++ (q.window.flatMap (leBytes 4))
  (b ++ List.replicate 4096 0).take 4096

/-- A sealed object sent to a partition's cold inbox. -/
def State.sendCold (s : State) (p : Nat) (kind : Byte) (object : W64) (plain : List Byte) : State :=
  let o := s.seal p kind object plain
  o.2.sendBytes 2 (s.cfg p).coldDevice (s.cfg p).coldInbox o.1

/-- A page of a PARKING sequence written out: to DRAM, or sealed to the cold tier when the last core that holds the page is written;
the STATE object follows the last page. -/
def State.pageOut (s : State) (v : VariantImage) (r : ScoreRec) (i u addr : Nat) : State :=
  let q := s.seq i
  let p := q.partition
  match s.pageAt r q u with
  | none => s
  | some (page, layer) =>
    let n := sliceBytes (kvFmt r.kvMode)
    if q.tier = 2 then
      let first := decide (q.pagesLeft.length = (s.pagePlaces q).length)
      let s1 := if first then s.updSeq i (fun q => { q with parkCtr := (s.part p).egressCtr }) else s
      let s2 := s1.pageDone i r.site u
      let same := (s2.seq i).pagesLeft.any (fun e => decide (s2.pageAt (s2.scoreAt e.1) q e.2 = some (page, layer)))
      let s3 := if same then s2
        else s2.sendCold p 1 (BitVec.ofNat 64 ((s.handleOf i).toNat * 2 ^ 32 + layer * 2 ^ 24 + page)) (s.canonPage v q page layer)
      if (s3.seq i).pagesLeft.isEmpty then s3.sendCold p 2 (BitVec.ofNat 64 ((s.handleOf i).toNat * 2 ^ 32)) (parkState q) else s3
    else
      let area := (s.cfg p).parkArea
      let len := v.kvHeadCount * n
      if !(s.okDram addr len) || !(decide (area.1 ≤ addr ∧ addr + len ≤ area.1 + area.2)) then s.addressFault r.site
      else ((coreHeads r).foldl (fun (t : State) e =>
        t.wrBytes (addr + e.2 * n) (t.rdBytes (sliceAt r.site r.kvMode u e.1).1 n)) s).pageDone i r.site u

/-- PAGEOUT: one frame's page to its tier, once every token its sequence had in flight has been committed (R253). -/
def execPageout (site : Nat) (f : KvField) (local_ : Nat) (addr : Nat) (s : State) : Out :=
  act {
      thm := true, mem := true, host := true, poison := true, eng := true, cur := true, nxt := true, mesh := true, sync := true, seqs := true,
      parts := true, flt := true, fab := true } (fun s =>
    if !(s.doesKv site 7 f) then s
    else
      match s.pageOwner 3 site local_, s.runImg with
      | some i, some v =>
        let busy := (s.cur.lanes ++ s.nxt.lanes).any (fun l => l.ran && decide (l.idx = i ∧ l.handle = s.handleOf i))
        if busy then s else s.pageOut v (s.scoreAt site) i local_ addr
      | _, _ => s) s

/-! ## Re-shards (R220) -/

/-- The head slices of a sweep page copied to the decode cores that hold the frame. -/
def State.moveSlices (s : State) (v : VariantImage) (r : ScoreRec) (u frame layer : Nat) : State :=
  (v.kvCores 1).foldl (fun (t : State) d =>
    if frame % kvK d.kvMode ≠ kvGidx d.kvMode then t
    else (List.range (kvHeads d.kvMode)).foldl (fun (w : State) h =>
      let hd := d.kvHeads.getD h 0
      if headLayer hd ≠ layer then w
      else
        let from_ := sliceAt r.site r.kvMode u (headNumber hd)
        let to_ := sliceAt d.site d.kvMode (frame / kvK d.kvMode) h
        (w.wrBytes to_.1 (s.rdBytes from_.1 (sliceBytes (kvFmt r.kvMode)))).wrBytes to_.2 (s.rdBytes from_.2 16)) t) s

/-- The page indices that RESHARD has moved in the slot of a site's beat (R220). -/
def State.movedIn (s : State) (k : Nat) : List (Nat × Nat) :=
  let c := (s.beatAt k).elim 0 (·.slotCount)
  if s.srv.moveSlot = c then s.srv.movePages else []

/-- Page index `n` of sequence `i` noted among those moved in the slot. -/
def State.noteMove (s : State) (k i n : Nat) : State :=
  let l := s.movedIn k
  { s with srv := { s.srv with
      moveSlot := (s.beatAt k).elim 0 (·.slotCount), movePages := if l.contains (i, n) then l else l ++ [(i, n)] } }

/-- The page index of a re-shard that is to move next: the first with a layer that neither a committed step nor this one has moved. -/
def State.nextMove (s : State) (x : Reshard) : Option Nat :=
  let q := s.seq x.idx
  x.left.find? (fun n => q.sweep.any (fun e => decide (e.1 = n) && !(x.done.contains (n, e.2.1)) && !(x.moved.contains (n, e.2.1))))

/-- A sweep page of the re-shard served first moved: pending re-shards in order, page indices ascending, as many in a slot as the variant's
reshard_rate (R220). The move counts when its step commits. -/
def State.moveSweep (s : State) (v : VariantImage) (r : ScoreRec) (u : Nat) : State :=
  match s.srv.reshards.findSome? (fun x => (s.nextMove x).map (fun n => (x, n))) with
  | none => s
  | some (x, n) =>
    let q := s.seq x.idx
    let now := s.movedIn r.site
    match s.pageAt r q u, s.frameOf q n with
    | some (page, layer), some f =>
      if page ≠ n ∨ x.done.contains (n, layer) ∨ x.moved.contains (n, layer) ∨ (s.frame f).layout ≠ (s.layoutId v).1 ∨
          (v.reshardRate ≤ now.length ∧ !(now.contains (x.idx, n))) then s
      else
        let s1 := (s.moveSlices v r u f layer).noteMove r.site x.idx n
        { s1 with srv := { s1.srv with reshards := s1.srv.reshards.map (fun z =>
            if z.idx = x.idx then { z with moved := z.moved ++ [(n, layer)] } else z) } }
    | _, _ => s

/-- RESHARD: one sweep page's head slices sent to the decode cores that hold them; a variant with reshard_rate 0 makes no move. -/
def execReshard (site : Nat) (f : KvField) (local_ : Nat) (s : State) : Out :=
  act { mem := true, host := true, poison := true, srv := true } (fun s =>
    match s.runImg with
    | some v => if s.doesKv site 8 f && decide (kvRole (s.scoreAt site).kvMode = 2) then
        s.moveSweep v (s.scoreAt site) local_ else s
    | none => s) s

/-! ## Prefill cores (Table 7.9) -/

/-- A prefill core's scratch. -/
def State.pf (s : State) (k : Nat) : PfScratch := s.pfs.get {} k
/-- A prefill core's scratch changed by `f`. -/
def State.updPf (s : State) (k : Nat) (f : PfScratch → PfScratch) : State := { s with pfs := s.pfs.upd {} k f }

/-- The values of operand encodings in a prefill operand format, and whether all are finite. -/
def operandVals (fmt : Nat) (ws : List W32) : List Dy × Bool :=
  match fmtOf fmt with
  | some f =>
    let xs := ws.map (fun w => w.toNat % 2 ^ (f.eb + f.mb + 1))
    (xs.map f.val, xs.all f.finite)
  | none => (ws.map (fun w => { m := (w.truncate 8).toInt, e := 0 }), true)

/-- Whether a prefill operand format is legal (Table 5.9). -/
def pfFmtOk (f : PfField) : Bool := f.opfmt == 5 || f.opfmt == 7 || f.opfmt == 8

/-- The lane whose query block a prefill core holds: of the running step, or of the next one (R216). -/
def State.pfLane (s : State) (k : Nat) : Option (Bool × Nat) :=
  match (s.pf k).lane with
  | some (n, j) => if n = s.eng.stepNumber then some (false, j) else if n = s.eng.stepNumber + 1 then some (true, j) else none
  | none => none

/-- The lane itself. -/
def State.pfLaneAt (s : State) (k : Nat) : Option Lane :=
  match s.pfLane k with
  | some (false, j) => s.cur.lanes[j]?
  | some (true, j) => if s.nxt.variant = s.cur.variant then s.nxt.lanes[j]? else none
  | none => none

/-- A format fault of the lane a prefill core works for. -/
def State.pfFormat (s : State) (k : Nat) : State := s.updLane (s.pfLane k) Lane.formatFaulted

/-- Poison of the route consumed by a prefill core: the lane it works for is faulted (R297). -/
def State.pfPoison (s : State) (k : Nat) : State :=
  if (s.site k).poisonIn then (s.updSite k (fun r => { r with poisonIn := false })).updLane (s.pfLane k) Lane.faulted else s

/-- Poison in memory that a prefill core reads. -/
def State.pfRead (s : State) (k a n : Nat) : State :=
  if s.poisoned a n then
    let words := ((s.poison.filter (fun x => decide (a ≤ x ∧ x < a + n))).map (· / 8)).eraseDups.length
    let t := s.updLane (s.pfLane k) Lane.faulted
    { t with flt := { t.flt with sramPois := satAdd t.flt.sramPois words } }
  else s

/-- The lane that a query block is for, by the number of its step: the one the core is bound to, or the one the block names. -/
def State.queryLane (s : State) (k : Nat) (next : Bool) (lane : Nat) : Option (W64 × Nat) :=
  if s.laneBound k then s.laneTag k else some (if next then s.eng.stepNumber + 1 else s.eng.stepNumber, lane)

/-- The head slice at an address of a sweep core, and its KV format (R202): none elsewhere. -/
def State.sweepSlice (s : State) (a : Nat) : Option Nat :=
  match region s.nv.stackGb.toNat a with
  | .sram j o =>
    let m := (s.scoreAt j).kvMode
    if siteType j = 2 ∧ kvRole m = 2 ∧ o + sliceBytes (kvFmt m) ≤ 0x380000 then some (kvFmt m) else none
  | _ => none

/-- The query vectors of a block of `count` that the route has delivered, as encodings in an operand format. -/
def State.queryVecs (s : State) (k code count : Nat) : List (List W32) :=
  let words := (count * 128 * elemBytes code + 7) / 8
  let bs := wordBytes ((s.site k).inbox.take words)
  let es := ((chunksOf (elemBytes code) (count * 128) bs).take (count * 128)).map (fun e => BitVec.ofNat 32 (ofLE e))
  (chunksOf 128 count es).filter (fun v => !v.isEmpty)

/-- PLOAD: a query block of the route, `count` vectors in the operand format, put into integer form, which begins a new attention; or the keys or
values of the head slice of a sweep page at the operand's address. An address that is no slice of a sweep core is an address fault. -/
def execPload (site : Nat) (f : PfField) (what : PfOperand) (s : State) : Out :=
  act {
      freeCount := true, thm := true, sites := true, eng := true, cur := true, nxt := true, mesh := true, sync := true, pfs := true, seqs := true,
      flt := true } (fun s =>
    if !(s.doesPf site 1 f && pfFmtOk f) then s
    else match what with
      | .query next lane count =>
        let s1 := (s.updPf site (fun _ => { lane := s.queryLane site next lane })).pfPoison site
        let code := f.opfmt.toNat
        let s2 := s1.updSite site (fun r => { r with inbox := r.inbox.drop ((count * 128 * elemBytes code + 7) / 8) })
        let r := (s.queryVecs site code count).foldl (fun (a : List (Int × List Int) × State) v =>
          let x := operandVals code v
          let y := if x.2 then (intForm x.1, a.2) else (a.2.pfFormat site).freeForm v.length
          (a.1 ++ [y.1], y.2)) ([], s2)
        r.2.updPf site (fun x => { x with q := r.1 })
      | kind =>
        let a := s.operandAt site f.areg
        match s.sweepSlice a with
        | none => s.addressFault site
        | some fmt =>
          let s1 := s.pfRead site a (sliceBytes fmt)
          let vs := (List.range 16).map (fun p => s.readVec a fmt (kind == .value) p)
          let s2 := if vs.all (·.2) then s1 else s1.pfFormat site
          let forms := vs.map (fun v => intForm v.1)
          s2.updPf site (fun x => if kind == .value then { x with v := forms } else { x with k := forms })) s

/-- The pairs a block forms with the queries of the lane a core works for: its keys at positions up to the lane's (R218); none without a lane that
carries a position. -/
def State.realPairs (s : State) (k : Nat) (f : PfField) : List (Nat × (Int × List Int) × (Int × List Int)) :=
  let x := s.pf k
  match s.pfLaneAt k with
  | some l => if l.ran then
      (x.k.zip x.v).zipIdx.filterMap (fun e => if 16 * f.block.toNat + e.2 ≤ l.pos then some (e.2, e.1.1, e.1.2) else none)
    else []
  | none => []

/-- The score scale a prefill field names, none where its address is forbidden. -/
def State.sigmaAt (s : State) (k : Nat) (areg : BitVec 6) : Option W32 :=
  let a := s.operandAt k areg
  if s.okUnit k a 4 then some (BitVec.ofNat 32 (s.rdLE a 4)) else none

/-- PSCORE: pass one on a block: the local maxima raised. -/
def execPscore (site : Nat) (f : PfField) (s : State) : Out :=
  act { thm := true, eng := true, cur := true, nxt := true, mesh := true, sync := true, pfs := true, seqs := true, flt := true } (fun s =>
    if !(s.doesPf site 2 f && pfFmtOk f) then s
    else match s.sigmaAt site f.areg with
      | none => s.addressFault site
      | some sg =>
        if !(finite32 sg) then s.pfFormat site
        else
          let ps := s.realPairs site f
          s.updPf site (fun x => { x with
            m := x.q.zipIdx.map (fun q => maxOpt (x.m.getD q.2 none) (maxInt? (ps.map (fun e => scoreOf sg q.1 e.2.1))))
            e := maxOpt x.e (maxInt? (ps.map (fun e => e.2.2.1))) })) s

/-- The prefill cores that work for the same lane (R216). -/
def State.pfGroup (s : State) (k : Nat) : List Nat :=
  match (s.pf k).lane with
  | none => [k]
  | some l => (s.pfs.entries {}).filterMap (fun e => if e.2.lane = some l then some e.1 else none)

/-- PEXPSUM: pass two on a block with the global M and E. -/
def execPexpsum (site : Nat) (f : PfField) (s : State) : Out :=
  act { thm := true, eng := true, cur := true, nxt := true, mesh := true, sync := true, pfs := true, seqs := true, flt := true } (fun s =>
    if !(s.doesPf site 3 f && pfFmtOk f) then s
    else match s.sigmaAt site f.areg with
      | none => s.addressFault site
      | some sg =>
        if !(finite32 sg) then s.pfFormat site
        else
          let ps := s.realPairs site f
          let group := s.pfGroup site
          let e := (group.map (fun k => (s.pf k).e)).foldl maxOpt none
          s.updPf site (fun x =>
            let sums := x.q.zipIdx.map (fun q =>
              let m := (group.map (fun k => (s.pf k).m.getD q.2 none)).foldl maxOpt none
              match m, e with
              | some m, some e => ps.foldl (fun (a : List Int × Int) (t : Nat × (Int × List Int) × (Int × List Int)) => attendTerm m e a (scoreOf sg q.1 t.2.1, t.2.2.1, t.2.2.2))
                  (x.num.getD q.2 (List.replicate 128 0), x.den.getD q.2 0)
              | _, _ => (x.num.getD q.2 (List.replicate 128 0), x.den.getD q.2 0))
            { x with num := sums.map (·.1), den := sums.map (·.2) })) s

/-- Outputs of a prefill core in FP32 or BF16 (Table 3.4), as words for the router. -/
def outWords (code : Nat) (xs : List W32) : List W64 :=
  match fmtOf code with
  | some o => wordsOf (xs.flatMap (fun x => leBytes (elemBytes code) (convertF fp32 o x.toNat)))
  | none => []

/-- Whether an output format is one a prefill core has (R82). -/
def pfOutOk (code : BitVec 5) : Bool := code == 0x09 || code == 0x0B

/-- PFINISH: the partial words of the lane's cores merged here, divided, and handed to the route. -/
def execPfinish (site : Nat) (f : PfField) (outFmt : BitVec 5) (s : State) : Out :=
  act { freeCount := true, sites := true, pfs := true } (fun s =>
    if !(s.doesPf site 4 f && pfOutOk outFmt) then s
    else
      let group := s.pfGroup site
      let e := (group.map (fun k => (s.pf k).e)).foldl maxOpt none
      let out := (List.range (s.pf site).q.length).foldl (fun (a : List (List W32) × State) i =>
        let sum := group.foldl (fun (b : List Int × Int) k =>
          ((b.1.zip ((s.pf k).num.getD i (List.replicate 128 0))).map (fun y => y.1 + y.2), b.2 + (s.pf k).den.getD i 0)) (List.replicate 128 0, 0)
        let d := a.2.divide e sum.1 sum.2
        (a.1 ++ [d.1], d.2)) ([], s)
      (out.2.updPf site (fun x => { x with out := out.1 })).toRouter site (outWords outFmt.toNat out.1.flatten)) s

/-- The packed burst of up to 8 MX blocks (R75): the scales first, then the elements; blocks of pad have scale 0 and elements 0. -/
def packBurst (fmt : Nat) (blocks : List (Byte × List Byte)) : List Byte :=
  let bs := (blocks ++ List.replicate 8 (0, List.replicate (mxBlockBytes fmt) 0)).take 8
  bs.map (·.1) ++ bs.flatMap (·.2)

/-- MX blocks as packed bursts. -/
def packBursts (fmt : Nat) (blocks : List (Byte × List Byte)) : List Byte := (chunksOf 8 (blocks.length + 1) blocks).flatMap (fun b =>
  if b.isEmpty then [] else packBurst fmt b)

/-- The blocks of a byte string of packed bursts. -/
def unpackBursts (fmt : Nat) (bs : List Byte) : List (Byte × List Byte) :=
  (chunksOf (8 + 8 * mxBlockBytes fmt) (bs.length + 1) bs).flatMap (fun b =>
    (b.take 8).zip (chunksOf (mxBlockBytes fmt) 8 (b.drop 8)))

/-- The MX blocks of one area of a head slice in the split layout: 16 vectors of 4 blocks (R75, Table 7.4). -/
def State.splitBlocks (s : State) (slice fmt : Nat) (value : Bool) : List (Byte × List Byte) :=
  (List.range 16).flatMap (fun p => (List.range 4).map (fun b =>
    let a := vecAt fmt value p
    (s.rd (slice + a.2 + b), s.rdBytes (slice + a.1 + b * mxBlockBytes fmt) (mxBlockBytes fmt))))

/-- The payload that `len` bytes of sweep pages make in a fabric window: MX pages, whole head slices, as packed bursts (R75). -/
def State.windowBytesOf (s : State) (addr len : Nat) : List Byte :=
  match s.sweepSlice addr with
  | some fmt =>
    if isMx fmt then (List.range (len / sliceBytes fmt)).flatMap (fun h =>
      let a := addr + h * sliceBytes fmt
      packBursts fmt (s.splitBlocks a fmt false) ++ packBursts fmt (s.splitBlocks a fmt true))
    else s.rdBytes addr len
  | none => s.rdBytes addr len

/-- RINGSEND: sweep pages read and handed to the route for the ring successor's window (R224). -/
def execRingsend (site : Nat) (f : PfField) (addr len : Nat) (s : State) : Out :=
  act { thm := true, sites := true, eng := true, cur := true, nxt := true, mesh := true, sync := true, seqs := true, flt := true } (fun s =>
    if !(s.doesPf site 5 f) then s
    else if !((List.range len).all (fun i => s.okByte (addr + i))) then s.addressFault site
    else (s.pfRead site addr len).toRouter site (wordsOf (s.windowBytesOf addr len))) s

/-- One output of a matrix: exact integer products, or floating-point products rounded once and summed in the canonical tree (R81). -/
def denseRow (fmt : Nat) (xs row : List W32) : W32 :=
  if fmt = 5 then
    BitVec.ofNat 32 (fp32.round false (dotInt (xs.map (fun x => (x.truncate 8).toInt)) (row.map (fun x => (x.truncate 8).toInt))) 1 0)
  else
    let conv := fun (w : W32) => match fmtOf fmt with
      | some f => BitVec.ofNat 32 (convertF f fp32 (w.toNat % 2 ^ (f.eb + f.mb + 1)))
      | none => w
    dotTree (xs.map conv) (row.map conv)

/-- DENSE: a matrix run over an operand vector, its outputs handed to the route in FP32 or BF16. -/
def execDense (site : Nat) (f : PfField) (outFmt : BitVec 5) (xs : List W32) (rows : List (List W32)) (s : State) : Out :=
  act { freeCount := true, sites := true, cur := true, nxt := true, pfs := true } (fun s =>
    if !(s.doesPf site 6 f && pfFmtOk f && pfOutOk outFmt) then s
    else
      let fmt := f.opfmt.toNat
      let s0 := s.pfPoison site
      if (operandVals fmt xs).2 && rows.all (fun r => (operandVals fmt r).2) then
        let out := rows.map (denseRow fmt xs)
        (s0.updPf site (fun x => { x with out := [out] })).toRouter site (outWords outFmt.toNat out)
      else
        let out := s0.freeOuts fp32 rows.length
        (out.2.pfFormat site).toRouter site (outWords outFmt.toNat out.1)) s

end Sys2Proof.Machine
end

