-- ==== Sys2Proof/Machine/Loader.lean ====
section
/-! DEFINITION. What the variant loader refuses: the checks of Table 5.14 in the order of their codes (R25, R50, R53, R58, R59, R67,
R81, R84, R93, R134, R142–R151, R156, R157, R162–R164, R174, R179, R229, R341, R393). -/

namespace Sys2Proof.Machine

/-! ## The defect map (R311) -/

/-- How many sites have a code. -/
def State.codeCount (s : State) (c : BitVec 4) : Nat := (List.range (224 * 192)).countP (fun k => s.siteCode k == c)

/-- Bytes 0x0000–0xA83F of the defect-map record (Table 10.5). -/
def State.defectRecord (s : State) : List Byte :=
  [0x49, 0x57, 0x44, 0x4D] ++ leBytes 2 1 ++ leBytes 2 3 ++ leBytes 8 s.nv.defectVersion.toNat ++
  leBytes 4 (s.codeCount 0) ++ leBytes 4 (s.codeCount 1) ++ leBytes 4 (s.codeCount 2) ++ leBytes 4 (s.codeCount 3) ++
  leBytes 32 0 ++ (List.range (224 * 192)).map (fun k => (s.siteCode k).zeroExtend 8)

/-- The first 32 bytes of its SHA-512, which variants carry (R156). -/
def State.defectDigest (s : State) : BitVec 256 := BitVec.ofNat 256 (ofLE ((sha512 s.defectRecord).take 32))

/-! ## Header, sections, lanes (0x01, 0x04, 0x05) -/

/-- BAD_CONTAINER (Table 5.13). -/
def badContainer (v : VariantImage) (limit : Nat) : Bool :=
  v.magic != 0x52565749 || v.containerVersion != 1 || v.member != 3 || decide (2 ^ 30 < v.size ∨ limit < v.size)

/-- Whether two sections share a byte. -/
def sectionsClash (a b : Nat × Nat) : Bool := decide (a.2 ≠ 0 ∧ b.2 ≠ 0 ∧ a.1 < b.1 + b.2 ∧ b.1 < a.1 + a.2)

/-- Whether a section has the size of its contents, for the sections whose entries have a stated one: the bodies (R141), the quantisation
table (Table 3.6), the lane plan (R157), the cross masks (R156). -/
def sectionsMatch (v : VariantImage) : Bool :=
  let size := fun (i : Nat) => (v.sections.getD i (0, 0)).2
  decide (size 0 = 128 * v.west.length ∧ size 1 = 128 * v.east.length ∧ size 2 = 16 * v.quantPoints ∧ size 3 = 2 * v.lanes ∧
    size 8 = 16 * v.gapSets ∧ v.quant.length = v.quantPoints)

/-- CONTAINER; a section whose size is not that of its entries takes this reason too: DESIGN CHOICE, R164 does not name it (log entry 62). -/
def containerBad (v : VariantImage) : Bool :=
  let s := v.sections
  !(sectionsMatch v) ||
  !v.reservedZero || decide (v.depth = 0 ∨ 3 < v.clockPlan.toNat ∨ 7 < v.gapSets ∨ 16 < v.reshardRate ∨ s.length ≠ 16) ||
  (v.queryFmt != 0x09 && v.queryFmt != 0x07) || v.thermalReserve >>> 84 != 0 || v.useMask >>> 84 != 0 ||
  s.any (fun e => decide (e.2 ≠ 0 ∧ (e.1 < 512 ∨ v.size < e.1 + e.2))) || (s.drop 9).any (fun e => decide (e ≠ (0, 0))) ||
  s.zipIdx.any (fun a => s.zipIdx.any (fun b => decide (a.2 < b.2) && sectionsClash a.1 b.1))

/-- LANES (R25). -/
def lanesBad (v : VariantImage) : Bool := decide (4096 < v.lanes ∨ v.lanes < v.depth)

/-- The decoded bundles of a body; a bundle that does not decode reads as zero. -/
def bodyOf (v : VariantImage) (h : Half) : List (BitVec 1024) :=
  ((match h with | .west => v.west | .east => v.east)).map (fun b => match decodeBundle b with | some d => d.1 | none => 0)

/-- Both bodies. -/
def bodies (v : VariantImage) : List (List (BitVec 1024)) := [bodyOf v .west, bodyOf v .east]

/-- The array operations of a bundle, every repetition: the operation, its selection and its fields (R143, R148). -/
def arrayOps (b : BitVec 1024) : List (Nat × UnitSel × ArrayField) :=
  (List.range 2).flatMap (fun n =>
    let f := arrayBits b n
    let u := sel96 f
    if u.op = 0 then [] else
      (List.range ((headerOf b).rep + 1)).map (fun i => (i, u, if arrayAdvance f then advanceField u.op (arrayOf f) i else arrayOf f)))

/-- SLOT_LENGTH (R67): a slot of 256 ACLK takes INT4 activations only, one of 128 only on row groups 0 to 7; by MAC or by SWEEP. -/
def slotLengthBad (v : VariantImage) : Bool :=
  decide (2 < v.slotCode.toNat) ||
  (v.slotCode != 0 && (bodies v).any (fun b => b.any (fun x => (arrayOps x).any (fun o =>
    o.2.2.actFmt != 6 || (v.slotCode == 2 && decide (8 ≤ o.2.2.rg.toNat))))))

/-! ## Bodies (0x06) -/

/-- The beats of a body. -/
def bodyBeats (b : List (BitVec 1024)) : Nat := b.foldl (fun (a : Nat) x => a + (headerOf x).rep + 1) 0

/-- Whether the var and beat fields of a body agree with its place, from beat `n`. -/
def placesAgree (slot : Nat) : Nat → List (BitVec 1024) → Bool
  | _, [] => true
  | n, x :: r => decide ((headerOf x).var = slot ∧ (headerOf x).beat = n) && placesAgree slot (n + (headerOf x).rep + 1) r

/-- Whether a field that names a group selects a site of another type (R144). Which reason that is the spec does not say: DESIGN CHOICE,
BODY, as of what stands in a bundle (log entry 82). -/
def mixedField (v : VariantImage) (x : BitVec 1024) : Bool :=
  (fieldSels x).any (fun e => decide (e.2.op ≠ 0 ∧ e.2.m ≠ 0) &&
    v.scores.any (fun r => decide (r.role &&& e.2.m = e.2.g &&& e.2.m) && decide (siteType r.site ≠ e.1)))

/-- BODY. -/
def bodyBad (v : VariantImage) (slot : Nat) : Bool :=
  [v.west, v.east].any (fun b => decide (128 < b.length) || b.any (fun x => (decodeBundle x).isNone)) ||
  (bodies v).any (fun b =>
    decide (bodyBeats b ≠ v.beats ∧ bodyBeats b ≠ 2 * v.beats) || !(placesAgree slot 0 b) ||
    b.any (fun x => !(bundleLegal x) || mixedField v x || (v.transfer && decide ((headerOf x).valid ≠ 0))))

/-! ## Runs (0x07) -/

/-- The kinds of the two lanes of a pair, each with its prefill flag (Table 5.1): a wide or a fallback pair, or two lanes of their own, one of
which may be a notch lane. -/
def lanePairs : List (List (Nat × Bool)) :=
  let own : List (Nat × Bool) := [(1, false), (1, true), (7, false), (7, true), (6, false)]
  [[(2, false), (3, false)], [(2, true), (3, true)], [(4, false), (5, false)], [(4, true), (5, true)]] ++
  own.flatMap (fun a => own.map (fun b => [a, b]))

/-- How a run stands: the (pair, plane) combinations accumulated in each bank of each logical array since its last PROMOTE, one bit
each, and whether one came twice. -/
structure RunState where
  used : List Nat := List.replicate 32 0
  twice : Bool := false
  deriving DecidableEq, Repr

/-- The combinations an array operation accumulates: MAC one, an INT8 SWEEP eight, an INT4 SWEEP four of each of two quarters. -/
def comboBits (op : Nat) (f : ArrayField) : Nat :=
  let pair := 4 * f.rg.toNat + f.q.toNat
  if op = 1 then 2 ^ (8 * pair + f.plane.toNat)
  else if f.actFmt = 5 then 255 * 2 ^ (8 * pair)
  else 15 * 2 ^ (8 * pair) + 15 * 2 ^ (8 * ((pair + 1) % 64))

/-- One array operation accumulated. -/
def RunState.accumulate (t : RunState) (op : Nat) (f : ArrayField) (par : Nat) : RunState :=
  let c := comboBits op f
  let bank := bankOf f.accBank par
  (List.range 16).foldl (fun (t : RunState) l =>
    if f.lmask.getLsbD l then
      let n := 16 * bank + l
      { used := t.used.set n (t.used.getD n 0 ||| c), twice := t.twice || decide (t.used.getD n 0 &&& c ≠ 0) }
    else t) t

/-- One bundle met by a tile. -/
def RunState.bundle (r : ScoreRec) (kind : Nat × Bool) (par : Nat) (t : RunState) (x : BitVec 1024) : RunState :=
  if !(condHolds (headerOf x).cond kind.1 kind.2) || decide ((headerOf x).cls = 0) then t
  else
    let t1 := (arrayOps x).foldl (fun (t : RunState) o => if o.2.1.picks 1 r then t.accumulate o.2.1.op o.2.2 par else t) t
    let u := sel96 (accBits x)
    if (u.op = 1 ∨ u.op = 2) ∧ u.picks 1 r then
      let bank := bankOf (accOf (accBits x)).bank par
      (List.range 16).foldl (fun (t : RunState) l => { t with used := t.used.set (16 * bank + l) 0 }) t1
    else t1

/-- The slots of the two lanes of a pair met by a tile, the first in a slot of parity `par`. -/
def RunState.pair (body : List (BitVec 1024)) (r : ScoreRec) (par : Nat) (t : RunState) (p : List (Nat × Bool)) : RunState :=
  p.zipIdx.foldl (fun (t : RunState) k => body.foldl (RunState.bundle r k.1 ((par + k.2) % 2)) t) t

/-- How a tile's runs may stand after two pairs of lanes, of whatever kinds each: what a slot accumulates meets what any other left. -/
def runsAfter (body : List (BitVec 1024)) (r : ScoreRec) (par : Nat) : List RunState :=
  let next := fun (ts : List RunState) => (ts.flatMap (fun t => lanePairs.map (t.pair body r par))).eraseDups
  next (next [{}])

/-- Whether a tile's runs repeat a combination in some succession of lane kinds. -/
def runTwice (body : List (BitVec 1024)) (r : ScoreRec) : Bool := [0, 1].any (fun par => (runsAfter body r par).any (·.twice))

/-- One score of each weight-tile role in a half. -/
def tileRoles (v : VariantImage) (h : Half) : List ScoreRec :=
  (v.scores.filter (fun r => decide (siteType r.site = 1 ∧ siteHalf r.site = h))).foldl (fun (a : List ScoreRec) r =>
    if a.any (fun x => decide (x.role = r.role)) then a else a ++ [r]) []

/-- RUN (R50). -/
def runBad (v : VariantImage) : Bool :=
  [Half.west, Half.east].any (fun h => (tileRoles v h).any (runTwice (bodyOf v h)))

/-! ## Reductions (0x08) -/

/-- Whether [start, start + len) is a subtree of the canonical tree of `n` elements at `a` (R81). -/
def isSubtree : Nat → Nat → Nat → Nat → Nat → Bool
  | 0, _, _, _, _ => false
  | fuel + 1, a, n, start, len =>
    decide (start = a ∧ len = n) ||
    (if n ≤ 1 then false
     else
       let h := 2 ^ (Nat.log2 (n - 1))
       if start < a + h then isSubtree fuel a h start len else isSubtree fuel (a + h) (n - h) start len)

/-- The accumulator operations of a body that a tile does for a lane of one kind, in beat order. -/
def accFor (body : List (BitVec 1024)) (r : ScoreRec) (kind : Nat × Bool) : List (Nat × AccField) :=
  body.filterMap (fun x =>
    let u := sel96 (accBits x)
    if u.op ≠ 0 ∧ u.picks 1 r ∧ condHolds (headerOf x).cond kind.1 kind.2 = true then some (u.op, accOf (accBits x)) else none)

/-- Whether two accumulator fields name a channel in common. -/
def sameChannel (f g : AccField) : Bool :=
  decide (f.base.toNat ≤ g.base.toNat + g.count.toNat ∧ g.base.toNat ≤ f.base.toNat + f.count.toNat)

/-- Whether one of the operations converts a channel that a later one merges or converts again (R58). -/
def convertsAgain : List (Nat × AccField) → Bool
  | [] => false
  | a :: as => (decide (a.1 = 6) && as.any (fun b => decide (b.1 = 4 ∨ b.1 = 6) && sameChannel a.2 b.2)) || convertsAgain as

/-- Whether a tile converts a channel twice for a token, or before it has merged all of it: in the slot in which the lane's sum is complete,
which is the only one of a pair that merges or converts (R95, R149). -/
def convertBad (body : List (BitVec 1024)) (r : ScoreRec) : Bool :=
  [(1, false), (1, true), (3, false), (3, true), (5, false), (5, true), (7, false), (7, true)].any (fun k => convertsAgain (accFor body r k))

/-- REDUCTION (R53, R58, R81): what is declared, and what the bodies hold. -/
def reductionBad (v : VariantImage) : Bool :=
  [Half.west, Half.east].any (fun h => (tileRoles v h).any (convertBad (bodyOf v h))) ||
  v.reductions.any (fun r => decide (2 ^ 24 < r.depth ∨ r.conversions ≠ 1) || r.convertBeforeMerge) ||
  v.divisions.any (fun d => !(isSubtree 64 0 d.total d.start d.len))

/-! ## Units (0x09) -/

/-- The ACLK an accumulator operation keeps its unit busy (Table 2.4, R149). -/
def accBusy (op count : Nat) : Nat :=
  match op with
  | 1 => 2
  | 2 => 8
  | 3 => 6
  | 4 => (count + 2) / 2
  | 5 => (count + 2) / 2
  | 6 => (count + 64) / 64
  | 7 => 1
  | _ => 0

/-- The accumulator operations of a body that select a tile: first beat, operation, operands. -/
def accOps (body : List (BitVec 1024)) (r : ScoreRec) : List (Nat × Nat × AccField) :=
  body.filterMap (fun x =>
    let u := sel96 (accBits x)
    if u.op ≠ 0 ∧ u.picks 1 r then some ((headerOf x).beat, u.op, accOf (accBits x)) else none)

/-- Whether an accumulator unit is selected again before it has finished, round the slot of `n` beats. -/
def accOverlap (n : Nat) (ops : List (Nat × Nat × AccField)) : Bool :=
  ops.zipIdx.any (fun a =>
    let busy := accBusy a.1.2.1 a.1.2.2.count.toNat
    decide (8 * n < busy) ||
    ops.zipIdx.any (fun b => decide (a.2 ≠ b.2) && decide (8 * ((b.1.1 + n - a.1.1) % n) < busy)))

/-- The SRAM of a tile that its role uses besides buffers (Table 2.6, R150). -/
def liveSram (r : ScoreRec) : List (Nat × Nat) :=
  let k := 2 ^ stackLog r.tmode
  [(0, 1024 * k), (0x4000, 1024 * k), (0x8000, 2 * tileChannels r.tmode r.tafmt), (0x18000, 16)]

/-- Whether a partial buffer that a CONVERT names leaves the tile's SRAM or overlaps what it uses (R150). -/
def bufferBad (r : ScoreRec) (f : AccField) : Bool :=
  f.mergeIn &&
  ((if f.buf = 0 then [0] else if f.buf = 1 then [1] else [0, 1]).any (fun i =>
    let a := (r.addrs.getD ((f.areg.toNat + i) % 64) 0, 8 * (f.count.toNat + 1))
    decide (0x20000 < a.1 + a.2) || (liveSram r).any (fun e => overlaps a e)))

/-- Whether the two array slots of one bundle select a tile together but for two MACs of different ACLK (R148). -/
def slotsClash (x : BitVec 1024) (r : ScoreRec) : Bool :=
  let a := arrayBits x 0
  let b := arrayBits x 1
  decide ((sel96 a).op ≠ 0 ∧ (sel96 b).op ≠ 0) && (sel96 a).picks 1 r && (sel96 b).picks 1 r &&
  !(decide ((sel96 a).op = 1 ∧ (sel96 b).op = 1) && (arrayOf a).aclk != (arrayOf b).aclk)

/-- Whether a stack group of a tile mixes formats (R59). -/
def mixedStack (r : ScoreRec) : Bool :=
  let k := 2 ^ stackLog r.tmode
  (List.range (16 / k)).any (fun g =>
    let fs := ((List.range k).map (fun m => arrayFmt r.tafmt (g * k + m))).filter (fun f => decide (f ≠ 0))
    fs.any (fun f => decide (f ≠ groupFmt r.tmode r.tafmt g)))

/-- What one tile's score makes of a body. -/
def tileConflict (n : Nat) (body : List (BitVec 1024)) (r : ScoreRec) : Bool :=
  let ops := accOps body r
  mixedStack r || accOverlap n ops ||
  body.any (fun x => slotsClash x r ||
    (arrayOps x).any (fun o => o.2.1.picks 1 r && decide (o.2.2.actFmt.toNat ≠ tileActFmt r.tmode))) ||
  ops.any (fun o => decide (o.2.1 = 6) &&
    (bufferBad r o.2.2 || decide (tileChannels r.tmode r.tafmt < o.2.2.base.toNat + o.2.2.count.toNat + 1)))

/-- Whether a KV operation of a bundle reaches into the service window, the last 16 ACLK of the slot (R229). -/
def kvLate (v : VariantImage) (n : Nat) (x : BitVec 1024) : Bool :=
  let op := (sel80 (kvBits x)).op
  let len := if op = 3 then v.scoreWindow else if op = 4 then v.expWindow else 8
  decide (op ≠ 0) && decide (8 * n < 8 * (headerOf x).beat + len + 16)

/-- The scratch that one lane takes in a KV core (R205, R209, R212): a score of 3 bytes for every vector of the cover and query head that shares
it, and of every query head the integer form, the 129 sums and the maximum. R221 gives no sizes: DEDUCED from the 192 KiB of 65,536 scores
(log entry 47). -/
def laneScratch (v : VariantImage) (m : W64) : Nat := 3 * kvG m * v.cover m + kvHeads m * kvG m * (129 + 6 * 129 + 6)

/-- Whether some core's 464 KiB of scratch cannot hold the lanes of a ring variant's span (R197, R221). -/
def scratchBad (v : VariantImage) : Bool :=
  decide (1 < v.span) && v.scores.any (fun r => decide (siteType r.site = 2 ∧ kvRole r.kvMode = 1 ∧ 0x74000 < v.span * laneScratch v r.kvMode))

/-- UNIT_CONFLICT. -/
def unitConflict (v : VariantImage) : Bool :=
  scratchBad v ||
  [Half.west, Half.east].any (fun h =>
    let body := bodyOf v h
    let n := bodyBeats body
    body.any (kvLate v n) ||
    (v.scores.filter (fun r => decide (siteType r.site = 1 ∧ siteHalf r.site = h))).any (tileConflict n body))

/-! ## Routes (0x0A) -/

/-- The input code of an output of a crossbar entry: 0 north, 1 east, 2 south, 3 west, 4 local, 5 express (Table 5.3). -/
def xstIn (e : BitVec 32) (out : Nat) : Nat := e.toNat / 2 ^ (3 * out) % 8

/-- Whether a router has an express port (R170). -/
def hasExpress (k : Nat) : Bool :=
  decide (siteType k = 6 ∨ siteX k = 0 ∨ siteX k = 223 ∨ siteY k = 0 ∨ siteY k = 191)

/-- The neighbour of a site in a direction: 0 north, 1 east, 2 south, 3 west. -/
def neighbourSite (k dir : Nat) : Option Nat :=
  match dir with
  | 0 => if siteY k = 0 then none else some (k - 224)
  | 1 => if siteX k = 223 then none else some (k + 1)
  | 2 => if siteY k = 191 then none else some (k + 224)
  | 3 => if siteX k = 0 then none else some (k - 1)
  | _ => none

/-- Whether an output in a direction crosses the seam (R16). -/
def crossesSeam (k dir : Nat) : Bool := decide ((dir = 1 ∧ siteX k = 111) ∨ (dir = 3 ∧ siteX k = 112))

/-- Whether a crossbar entry holds no reserved encoding (Table 5.3). -/
def xstEncoded (e : BitVec 32) : Bool := decide (e.toNat < 2 ^ 19) && (List.range 6).all (fun o => decide (xstIn e o ≠ 7))

/-- Whether a crossbar entry at place `i` of a site's table is legal (R151, R179): no turn back, an express port only
where there is one, a present neighbour, and across the seam only even NCLK from a full-rate half into a half at half rate. -/
def xstLegal (v : VariantImage) (k i : Nat) (e : BitVec 32) : Bool :=
  (List.range 6).all (fun o =>
    let c := xstIn e o
    c = 0 || (decide (c ≠ o + 1) && (hasExpress k || decide (c ≠ 6 ∧ o ≠ 5)) &&
      (decide (4 ≤ o) || (match neighbourSite k o with
        | some m => v.scores.any (fun r => decide (r.site = m)) &&
            !(crossesSeam k o && !(planHalf v.plan (siteHalf k)) && planHalf v.plan (siteHalf m) && decide (i % 2 = 1))
        | none => false))))

/-- Whether a port attachment site's binding is to an attachment of its own half, or to none (R174); a reserved code is a reserved encoding of
the record (scoreLegal). -/
def bindingLegal (r : ScoreRec) : Bool :=
  decide (siteType r.site ≠ 6) || (match attachOf (r.addrs.getD 61 0x3F) with | some a => decide (a.half = siteHalf r.site) | none => true)

/-- The rows that a router's class selects in a body, each with the beat it applies in. -/
def rowsOf (body : List (BitVec 1024)) (c : Nat) : List (Nat × Nat) :=
  body.flatMap (fun x =>
    let f := selectorOf x c
    if !(f.getLsbD 23) then [] else
      (List.range ((headerOf x).rep + 1)).map (fun i => ((headerOf x).beat + i, bits f 7 0 + (if f.getLsbD 22 then i else 0))))

/-- Whether a router sends a flit over the seam so late that it leaves the saddle buffer only in the next slot (R178, R179): two NCLK through the
router, the delay of Table 6.3, all within the slot. -/
def saddleLate (v : VariantImage) (k rclass : Nat) (xst : List (Nat × BitVec 32)) : Bool :=
  let h := siteHalf k
  let slot := 2 * v.slotAclk * (if v.plan = 0 then 1 else 2)
  (rowsOf (bodyOf v h) rclass).any (fun e => xst.any (fun x =>
    decide (x.1 / 16 = e.2) && (List.range 4).any (fun o => crossesSeam k o && decide (xstIn x.2 o ≠ 0)) &&
    decide (slot < (16 * e.1 + x.1 % 16 + 2) * nclkTime v.plan h + saddleTime v.plan)))

/-- Whether a gap-route record sends something through an interior that the cross mask of its set leaves out (R163): such a route could pass a
dark vale off its ring. -/
def gapAstray (v : VariantImage) (g : GapRec) : Bool :=
  decide (crossed [(g.site, g.xst)] &&& ~~~(crossMaskOf v g.set ||| v.useMask) ≠ 0)

/-- Whether a selector of a body runs past row 255 (R151). -/
def rowsWrap (x : BitVec 1024) : Bool :=
  (List.range 8).any (fun c =>
    let f := selectorOf x c
    f.getLsbD 23 && f.getLsbD 22 && decide (255 < bits f 7 0 + (headerOf x).rep))

/-- Whether a variant's window data on a direction passes the limit of R341. -/
def State.windowsBad (s : State) (v : VariantImage) : Bool :=
  v.windowBytes.any (fun e =>
    let n := (planRoles s.lock.plan).countP (fun r => decide (r = e.1))
    let counts := v.slotAclk * (if v.plan = 0 then 1 else 2)
    decide ((if n ≤ 1 then n else n - 1) * windowQuota counts (roleRate s.lock.plan e.1) < e.2))

/-- ROUTE. -/
def State.routeBad (s : State) (v : VariantImage) : Bool :=
  v.scores.any (fun r => !(bindingLegal r) || r.xst.any (fun e => !(xstLegal v r.site e.1 e.2)) || saddleLate v r.site r.rclass r.xst) ||
  v.gaps.any (fun g => decide (g.set = 0 ∨ v.gapSets < g.set) || !(v.scores.any (fun r => decide (r.site = g.site))) ||
    g.xst.any (fun e => decide (4096 ≤ e.1) || !(xstEncoded e.2) || !(xstLegal v g.site e.1 e.2)) || gapAstray v g ||
    v.scores.any (fun r => decide (r.site = g.site) && saddleLate v g.site r.rclass g.xst)) ||
  decide (v.crossMasks.length ≠ v.gapSets) || v.crossMasks.any (fun m => m >>> 84 != 0) ||
  (bodies v).any (fun b => b.any rowsWrap) || s.windowsBad v

/-! ## The rest (0x0C to 0x13) -/

/-- Whether a quantisation point descriptor is legal (R84). -/
def quantLegal (q : QuantDesc) : Bool :=
  let e := bits q.tau 30 23
  !q.reserved && decide (q.setBase < 2 ^ 32 ∧ q.point < 2 ^ 16) && !(q.tau.getLsbD 31) && decide (1 ≤ e ∧ e ≤ 254) && (q.actFmt == 5 || q.actFmt == 6) &&
  decide (q.setSize ≤ 256 ∧ 1 ≤ q.n ∧ q.n ≤ 2 ^ 24 ∧ q.indices.length = q.setSize ∧ (q.outEn → q.setSize ≠ 0)) &&
  q.indices.all (fun i => decide (i < q.n)) && (q.indices.zip (q.indices.drop 1)).all (fun p => decide (p.1 < p.2))

/-- QUANT. -/
def quantBad (v : VariantImage) : Bool :=
  decide (v.kOutlier < 8 ∨ 64 < v.kOutlier) || v.quant.any (fun q => !(quantLegal q)) || (v.transfer && !v.quant.isEmpty)

/-- Whether a lane's plan entry is legal (R93, R157). -/
def laneLegal (v : VariantImage) (j : Nat) : Bool :=
  let w := v.lanePlan.getD j 0
  let o := v.laneOwner j
  let other := if j % 2 = 0 then j + 1 else j - 1
  decide ((o < 16 ∨ o = 31) ∧ w.toNat % 1024 = 0) &&
  (!(v.laneWide j) || (decide (other < v.lanes) && v.laneWide other && decide (v.laneOwner other = o)))

/-- Whether the lanes given to a partition keep its record (R93). -/
def State.shareOk (s : State) (v : VariantImage) (p : Nat) : Bool :=
  let n := (v.lanesOf p).length
  let k := (v.pairsOf p).length
  let c := s.cfg p
  decide (n = 0) || decide (n ≤ c.laneQuota ∧ 2 * k ≤ c.laneQuota ∧ (2 ≤ c.laneQuota → k ≠ 0) ∧ c.widePairs ≤ k)

/-- The sum of a quota over the operator and every configured partition (R393). -/
def State.quotaSum (s : State) (f : PartCfg → Nat) : Nat :=
  (owners.filter s.configured).foldl (fun (a : Nat) p => a + f (s.cfg p)) 0

/-- LANE_PLAN (R93, R157, R393). -/
def State.lanePlanBad (s : State) (v : VariantImage) : Bool :=
  decide (v.lanePlan.length ≠ v.lanes) || !((List.range v.lanes).all (laneLegal v)) || !((List.range 16).all (s.shareOk v)) ||
  (!s.nv.profileShared && decide (v.decodeFrames < s.quotaSum (·.kvQuota) ∨ v.sweepPages < s.quotaSum (·.sweepQuota)))

/-- THERMAL. -/
def thermalBad (v : VariantImage) : Bool := (v.useMask :: v.crossMasks).any (fun m => v.thermalReserve &&& m != 0)

/-- NOTCH (R162). -/
def notchBad (v : VariantImage) : Bool :=
  decide (v.notchWidth < 1 ∨ 8 < v.notchWidth ∨ v.notchLog2 < 4 ∨ 16 < v.notchLog2 ∨ v.eligible.length < v.notchWidth)

/-- The local frames a core may hold (R200). -/
def frameLimit (h fmt : Nat) : Nat := min (min 2048 (3670016 / (h * sliceBytes fmt))) (2048 / h)

/-- Whether the head slots of a decode core are those KV_MODE.heads counts, of one layer, each legally encoded (R198, Table 7.3). -/
def headsLegal (r : ScoreRec) : Bool :=
  r.kvHeads.length == kvHeads r.kvMode &&
  r.kvHeads.all (fun h => h.getLsbD 0 && decide (h.toNat < 2 ^ 24 ∧ h.toNat / 2 % 128 = 0 ∧ headLayer h = headLayer (r.kvHeads.headD 0)))

/-- Whether a decode core's head group is complete: its members hold the same head slots and the same number of frames in the same format,
and their group indices are 0 to k − 1 (R198). -/
def groupLegal (v : VariantImage) (r : ScoreRec) : Bool :=
  let g := (v.kvCores 1).filter (fun x => decide (x.kvHeads = r.kvHeads))
  decide (g.length = kvK r.kvMode) &&
  g.all (fun x => decide (kvK x.kvMode = kvK r.kvMode ∧ kvFrames x.kvMode = kvFrames r.kvMode ∧ kvFmt x.kvMode = kvFmt r.kvMode)) &&
  (List.range (kvK r.kvMode)).all (fun i => g.any (fun x => decide (kvGidx x.kvMode = i)))

/-- Whether a site's tile sync range is one (R183): a multiple of 8 bytes, at most 256, within the site's window. -/
def syncRangeLegal (r : ScoreRec) : Bool :=
  let len := r.addrs.getD 63 0
  decide (len % 8 = 0 ∧ len ≤ 256 ∧ r.addrs.getD 62 0 + len ≤ 0x800000)

/-- Whether the binding of a port attachment site is a code of Table 6.1 and no more (R174). -/
def bindingEncoded (r : ScoreRec) : Bool :=
  let c := r.addrs.getD 61 0x3F
  decide (siteType r.site ≠ 6 ∨ c ≤ 0x28 ∨ c = 0x3F)

/-- Whether a score record is legally encoded (Tables 2.7, 5.3 and 7.3, R174, R183, R200). -/
def scoreLegal (r : ScoreRec) : Bool :=
  let m := r.kvMode
  r.xst.all (fun e => decide (e.1 < 4096) && xstEncoded e.2) && bindingEncoded r && syncRangeLegal r &&
  (decide (siteType r.site ≠ 2 ∨ kvRole m ≠ 1) || headsLegal r) &&
  decide (r.role < 4096 ∧ r.stage < 4096 ∧ r.rclass < 8) && r.addrs.all (fun a => decide (a < 2 ^ 48)) &&
  (decide (siteType r.site ≠ 1) ||
    (decide (stackLog r.tmode ≤ 4 ∧ bits r.tmode 9 8 ≤ 1 ∧ bits r.tmode 15 12 ≤ 4 ∧ r.tmode.toNat < 2 ^ 16 ∧ bits r.tmode 11 10 = 0 ∧
      bits r.tmode 7 3 = 0 ∧ r.tafmt.toNat < 2 ^ 48) && (List.range 16).all (fun l => decide (arrayFmt r.tafmt l ≤ 4)))) &&
  (decide (siteType r.site ≠ 2) || decide (kvRole m = 0 ∧ kvHeads m = 0) ||
    decide (kvRole m ≤ 2 ∧ kvRole m ≠ 0 ∧ 1 ≤ kvHeads m ∧ kvHeads m ≤ 16 ∧ kvRank (kvFmt m) ≠ 0 ∧ m.toNat < 2 ^ 36 ∧
      kvGidx m < kvK m ∧ kvFrames m ≤ frameLimit (kvHeads m) (kvFmt m)))

/-- SITE (R144); a head group that breaks R198 takes this reason too: DESIGN CHOICE, as content of the score records (log entry 82). -/
def State.sitesBad (s : State) (v : VariantImage) : Bool :=
  (v.kvCores 1).any (fun r => !(groupLegal v r)) ||
  v.scores.any (fun r => !(isSite r.site) || s.siteCode r.site != 0 || !(scoreLegal r) ||
    v.scores.any (fun t => decide (t.role = r.role ∧ siteType t.site ≠ siteType r.site))) ||
  decide ((v.scores.map (·.site)).eraseDups.length ≠ v.scores.length)

/-- QUERY_FORMAT. -/
def State.queryBad (s : State) (v : VariantImage) : Bool :=
  (List.range 16).any (fun p => !(v.lanesOf p).isEmpty && (s.cfg p).queryFmt != v.queryFmt)

/-- The marked express connections of port attachment sites in one slot: one flit of 32 bytes each. -/
def mgmtFlits (v : VariantImage) : Nat :=
  (v.scores.filter (fun r => decide (siteType r.site = 6))).foldl (fun (a : Nat) r =>
    (bodyOf v (siteHalf r.site)).foldl (fun (a : Nat) x =>
      let f := selectorOf x r.rclass
      if !(f.getLsbD 23) then a
      else
        (List.range ((headerOf x).rep + 1)).foldl (fun (a : Nat) i =>
          let row := bits f 7 0 + (if f.getLsbD 22 then i else 0)
          a + r.xst.countP (fun e => decide (e.1 / 16 = row) && e.2.getLsbD 18 &&
            decide (xstIn e.2 5 ≠ 0 ∨ (List.range 5).any (fun o => decide (xstIn e.2 o = 6))))) a) a) 0

/-- MGMT_WINDOW: marked entries of less than mgmt_bw GB/s, or mgmt_bw below 64. -/
def mgmtBad (v : VariantImage) : Bool :=
  decide (v.mgmtBw < 64) ||
  decide (32 * mgmtFlits v * 85 < v.mgmtBw * 100 * (v.slotAclk * (if v.plan = 0 then 1 else 2)))

/-! ## All of Table 5.14 -/

/-- The reasons of Table 5.14 in the order of their codes, each with whether it holds for an image to be stored in a slot. -/
def State.loadChecks (s : State) (slot : Nat) (v : VariantImage) : List (Byte × Bool) :=
  [(0x01, containerBad v), (0x02, !v.transfer && (s.genOf v).isNone), (0x03, v.defectDigest != s.defectDigest), (0x04, lanesBad v),
   (0x05, slotLengthBad v), (0x06, bodyBad v slot), (0x07, runBad v), (0x08, reductionBad v), (0x09, unitConflict v),
   (0x0A, s.routeBad v),
   (0x0B, decide (bodyBeats (bodyOf v .west) ≠ v.halfBeats .west ∨ bodyBeats (bodyOf v .east) ≠ v.halfBeats .east)),
   (0x0C, quantBad v), (0x0D, s.lanePlanBad v), (0x0E, thermalBad v), (0x0F, notchBad v), (0x10, s.sitesBad v),
   (0x11, v.portPlan != s.lock.plan), (0x12, s.queryBad v), (0x13, mgmtBad v)]

/-- The first reason that refuses an image, or 0. -/
def State.loadReason (s : State) (slot : Nat) (v : VariantImage) : Byte :=
  (((s.loadChecks slot v).find? (·.2)).map (·.1)).getD 0

end Sys2Proof.Machine
end

