-- ==== Sys2Proof/Machine/Security.lean ====
section
/-! DEFINITION. Isolation and security (chapter 13): partition records, resets and profiles, SPDM exchanges, keys, firmware, debug
access and vendor records. -/

namespace Sys2Proof.Machine

/-! ## Partition configuration (R393, R395, R396) -/

/-- Bit i of a number. -/
def numBit (n i : Nat) : Bool := decide (n / 2 ^ i % 2 = 1)

/-- A configuration record as its bytes spell it (Table 13.2); the operator's flags [3:0] are ignored (R395). -/
def parseRecord (b : CmdBlock) : PartCfg :=
  let p := b.par 6 1
  let fl := if p = 31 then 0 else b.par 7 1
  { partition := p, allowRegen := numBit fl 0, signedAdapters := numBit fl 1, toGateway := numBit fl 2, sealOut := numBit fl 3
    laneQuota := b.par 8 2, widePairs := b.par 0x0A 2, seqBase := b.par 0x0C 2, seqCount := b.par 0x0E 2
    kvQuota := b.par 0x10 4, sweepQuota := b.par 0x14 4, adpBase := b.par 0x18 2, adpCount := b.par 0x1A 2
    resCount := b.par 0x1C 2, queueLimit := b.par 0x1E 2, weight := b.par 0x20 1, queryFmt := BitVec.ofNat 8 (b.par 0x21 1)
    minKeyRank := b.par 0x22 1, cowAllot := b.par 0x23 1, defaultTtl := b.par 0x24 4
    adpArea := (b.par 0x28 8, b.par 0x30 8), reqArea := (b.par 0x38 8, b.par 0x40 8), parkArea := (b.par 0x48 8, b.par 0x50 8)
    spillBase := b.par 0x58 8, coldDevice := b.par 0x60 2, coldInbox := b.par 0x62 1, gwInbox := b.par 0x63 1
    gwDevice := b.par 0x64 2, raw := b.params.take 128 }

/-- BAD_RECORD: a reserved value or field, or a field outside its range. -/
def State.recordBad (s : State) (b : CmdBlock) (c : PartCfg) : Bool :=
  decide (b.par 0 4 ≠ 0x43505749 ∨ b.par 4 2 ≠ 1 ∨ (15 < c.partition ∧ c.partition ≠ 31) ∨ 15 < b.par 7 1 ∨ b.par 0x66 26 ≠ 0 ∨
    4096 < c.laneQuota ∨ 32768 < c.seqBase + c.seqCount ∨ 1024 < c.adpBase + c.adpCount ∨ 1024 < c.queueLimit ∨ c.weight = 0 ∨
    (c.queryFmt ≠ 0x09 ∧ c.queryFmt ≠ 0x07) ∨ 6 < c.minKeyRank ∨ 16 < c.cowAllot ∨
    c.defaultTtl < 811 ∨ 70037842 < c.defaultTtl ∨ 1023 < c.coldDevice ∨ 1023 < c.gwDevice) ||
  (decide (c.adpArea.2 ≠ 0) && !(s.inWregion c.adpArea.1 c.adpArea.2))

/-- Whether two ranges share an element. -/
def meets (a b : Nat × Nat) : Bool := decide (a.2 ≠ 0 ∧ b.2 ≠ 0) && overlaps a b

/-- Whether two records share a sequence entry, an adapter slot or a byte of DRAM. -/
def PartCfg.clashes (c d : PartCfg) : Bool :=
  meets (c.seqBase, c.seqCount) (d.seqBase, d.seqCount) || meets (c.adpBase, c.adpCount) (d.adpBase, d.adpCount) ||
  c.areas.any (fun a => d.areas.any (meets a))

/-- The records that stand or wait for an owner: in force, accepted, of a reset whose areas are still being zeroed. -/
def State.recordsOf (s : State) (p : Nat) : List PartCfg :=
  let q := s.part p
  q.cfg.toList ++ q.cfgDue.map (·.1) ++ q.zeroCfg.toList

/-- The record an owner will have at the next boundary, if any. -/
def State.nextCfg (s : State) (p : Nat) : Option PartCfg :=
  match (s.part p).cfgDue.getLast? with
  | some e => some e.1
  | none => (s.part p).cfg

/-- The descriptor ring's range. -/
def State.descRange (s : State) : Nat × Nat :=
  (s.hif.descBase.toNat * 65536, if s.hif.descEnable then s.hif.descEntries.toNat * 65536 else 0)

/-- OVERLAP (R396 step 3, R450). -/
def State.recordOverlaps (s : State) (c : PartCfg) : Bool :=
  let goldens := s.gens.filterMap (fun g => if g.state = 0 then none else some (g.goldenBase, g.goldenSize))
  (owners.filter (fun p => p ≠ c.partition)).any (fun p => (s.recordsOf p).any c.clashes) ||
  c.areas.any (fun a => decide (a.2 ≠ 0) &&
    (decide (a.1 % 4096 ≠ 0) || meets a s.vRange || meets a s.descRange || !(s.okDram a.1 a.2))) ||
  (c.areas.drop 1).any (meets · s.wRange) || goldens.any (meets c.adpArea)

/-- IN_USE (R396 step 4, R459). -/
def State.recordInUse (s : State) (c : PartCfg) : Bool :=
  let p := c.partition
  (s.part p).zeroing.isSome ||
  (match s.nextCfg p with
   | none => false
   | some o =>
     decide ((o.seqBase, o.seqCount) ≠ (c.seqBase, c.seqCount) ∨ (o.adpBase, o.adpCount) ≠ (c.adpBase, c.adpCount) ∨ o.areas ≠ c.areas) &&
       !(decide (p = 31 ∧ o.raw = [])) ||
     decide (c.kvQuota < s.usedFrames p ∨ c.sweepQuota < s.usedSweep p ∨ c.resCount < s.activeOf p 1 ∨ c.queueLimit < (s.queueOf p).length))

/-- VARIANT_CONFLICT (R396 step 5, R93, Table 5.15), against every resident variant; the operator may own lanes and no pair (R95). -/
def State.recordConflict (s : State) (c : PartCfg) : Bool :=
  (List.range 64).any (fun n => match (s.var n).img with
    | none => false
    | some v =>
      let l := (v.lanesOf c.partition).length
      let k := (v.pairsOf c.partition).length
      decide (l ≠ 0 ∧ (c.laneQuota < l ∨ c.laneQuota < 2 * k ∨ (c.partition ≠ 31 ∧ 2 ≤ c.laneQuota ∧ k = 0) ∨ k < c.widePairs ∨
        v.queryFmt ≠ c.queryFmt)))

/-- A sum over the operator and every partition as the record would leave them. -/
def State.sumWith (s : State) (c : PartCfg) (f : PartCfg → Nat) : Nat :=
  ((owners.filter (fun p => p ≠ c.partition)).filterMap s.nextCfg).foldl (fun (a : Nat) d => a + f d) (f c)

/-- OVERCOMMIT (R393): under STRICT only. -/
def State.overcommits (s : State) (c : PartCfg) : Bool :=
  !s.nv.profileShared &&
  (decide (16 < s.sumWith c (·.cowAllot)) ||
   (List.range 64).any (fun n => match (s.var n).img with
     | none => false
     | some v => decide (v.decodeFrames < s.sumWith c (·.kvQuota) ∨ v.sweepPages < s.sumWith c (·.sweepQuota))))

/-- The first failure of a record, in the order of R396. -/
def State.recordStatus (s : State) (b : CmdBlock) : Byte :=
  let c := parseRecord b
  if s.recordBad b c then 0x01
  else if s.sec.lifecycle = 1 then 0x0C
  else if s.recordOverlaps c then 0x02
  else if s.recordInUse c then 0x05
  else if s.recordConflict c then 0x04
  else if s.overcommits c then 0x03
  else 0

/-- An effect taken at once while the engine is held (R32). -/
def State.ifHeld (s : State) (f : State → State) : State := s.when s.held f

/-- A record accepted, or refused with its status. -/
def State.partConfig (s : State) (b : CmdBlock) (st : Byte) : State :=
  if st ≠ 0 then s.result b 0x51 st
  else
    let c := parseRecord b
    ((s.opened b 0x51).updPart c.partition (fun q => { q with cfgDue := q.cfgDue ++ [(c, b.channel, b.cseq)] })).ifHeld
      (fun t => t.applyConfig c.partition)

/-- PART_CONFIG. -/
def execPartConfig (b : CmdBlock) (s : State) : Out :=
  act {
      nv := true, mem := true, host := true, poison := true, adps := true, frames := true, sweeps := true, seqs := true, parts := true,
      srv := true, fab := true, chans := true, hif := true, sec := true } (fun s =>
        s.accept ⟨0x51, true, [0, 18]⟩ false false b (fun t => t.partConfig b (t.recordStatus b))) s

/-- A partition reset requested (R397): one joins a reset that waits or whose areas are being zeroed (Table 15.5). -/
def State.partReset (s : State) (b : CmdBlock) : State :=
  let p := b.par 0 1
  let unconf := decide (b.par 1 1 = 1)
  if 15 < p ∨ 1 < b.par 1 1 then s.result b 0x52 1
  else
    let s1 := s.opened b 0x52
    match (s1.part p).zeroing with
    | some (u, cs) =>
      let s2 := s1.updPart p (fun q => { q with
        zeroing := some (u || unconf, cs ++ [(b.channel, b.cseq)]), cfg := if unconf then none else q.cfg })
      if unconf then { s2 with nv := { s2.nv with partCfgs := s2.nv.partCfgs.set none p none } } else s2
    | none =>
      (s1.updPart p (fun q =>
        let r := q.resetDue.getD (false, q.cfgDue.length, [])
        { q with resetDue := some (r.1 || unconf, r.2.1, r.2.2 ++ [(b.channel, b.cseq)]) })).ifHeld (fun t => t.applyReset p)

/-- PART_RESET. -/
def execPartReset (b : CmdBlock) (s : State) : Out :=
  act {
      nv := true, mem := true, host := true, poison := true, adps := true, frames := true, sweeps := true, seqs := true, parts := true,
      srv := true, fab := true, chans := true, hif := true, sec := true } (fun s =>
        s.accept ⟨0x52, true, [0, 18]⟩ false false b (fun t => t.partReset b)) s

/-- Whether a tenant partition is configured, or about to be (R391, R416). -/
def State.hasTenants (s : State) : Bool := (List.range 16).any (fun p => s.configured p || (s.part p).cfgDue.length != 0)

/-- A profile change requested (R391). -/
def State.profileSet (s : State) (b : CmdBlock) : State :=
  if 1 < b.par 0 1 then s.result b 0x53 1
  else if s.hasTenants then s.result b 0x53 8
  else if s.sec.lifecycle ≠ 0 then s.result b 0x53 0x0C
  else
    let s1 := s.opened b 0x53
    ({ s1 with sec := { s1.sec with
        profilePending := s1.sec.profilePending ++ [(decide (b.par 0 1 = 1), b.channel, b.cseq)] } }).ifHeld State.applyProfile

/-- PROFILE_SET. -/
def execProfileSet (b : CmdBlock) (s : State) : Out :=
  act { nv := true, mem := true, host := true, poison := true, parts := true, fab := true, chans := true, hif := true, sec := true } (fun s =>
      s.accept ⟨0x53, true, [0, 18]⟩ false false b (fun t => t.profileSet b)) s

/-! ## SPDM (R400–R402) -/

/-- The owner a channel's measurements are given to. -/
def State.askerRecords (s : State) (c : Nat) : List Byte :=
  if chanOwner c < 16 then (s.cfg (chanOwner c)).raw
  else (owners.filter s.configured).flatMap (fun p => (s.cfg p).raw)

/-- What slot evidence holds (Table 13.5, block 8). -/
def Gen.evidence (g : Gen) : List Byte :=
  [g.state.zeroExtend 8, if g.fixed then 1 else 0] ++ leBytes 8 g.imageId.toNat ++ leBytes 64 g.digest.toNat

/-- A measurement block for a channel (Table 13.5). The digests of the boot ROM and of the image's bytes are the model's free values. -/
def State.measurement (s : State) (c index : Nat) : List Byte :=
  match index with
  | 1 => Config.spdmBytes 0x160 0
  | 2 => Config.spdmBytes 0x260 s.nv.fwVersion.toNat
  | 3 => leBytes 8 s.nv.fwVersion.toNat ++ leBytes 4 s.nv.fwSvn.toNat ++ leBytes 4 s.nv.minSvn.toNat
  | 4 => [s.sec.lifecycle.zeroExtend 8, s.sec.scope.zeroExtend 8, if s.sec.unlocked then 1 else 0, 0]
  | 5 => [if s.nv.profileShared then 1 else 0, s.sens.cadence.zeroExtend 8]
  | 6 => sha512 (s.askerRecords c)
  | 7 => sha512 s.defectRecord
  | 8 => sha512 (s.wgt.genA.evidence ++ s.wgt.genB.evidence)
  | 9 => sha512 s.nv.roots.flatten
  | 10 => sha512 (leBytes 4 s.lock.plan.toNat ++ leBytes 8 (s.lock.topo.toNat * 1024) ++ (List.range 24).flatMap (fun n => leBytes 8 (s.port n).pin.toNat))
  | 11 =>
    let q := s.part (chanOwner c)
    let key := if chanOwner c < 16 then q.cmdKey.isSome else s.nv.opKey.isSome
    [if key then 1 else 0, 0] ++ leBytes 2 q.epoch.toNat
  | _ => []

/-- The blocks GET_MEASUREMENTS returns: the index asked, or all of them; in recovery mode blocks 1 and 4 only (R462). -/
def State.measurements (s : State) (c index : Nat) : List Byte :=
  let all := if s.boot.recovery then [1, 4] else List.range' 1 11
  let asked := if index = 0xFF then all else all.filter (· = index)
  asked.flatMap (fun i => BitVec.ofNat 8 i :: s.measurement c i)

/-- The response code and the bytes the spec gives a response; the rest of its bytes are free (R401, log entry 40). -/
def State.answer (s : State) (c : Nat) (code : Byte) (body : List Byte) : State :=
  ({ s with freeCount := s.freeCount + 1 }).updSpdm c (fun x => { x with
    response := [0x13, code] ++ body ++ Config.spdmBytes code.toNat s.freeCount })

/-- The ERROR response: nothing else happens. -/
def State.spdmError (s : State) (c : Nat) : State := s.updSpdm c (fun x => { x with response := [0x13, 0x7F] })

/-- One SPDM request on a channel (R401): its effect on the exchange and its response. -/
def State.spdmStep (s : State) (c : Nat) (r : SpdmRequest) : State :=
  let x := s.spdm c
  let after := fun (ok : Bool) (code : Byte) (body : List Byte) (f : Spdm → Spdm) =>
    if ok then (s.updSpdm c f).answer c code body else s.spdmError c
  match r with
  | .getVersion => after true 0x04 [0x13] (fun y => { y with versioned := true, capable := false, negotiated := false, keyed := false })
  | .getCapabilities => after x.versioned 0x61 [] (fun y => { y with capable := true })
  | .negotiateAlgorithms sup => after (x.capable && sup) 0x63 [] (fun y => { y with negotiated := true })
  | .getDigests => after x.negotiated 0x01 [] id
  | .getCertificate _ _ => after x.negotiated 0x02 [] id
  | .challenge _ => after x.negotiated 0x03 [] id
  | .getMeasurements index _ => after x.negotiated 0x60 (s.measurements c index) id
  | .keyExchange sup => after (x.negotiated && sup) 0x64 [] (fun y => { y with keyed := true, isOpen := false, keyGen := y.keyGen + 1 })
  | .finish ok => after (x.keyed && ok) 0x65 [] (fun y => { y with keyed := false, isOpen := true })
  | .heartbeat => after x.isOpen 0x68 [] id
  | .keyUpdate => after x.isOpen 0x69 [] (fun y => { y with keyGen := y.keyGen + 1 })
  | .endSession => after x.isOpen 0x6C [] (fun y => { y with isOpen := false, keyed := false })

/-- Whether SPDM is served on a channel now (R401, R449, R462). -/
def State.spdmServed (s : State) (c : Nat) : Bool :=
  if s.boot.recovery then decide (c = 0 ∨ c = 18)
  else if 2 ≤ c ∧ c < 18 then s.vfOpen (c - 2) else decide (c ≤ 1 ∨ c = 18 ∨ c = 20)

/-- A request as a channel carries it; on channel 18 the response leaves in an MCTP message (R401). -/
def State.spdmOn (s : State) (c : Nat) (r : SpdmRequest) : State :=
  if s.spdmServed c then
    let s1 := s.spdmStep c r
    if c = 18 then { s1 with hif := { s1.hif with mctpOut := (s1.spdm c).response } } else s1
  else s

/-- GET_VERSION. -/
def execGetVersion (channel : Nat) (s : State) : Out := act { freeCount := true, hif := true, sec := true } (fun s =>
    s.spdmOn channel .getVersion) s
/-- GET_CAPABILITIES. -/
def execGetCapabilities (channel : Nat) (s : State) : Out := act { freeCount := true, hif := true, sec := true } (fun s =>
    s.spdmOn channel .getCapabilities) s
/-- NEGOTIATE_ALGORITHMS. -/
def execNegotiateAlgorithms (channel : Nat) (supported : Bool) (s : State) : Out :=
  act { freeCount := true, hif := true, sec := true } (fun s => s.spdmOn channel (.negotiateAlgorithms supported)) s
/-- GET_DIGESTS. -/
def execGetDigests (channel : Nat) (s : State) : Out := act { freeCount := true, hif := true, sec := true } (fun s =>
    s.spdmOn channel .getDigests) s
/-- GET_CERTIFICATE. -/
def execGetCertificate (channel offset length : Nat) (s : State) : Out := act { freeCount := true, hif := true, sec := true } (fun s =>
    s.spdmOn channel (.getCertificate offset length)) s
/-- CHALLENGE. -/
def execChallenge (channel : Nat) (nonce : BitVec 256) (s : State) : Out := act { freeCount := true, hif := true, sec := true } (fun s =>
    s.spdmOn channel (.challenge nonce)) s
/-- GET_MEASUREMENTS. -/
def execGetMeasurements (channel index : Nat) (nonce : BitVec 256) (s : State) : Out :=
  act { freeCount := true, hif := true, sec := true } (fun s => s.spdmOn channel (.getMeasurements index nonce)) s
/-- KEY_EXCHANGE. -/
def execKeyExchange (channel : Nat) (supported : Bool) (s : State) : Out := act { freeCount := true, hif := true, sec := true } (fun s =>
    s.spdmOn channel (.keyExchange supported)) s
/-- SPDM_FINISH. -/
def execSpdmFinish (channel : Nat) (verified : Bool) (s : State) : Out := act { freeCount := true, hif := true, sec := true } (fun s =>
    s.spdmOn channel (.finish verified)) s
/-- HEARTBEAT. -/
def execHeartbeat (channel : Nat) (s : State) : Out := act { freeCount := true, hif := true, sec := true } (fun s => s.spdmOn channel .heartbeat) s
/-- KEY_UPDATE. -/
def execKeyUpdate (channel : Nat) (s : State) : Out := act { freeCount := true, hif := true, sec := true } (fun s => s.spdmOn channel .keyUpdate) s
/-- END_SESSION. -/
def execEndSession (channel : Nat) (s : State) : Out := act { freeCount := true, hif := true, sec := true } (fun s =>
    s.spdmOn channel .endSession) s

/-- Whether SEC_SPDM's parameters are legal: the kind, a message inside the block, and a response buffer in the sender's reach. -/
def State.spdmParams (s : State) (b : CmdBlock) (kind : Nat) : Bool :=
  decide (b.par 2 1 = kind ∧ 1 ≤ b.par 0 2 ∧ 0x60 + b.par 0 2 ≤ b.length) && s.blockReach b.channel (b.par 8 8) (b.par 0x10 4)

/-- A response written to the buffer a SEC_SPDM names, as far as it holds it (R401). -/
def State.respond (s : State) (b : CmdBlock) (bs : List Byte) : State := s.wrBytes (b.par 8 8) (bs.take (b.par 0x10 4))

/-- A SEC_SPDM of kind 0x00: the request answered, its response written, the command complete. -/
def State.spdmRequest (s : State) (b : CmdBlock) (req : SpdmRequest) : State :=
  if !(s.spdmParams b 0) then s.result b 0x50 1
  else
    let s1 := (s.opened b 0x50).spdmStep b.channel req
    (s1.respond b (s1.spdm b.channel).response).complete b.channel 0x50 b.cseq 0 0

/-- The channels of SEC_SPDM (R401). -/
def spdmInfo : CmdInfo := ⟨0x50, false, [0, 1] ++ vfChans ++ [20]⟩

/-- SEC_SPDM_REQUEST. -/
def execSecSpdmRequest (b : CmdBlock) (req : SpdmRequest) (s : State) : Out :=
  act {
      freeCount := true, nv := true, mem := true, host := true, poison := true, parts := true, fab := true, chans := true, hif := true,
      sec := true } (fun s => s.accept spdmInfo false false b (fun t => t.spdmRequest b req)) s

/-! ## Keys (R403–R406, Table 13.6) -/

/-- The channels any KEY_LOAD may come on, the sender's session making it secure (R401, Table 13.6). -/
def keyInfo : CmdInfo := ⟨0x54, true, [0, 18] ++ vfChans⟩

/-- Whether a KEY_LOAD of a kind is a first load, accepted untagged (Table 13.6, R406). -/
def State.firstLoad (s : State) (kind : Byte) (c : Nat) : Bool :=
  (kind == 1 && s.nv.opKey.isNone) || (kind == 2 && (s.part (chanOwner c)).cmdKey.isNone)

/-- The rule of Table 13.6 on a kind's channel, target and material. -/
def State.keyRule (s : State) (kind : Byte) (c : Nat) (k : KeyRecord) : Bool :=
  let operator := decide ((c = 0 ∨ c = 18) ∧ k.target.toNat = 31)
  let own := decide (2 ≤ c ∧ c < 18 ∧ k.target.toNat = c - 2) && s.configured (c - 2)
  if kind = 1 then operator
  else if kind = 2 then own
  else if kind = 3 then own && (s.part (c - 2)).cmdKey.isSome
  else if kind = 4 then operator && s.nv.opKey.isSome && decide (s.nv.roots.length < 8)
  else if kind = 5 then operator && s.nv.opKey.isSome && decide (ofLE k.material < s.nv.roots.length)
  else false

/-- The bytes of a kind's material. -/
def keyBytes (kind : Byte) : Nat := if kind = 1 ∨ kind = 2 then 64 else if kind = 3 then 32 else if kind = 4 then 133 else 1

/-- A key stored (R404, R406, R411). -/
def State.storeKey (s : State) (kind : Byte) (k : KeyRecord) : State :=
  let p := k.target.toNat
  if kind = 1 then { s with nv := { s.nv with opKey := some k.material } }
  else if kind = 2 then s.updPart p (fun q => { q with cmdKey := some k.material, secCtr := 0 })
  else if kind = 3 then s.updPart p (fun q => { q with egressDue := q.egressDue ++ [k.material] })
  else if kind = 4 then { s with nv := { s.nv with roots := s.nv.roots ++ [k.material] } }
  else { s with nv := { s.nv with roots := s.nv.roots.eraseIdx (ofLE k.material) } }

/-- Whether a KEY_LOAD's parameters frame one message: its length inside the block, reserved bytes zero, zeros after it. -/
def keyParams (b : CmdBlock) : Bool :=
  let n := b.par 0 2
  decide (1 ≤ n ∧ 0x48 + n ≤ b.length ∧ b.par 2 6 = 0) && (b.params.drop (8 + n)).all (· == 0)

/-- A KEY_LOAD's own checks, and its key stored. -/
def State.keyLoad (s : State) (kind : Byte) (b : CmdBlock) (k : KeyRecord) : State :=
  if !(keyParams b) then s.result b 0x54 1
  else if !(s.spdm b.channel).isOpen then s.result b 0x54 6
  else if !k.openedOk || !k.reservedZero then s.result b 0x54 1
  else if !(s.keyRule kind b.channel k) then s.result b 0x54 7
  else if k.material.length ≠ keyBytes kind then s.result b 0x54 1
  else ((s.opened b 0x54).storeKey kind k).complete b.channel 0x54 b.cseq 0 0

/-- A KEY_LOAD of a kind as it arrives. -/
def State.keyLoadOn (s : State) (kind : Byte) (b : CmdBlock) (k : KeyRecord) : State :=
  s.accept keyInfo true (s.firstLoad kind b.channel) b (fun t => t.keyLoad kind b k)

/-- KEY_LOAD_OPERATOR_CMD. -/
def execKeyLoadOperatorCmd (b : CmdBlock) (k : KeyRecord) (s : State) : Out := act {
    nv := true, mem := true, host := true, poison := true, parts := true, fab := true, chans := true, hif := true, sec := true } (fun s =>
      s.keyLoadOn 1 b k) s
/-- KEY_LOAD_PARTITION_CMD. -/
def execKeyLoadPartitionCmd (b : CmdBlock) (k : KeyRecord) (s : State) : Out := act {
    nv := true, mem := true, host := true, poison := true, parts := true, fab := true, chans := true, hif := true, sec := true } (fun s =>
      s.keyLoadOn 2 b k) s
/-- KEY_LOAD_PARTITION_EGRESS. -/
def execKeyLoadPartitionEgress (b : CmdBlock) (k : KeyRecord) (s : State) : Out := act {
    nv := true, mem := true, host := true, poison := true, parts := true, fab := true, chans := true, hif := true, sec := true } (fun s =>
      s.keyLoadOn 3 b k) s
/-- KEY_LOAD_ROOT_ADD. -/
def execKeyLoadRootAdd (b : CmdBlock) (k : KeyRecord) (s : State) : Out := act {
    nv := true, mem := true, host := true, poison := true, parts := true, fab := true, chans := true, hif := true, sec := true } (fun s =>
      s.keyLoadOn 4 b k) s
/-- KEY_LOAD_ROOT_REMOVE. -/
def execKeyLoadRootRemove (b : CmdBlock) (k : KeyRecord) (s : State) : Out := act {
    nv := true, mem := true, host := true, poison := true, parts := true, fab := true, chans := true, hif := true, sec := true } (fun s =>
      s.keyLoadOn 5 b k) s

/-! ## Secured commands of a VF (R401) -/

/-- The inner block as a command of the VF's channel: it carries its own cseq, and no message word names its address. -/
def innerOf (b inner : CmdBlock) : CmdBlock :=
  { inner with channel := b.channel, cseq := inner.blkCseq.truncate 4, addr := 0, readOk := true }

/-- The inner command checked and served as one on a secure channel of its VF. A code that no VF may send is NOT_PERMITTED. -/
def State.inner (s : State) (i : CmdBlock) (d : InnerDetail) : State :=
  match d with
  | .key kind k =>
    s.acceptBlock { keyInfo with code := i.blkCode, chans := if i.blkCode = 0x54 then keyInfo.chans else [] } true true
      (s.firstLoad kind i.channel) i (fun t => t.keyLoad kind i k)
  | .spdm req =>
    s.acceptBlock { spdmInfo with code := i.blkCode, chans := if i.blkCode = 0x50 then spdmInfo.chans else [] } true true false i
      (fun t => t.spdmRequest i req)
  | .plain =>
    if i.blkCode = 0x28 then s.acceptBlock ⟨0x28, false, vfChans⟩ true true false i (fun t => t.adpLoad i)
    else if i.blkCode = 0x29 then s.acceptBlock ⟨0x29, false, vfChans⟩ true true false i (fun t => t.adpRetire i)
    else if i.blkCode = 0x40 then s.acceptBlock ⟨0x40, false, vfChans⟩ true true false i (fun t => t.hostCopy i)
    else if i.blkCode = 0x50 then s.acceptBlock ⟨0x50, false, vfChans⟩ true true false i (fun t => t.result i 0x50 1)
    else if i.blkCode = 0x54 then s.acceptBlock ⟨0x54, true, vfChans⟩ true true false i (fun t => t.result i 0x54 1)
    else s.acceptBlock ⟨i.blkCode, true, []⟩ true true false i id

/-- A SEC_SPDM of kind 0x01: the secured message opened, its command served, and a secured message with the same words written to
the response buffer (R401). -/
def State.securedCommand (s : State) (b : CmdBlock) (openedOk : Bool) (inner : CmdBlock) (d : InnerDetail) : State :=
  if !(s.spdmParams b 1) || decide (b.channel < 2 ∨ 18 ≤ b.channel) then s.result b 0x50 1
  else if !(s.spdm b.channel).isOpen then s.result b 0x50 6
  else if !openedOk then s.result b 0x50 1
  else
    let s1 := s.inner (innerOf b inner) d
    ({ s1 with freeCount := s1.freeCount + 1 }).respond b (Config.spdmBytes 0x06 s1.freeCount)

/-- SEC_SPDM_SECURED_COMMAND. -/
def execSecSpdmSecuredCommand (b : CmdBlock) (openedOk : Bool) (inner : CmdBlock) (detail : InnerDetail) (s : State) : Out :=
  act {
      freeCount := true, nv := true, mem := true, host := true, poison := true, adps := true, parts := true, fab := true, chans := true,
      hif := true, sec := true } (fun s => s.accept spdmInfo false false b (fun t => t.securedCommand b openedOk inner detail)) s

/-! ## Firmware (R413, R414) -/

/-- The status an image's checks give: OK, BAD_SIGNATURE, ROLLBACK. -/
def State.imageVerdict (s : State) (img : FwImage) : Byte :=
  if !img.headerOk || !img.chainOk || !img.signatureOk || !img.digestOk then 9
  else if img.svn < s.nv.minSvn then 0x0A else 0

/-- An image that passed begins to be written. -/
def State.startWrite (s : State) (img : FwImage) (cmd : Option (Nat × BitVec 4)) : State :=
  { s with sec := { s.sec with fwWrite := s.sec.fwWrite ++ [(img, cmd)] } }

/-- FW_UPDATE's own checks: its parameters, then the whole image before the flash is touched. In recovery mode the image lies in
host memory (R462). -/
def State.fwUpdate (s : State) (b : CmdBlock) (img : FwImage) : State :=
  let a := b.par 8 8
  let n := b.par 16 8
  if b.par 0 1 ≠ 0 ∨ 1 < b.par 1 1 ∨ (b.par 1 1 = 0 ∧ !(if s.boot.recovery then inHost a n else s.inReach 31 a n))
      ∨ (b.par 1 1 = 1 ∧ (255 < b.par 4 2 ∨ s.boot.recovery)) then s.result b 0x55 1
  else
    let s1 := s.opened b 0x55
    let v := s.imageVerdict img
    if v ≠ 0 then s1.complete b.channel 0x55 b.cseq v 0 else s1.startWrite img (some (b.channel, b.cseq))

/-- FW_UPDATE. -/
def execFwUpdate (b : CmdBlock) (img : FwImage) (s : State) : Out :=
  act { nv := true, mem := true, host := true, poison := true, parts := true, fab := true, chans := true, hif := true, sec := true } (fun s =>
      s.accept ⟨0x55, true, [0, 18]⟩ false false b (fun t => t.fwUpdate b img)) s

/-- The end of the flash write in progress: the image in flash as read back, its event, its command's COMPLETE. -/
def State.writeDone (s : State) (ok : Bool) : State :=
  match s.sec.fwWrite with
  | [] => s
  | (img, cmd) :: rest =>
    let s1 := { s with
      sec := { s.sec with fwWrite := rest }
      nv := { s.nv with flash := { img with digestOk := ok } }
      boot := { s.boot with recoveryUpdated := s.boot.recoveryUpdated || (s.boot.recovery && ok) } }
    let s2 := if ok then s1.event [.pf, .bmc] 0x24 img.svn.toNat else s1
    match cmd with
    | some (c, cseq) => s2.complete c 0x55 cseq (if ok then 0 else 0x0B) 0
    | none => s2

/-- FW_WRITE_COMPLETE. -/
def execFwWriteComplete (readBackOk : Bool) (s : State) : Out := act {
    boot := true, nv := true, fab := true, chans := true, hif := true, sec := true } (fun s => s.writeDone readBackOk) s

/-! ## Debug access and vendor records (R412, R416, R131) -/

/-- Whether a vendor record holds on this device now: bound to it and to the nonce, signed (R412). -/
def State.recordHolds (s : State) (r : VendorRecord) : Bool :=
  r.magicOk && r.signatureOk && r.ident == s.nv.ident && r.nonce == s.sec.nonce

/-- The bytes of a vendor record: magic, kind, slot, ident, nonce, r and s (R412). -/
def vendorBytes : Nat := 178

/-- An unlock accepted (R416). -/
def State.unlock (s : State) (b : CmdBlock) : State :=
  let sc := b.par 0 1
  let s1 := s.opened b 0x56
  let s2 := { s1 with sec := { s1.sec with lifecycle := 1, scope := BitVec.ofNat 2 sc, unlocked := true } }
  (s2.event [.pf, .bmc] 0x23 sc).complete b.channel 0x56 b.cseq 0 0

/-- DBG_UNLOCK's own checks (R416). -/
def State.dbgUnlock (s : State) (b : CmdBlock) (token : VendorRecord) : State :=
  let sc := b.par 0 1
  if sc ≠ 1 ∧ sc ≠ 2 then s.result b 0x56 1
  else if s.hasTenants then s.result b 0x56 8
  else if sc = 1 then s.unlock b
  else if !(s.inReach 31 (b.par 8 8) vendorBytes) then s.result b 0x56 1
  else if s.recordHolds token then s.renewNonce.unlock b
  else s.renewNonce.result b 0x56 9

/-- DBG_UNLOCK. -/
def execDbgUnlock (b : CmdBlock) (token : VendorRecord) (s : State) : Out :=
  act {
      freeCount := true, nv := true, mem := true, host := true, poison := true, parts := true, fab := true, chans := true, hif := true,
      sec := true } (fun s => s.accept ⟨0x56, true, [0, 18]⟩ false false b (fun t => t.dbgUnlock b token)) s

/-- A RECORD_LOAD whose record holds has its effect; every use renews the nonce (R412). -/
def State.recordLoad (s : State) (b : CmdBlock) (r : VendorRecord) (ok : Bool) (f : State → State) : State :=
  if !(s.inReach 31 (b.par 8 8) vendorBytes) then s.result b 0x57 1
  else if !(s.recordHolds r) then s.renewNonce.result b 0x57 9
  else if !ok then s.renewNonce.result b 0x57 1
  else (f (s.renewNonce.opened b 0x57)).complete b.channel 0x57 b.cseq 0 0

/-- The fixed state of the generation a record names set or released (R131). -/
def State.setFixed (s : State) (r : VendorRecord) (v : Bool) : State :=
  (s.updGen (r.slot == 1) (fun g => { g with fixed := v })).updPgen (r.slot == 1) (fun g => { g with fixed := v })

/-- Whether a record names a slot that holds a generation. -/
def State.slotHeld (s : State) (r : VendorRecord) : Bool := decide (r.slot.toNat ≤ 1) && (s.gen (r.slot == 1)).state != 0

/-- The arrival of a RECORD_LOAD. -/
def State.recordLoadOn (s : State) (b : CmdBlock) (r : VendorRecord) (ok : State → Bool) (f : State → State) : State :=
  s.accept ⟨0x57, true, [0, 18]⟩ false false b (fun t => t.recordLoad b r (ok t) f)

/-- RELEASE_FIXED. -/
def execReleaseFixed (b : CmdBlock) (r : VendorRecord) (s : State) : Out :=
  act {
      freeCount := true, nv := true, mem := true, host := true, poison := true, wgt := true, parts := true, fab := true, chans := true,
      hif := true, sec := true } (fun s => s.recordLoadOn b r (fun t => t.slotHeld r) (fun t => t.setFixed r false)) s
/-- FIX_AT_FACTORY. -/
def execFixAtFactory (b : CmdBlock) (r : VendorRecord) (s : State) : Out :=
  act {
      freeCount := true, nv := true, mem := true, host := true, poison := true, wgt := true, parts := true, fab := true, chans := true,
      hif := true, sec := true } (fun s => s.recordLoadOn b r (fun t => t.slotHeld r) (fun t => t.setFixed r true)) s
/-- CLEAR_OPERATOR_KEY. -/
def execClearOperatorKey (b : CmdBlock) (r : VendorRecord) (s : State) : Out :=
  act {
      freeCount := true, nv := true, mem := true, host := true, poison := true, parts := true, fab := true, chans := true, hif := true,
      sec := true } (fun s => s.recordLoadOn b r (fun _ => true) (fun t => { t with nv := { t.nv with opKey := none } })) s

end Sys2Proof.Machine
end

