-- ==== Sys2Proof/Machine/Management.lean ====
section
/-! DEFINITION. The management bus (R379–R381): MCTP control, vendor-defined messages, PLDM; and the JTAG port (R415). -/

namespace Sys2Proof.Machine

/-! ## MCTP control (R379) -/

/-- An answer to an MCTP control request, from the end of stage ROM on (R449): command code, completion code, body. -/
def State.mctpReply (s : State) (code cc : Byte) (body : List Byte) : State :=
  { s with hif := { s.hif with mctpOut := [0x00, code, cc] ++ body } }

/-- The EID of a binding. -/
def State.eid (s : State) (b : Binding) : Byte := match b with | .smbus => s.hif.eidSmbus | .i3c => s.hif.eidI3c

/-- Where the device sends its words to the BMC (R380): I3C when both bindings are up, to the EID that assigned its own. -/
def State.bmcRoute (s : State) : Option (Binding × Byte) :=
  if s.hif.eidI3c ≠ 0 then some (.i3c, s.hif.ownerI3c)
  else if s.hif.eidSmbus ≠ 0 then some (.smbus, s.hif.ownerSmbus) else none

/-- SET_ENDPOINT_ID: the EID of the binding, and the bus owner that assigned it; EIDs 0x00 and 0xFF are no endpoint's. -/
def execSetEndpointId (bind : Binding) (owner eid : Byte) (s : State) : Out :=
  act { hif := true } (fun s => s.when (s.stageDone 0) (fun s =>
    if eid = 0 ∨ eid = 0xFF then s.mctpReply 1 2 []
    else
      let h := match bind with
        | .smbus => { s.hif with eidSmbus := eid, ownerSmbus := owner }
        | .i3c => { s.hif with eidI3c := eid, ownerI3c := owner }
      { s with hif := h }.mctpReply 1 0 [0, eid, 0])) s

/-- GET_ENDPOINT_ID. -/
def execGetEndpointId (bind : Binding) (s : State) : Out :=
  act { hif := true } (fun s => s.when (s.stageDone 0) (fun s => s.mctpReply 2 0 [s.eid bind, 0, 0])) s

/-- The message types the device supports (R379). -/
def mctpTypes : List Byte := [0x00, 0x01, 0x05, 0x06, 0x7E]

/-- GET_MCTP_VERSION_SUPPORT: 1.3 for the base protocol and control, the versions of the other types as the part has them. -/
def execGetMctpVersionSupport (_bind : Binding) (msgType : Byte) (s : State) : Out :=
  act { hif := true } (fun s => s.when (s.stageDone 0) (fun s =>
    if msgType = 0xFF ∨ msgType = 0 then s.mctpReply 4 0 [1, 0xF1, 0xF3, 0xFF, 0]
    else if mctpTypes.contains msgType then s.mctpReply 4 0 (Config.mgmtBytes msgType.toNat 4 s.nv.serial)
    else s.mctpReply 4 0x80 [])) s

/-- GET_MESSAGE_TYPE_SUPPORT. -/
def execGetMessageTypeSupport (_bind : Binding) (s : State) : Out :=
  act { hif := true } (fun s => s.when (s.stageDone 0) (fun s => s.mctpReply 5 0 (BitVec.ofNat 8 mctpTypes.length :: mctpTypes))) s

/-- GET_VENDOR_DEFINED_MESSAGE_SUPPORT: one PCI vendor, 0x1F6C. -/
def execGetVendorDefinedMessageSupport (_bind : Binding) (selector : Byte) (s : State) : Out :=
  act { hif := true } (fun s => s.when (s.stageDone 0) (fun s =>
    if selector = 0 then s.mctpReply 6 0 ([0xFF, 0, 0x1F, 0x6C] ++ Config.mgmtBytes 0x7E 6 s.nv.serial) else s.mctpReply 6 2 [])) s

/-- GET_ENDPOINT_UUID. -/
def execGetEndpointUuid (_bind : Binding) (s : State) : Out :=
  act { hif := true } (fun s => s.when (s.stageDone 0) (fun s => s.mctpReply 3 0 (Config.mgmtBytes 0 3 s.nv.serial))) s

/-! ## Vendor-defined messages (R380) -/

/-- The channel of a vendor-defined message: 18 inside a secured message, 19 plain. -/
def bmcChan (secured : Bool) : Nat := if secured then 18 else 19

/-- Whether a vendor-defined message reaches its channel: a secured one needs the session of channel 18 (R401). -/
def State.bmcOpen (s : State) (secured : Bool) : Bool := s.stageDone 0 && (!secured || (s.spdm 18).isOpen)

/-- MCTP_VENDOR_MESSAGE: op MESSAGE delivers a mailbox word. -/
def execMctpVendorMessage (secured : Bool) (vendor : BitVec 16) (word : W64) (s : State) : Out :=
  act { mem := true, host := true, poison := true, fab := true, chans := true, hif := true } (fun s =>
      s.when (s.bmcOpen secured && vendor == 0x1F6C) (fun s => s.arrive (bmcChan secured) word)) s

/-- MCTP_ACK: the BMC has taken the device's last word; the next one may go. -/
def execMctpAck (secured : Bool) (s : State) : Out :=
  act { fab := true, chans := true, hif := true } (fun s => s.when (s.bmcOpen secured) (fun s =>
    let c := bmcChan secured
    (s.updChan c (fun h => { h with outWord := 0, outFull := false })).pump c)) s

/-! ## PLDM (R381, R414, R462) -/

/-- A PLDM answer: type, command, completion code, body. -/
def State.pldmReply (s : State) (type code cc : Byte) (body : List Byte) : State :=
  { s with hif := { s.hif with pldmOut := [0x01, type, code, cc] ++ body } }

/-- Whether Types 0, 2 and 4 are answered: not in recovery mode (R462). -/
def State.pldmOpen (s : State) : Bool := s.stageDone 0 && !s.boot.recovery

/-- PLDM_BASE: Get PLDM Types names types 0, 2, 4 and 5; the other base requests are answered as the part has it. -/
def execPldmBase (_bind : Binding) (command : Byte) (s : State) : Out :=
  act { hif := true } (fun s => s.when s.pldmOpen (fun s =>
    if command = 4 then s.pldmReply 0 4 0 [0x35, 0, 0, 0, 0, 0, 0, 0]
    else if 1 ≤ command ∧ command ≤ 5 then s.pldmReply 0 command 0 (Config.mgmtBytes 0x100 command.toNat s.nv.serial)
    else s.pldmReply 0 command 5 [])) s

/-- The largest vale mean temperature of a half over the last completed window, as a code; a vale of column 3 counts for both (R437). -/
def State.hottest (s : State) (east : Bool) : Nat :=
  let vs := (List.range 84).filter (fun v => if east then decide (3 ≤ v % 7) else decide (v % 7 ≤ 3))
  vs.foldl (fun (a : Nat) v =>
    let g := s.sens.valeT.get {} v
    if g.count = 0 then a else max a (rneNat g.sum g.count)) 0

/-- A module input's mean code over the last completed window. -/
def State.modMean (s : State) (i : Nat) : Nat :=
  let g := s.sens.modIn.get {} i
  if g.count = 0 then 0 else rneNat g.sum g.count

/-- Device power averaged over the last completed window, in mW: its energy over its length in counts of 850 MHz. -/
def State.meanPower (s : State) : Nat :=
  if s.sens.windowTicks = 0 then 0 else rneNat (s.pwr.energy.toNat * 850000000) (s.sens.windowTicks * 2 ^ 20)

/-- The health sensor, in the states of the PLDM health set: fatal on a device fault, critical while start-up is stopped, normal. -/
def State.health (s : State) : Nat := if s.flt.deviceFault then 4 else if s.boot.stopped then 3 else 1

/-- The reading of a sensor: 0–6 numeric, 16 health, 17 and 18 the weight slots, 32 + n the ports. -/
def State.sensorReading (s : State) (n : Nat) : Option Nat :=
  if n < 2 then some (s.hottest (n == 1))
  else if n < 5 then some (s.modMean (n - 2))
  else if n = 5 then some (80 * s.modMean 5)
  else if n = 6 then some s.meanPower
  else if n = 16 then some s.health
  else if n = 17 then some s.wgt.genA.state.toNat
  else if n = 18 then some s.wgt.genB.state.toNat
  else if 32 ≤ n ∧ n < 56 then some (s.port (n - 32)).state.toNat
  else none

/-- PLDM_PLATFORM_MONITORING: a sensor's reading. -/
def execPldmPlatformMonitoring (_bind : Binding) (sensor : BitVec 16) (s : State) : Out :=
  act { hif := true } (fun s => s.when s.pldmOpen (fun s =>
    match s.sensorReading sensor.toNat with
    | some x => s.pldmReply 2 0x11 0 (leBytes 8 x)
    | none => s.pldmReply 2 0x11 0x80 [])) s

/-- PLDM_FRU_DATA. -/
def execPldmFruData (_bind : Binding) (s : State) : Out :=
  act { hif := true } (fun s => s.when s.pldmOpen (fun s => s.pldmReply 4 2 0 (Config.mgmtBytes 0x104 2 s.nv.serial))) s

/-- PLDM_FIRMWARE_UPDATE: the image verified whole, then written (R414); also in recovery mode (R462). -/
def execPldmFirmwareUpdate (_bind : Binding) (img : FwImage) (s : State) : Out :=
  act { hif := true, sec := true } (fun s => s.when (s.boot.ready || s.boot.recovery) (fun s =>
    let v := s.imageVerdict img
    let t := if v = 0 then s.startWrite img none else s
    t.pldmReply 5 0x18 v [])) s

/-! ## JTAG (R415, R416, R471) -/

/-- An instruction shifted into the port: the network of IEEE 1687 is left (R177). -/
def State.jtagIr (s : State) (ir : JtagIr) (data : W32) (pins : Bool) : State :=
  { s with jtag := { ir := ir, data := data, pinsTaken := pins, access1687 := false } }

/-- An instruction offered only under scope BOARD; without it BYPASS is selected. -/
def State.boardIr (s : State) (ir : JtagIr) : State :=
  if s.sec.scope = 1 then s.jtagIr ir 0 true else s.jtagIr .bypass 0 false

/-- BYPASS. -/
def execBypass (s : State) : Out := act { jtag := true } (fun s => s.jtagIr .bypass 0 false) s
/-- IDCODE: the port shows bits [31:0] of ID_JTAG. -/
def execIdcode (s : State) : Out := act { jtag := true } (fun s => s.jtagIr .idcode 0x10B8474F false) s
/-- SAMPLE_PRELOAD. -/
def execSamplePreload (s : State) : Out := act { jtag := true } (fun s => s.jtagIr .samplePreload 0 false) s
/-- EXTEST: the boundary register takes over the pins. -/
def execExtest (s : State) : Out := act { jtag := true } (fun s => s.boardIr .extest) s
/-- CLAMP. -/
def execClamp (s : State) : Out := act { jtag := true } (fun s => s.boardIr .clamp) s
/-- HIGHZ. -/
def execHighz (s : State) : Out := act { jtag := true } (fun s => s.boardIr .highz) s

/-- IEEE1687_ACCESS: active only under scope INTERNAL. -/
def execIeee1687Access (active : Bool) (s : State) : Out :=
  act { jtag := true } (fun s =>
    if s.sec.scope = 2 then { s with jtag := { ir := .ieee1687, data := 0, pinsTaken := false, access1687 := active } }
    else s.jtagIr .bypass 0 false) s

end Sys2Proof.Machine
end

