-- ==== Sys2Proof/Machine/Precision.lean ====
section
/-! DEFINITION. The operations of precision tiles (R81, R85–R92, R153): quantisation with outliers, residual adds, matrix products,
adapters. -/

namespace Sys2Proof.Machine

/-! ## Operands in memory -/

/-- The encoding of an exact value in an output format: a floating-point one, or INT8 clamped (R76). For INT8 "the largest finite value
with its sign" can be read as −127 or as the format's limit: DESIGN CHOICE, −128 (log entry 69). -/
def encodeOut (fmt : Nat) (v : Dy) : List Byte :=
  match fmtOf fmt with
  | some f => leBytes (elemBytes fmt) (f.round v.neg v.m 1 v.e)
  | none => [BitVec.ofInt 8 (clampInt (-128) 127 (rneScaled v.m 1 v.e))]

/-- A free finite encoding (R77). -/
def freeElem (fmt : Nat) (w : W64) : List Byte :=
  match fmtOf fmt with
  | some f => leBytes (elemBytes fmt) (f.anyFinite w)
  | none => [w.truncate 8]

/-- The encodings of `n` elements at an address. -/
def State.readCodes (s : State) (fmt a n : Nat) : List Nat := (List.range n).map (fun i => s.loadLE (a + i * elemBytes fmt) (elemBytes fmt))

/-- Words the route has delivered to a site land where its next operation reads its source (R150; log entry 32). -/
def State.landWords (s : State) (k a n : Nat) : State :=
  let ws := (s.site k).inbox.take ((n + 7) / 8)
  let s1 := (s.updSite k (fun r => { r with inbox := r.inbox.drop ((n + 7) / 8) })).takePoison k
  if ws.isEmpty then s.takePoison k else s1.wrBytes a ((ws.flatMap (fun w => leBytes 8 w.toNat)).take n)

/-- The elements at an address in a format, as exact values, and whether all are finite. -/
def State.readElems (s : State) (fmt a n : Nat) : List Dy × Bool :=
  let ws := s.readCodes fmt a n
  match fmtOf fmt with
  | some f => (ws.map f.val, ws.all f.finite)
  | none => (ws.map (fun w => { m := (BitVec.ofNat 8 w).toInt, e := 0 }), true)

/-- `n` free elements written at an address. -/
def State.writeFree (s : State) (fmt a n : Nat) : State :=
  let bs := (List.range n).flatMap (fun i => freeElem fmt (Config.freeValue (s.freeCount + i)))
  ({ s with freeCount := s.freeCount + n }).wrBytes a bs

/-- Whether an output format is legal for precision tiles (Table 3.4). -/
def precFmtOk (f : PrecField) : Bool := precOutOk f.outFmt.toNat

/-! ## Quantisation (R85, R88, R91, R92, R95) -/

/-- The token scale of a largest magnitude and a divisor: rounded once to FP32, at least 2^-126. -/
def tokenScale (m : Dy) (q : Nat) : Nat := max (fp32.round false m.m q m.e) 0x00800000

/-- x / s_t to the nearest integer, ties to even. -/
def quotient (x : Dy) (st : Nat) : Int :=
  let s := fp32.val st
  rneScaled x.m s.m.natAbs (x.e - s.e)

/-- What a quantiser makes of a vector. -/
structure Quantised where
  q : List Int
  st : Nat
  outliers : List (Nat × Int)
  cause : Nat

/-- R85 with the outliers of a set: their values apart, zero in the bank; the cause of Table 3.8 where the token overflows. -/
def quantise (d : QuantDesc) (kOutlier : Nat) (extract : Bool) (lim : Nat) (xs : List Dy) : Quantised :=
  let tau := fp32.val d.tau.toNat
  let isOut := fun (x : Dy) => extract && dyLt tau (dyAbs x)
  let c := xs.zipIdx.filter (fun e => isOut e.1)
  let m := dyAmax (xs.filter (fun x => !isOut x))
  let st := tokenScale (if m.m = 0 then tau else m) lim
  let o := c.map (fun e => (e.2, quotient e.1 st))
  { q := xs.map (fun x => if isOut x then 0 else clampInt (-(lim : Int)) lim (quotient x st))
    st := st
    outliers := o
    cause :=
      if kOutlier < c.length then 1
      else if c.any (fun e => !(d.indices.contains e.2)) then 2
      else if o.any (fun e => decide (32767 < e.2.natAbs)) then 3 else 0 }

/-- R91: the 16-bit quantisation of a wide token. -/
def quantiseWide (d : QuantDesc) (xs : List Dy) : List Int × Nat :=
  let m := dyAmax xs
  let st := tokenScale (if m.m = 0 then fp32.val d.tau.toNat else m) 32767
  (xs.map (fun x => clampInt (-32767) 32767 (quotient x st)), st)

/-- An overflowed token: its lane runs on as EMPTY, and its cause and point are kept; only the first overflow of a step counts (R89). -/
def State.overflow (s : State) (k cause point : Nat) : State :=
  s.updLaneAt k (fun l => if l.ran && l.outcome == 0 && l.endStatus == 0 then
    { l with kind := 0, outcome := 3, cause := BitVec.ofNat 4 cause, point := point } else l)

/-- The token scale of the activation bank that a destination lies in, or after the vector where it lies in none (R64, R85). -/
def State.scaleAddr (s : State) (a n : Nat) : Nat :=
  match region s.nv.stackGb.toNat a with
  | .sram k o => if siteType k = 1 ∧ o < 0x8000 then siteBase k + 0x18000 + 8 * (o / 0x4000) else a + (n + 7) / 8 * 8
  | _ => a + (n + 7) / 8 * 8

/-- A quantised vector and its token scale written at a destination. -/
def State.writeBank (s : State) (a : Nat) (q : List Int) (st : Nat) : State :=
  (s.wrBytes a (q.map (fun x => BitVec.ofInt 8 x))).wrLE (s.scaleAddr a q.length) 4 st

/-- The activation bank that a destination names: that of the array tile it lies in. -/
def State.bankNamed (s : State) (a : Nat) : Nat :=
  match region s.nv.stackGb.toNat a with
  | .sram _ o => o / 0x4000 % 2
  | _ => 0

/-- The activation banks of the tiles that read a point filled: each with its part of the vector and the token scale, in the bank the
destination names (R64, R85); a point without readers leaves its vector at the destination. -/
def State.fillBanks (s : State) (d : QuantDesc) (a : Nat) (q : List Int) (st : Nat) : State :=
  if d.readers.isEmpty then s.writeBank a q st
  else
    d.readers.foldl (fun (t : State) r => t.writeBank (siteBase r.1 + 0x4000 * s.bankNamed a) ((q.drop r.2.1).take r.2.2) st) s

/-- The index list of a point as the tile's SRAM holds it (Table 3.6). -/
def State.setOf (s : State) (k : Nat) (d : QuantDesc) : List Nat :=
  (List.range d.setSize).map (fun i => s.rdLE (siteBase k + d.setBase + 4 * i) 4)

/-- QUANT: the point's vector quantised into the destination bank by the kind of its lane: normal with outliers, the high or the low
bytes of a wide token, or without outliers in fallback. COUNT and OUTSIDE_SET show before the bank is filled, RANGE after (R89). -/
def State.quantOp (s : State) (k a : Nat) (d : QuantDesc) (kOutlier : Nat) (xs : List Dy) : State :=
  let kind := s.kindAt k
  let lim := if d.actFmt = 6 then 7 else 127
  let d := { d with indices := s.setOf k d }
  let keep := fun (t : State) (o : List (Nat × Int)) => ({ t with outl := Sparse.set [] t.outl d.point o } : State)
  if kind = 2 ∨ kind = 3 then
    let w := quantiseWide d xs
    (keep s []).fillBanks d a (w.1.map (fun q => if kind = 2 then q / 256 else q % 256)) w.2
  else if kind = 4 ∨ kind = 5 ∨ kind = 7 then
    let r := quantise d kOutlier false (if kind = 7 then lim else 127) xs
    (keep s []).fillBanks d a r.q r.st
  else
    let r := quantise d kOutlier d.outEn lim xs
    if r.cause = 0 then (keep s r.outliers).fillBanks d a r.q r.st
    else if r.cause = 3 then (s.fillBanks d a r.q r.st).overflow k 3 d.point
    else s.overflow k r.cause d.point

/-- Whether a code is a quantiser input format (Table 3.4). -/
def quantInOk (f : Nat) : Bool := decide (f = 9 ∨ f = 0xB)

/-- QUANT; `inFmt` is the format of its source, which the field does not encode (log entry 36). -/
def execQuant (site : Nat) (f : PrecField) (inFmt : BitVec 5) (s : State) : Out :=
  act {
      freeCount := true, thm := true, mem := true, host := true, poison := true, sites := true, eng := true, cur := true, nxt := true,
      mesh := true, sync := true, outl := true, seqs := true, flt := true } (fun s =>
    match s.runImg with
    | none => s
    | some v =>
      match v.quant.find? (fun d => decide (d.point = f.index.toNat)) with
      | none => s
      | some d =>
        if !(s.doesPrec site 1 f && precFmtOk f && quantInOk inFmt.toNat) then s
        else
          let a := s.operandAt site f.src
          let b := s.operandAt site f.dst
          let len := d.n * elemBytes inFmt.toNat
          if !(s.okWrite site a len && s.okWrite site b d.n && s.okWrite site (s.scaleAddr b d.n) 4) then s.addressFault site
          else
            let s1 := (s.landWords site a len).readPoison site a len
            let x := s1.readElems inFmt.toNat a d.n
            if x.2 then s1.quantOp site b d v.kOutlier x.1 else (s1.formatFault site).writeFree 5 b d.n) s

/-- The OUTLIER_ROWS chunk of the running variant's generation that lies at an address (Table 4.5). -/
def State.rowsChunk (s : State) (a : Nat) : Option GenChunk :=
  match s.runImg with
  | none => none
  | some v => match s.genOf v with
    | some b => (s.gen b).chunks.find? (fun c => decide (c.kind = 3 ∧ c.dest = a))
    | none => none

/-- The rows of w′ that a precision tile holds for a point, each under its channel: INT8 containers, row-major, a row for each channel of
the set (R86). -/
def State.outlierRows (s : State) (k : Nat) (d : QuantDesc) (c : GenChunk) : List (Nat × List Int) :=
  let width := c.length / max 1 d.setSize
  (s.setOf k d).zipIdx.map (fun e => (e.1, (s.rdBytes (c.dest + e.2 * width) width).map int8))

/-- The partial words of the outliers of a point: for every output channel the exact sum of o_i w'_(i,c) (R87). -/
def outlierSums (o : List (Nat × Int)) (rows : List (Nat × List Int)) : List Int :=
  let width := rows.foldl (fun (a : Nat) r => max a r.2.length) 0
  (List.range width).map (fun c => rows.foldl (fun (a : Int) r => match o.find? (fun e => decide (e.1 = r.1)) with
    | some e => a + e.2 * r.2.getD c 0
    | none => a) 0)

/-- OUTLIER: the products of a point's outliers with the rows at the source address, sent as partial words to the home tiles (R87). -/
def execOutlier (site : Nat) (f : PrecField) (s : State) : Out :=
  act { sites := true, cur := true, nxt := true, flt := true } (fun s =>
    match s.runImg.bind (fun v => v.quant.find? (fun d => decide (d.point = f.index.toNat))), s.rowsChunk (s.operandAt site f.src) with
    | some d, some c =>
      if s.doesPrec site 2 f && precFmtOk f then
        let s1 := s.readPoison site c.dest c.length
        s1.toRouter site ((outlierSums (Sparse.get [] s.outl f.index.toNat) (s.outlierRows site d c)).map (BitVec.ofInt 64))
      else s
    | _, _ => s) s

/-! ## Vector operations -/

/-- A vector operation `op` from source to destination: operands checked, words of the route landed, then `g` on the source values, or
free results where an operand is not finite (R78). -/
def State.vectorOp (s : State) (k op : Nat) (f : PrecField) (inFmt n m : Nat) (g : State → Nat → Nat → State) : State :=
  let a := s.operandAt k f.src
  let b := s.operandAt k f.dst
  let out := f.outFmt.toNat
  let len := n * elemBytes inFmt
  if !(s.doesPrec k op f && precFmtOk f) then s
  else if !(s.okUnit k a len && s.okWrite k b (m * elemBytes out) && ((s.site k).inbox.isEmpty || s.okWrite k a len)) then s.addressFault k
  else
    let s1 := (s.landWords k a len).readPoison k a len
    if (s1.readElems inFmt a n).2 then g s1 a b else (s1.formatFault k).writeFree out b m

/-- The PARAM chunk of the running variant's generation with a number (Table 4.5), as the bytes its tile holds. -/
def State.paramBytes (s : State) (n : Nat) : List Nat :=
  match s.runImg with
  | none => []
  | some v => match s.genOf v with
    | some b => (match (s.gen b).chunks.find? (fun c => decide (c.kind = 4 ∧ c.matrix = n)) with
      | some c => (s.rdBytes c.dest c.length).map (·.toNat)
      | none => [])
    | none => []

/-- The `m` results of an operation for which the spec states no formula: free, but for a function of its operands and of the parameters or
matrix the field names (R100; log entry 36). -/
def State.writeUnstated (s : State) (op : Nat) (f : PrecField) (inFmt a n b m : Nat) : State :=
  let out := f.outFmt.toNat
  let v := Config.vectorValue op f.index.toNat (s.readCodes inFmt a n) (s.paramBytes f.index.toNat)
  s.wrBytes b ((List.range m).flatMap (fun i => freeElem out (v i)))

/-- NORM: n elements normalised; the spec states no formula. -/
def execNorm (site : Nat) (f : PrecField) (n : Nat) (s : State) : Out :=
  act {
      freeCount := true, thm := true, mem := true, host := true, poison := true, sites := true, eng := true, cur := true, nxt := true,
      mesh := true, sync := true, seqs := true, flt := true } (fun s => s.vectorOp site 3 f f.outFmt.toNat n n (fun t a b => t.writeUnstated 3 f f.outFmt.toNat a n b n)) s

/-- GATE: n elements gated; the spec states no formula. -/
def execGate (site : Nat) (f : PrecField) (n : Nat) (s : State) : Out :=
  act {
      freeCount := true, thm := true, mem := true, host := true, poison := true, sites := true, eng := true, cur := true, nxt := true,
      mesh := true, sync := true, seqs := true, flt := true } (fun s => s.vectorOp site 5 f f.outFmt.toNat n n (fun t a b => t.writeUnstated 5 f f.outFmt.toNat a n b n)) s

/-- RESID: n source elements added into the destination, each sum rounded once; both in the output format (log entry 37). -/
def execResid (site : Nat) (f : PrecField) (n : Nat) (s : State) : Out :=
  act {
      freeCount := true, thm := true, mem := true, host := true, poison := true, sites := true, eng := true, cur := true, nxt := true,
      mesh := true, sync := true, seqs := true, flt := true } (fun s => s.vectorOp site 4 f f.outFmt.toNat n n (fun t a b =>
    let fmt := f.outFmt.toNat
    let x := t.readElems fmt a n
    let y := t.readElems fmt b n
    let u := t.readPoison site b (n * elemBytes fmt)
    if y.2 then u.wrBytes b ((x.1.zip y.1).flatMap (fun e => encodeOut fmt (dyAdd e.1 e.2)))
    else (u.formatFault site).writeFree fmt b n)) s

/-- An exact value as an FP32 encoding. -/
def toFp32 (v : Dy) : W32 := BitVec.ofNat 32 (fp32.round v.neg v.m 1 v.e)

/-- The product of a vector and a column (R81): exact for INT8 by INT8, otherwise the canonical tree of products rounded once. -/
def product (int : Bool) (xs ys : List Dy) : Dy :=
  if int then { m := dotInt (xs.map (·.m)) (ys.map (·.m)), e := 0 }
  else fp32.val (dotTree (xs.map toFp32) (ys.map toFp32)).toNat

/-- The PRECISION_MATRIX chunk of the running variant's generation with a matrix number. -/
def State.matrixChunk (s : State) (n : Nat) : Option GenChunk :=
  match s.runImg with
  | none => none
  | some v => match s.genOf v with
    | some b => (s.gen b).chunks.find? (fun c => decide (c.kind = 5 ∧ c.matrix = n))
    | none => none

/-- x W for a row-major n by m matrix held at an address. -/
def State.matVec (s : State) (inFmt wFmt : Nat) (xs : List Dy) (w n m : Nat) : List Dy :=
  let e := (s.readElems wFmt w (n * m)).1
  (List.range m).map (fun j => product (decide (inFmt = 5 ∧ wFmt = 5)) xs ((List.range n).map (fun i => e.getD (i * m + j) { m := 0, e := 0 })))

/-- PMAC (7) and LOGIT (8): the named matrix times the source vector, into the destination; a matrix the generation does not place there has
no stated product. -/
def State.matrixOp (s : State) (k op : Nat) (f : PrecField) (inFmt n m : Nat) : State :=
  s.vectorOp k op f inFmt n m (fun t a b =>
    let out := f.outFmt.toNat
    match t.matrixChunk f.index.toNat with
    | none => t.writeUnstated op f inFmt a n b m
    | some c =>
      let wf := c.format.toNat
      let size := n * m * elemBytes wf
      if c.length < size then t.writeUnstated op f inFmt a n b m
      else if !(t.okUnit k c.dest size) then t.addressFault k
      else
        let t1 := t.readPoison k c.dest size
        if (t1.readElems wf c.dest (n * m)).2 then
          t1.wrBytes b ((t1.matVec inFmt wf (t1.readElems inFmt a n).1 c.dest n m).flatMap (encodeOut out))
        else (t1.formatFault k).writeFree out b m)

/-- Whether a code is a precision-tile operand format (Table 3.4). -/
def precInOk (f : Nat) : Bool := decide (f = 5 ∨ f = 7 ∨ f = 8 ∨ f = 9 ∨ f = 0xB)

/-- PMAC. -/
def execPmac (site : Nat) (f : PrecField) (n m : Nat) (opFmt : BitVec 5) (s : State) : Out :=
  act {
      freeCount := true, thm := true, mem := true, host := true, poison := true, sites := true, eng := true, cur := true, nxt := true,
      mesh := true, sync := true, seqs := true, flt := true } (fun s => if precInOk opFmt.toNat then s.matrixOp site 7 f opFmt.toNat n m else s) s

/-- LOGIT: FP32 source, the matrix the field names (log entry 38). -/
def execLogit (site : Nat) (f : PrecField) (n m : Nat) (s : State) : Out :=
  act {
      freeCount := true, thm := true, mem := true, host := true, poison := true, sites := true, eng := true, cur := true, nxt := true,
      mesh := true, sync := true, seqs := true, flt := true } (fun s => s.matrixOp site 8 f 0x0B n m) s

/-! ## Adapters (R127, R130) -/

/-- Elements of an adapter pair from its bytes: plain, or MX in the split layout with the scales after the elements (R75, R130); and
whether every one is finite and widens exactly into BF16 (R78, R79). -/
def State.adapterElems (s : State) (fmt a n : Nat) : List Dy × Bool :=
  if isMx fmt then
    let blocks := (n + 31) / 32
    let es := ((List.range blocks).flatMap (fun b =>
      let sc := BitVec.ofNat 8 (s.rdLE (a + blocks * mxBlockBytes fmt + b) 1)
      (mxUnpack fmt (s.rdBytes (a + b * mxBlockBytes fmt) (mxBlockBytes fmt))).map (fun e => (mxVal fmt sc e, sc != 0xFF)))).take n
    (es.map (·.1), es.all (fun e => e.2 && fitsBf16 e.1))
  else s.readElems fmt a n

/-- The bytes of `n` elements of an adapter format. -/
def adapterLen (fmt n : Nat) : Nat := if isMx fmt then (n + 31) / 32 * (mxBlockBytes fmt + 1) else n * elemBytes fmt

/-- The adapter pair of a matrix that a lane's sequence is bound to: its address (R127, R129). -/
def State.pairAt (s : State) (l : Lane) (matrix : Nat) : Option Nat :=
  let q := s.seq l.idx
  let slot := q.adpSlot.toNat
  if !q.adpBound then none
  else match s.adpCfg slot, (s.adp slot).pairs.find? (fun e => decide (e.1 = matrix)) with
    | some c, some e => some ((c.adpPlace slot).1 + e.2)
    | _, _ => none

/-- x·A·B of a pair added into the destination, each product under R81 (R127); an element that is not finite, or that BF16 cannot hold, is
a format fault (R78, R79). -/
def State.adaptPair (s : State) (k : Nat) (f : PrecField) (at_ src dst n rank m : Nat) : State :=
  let out := f.outFmt.toNat
  let fmt := s.rdLE (at_ + 4) 1
  let x := (s.readElems out src n).1
  let a := s.adapterElems fmt (at_ + 16) (n * rank)
  let b := s.adapterElems fmt (at_ + 16 + adapterLen fmt (n * rank)) (rank * m)
  let z : Dy := { m := 0, e := 0 }
  let t := (List.range rank).map (fun r => product false x ((List.range n).map (fun i => a.1.getD (i * rank + r) z)))
  let y := (List.range m).map (fun j => product false t ((List.range rank).map (fun r => b.1.getD (r * m + j) z)))
  let old := (s.readElems out dst m).1
  if a.2 && b.2 then s.wrBytes dst ((old.zip y).flatMap (fun e => encodeOut out (dyAdd e.1 e.2)))
  else (s.formatFault k).writeFree out dst m

/-- ADAPT: the low-rank product of the lane's adapter added to the output of its matrix; a sequence without one adds nothing. The
staged copy of the pair (R130) has the bytes of its slot (log entry 83). -/
def execAdapt (site : Nat) (f : PrecField) (n rank m : Nat) (s : State) : Out :=
  act {
      freeCount := true, thm := true, mem := true, host := true, poison := true, sites := true, eng := true, cur := true, nxt := true,
      mesh := true, sync := true, seqs := true, flt := true } (fun s => s.vectorOp site 6 f f.outFmt.toNat n m (fun t a b =>
    match t.laneAt site with
    | none => t
    | some l => match t.pairAt l f.index.toNat with
      | none => t
      | some p =>
        if t.rdLE (p + 2) 2 ≠ rank then t
        else
          let u := t.readPoison site b (m * elemBytes f.outFmt.toNat)
          if (t.readElems f.outFmt.toNat b m).2 then u.adaptPair site f p a b n rank m
          else (u.formatFault site).writeFree f.outFmt.toNat b m)) s

end Sys2Proof.Machine
end

