-- ==== Sys2Proof/Machine/RegMap.lean ====
section
/-! DEFINITION. What every register reads (chapter 16): the blocks of BAR0, the partition block, the aliases of BAR2, the descriptor
ring window of BAR4. -/

namespace Sys2Proof.Machine

/-! ## Registers from fields -/

/-- The lower 64 and the upper 20 bits of a vale set. -/
def valeLo (m : BitVec 84) : W64 := m.truncate 64
/-- The upper 20 bits of a vale set. -/
def valeHi (m : BitVec 84) : W64 := BitVec.ofNat 64 (m.toNat / 2 ^ 64)

/-! ## Identification and global control (Tables 16.2 and 16.3) -/

/-- The identification block. -/
def State.idReg (s : State) (o : Nat) : Option W64 :=
  regAt [(0x00, 0x0B841F6C), (0x08, reg [(24, 3), (20, 1), (8, s.nv.moduleRev.toNat), (0, 1)]),
    (0x10, s.nv.serial.truncate 64), (0x18, (s.nv.serial >>> 64).truncate 64), (0x20, 0x10B8474F),
    (0x28, reg [(32, 0x1000), (24, 0x40), (16, 0x10), (8, 0x10), (0, s.nv.stackGb.toNat)]), (0x30, reg [(0, s.nv.subsys.toNat)])] o

/-- GCTL_GEN_x_STATE. -/
def State.genState (s : State) (g : Gen) : W64 :=
  reg [(32, g.number.toNat), (16, s.pinned g.number), (4, flag g.fixed), (0, g.state.toNat)]

/-- The array with the most program cycles: its count, site and physical array (GCTL_ENDUR_MAX). -/
def State.mostCycled (s : State) : Nat × Nat :=
  (s.arrs.entries {}).foldl (fun (a : Nat × Nat) (e : Nat × Arr) => if a.1 < e.2.cycles.toNat then (e.2.cycles.toNat, e.1) else a) (0, 0)

/-- How many arrays have at least `n` program cycles. -/
def State.cycledFrom (s : State) (n : Nat) : Nat := (s.arrs.entries {}).countP (fun e => decide (n ≤ e.2.cycles.toNat))

/-- How many sites have a fault state (Table 10.8). -/
def State.faultCount (s : State) (st : BitVec 4) : Nat := (s.sites.entries {}).countP (fun e => e.2.fstate == st)

/-- How many sites are DEAD and not yet remapped (FLT_STATUS.dead). -/
def State.deadSites (s : State) : Nat := (s.sites.entries {}).countP (fun e => e.2.fstate == 3 && s.siteCode e.1 != 3)

/-- How many weight tiles have a defect code. -/
def State.tilesCoded (s : State) (c : BitVec 4) : Nat :=
  (List.range (224 * 192)).countP (fun k => decide (siteType k = 1) && s.siteCode k == c)

/-- How many vales hold fewer than 405 GOOD weight tiles (FLT_SITES). -/
def State.shortVales (s : State) : Nat :=
  (List.range 84).countP (fun v => decide ((valeSites v).countP (fun k => decide (siteType k = 1) && s.siteCode k == 0) < 405))

/-- PWR_STATE.state (Table 14.4). -/
def State.powerState (s : State) : BitVec 3 :=
  if s.pwr.state = 0b011 ∨ s.pwr.state = 0b100 then s.pwr.state
  else if s.held then 0b010 else if s.clk.plan ≠ 0 then 0b001 else 0b000

/-- A word of the fault log (Table 10.7). -/
def LogEntry.word (e : LogEntry) : W64 :=
  reg [(56, e.cls.toNat), (48, e.x.toNat), (40, e.y.toNat), (35, e.p.toNat), (31, e.group.toNat), (28, e.response.toNat), (0, e.step.toNat)]

/-- The weight registers (Table 4.13). -/
def State.wgtReg (s : State) (o : Nat) : Option W64 :=
  let w := s.wgt
  let m := s.mostCycled
  regAt [(0x100, reg [(2, flag (w.switchPending.length != 0)), (1, flag w.ptrValid), (0, flag w.liveSlot)]),
    (0x108, s.genState w.genA), (0x110, s.genState w.genB),
    (0x118, reg [(32, w.genA.contract.toNat), (0, w.genA.arrays.length)]),
    (0x120, reg [(32, w.genB.contract.toNat), (0, w.genB.arrays.length)]),
    (0x128, w.genA.imageId), (0x130, w.genB.imageId),
    (0x138, reg [(48, w.groupsDone.toNat), (32, w.groupsTotal.toNat), (24, w.status.toNat), (20, w.phase.toNat), (16, flag w.slot)]),
    (0x140, reg [(32, w.failEntry.toNat), (24, w.failX.toNat), (16, w.failY.toNat), (0, w.failP.toNat)]),
    (0x148, reg [(30, s.lock.wBase.toNat), (0, s.lock.wSize.toNat)]),
    (0x150, reg [(32, m.1), (24, siteX (m.2 / 17)), (16, siteY (m.2 / 17)), (0, m.2 % 17)]),
    (0x158, reg [(40, s.cycledFrom 100000), (20, s.cycledFrom 90000), (0, s.cycledFrom 50000)])] o

/-- The mesh and fault registers (Tables 6.7 and 10.7). -/
def State.fltReg (s : State) (o : Nat) : Option W64 :=
  let f := s.flt
  match regIdx 0x400 16 64 o, regIdx 0x408 16 64 o with
  | some n, _ => some (f.log.get {} n).time
  | _, some n => some (f.log.get {} n).word
  | _, _ =>
    regAt [(0x200, reg [(2, flag (s.clk.plan != 0)), (0, flag s.mesh.express)]),
      (0x208, reg [(32, s.mesh.corrected.toNat), (0, s.mesh.poisoned.toNat)]), (0x210, s.mesh.dropped),
      (0x300, reg [(0, f.tlMode.toNat)]),
      (0x308, reg [(32, f.head.toNat), (16, s.faultCount 2), (8, min 255 s.deadSites), (2, flag f.move.isSome), (1, flag s.eng.faultHold),
        (0, flag f.deviceFault)]),
      (0x310, reg [(32, f.withheld.toNat), (0, f.mismatches.toNat)]),
      (0x318, reg [(48, f.permanent.toNat), (32, f.transient.toNat), (16, f.exchanges.toNat), (0, f.deaths.toNat)]),
      (0x320, f.votes), (0x328, reg [(32, f.sramCorr.toNat), (0, f.sramPois.toNat)]),
      (0x330, reg [(32, s.nv.defectVersion.toNat % 2 ^ 32), (0, s.defectDigest.toNat % 2 ^ 32)]),
      (0x338, reg [(48, s.tilesCoded 0), (32, s.tilesCoded 1), (16, s.codeCount 3), (0, s.shortVales)])] o

/-- The oscillator nodes a dark interior decouples: clusters cx 1–6, cy 1–2, in column vx 3 without cx 3 and cx 4 (R428). -/
def darkNode (c : Nat) : Bool :=
  let cx := c % 8
  let cy := c % 32 / 8
  decide (1 ≤ cx ∧ cx ≤ 6 ∧ 1 ≤ cy ∧ cy ≤ 2 ∧ ¬(c / 32 % 7 = 3 ∧ (cx = 3 ∨ cx = 4)))

/-- CLK_STATUS.decoupled: the nodes decoupled in service (R425) and those of dark interiors (R428), each once. -/
def State.decoupledNodes (s : State) : Nat :=
  s.clk.decoupled.toNat + (List.range 2688).countP (fun c => valeBit s.pwr.dark (c / 32) && darkNode c && !(s.clk.decoupledSet.contains c))

/-- The clock, power and thermal registers (Table 14.13). -/
def State.clkReg (s : State) (o : Nat) : Option W64 :=
  let c := s.clk
  let t := s.thm
  let k := s.cool
  regAt [(0x800, reg [(32, c.refLosses.toNat), (20, s.decoupledNodes), (16, c.plan.toNat), (3, flag c.frefPresent), (2, flag c.holdover),
      (1, flag c.refPresent), (0, flag c.refLocked)]),
    (0x808, reg [(8, c.causeE.toNat), (4, c.causeW.toNat), (0, s.permit.toNat)]),
    (0x810, reg [(48, t.emergencies.toNat), (34, t.hotVale.toNat), (24, t.hotCode.toNat), (18, t.eastState.toNat), (16, t.westState.toNat)]),
    (0x818, valeLo t.emerg), (0x820, valeHi t.emerg), (0x828, valeLo s.pwr.dark), (0x830, valeHi s.pwr.dark),
    (0x838, reg [(32, s.pwr.railFaults.toNat), (16, s.pwr.limits.toNat), (7, flag s.pwr.limit), (6, flag s.pwr.busRange),
      (0, s.powerState.toNat)]),
    (0x840, s.pwr.energy), (0x848, reg [(10, t.tThrottle.toNat), (0, t.tWarn.toNat)]),
    (0x850, reg [(32, k.qMin.toNat), (8, k.isOpen.toNat), (7, flag k.hubLost), (6, flag k.fail), (5, flag k.leakB), (4, flag k.leakA),
      (3, flag k.flowLow), (2, flag k.outletRise), (1, flag k.inletLow), (0, flag k.inletHigh)])] o

/-- The start-up registers (Table 15.6) and those of Table 1.6. -/
def State.bootReg (s : State) (o : Nat) : Option W64 :=
  let b := s.boot
  regAt [(0x000, 0x37C38400), (0x008, s.time), (0x010, BitVec.ofNat 64 s.tick),
    (0x900, reg [(2, flag s.lock.cFabric), (1, flag s.lock.cStep), (0, flag s.lock.cGlobal)]),
    (0x908, reg [(48, b.stacksOk.toNat), (32, b.rcvyCause.toNat), (24, b.resetKind.toNat), (16, s.bootStage), (8, b.restarts.toNat)]),
    (0x910, b.readyTime)] o

/-- The global control block. -/
def State.gctlReg (s : State) (o : Nat) : Option W64 :=
  (s.bootReg o).or ((s.wgtReg o).or ((s.fltReg o).or (s.clkReg o)))

/-! ## Step engine and sequence table (Tables 16.4 and 16.5) -/

/-- STEP_NEXT_NOTCH: the next notch step of the running variant, N, and its first lane (R162). -/
def State.nextNotch (s : State) : W64 :=
  match s.runImg with
  | none => 0
  | some v =>
    let p := 2 ^ v.notchLog2
    let k := s.eng.stepNumber.toNat
    let n := if s.held then (k + p - 1) / p * p else (k / p + 1) * p
    reg [(16, n % 2 ^ 48), (12, v.notchWidth % 16), (0, (v.notchLanes n).headD 0)]

/-- STEP_BANK[b]. -/
def State.bankReg (s : State) (b : Nat) : W64 :=
  let k := s.bank b
  reg [(32, k.variantId.toNat % 2 ^ 32), (12, k.state.toNat), (9, k.gapSet.toNat), (0, k.slot)]

/-- STEP_VAR[n]. -/
def State.varReg (s : State) (n : Nat) : W64 :=
  let v := s.var n
  let armed := (List.range 4).foldl (fun (a : Nat) b =>
    if ((s.bank b).state == 2 || (s.bank b).state == 3) && decide ((s.bank b).slot = n) then a + 2 ^ b else a) 0
  let i := fun (f : VariantImage → Nat) => match v.img with | some x => f x | none => 0
  reg [(32, i (fun x => x.variantId.toNat % 2 ^ 32)), (24, v.reason.toNat), (20, v.state.toNat), (19, flag v.genSlot),
    (17, i (fun x => x.plan.toNat)), (13, armed), (0, i (fun x => (x.lanes - 1) % 4096))]

/-- How many sequence-table entries are in one of the states listed. -/
def State.seqsIn (s : State) (l : List (BitVec 4)) : Nat := (s.seqs.entries {}).countP (fun e => l.contains e.2.state)

/-- The step engine block. -/
def State.stepReg (s : State) (o : Nat) : Option W64 :=
  let e := s.eng
  let b := s.bank e.bank
  match regIdx 0x100 8 4 o, regIdx 0x1000 8 64 o with
  | some n, _ => some (s.bankReg n)
  | _, some n => some (s.varReg n)
  | _, _ =>
    regAt [(0x00, reg [(0, flag e.hold)]),
      (0x08, reg [(36, e.slot % 4096), (32, e.state.toNat), (26, b.slot), (24, e.bank), (21, b.gapSet.toNat), (19, s.clk.plan.toNat)]),
      (0x10, e.stepNumber), (0x18, s.nextNotch), (0x20, reg [(30, s.lock.vBase.toNat), (0, s.lock.vSize.toNat)]),
      (0x28, reg [(32, e.eccCorrected.toNat), (0, e.eccFaults.toNat)]), (0x30, e.fills), (0x38, e.aborts),
      (0x40, reg [(32, e.refusedCount.toNat), (0, e.refusedReason.toNat)]),
      (0x200, reg [(32, s.srv.descRefused.toNat), (0, s.srv.descReason.toNat)]), (0x208, s.srv.emptySteps), (0x210, s.srv.late),
      (0x218, reg [(32, s.srv.applied.toNat), (0, s.srv.notApplied.toNat)]),
      (0x220, reg [(48, 32768 - (s.seqs.entries {}).countP (fun e => e.2.state != 0)), (32, s.seqsIn [2]), (16, s.seqsIn [3, 4, 5]), (0, s.seqsIn [1])])] o

/-- SEQ_STATUS (Table 8.15). -/
def Seq.statusReg (q : Seq) : W64 :=
  reg [(48, q.tag.toNat), (44, q.state.toNat), (39, q.partition), (37, q.cls.toNat), (36, flag q.isPrefix), (35, flag q.genSlot),
    (34, flag q.adpBound), (24, q.adpSlot.toNat), (16, q.status.toNat), (0, q.queuePos % 65536)]

/-- SEQ_POS (Table 8.15). -/
def Seq.posReg (q : Seq) : W64 := reg [(41, q.length % 2 ^ 23), (39, q.layout.toNat), (37, q.tier.toNat), (0, q.generated % 2 ^ 23)]

/-- The sequence-table window. -/
def State.seqReg (s : State) (o : Nat) : Option W64 :=
  match regIdx 0 16 32768 o, regIdx 8 16 32768 o with
  | some n, _ => some (s.seq n).statusReg
  | _, some n => some (s.seq n).posReg
  | _, _ => none

/-! ## Rings, partition blocks and channels (Tables 12.10, 12.13, 16.6) -/

/-- The ring registers of an owner, by the offsets of Table 12.10. -/
def Rings.ringReg (q : Rings) (o : Nat) : Option W64 :=
  regAt [(0x08, q.rqBase),
    (0x10, reg [(16, q.pendCount), (6, flag q.rqHostErr), (5, flag q.rqEnable), (0, q.rqLog2.toNat)]), (0x18, reg [(0, q.rqHead.toNat)]),
    (0x20, q.outBase), (0x28, reg [(8, q.irqEvery.toNat), (5, flag q.outEnable), (0, q.outLog2.toNat)]), (0x30, q.outWb), (0x38, q.outTail),
    (0x40, reg [(32, q.spillBytes), (16, q.skipped.toNat), (1, flag q.outHostErr), (0, flag q.blocked)]), (0x48, reg [(0, q.seqWin.toNat)]),
    (0x50, reg [(32, q.rqHead.toNat), (0, q.consumed.toNat)])] o

/-- The registers of one mailbox channel (Table 12.13). -/
def Chan.chanReg (h : Chan) (o : Nat) : Option W64 :=
  regAt [(0x00, 0), (0x08, h.outWord), (0x10, reg [(2, flag h.overrun), (1, flag h.outFull), (0, flag h.inFull)]),
    (0x18, reg [(48, h.eventsLost.toNat), (24, h.outCnt.toNat), (0, h.inCnt.toNat)])] o

/-- How many sequences of an owner satisfy a test. -/
def State.seqCount (s : State) (p : Nat) (f : Seq → Bool) : Nat := (s.seqs.entries {}).countP (fun e => decide (e.2.partition = p) && f e.2)

/-- The format and overflow, adapter, security and fault registers of a partition (Tables 3.10, 4.14, 10.8, 13.14). -/
def State.partCounts (s : State) (p : Nat) (o : Nat) : Option W64 :=
  let q := s.part p
  let c := s.cfg p
  regAt [(0x000, reg [(9, flag q.rings.blocked), (8, flag q.cfg.isSome), (0, p)]),
    (0x800, reg [(13, c.minKeyRank), (0, c.queryFmt.toNat)]), (0x808, reg [(0, c.widePairs)]), (0x810, q.ovfCount),
    (0x818, reg [(32, q.ovfRange.toNat), (16, q.ovfOutside.toNat), (0, q.ovfCnt.toNat)]), (0x820, q.wideRuns),
    (0x828, reg [(0, q.wideWait.toNat)]), (0x830, q.displaced), (0x838, q.fmtFaults), (0x900, reg [(16, c.adpBase % 1024), (0, c.adpCount)]),
    (0xC00, reg [(32, q.fWithheld.toNat), (16, q.fReplayed.toNat), (0, q.fAborted.toNat)]),
    (0xC80, reg [(16, q.epoch.toNat), (2, flag (s.spdm (2 + p)).isOpen), (1, flag q.egressKey.isSome), (0, flag q.cmdKey.isSome)]),
    (0xC88, q.secCtr), (0xC90, q.egressCtr), (0xC98, reg [(0, q.sealFaults.toNat)])] o

/-- The KV and serving registers of a partition (Tables 7.12 and 8.14). -/
def State.partServing (s : State) (p : Nat) (o : Nat) : Option W64 :=
  let q := s.part p
  let c := s.cfg p
  let freed := fun (f : KvFrame) => decide (f.partition = p ∧ 2 ≤ f.life)
  regAt [(0xA00, reg [(32, c.kvQuota), (0, s.usedFrames p)]), (0xA08, reg [(32, c.sweepQuota), (0, s.usedSweep p)]),
    (0xA10, reg [(32, s.seqCount p (fun x => x.isPrefix && x.handleHeld)),
      (0, (s.frames.entries {}).countP (fun e => decide (e.2.life = 1 ∧ e.2.partition = p ∧ 1 < e.2.refs)))]),
    (0xA18, q.cow), (0xA20, reg [(0, (s.frames.entries {}).countP (fun e => freed e.2) + (s.sweeps.entries {}).countP (fun e => freed e.2))]), (0xA28, q.kvWaits),
    (0xA30, reg [(16, s.srv.reshards.countP (fun r => decide ((s.seq r.idx).partition = p))), (0, q.reshardDone.toNat)]),
    (0xB00, reg [(16, c.seqCount), (0, c.seqBase % 32768)]), (0xB08, reg [(32, c.weight), (16, c.resCount), (0, c.queueLimit)]),
    (0xB10, reg [(48, (s.queueOf p).length), (32, s.activeOf p 1), (16, s.activeOf p 2), (0, s.activeOf p 3)]),
    (0xB18, reg [(0, s.reserveOf p)]),
    (0xB20, reg [(48, q.refusedQuota.toNat), (32, q.refusedCap.toNat), (16, q.preempted.toNat), (0, q.delayed.toNat)]),
    (0xB28, reg [(48, s.seqCount p (fun x => x.state == 4 && x.tier == 1)), (32, s.seqCount p (fun x => x.state == 4 && x.tier == 2)),
      (16, q.expired.toNat), (0, s.seqCount p (fun x => x.state == 3 || x.state == 5))]),
    (0xB30, reg [(0, c.defaultTtl)]), (0xB38, q.tokens),
    (0xB40, reg [(48, q.endDeadline.toNat), (32, q.endCancel.toNat), (16, q.endInvalid.toNat)]), (0xB48, q.laneEmpty)] o

/-- PART_ADP_SLOT[n] (Table 4.14): zero from slot_count on (R133). -/
def State.adpSlotReg (s : State) (p n : Nat) : W64 :=
  let c := s.cfg p
  let a := s.adp (c.adpBase + n)
  if n < c.adpCount then reg [(32, (c.adpBase + n) % 1024), (16, a.refs.toNat), (0, a.state.toNat)] else 0

/-- PART_SEQ[n] (R368): zero outside the partition's range. -/
def State.seqView (s : State) (p n : Nat) (f : Seq → W64) : W64 :=
  let i := (s.part p).rings.seqWin.toNat + n
  if (s.cfg p).hasEntry i then f (s.seq i) else 0

/-- A partition block (Table 16.6); `own` through the VF's window, with its channel and doorbells. -/
def State.partReg (s : State) (p : Nat) (own : Bool) (o : Nat) : Option W64 :=
  let slot := (regIdx 0x1000 8 1024 o).map (s.adpSlotReg p)
  let st := (regIdx 0x8000 16 1024 o).map (fun n => s.seqView p n Seq.statusReg)
  let ps := (regIdx 0x8008 16 1024 o).map (fun n => s.seqView p n Seq.posReg)
  let mbx := if own && decide (0x3000 ≤ o ∧ o < 0x3020) then (s.chan (2 + p)).chanReg (o - 0x3000) else none
  let bell := if o = 0x4000 ∨ o = 0x4008 then some 0 else none
  (s.partCounts p o).or ((s.partServing p o).or (((s.part p).rings.ringReg o).or (slot.or (st.or (ps.or (mbx.or bell))))))

/-- The mailbox block (Table 16.7). -/
def State.mbxReg (s : State) (o : Nat) : Option W64 :=
  if o < 0x1000 then (s.chan 0).chanReg o
  else if o < 0x2000 then (s.chan 1).chanReg (o - 0x1000)
  else
    let d := s.hif.fmDevice.toNat
    regAt [(0x8000, reg [(18, s.hif.fmInbox.toNat), (10, d % 256)]),
      (0x8008, reg [(62, d / 256), (8, s.hif.secureInbox.toNat), (0, s.hif.plainInbox.toNat)]),
      (0x8010, reg [(32, s.hif.unsupported.toNat), (0, s.hif.linkWidth.toNat)])] o

/-- The sync and doorbell block (Table 16.8). -/
def State.syncReg (s : State) (o : Nat) : Option W64 :=
  let y := s.sync
  let h := s.hif
  let word := fun (base n : Nat) => s.mem.readLE (hostSyncPage + base + 8 * n) 8
  let hval := (regIdx 0x1800 8 256 o).map (fun n => BitVec.ofNat 64 (word 0 n))
  let mval := (regIdx 0x2000 8 256 o).map (fun n => BitVec.ofNat 64 (word 0x800 n))
  let hsig := (regIdx 0x1000 8 256 o).map (fun _ => (0 : W64))
  let hmon := (regIdx 0x40 8 4 o).map (fun n => y.hmon.getD n 0)
  let opr := if 0x3108 ≤ o ∧ o ≤ 0x3150 then (s.part 31).rings.ringReg (o - 0x3100) else none
  let one := regAt [(0x00, reg [(0, y.wdogSteps.toNat)]), (0x08, reg [(16, y.x.toNat), (8, y.y.toNat), (0, flag y.stalled)]),
    (0x10, reg [(0, y.stallAddr.toNat)]), (0x18, y.stalls), (0x20, y.stallTime), (0x28, y.wdogFires),
    (0x30, reg [(12, y.mirrorBase.toNat), (0, flag y.mirrorEn)]),
    (0x3000, reg [(16, h.descBase.toNat)]),
    (0x3008, reg [(12, flag h.descTailErr), (11, flag h.descEnable), (0, h.descEntries.toNat)]), (0x3010, reg [(0, h.descHead.toNat)]),
    (0x3018, 0), (0x3200, h.notBase), (0x3208, reg [(8, h.notIrq.toNat), (5, flag h.notEnable), (0, h.notLog2.toNat)]),
    (0x3210, reg [(0, h.notTail.toNat)]), (0x3218, 0), (0x4000, 0), (0x4008, 0)] o
  one.or (opr.or (hmon.or (hsig.or (hval.or mval))))

/-! ## Sensors, fabric, security (Tables 16.9 to 16.11) -/

/-- The registers of an aggregate pair: sum, sum of squares, count, extremes. -/
def Agg.extremes (a : Agg) : W64 := reg [(16, a.max.toNat), (0, a.min.toNat)]

/-- The registers of vale v. -/
def State.valeReg (s : State) (v o : Nat) : Option W64 :=
  let t := s.sens.valeT.get {} v
  let c := s.sens.valeV.get {} v
  regAt [(0x00, reg [(0, t.sum)]), (0x08, reg [(0, t.sumsq)]), (0x10, reg [(0, t.count)]), (0x18, t.extremes), (0x20, reg [(0, c.sum)]),
    (0x28, reg [(0, c.count)]), (0x30, c.extremes), (0x38, reg [(32, (s.sens.cals.get 0 v).toNat), (0, (s.sens.tref.get 0 v).toNat)])] o

/-- The sensor aggregates block. -/
def State.sensReg (s : State) (o : Nat) : Option W64 :=
  let n := s.sens
  let w := s.nv.wornFirst.getD (0, 0)
  let m := fun (i : Nat) => n.modIn.get {} i
  if 0x1000 ≤ o ∧ o < 0x1000 + 0x40 * 84 then s.valeReg ((o - 0x1000) / 0x40) ((o - 0x1000) % 0x40)
  else if 0x3000 ≤ o ∧ o < 0x3100 then
    let i := (o - 0x3000) / 0x20
    regAt [(0x00, reg [(0, (m i).sum)]), (0x08, reg [(0, (m i).count)]), (0x10, (m i).extremes),
      (0x18, reg [(1, flag (n.openWire.getLsbD i)), (0, flag (n.valid.getLsbD i))])] ((o - 0x3000) % 0x20)
  else
    regAt [(0x00, reg [(0, n.windowNext.toNat)]), (0x08, reg [(0, n.dtCal.toNat)]),
      (0x10, reg [(32, n.pauses.toNat), (16, n.skipped.toNat), (0, n.lastTick.toNat)]), (0x18, valeLo n.due), (0x20, valeHi n.due),
      (0x28, reg [(32, n.weakLimit.toNat), (0, n.maxAge.toNat)]),
      (0x30, reg [(32, n.refDone.toNat), (16, min 65535 ((s.arrs.entries {}).countP (fun e => e.2.due))),
        (0, min 65535 (s.wgt.sessions.countP (fun x => match x.purpose with | .refresh _ => true | _ => false)))]),
      (0x38, reg [(44, s.nv.wornCount.toNat), (24, siteX w.1), (16, siteY w.1), (0, w.2)]),
      (0x40, reg [(32, n.passes.toNat), (0, n.passTicks.toNat)])] o

/-- FAB_PORT[n]. -/
def State.portReg (s : State) (n : Nat) : W64 :=
  let p := s.port n
  reg [(48, p.peer.toNat), (44, p.lanesOk.toNat), (42, p.rate.toNat), (38, portRole s.lock.plan n), (34, p.state.toNat), (24, p.reason.toNat),
    (16, flag p.isLong), (0, p.latency.toNat)]

/-- FAB_INBOX_CFG. -/
def Inbox.cfgReg (i : Inbox) : W64 :=
  reg [(24, i.pages.toNat), (19, i.owner.toNat), (17, i.cls.toNat), (16, flag i.enable), (15, flag i.anySrc), (0, i.src.toNat)]

/-- The fabric block. -/
def State.fabReg (s : State) (o : Nat) : Option W64 :=
  let f := s.fab
  let port := (regIdx 0x100 8 24 o).map s.portReg
  let cnt := (regIdx 0x200 8 24 o).map (fun n => let p := s.port n
    reg [(48, p.fec.toNat), (32, p.crcDrops.toNat), (16, p.retrans.toNat), (0, p.winMissing.toNat)])
  let ctrl := (regIdx 0x300 8 24 o).map (fun n => reg [(1, flag (s.port n).disable)])
  let pin := (regIdx 0x400 8 24 o).map (fun n => (s.port n).pin)
  let peer := (regIdx 0x500 8 24 o).map (fun n => (s.port n).digest)
  let route := (regIdx 0x800 8 64 o).map (fun n => reg [(0, (f.routes.get 0 n).toNat)])
  let base := (regIdx 0x1000 16 256 o).map (fun n => reg [(12, (f.inboxes.get {} n).base.toNat)])
  let icfg := (regIdx 0x1008 16 256 o).map (fun n => (f.inboxes.get {} n).cfgReg)
  let one := regAt [(0x00, reg [(0, s.lock.plan.toNat)]), (0x08, reg [(10, s.lock.topo.toNat / 4 * 4), (0, s.device % 1024)]),
    (0x10, reg [(38, f.master.toNat), (36, flag f.aligned), (35, flag f.member), (0, f.guard.toNat)]), (0x18, f.gtime), (0x20, f.pitch),
    (0x28, reg [(48, f.slips.toNat), (32, f.missingMaps.toNat), (0, f.err.toNat)]), (0x30, reg [(24, f.parent.toNat), (0, f.children.toNat)]),
    (0x38, reg [(32, f.drops.toNat), (0, f.unroutable.toNat)])] o
  one.or (port.or (cnt.or (ctrl.or (pin.or (peer.or (route.or (base.or icfg)))))))

/-- The security block. -/
def State.secReg (s : State) (o : Nat) : Option W64 :=
  let c := s.sec
  let nonce := (regIdx 0x40 8 4 o).map (fun i => (c.nonce >>> (64 * i)).truncate 64)
  let sessions := (List.range 22).foldl (fun (a : Nat) n => if (s.spdm n).isOpen then a + 2 ^ n else a) 0
  (regAt [(0x00, reg [(12, c.lifecycle.toNat), (10, c.scope.toNat), (8, flag s.nv.profileShared), (4, s.nv.roots.length),
      (3, flag s.nv.opKey.isSome), (2, flag (c.profilePending.length != 0))]),
    (0x08, reg [(0, s.sens.cadence.toNat)]), (0x10, reg [(32, s.nv.fwVersion.toNat % 2 ^ 32), (16, s.nv.fwSvn.toNat), (0, s.nv.minSvn.toNat)]),
    (0x18, s.nv.oprCtr), (0x20, reg [(32, c.rejCounter.toNat), (0, c.rejTag.toNat)]), (0x28, reg [(0, sessions)]), (0x30, s.nv.ident)] o).or nonce

/-! ## Access paths (R356, R357, R449, R470) -/

/-- A register of BAR0 by its offset: none where the map is reserved. -/
def State.bar0Reg (s : State) (o : Nat) : Option W64 :=
  if o < 0x10000 then s.idReg o
  else if o < 0x20000 then s.gctlReg (o - 0x10000)
  else if o < 0x40000 then s.stepReg (o - 0x20000)
  else if o < 0xC0000 then s.seqReg (o - 0x40000)
  else if 0x100000 ≤ o ∧ o < 0x200000 then s.partReg ((o - 0x100000) / 0x10000) false ((o - 0x100000) % 0x10000)
  else if 0x200000 ≤ o ∧ o < 0x210000 then s.mbxReg (o - 0x200000)
  else if 0x300000 ≤ o ∧ o < 0x310000 then s.syncReg (o - 0x300000)
  else if 0x400000 ≤ o ∧ o < 0x410000 then s.sensReg (o - 0x400000)
  else if 0x500000 ≤ o ∧ o < 0x510000 then s.fabReg (o - 0x500000)
  else if 0x600000 ≤ o ∧ o < 0x610000 then s.secReg (o - 0x600000)
  else none

/-- Whether the block an offset of BAR0 lies in serves before READY, in recovery mode and in STANDBY (Table 16.1). -/
def alwaysOpen (o : Nat) : Bool := decide (o < 0x20000 ∨ (0x200000 ≤ o ∧ o < 0x210000) ∨ (0x600000 ≤ o ∧ o < 0x610000))

/-- The BAR0 offset a BAR2 offset aliases (Table 16.12); none where BAR2 is reserved or holds PCIe structures. -/
def bar2Alias (o : Nat) : Option Nat :=
  if o < 0x2000 then some (0x200000 + o)
  else if o = 0x2000 then some 0x303018
  else if o = 0x2008 then some 0x303218
  else if o = 0x2010 then some 0x304000
  else if o = 0x2018 then some 0x304008
  else none

/-- Whether an offset belongs to the MSI-X structures, whose contents PCIe defines: BAR2 pages 8 and 9, and a VF's window. -/
def msixRange (bar : Bar) (o : Nat) : Bool :=
  match bar with
  | .bar2 => decide (0x8000 ≤ o ∧ o < 0xA000)
  | .vfBar0 => decide ((0xC000 ≤ o ∧ o < 0xC040) ∨ (0xD000 ≤ o ∧ o < 0xD008))
  | _ => false

/-- The register an access reaches, by its BAR0 offset, or the owner and the offset in a VF's window (R357). -/
inductive Reach
  | pf (o : Nat)
  | vf (p o : Nat)
  | window (a : Nat)
  | closed
  | unsupported
  deriving DecidableEq, Repr

/-- Where an 8-byte-aligned access lands. -/
def State.reach (s : State) (fn : Func) (bar : Bar) (o : Nat) : Reach :=
  match fn, bar with
  | .vf n, .vfBar0 =>
    if n = 0 ∨ 16 < n ∨ !(s.vfOpen (n - 1)) then .unsupported
    else if msixRange .vfBar0 o then .closed
    else if (s.partReg (n - 1) true o).isNone then .unsupported
    else .vf (n - 1) o
  | .pf, .bar0 =>
    if !(alwaysOpen o) && !s.blockOpen then .closed
    else if (s.bar0Reg o).isNone then .unsupported else .pf o
  | .pf, .bar2 =>
    if msixRange .bar2 o then .closed
    else match bar2Alias o with
      | none => .unsupported
      | some a =>
        if !(alwaysOpen a) && !s.blockOpen then .closed
        else if (s.bar0Reg a).isNone then .unsupported else .pf a
  | .pf, .bar4 =>
    if !s.blockOpen ∨ s.hif.descEntries.toNat * 65536 ≤ o then .closed
    else .window (s.hif.descBase.toNat * 65536 + o)
  | _, _ => .unsupported

/-- What a 64-bit read of a place returns. -/
def State.readAt (s : State) (r : Reach) : W64 :=
  match r with
  | .pf o => (s.bar0Reg o).getD 0
  | .vf p o => (s.partReg p true o).getD 0
  | .window a => if s.okDram a 8 then BitVec.ofNat 64 (s.mem.readLE a 8) else 0
  | _ => 0

end Sys2Proof.Machine
end

