-- ==== Sys2Proof/Machine/Registers.lean ====
section
/-! DEFINITION. What a write to a register stores (R13, R384, R466), 32-bit reads by halves (R467), and requests that are counted as
unsupported (R355, R466). -/

namespace Sys2Proof.Machine

/-! ## Fields of a write (R13, R466) -/

/-- The value a write gives the field [hi:lo]: none where its bytes do not cover the field wholly. A half's value lies in the low bits. -/
def field (part : Sys2Proof.Part) (v : W64) (hi lo : Nat) : Option Nat :=
  let cut := fun (l : Nat) => v.toNat / 2 ^ l % 2 ^ (hi - lo + 1)
  match part with
  | .whole => some (cut lo)
  | .lower => if hi < 32 then some (cut lo) else none
  | .upper => if 32 ≤ lo then some (cut (lo - 32)) else none

/-- A field after a write: an uncovered field and one given a value that is not legal keep their value. -/
def put (f : Option Nat) (old : Nat) (ok : Nat → Bool) : Nat :=
  match f with
  | some x => if ok x then x else old
  | none => old

/-- Any value is legal. -/
def anyVal (_ : Nat) : Bool := true

/-- A one-bit field after a write. -/
def putBit (f : Option Nat) (old : Bool) : Bool :=
  match f with
  | some x => decide (x = 1)
  | none => old

/-- A W1C bit after a write. -/
def clr1 (f : Option Nat) (old : Bool) : Bool := old && !(f == some 1)

/-! ## Ring registers (R384, Tables 12.10 and 12.14) -/

/-- RQ_BASE. -/
def Rings.writeRqBase (q : Rings) (part : Sys2Proof.Part) (v : W64) : Rings :=
  if q.rqEnable then q else { q with rqBase := BitVec.ofNat 64 (put (field part v 63 12) (q.rqBase.toNat / 4096) anyVal * 4096) }

/-- RQ_CFG: nothing is stored where the size is out of range. -/
def Rings.writeRqCfg (q : Rings) (part : Sys2Proof.Part) (v : W64) : Rings :=
  let k := field part v 4 0
  if put k 4 anyVal < 4 ∨ 12 < put k 4 anyVal then q
  else { q with
    rqLog2 := if q.rqEnable then q.rqLog2 else BitVec.ofNat 5 (put k q.rqLog2.toNat anyVal)
    rqEnable := putBit (field part v 5 5) q.rqEnable
    rqHostErr := clr1 (field part v 6 6) q.rqHostErr }

/-- OUT_BASE. -/
def Rings.writeOutBase (q : Rings) (part : Sys2Proof.Part) (v : W64) : Rings :=
  if q.outEnable then q else { q with outBase := BitVec.ofNat 64 (put (field part v 63 16) (q.outBase.toNat / 65536) anyVal * 65536) }

/-- OUT_CFG: enabling needs the base aligned to the ring's size (R365); a ring begins to serve at the next boundary (R367). -/
def Rings.writeOutCfg (q : Rings) (part : Sys2Proof.Part) (v : W64) : Rings :=
  let k := field part v 4 0
  if put k 16 anyVal < 16 ∨ 28 < put k 16 anyVal then q
  else
    let size := if q.outEnable then q.outLog2 else BitVec.ofNat 5 (put k q.outLog2.toNat anyVal)
    let want := putBit (field part v 5 5) q.outEnable
    let on := want && (q.outEnable || decide (q.outBase.toNat % 2 ^ size.toNat = 0))
    { q with
      outLog2 := size, irqEvery := BitVec.ofNat 8 (put (field part v 15 8) q.irqEvery.toNat anyVal)
      outEnable := on, outLive := q.outLive && on }

/-- OUT_WB. -/
def Rings.writeOutWb (q : Rings) (part : Sys2Proof.Part) (v : W64) : Rings :=
  if q.outEnable then q else { q with outWb := BitVec.ofNat 64 (put (field part v 63 3) (q.outWb.toNat / 8) anyVal * 8) }

/-- A ring register of an owner written, by its offset in Table 12.10. -/
def Rings.writeReg (q : Rings) (o : Nat) (part : Sys2Proof.Part) (v : W64) : Rings :=
  if o = 0x08 then q.writeRqBase part v
  else if o = 0x10 then q.writeRqCfg part v
  else if o = 0x20 then q.writeOutBase part v
  else if o = 0x28 then q.writeOutCfg part v
  else if o = 0x30 then q.writeOutWb part v
  else if o = 0x40 then { q with outHostErr := clr1 (field part v 1 1) q.outHostErr }
  else if o = 0x48 then { q with seqWin := BitVec.ofNat 15 (put (field part v 14 0) q.seqWin.toNat anyVal) }
  else q

/-- Whether the descriptor ring keeps the rule of R359: DRAM in service, outside the weight region and the variant area. -/
def State.descPlaced (s : State) : Bool :=
  let r := (s.hif.descBase.toNat * 65536, s.hif.descEntries.toNat * 65536)
  s.okDram r.1 r.2 && !(overlaps r s.wRange) && !(overlaps r s.vRange)

/-- DESC_CFG's other fields stored, its enable bit still to settle. -/
def State.descFields (s : State) (part : Sys2Proof.Part) (v : W64) : State :=
  let h := s.hif
  { s with hif := { h with
    descEntries := if h.descEnable then h.descEntries else BitVec.ofNat 11 (put (field part v 10 0) h.descEntries.toNat anyVal)
    descTailErr := clr1 (field part v 12 12) h.descTailErr } }

/-- DESC_CFG: nothing is stored where entries is no power of two from 4 to 1,024; while the engine is held an enabled ring's entries are
fetched at once (R454). -/
def State.writeDescCfg (s : State) (part : Sys2Proof.Part) (v : W64) : State :=
  let n := put (field part v 10 0) 4 anyVal
  if !([4, 8, 16, 32, 64, 128, 256, 512, 1024].contains n) then s
  else
    let t := s.descFields part v
    let on := putBit (field part v 11 11) t.hif.descEnable && (t.hif.descEnable || t.descPlaced)
    let u := { t with hif := { t.hif with descEnable := on } }
    if u.held then u.fetchDescs 0 4096 else u

/-- NOTICE_CFG. -/
def Hif.writeNoticeCfg (h : Hif) (part : Sys2Proof.Part) (v : W64) : Hif :=
  let k := field part v 4 0
  if put k 6 anyVal < 6 ∨ 16 < put k 6 anyVal then h
  else { h with
    notLog2 := if h.notEnable then h.notLog2 else BitVec.ofNat 5 (put k h.notLog2.toNat anyVal)
    notIrq := BitVec.ofNat 8 (put (field part v 15 8) h.notIrq.toNat anyVal)
    notEnable := putBit (field part v 5 5) h.notEnable }

/-! ## Blocks -/

/-- The global control block: GCTL_WREGION until committed (R452), FLT_CFG (R306), THM_CFG (R445). -/
def State.writeGctl (s : State) (o : Nat) (part : Sys2Proof.Part) (v : W64) : State :=
  if o = 0x148 then
    if s.lock.cGlobal then s
    else { s with lock := { s.lock with
      wBase := BitVec.ofNat 10 (put (field part v 39 30) s.lock.wBase.toNat anyVal)
      wSize := BitVec.ofNat 10 (put (field part v 9 0) s.lock.wSize.toNat (fun x => decide (x ≤ 768))) } }
  else if o = 0x300 then
    { s with flt := { s.flt with tlMode := BitVec.ofNat 2 (put (field part v 1 0) s.flt.tlMode.toNat (fun x => decide (x ≤ 2))) } }
  else if o = 0x848 then
    let hot := put (field part v 19 10) s.thm.tThrottle.toNat (fun x => decide (540 ≤ x ∧ x ≤ 580))
    { s with thm := { s.thm with
      tThrottle := BitVec.ofNat 10 hot
      tWarn := BitVec.ofNat 10 (put (field part v 9 0) s.thm.tWarn.toNat (fun x => decide (500 ≤ x ∧ x ≤ hot))) } }
  else s

/-- The step engine block: STEP_VAREA until committed (R452). -/
def State.writeStep (s : State) (o : Nat) (part : Sys2Proof.Part) (v : W64) : State :=
  if o = 0x20 && !s.lock.cStep then
    { s with lock := { s.lock with
      vBase := BitVec.ofNat 10 (put (field part v 39 30) s.lock.vBase.toNat anyVal)
      vSize := BitVec.ofNat 10 (put (field part v 9 0) s.lock.vSize.toNat anyVal) } }
  else s

/-- The mailbox block: in_overrun of channels 0 and 1, the fabric manager's configuration (R382). -/
def State.writeMbx (s : State) (o : Nat) (part : Sys2Proof.Part) (v : W64) : State :=
  let flags := fun (c : Nat) => s.updChan c (fun h => { h with overrun := clr1 (field part v 2 2) h.overrun })
  let d := s.hif.fmDevice.toNat
  if o = 0x10 then flags 0
  else if o = 0x1010 then flags 1
  else if o = 0x8000 then
    { s with hif := { s.hif with
      fmInbox := BitVec.ofNat 8 (put (field part v 25 18) s.hif.fmInbox.toNat anyVal)
      fmDevice := BitVec.ofNat 10 (d / 256 * 256 + put (field part v 17 10) (d % 256) anyVal) } }
  else if o = 0x8008 then
    { s with hif := { s.hif with
      fmDevice := BitVec.ofNat 10 (put (field part v 63 62) (d / 256) anyVal * 256 + d % 256)
      secureInbox := BitVec.ofNat 8 (put (field part v 15 8) s.hif.secureInbox.toNat anyVal)
      plainInbox := BitVec.ofNat 8 (put (field part v 7 0) s.hif.plainInbox.toNat anyVal) } }
  else s

/-- The sync and doorbell block (Tables 6.8 and 12.14). -/
def State.writeSync (s : State) (o : Nat) (part : Sys2Proof.Part) (v : W64) : State :=
  let y := s.sync
  if o = 0 then
    { s with sync := { y with wdogSteps := BitVec.ofNat 8 (put (field part v 7 0) y.wdogSteps.toNat (fun x => decide (x ≠ 0))) } }
  else if o = 0x30 then
    { s with sync := { y with
      mirrorBase := BitVec.ofNat 52 (put (field part v 63 12) y.mirrorBase.toNat anyVal)
      mirrorEn := putBit (field part v 0 0) y.mirrorEn } }
  else if 0x40 ≤ o ∧ o < 0x60 then
    let n := (o - 0x40) / 8
    { s with sync := { y with hmon := y.hmon.set n (BitVec.ofNat 64 (put (field part v 63 0) (y.hmon.getD n 0).toNat anyVal)) } }
  else if o = 0x3000 then
    if s.hif.descEnable then s
    else { s with hif := { s.hif with descBase := BitVec.ofNat 32 (put (field part v 47 16) s.hif.descBase.toNat anyVal) } }
  else if o = 0x3008 then s.writeDescCfg part v
  else if 0x3108 ≤ o ∧ o ≤ 0x3150 then s.updRings 31 (fun q => q.writeReg (o - 0x3100) part v)
  else if o = 0x3200 then
    if s.hif.notEnable then s
    else { s with hif := { s.hif with notBase := BitVec.ofNat 64 (put (field part v 63 12) (s.hif.notBase.toNat / 4096) anyVal * 4096) } }
  else if o = 0x3208 then { s with hif := s.hif.writeNoticeCfg part v }
  else s

/-- The sensor aggregates block: SENS_CFG (R275), CAL_CFG (R283), REF_CFG (R280). -/
def State.writeSens (s : State) (o : Nat) (part : Sys2Proof.Part) (v : W64) : State :=
  let n := s.sens
  if o = 0 then
    { s with sens := { n with
      windowNext := BitVec.ofNat 9 (put (field part v 8 0) n.windowNext.toNat (fun x => decide (1 ≤ x ∧ x ≤ 256))) } }
  else if o = 8 then
    { s with sens := { n with dtCal := BitVec.ofNat 4 (put (field part v 3 0) n.dtCal.toNat (fun x => decide (2 ≤ x))) } }
  else if o = 0x28 then
    { s with sens := { n with
      weakLimit := BitVec.ofNat 8 (put (field part v 39 32) n.weakLimit.toNat (fun x => decide (x ≠ 0)))
      maxAge := BitVec.ofNat 32 (put (field part v 31 0) n.maxAge.toNat (fun x => decide (x ≠ 0))) } }
  else s

/-- FAB_TOPO after a write: each field by itself, a coordinate below the dimension as it then stands (Table 11.9). -/
def topoWrite (t : BitVec 33) (part : Sys2Proof.Part) (v : W64) : BitVec 33 :=
  let old := topoField t
  let dim := fun (hi lo : Nat) => put (field part v hi lo) (old hi lo) (fun x => decide (1 ≤ x ∧ x ≤ 16))
  let dx := dim 38 34
  let dy := dim 33 29
  let dz := dim 28 24
  let pos := fun (hi lo d : Nat) => put (field part v hi lo) (old hi lo) (fun x => decide (x < d))
  let basin := put (field part v 42 39) (old 42 39) anyVal
  BitVec.ofNat 33 (basin * 2 ^ 29 + dx * 2 ^ 24 + dy * 2 ^ 19 + dz * 2 ^ 14 + pos 23 20 dx * 2 ^ 10 + pos 19 16 dy * 2 ^ 6 + pos 15 12 dz * 2 ^ 2)

/-- A direction code FAB_ROUTE may name. -/
def routeDir (x : Nat) : Bool := decide (1 ≤ x ∧ x ≤ 6)

/-- An inbox's area lies inside its owner's DRAM areas (R334, R450). -/
def State.inboxPlaced (s : State) (i : Inbox) : Bool := s.inDramReach i.owner.toNat (i.base.toNat * 4096) (i.pages.toNat * 4096)

/-- An inbox as written: enabled only while its area is the owner's (R334). -/
def State.setInbox (s : State) (n : Nat) (i : Inbox) : State :=
  { s with fab := { s.fab with inboxes := s.fab.inboxes.set {} n { i with enable := i.enable && s.inboxPlaced i } } }

/-- FAB_INBOX_CFG after a write. -/
def Inbox.writeCfg (i : Inbox) (part : Sys2Proof.Part) (v : W64) : Inbox :=
  { i with
    pages := BitVec.ofNat 20 (put (field part v 43 24) i.pages.toNat anyVal)
    owner := BitVec.ofNat 5 (put (field part v 23 19) i.owner.toNat (fun x => decide (x < 16 ∨ x = 31)))
    cls := BitVec.ofNat 2 (put (field part v 18 17) i.cls.toNat (fun x => decide (x ≠ 0)))
    enable := putBit (field part v 16 16) i.enable
    anySrc := putBit (field part v 15 15) i.anySrc
    src := BitVec.ofNat 10 (put (field part v 9 0) i.src.toNat anyVal) }

/-- The group and broadcast registers of the fabric block. -/
def State.writeFabOne (s : State) (o : Nat) (part : Sys2Proof.Part) (v : W64) : State :=
  let f := s.fab
  if o = 0 then
    if s.lock.cFabric then s else { s with lock := { s.lock with plan := BitVec.ofNat 32 (put (field part v 31 0) s.lock.plan.toNat anyVal) } }
  else if o = 8 then
    if s.lock.cFabric then s else { s with lock := { s.lock with topo := topoWrite s.lock.topo part v } }
  else if o = 0x10 then
    ({ s with fab := { f with
      master := BitVec.ofNat 10 (put (field part v 47 38) f.master.toNat anyVal)
      member := putBit (field part v 35 35) f.member
      guard := BitVec.ofNat 16 (put (field part v 15 0) f.guard.toNat (fun x => decide (1536 ≤ x)))
      regroup := false } }).align
  else if o = 0x30 then
    { s with fab := { f with
      parent := BitVec.ofNat 5 (put (field part v 28 24) f.parent.toNat (fun x => decide (x < 24 ∨ x = 31)))
      children := BitVec.ofNat 24 (put (field part v 23 0) f.children.toNat anyVal) } }
  else s

/-- The fabric block (Table 11.9). -/
def State.writeFab (s : State) (o : Nat) (part : Sys2Proof.Part) (v : W64) : State :=
  match regIdx 0x400 8 24 o, regIdx 0x800 8 64 o, regIdx 0x1000 16 256 o, regIdx 0x1008 16 256 o with
  | some n, _, _, _ => s.updPort n (fun p => { p with pin := BitVec.ofNat 64 (put (field part v 63 0) p.pin.toNat anyVal) })
  | _, some n, _, _ =>
    let r := (s.fab.routes.get 0 n).toNat
    { s with fab := { s.fab with routes := s.fab.routes.set 0 n (BitVec.ofNat 9
      (put (field part v 8 8) (r / 256) anyVal * 256 + put (field part v 7 4) (r / 16 % 16) routeDir * 16 +
        put (field part v 3 0) (r % 16) routeDir)) } }
  | _, _, some n, _ =>
    let i := s.fab.inboxes.get {} n
    s.setInbox n { i with base := BitVec.ofNat 36 (put (field part v 47 12) i.base.toNat anyVal) }
  | _, _, _, some n => s.setInbox n ((s.fab.inboxes.get {} n).writeCfg part v)
  | none, none, none, none => s.writeFabOne o part v

/-- The security block: SEC_CFG (R392). -/
def State.writeSec (s : State) (o : Nat) (part : Sys2Proof.Part) (v : W64) : State :=
  if o = 8 then
    { s with sens := { s.sens with
      cadence := BitVec.ofNat 2 (put (field part v 1 0) s.sens.cadence.toNat (fun x => decide (x = 1 ∨ x = 2))) } }
  else s

/-- A register of BAR0 written by the physical function; partition blocks are read-only to it (R357). -/
def State.writePf (s : State) (o : Nat) (part : Sys2Proof.Part) (v : W64) : State :=
  if o < 0x10000 then s
  else if o < 0x20000 then s.writeGctl (o - 0x10000) part v
  else if o < 0x40000 then s.writeStep (o - 0x20000) part v
  else if 0x200000 ≤ o ∧ o < 0x210000 then s.writeMbx (o - 0x200000) part v
  else if 0x300000 ≤ o ∧ o < 0x310000 then s.writeSync (o - 0x300000) part v
  else if 0x400000 ≤ o ∧ o < 0x410000 then s.writeSens (o - 0x400000) part v
  else if 0x500000 ≤ o ∧ o < 0x510000 then s.writeFab (o - 0x500000) part v
  else if 0x600000 ≤ o ∧ o < 0x610000 then s.writeSec (o - 0x600000) part v
  else s

/-- A register of partition p written through its window: the RW and W1C fields of Table 12.10 and its channel's flags (R357). The rings
stay disabled while the partition is zeroed (R397). -/
def State.writeVf (s : State) (p o : Nat) (part : Sys2Proof.Part) (v : W64) : State :=
  if o = 0x3010 then s.updChan (2 + p) (fun h => { h with overrun := clr1 (field part v 2 2) h.overrun })
  else if (s.part p).zeroing.isSome then s
  else s.updRings p (fun q => q.writeReg o part v)

/-- Bytes written through the descriptor ring window: those beyond the ring, or in memory out of service, are discarded (R359, R23). -/
def State.writeWindow (s : State) (a : Nat) (part : Sys2Proof.Part) (v : W64) : State :=
  let at_ := if part = .upper then a + 4 else a
  let n := if part = .whole then 8 else 4
  let last := (s.hif.descBase.toNat + s.hif.descEntries.toNat) * 65536
  let m := min n (last - at_)
  if s.okDram at_ m then s.wrBytes at_ ((leBytes n v.toNat).take m) else s

/-! ## The commands -/

/-- The function an access comes from, as its latch is numbered. -/
def Func.key (fn : Func) : Nat := match fn with | .pf => 0 | .vf n => n

/-- REGISTER_WRITE: a 64-bit write, or an aligned 32-bit write of one half, to a register that no other command writes. -/
def execRegisterWrite (fn : Func) (bar : Bar) (offset : Nat) (part : Sys2Proof.Part) (v : W64) (s : State) : Out :=
  act {
      freeCount := true, lock := true, thm := true, mem := true, host := true, poison := true, sync := true, parts := true, srv := true, sens := true, flt := true,
      fab := true, chans := true, hif := true } (fun s =>
    let s := s.unlatch (Func.key fn)
    match s.reach fn bar offset with
    | .pf o => s.writePf o part v
    | .vf p o => s.writeVf p o part v
    | .window a => s.writeWindow a part v
    | .closed => s
    | .unsupported => s.unsupported) s

/-- What a 32-bit read returns (model's view of the completion). -/
def State.returned (s : State) (x : W64) : State := { s with hif := { s.hif with readData := x } }

/-- MBX_OUT, the RC register, of BAR0, of BAR2's aliases and of a VF's window: a 32-bit read of it latches and clears nothing (R467). -/
def Reach.isRc (r : Reach) : Bool :=
  match r with
  | .pf o => o == 0x200008 || o == 0x201008
  | .vf _ o => o == 0x3008
  | _ => false

/-- A 32-bit read of the lower half of the register at `o`: the upper half is latched. -/
def State.readLower (s : State) (fn : Func) (bar : Bar) (o : Nat) : State :=
  let t := s.unlatch (Func.key fn)
  let r := s.reach fn bar o
  let x := s.readAt r
  let u := t.returned (BitVec.ofNat 64 (x.toNat % 2 ^ 32))
  match r with
  | .unsupported => t.unsupported.returned 0
  | .closed => t.returned 0
  | .window _ => u
  | _ =>
    if r.isRc then u
    else { u with hif := { u.hif with
      latches := u.hif.latches.set none (Func.key fn) (some { bar := bar, offset := o, upper := BitVec.ofNat 32 (x.toNat / 2 ^ 32) }) } }

/-- A 32-bit read of the upper half of the register at `o`: the latched value where this function has just read its lower half. -/
def State.readUpper (s : State) (fn : Func) (bar : Bar) (o : Nat) : State :=
  let t := s.unlatch (Func.key fn)
  let r := s.reach fn bar o
  let now := BitVec.ofNat 64 ((s.readAt r).toNat / 2 ^ 32)
  match r with
  | .unsupported => t.unsupported.returned 0
  | .closed => t.returned 0
  | .window _ => t.returned now
  | _ =>
    -- GCTL_GEOMETRY has no upper half (R466)
    if r = .pf 0x10000 then t.unsupported.returned 0
    else match s.hif.latches.get none (Func.key fn) with
      | some l => if l.bar = bar ∧ l.offset = o then t.returned (l.upper.zeroExtend 64) else t.returned now
      | none => t.returned now

/-- HALF_READ_LATCH: an aligned 32-bit read; any other access of the function cancels its latch (R467). -/
def execHalfReadLatch (fn : Func) (bar : Bar) (offset : Nat) (s : State) : Out :=
  act { hif := true } (fun s =>
    if offset % 8 = 0 then s.readLower fn bar offset
    else if offset % 8 = 4 then s.readUpper fn bar (offset - 4)
    else (s.unlatch (Func.key fn)).unsupported.returned 0) s

/-- Whether an access is one that R355 or R466 counts: a window that does not answer, a reserved offset, another size or alignment. -/
def State.isUnsupported (s : State) (fn : Func) (bar : Bar) (offset size : Nat) : Bool :=
  match bar with
  | .bar4 => false
  | _ => decide ((size ≠ 4 ∧ size ≠ 8) ∨ offset % size ≠ 0) || s.reach fn bar (offset / 8 * 8) == .unsupported ||
    decide (s.reach fn bar (offset / 8 * 8) = .pf 0x10000 ∧ offset % 8 = 4)

/-- UNSUPPORTED_REQUEST: counted in HIF_STATUS; a read returns zero, a write is discarded. -/
def execUnsupportedRequest (fn : Func) (bar : Bar) (offset size : Nat) (isWrite : Bool) (s : State) : Out :=
  act { hif := true } (fun s =>
    if s.isUnsupported fn bar offset size then
      let t := (s.unlatch (Func.key fn)).unsupported
      if isWrite then t else t.returned 0
    else s) s

end Sys2Proof.Machine
end

