-- ==== Sys2Proof/Machine/Sampler.lean ====
section
/-! DEFINITION. The sampler of service sites (R154, R256–R260, R263): masks, penalties, the draw, and the lane's output record. -/

namespace Sys2Proof.Machine

/-! ## The sampler (R256, R257) -/

/-- draw() of R257. -/
def draw (seed requestId : W64) (position : Nat) : Nat :=
  ofLE ((sha512 (leBytes 8 seed.toNat ++ leBytes 8 requestId.toNat ++ leBytes 8 position ++ leBytes 8 0x4957534D504C0001)).take 8)

/-- The tokens a mask allows. -/
def allowed (mask : Option (List Byte)) (v : Nat) : List Nat :=
  match mask with
  | none => List.range v
  | some bs => (List.range v).filter (fun t => (bs.getD (t / 8) 0).getLsbD (t % 8))

/-- The logit of a token under the repetition penalty. -/
def penalised (logits : List W32) (penalty : W32) (window : List Nat) (i : Nat) : W32 :=
  let l := logits.getD i 0
  if window.contains i then (if f32lt 0 l then fdiv l penalty else fmul l penalty) else l

/-- The token with the largest value, the lowest on ties. -/
def argmax (xs : List (Nat × W32)) : Nat :=
  (xs.foldl (fun (a : Option (Nat × W32)) e => match a with
    | none => some e
    | some b => if f32lt b.2 e.2 then some e else a) none).elim 0 (·.1)

/-- The weight of a token: P of its difference from the largest value times C, rounded once. -/
def tokenWeight (top x : W32) : Nat :=
  let d := dyAdd (fp32.val top.toNat) (let v := fp32.val x.toNat; { m := -v.m, e := v.e })
  let c := fp32.val 0x43B8AA3B
  fixedExp (min (rneScaled (d.m * c.m) 1 (d.e + c.e)).toNat 4864)

/-- The least integer not below an exact value times an integer. -/
def ceilTimes (x : W32) (n : Nat) : Nat :=
  let v := fp32.val x.toNat
  let q := scaleQ (v.m * n) 1 v.e
  (q.1.toNat + q.2 - 1) / q.2

/-- Tokens with their weights by weight descending, the lower token first on ties. -/
def byWeight (ws : List (Nat × Nat)) : List (Nat × Nat) := sortBy (fun e => 2 ^ 18 - e.2) ws

/-- The shortest prefix of a list whose weights reach a sum. -/
def reach (need : Nat) : List (Nat × Nat) → Nat → List (Nat × Nat)
  | [], _ => []
  | e :: es, got => if need ≤ got then [] else e :: reach need es (got + e.2)

/-- The tokens kept by top_k, min_p and top_p, with their weights, in token order. -/
def kept (r : Request) (ws : List (Nat × Nat)) : List (Nat × Nat) :=
  let a := if r.topK = 0 then ws else (byWeight ws).take r.topK
  let b := a.filter (fun e => decide (ceilTimes r.minP (2 ^ 18) ≤ e.2))
  let total := b.foldl (fun (n : Nat) e => n + e.2) 0
  sortBy (·.1) (reach (ceilTimes r.topP total) (byWeight b) 0)

/-- The first token whose running sum exceeds a target. -/
def pick (target : Nat) : List (Nat × Nat) → Nat → Nat
  | [], _ => 0
  | [e], _ => e.1
  | e :: es, got => if target < got + e.2 then e.1 else pick target es (got + e.2)

/-- The token of a lane (R256), none where no token is allowed. -/
def sampleToken (r : Request) (logits : List W32) (mask : Option (List Byte)) (window : List Nat) (position : Nat) : Option Nat :=
  let ks := allowed mask logits.length
  if ks.isEmpty then none
  else
    let ls := ks.map (fun i => (i, penalised logits r.repPenalty window i))
    if r.temperature.toNat % 2 ^ 31 = 0 then some (argmax ls)
    else
      let xs := ls.map (fun e => (e.1, fdiv e.2 r.temperature))
      let top := (xs.find? (fun e => decide (e.1 = argmax xs))).elim 0 (·.2)
      let k := kept r (xs.map (fun e => (e.1, tokenWeight top e.2)))
      let total := k.foldl (fun (n : Nat) e => n + e.2) 0
      some (pick (draw r.seed r.requestId position * total / 2 ^ 64) k 0)

/-! ## The operations (R154) -/

/-- MASK: the mask of the lane's sequence read for the sampler, ceil (V / 8) bytes; none while it is disabled (R259). -/
def execMask (site : Nat) (areg : BitVec 6) (vocab : Nat) (s : State) : Out :=
  act { sites := true, cur := true, nxt := true, flt := true } (fun s =>
    if !(s.doesSampler site 3 areg) then s
    else match s.laneAt site with
      | none => s
      | some l =>
        let q := s.seq l.idx
        let n := maskBytes vocab
        if !q.maskOn then s.updSite site (fun r => { r with maskRead := none })
        else
          let s1 := s.readPoison site q.maskAddr n
          s1.updSite site (fun r => { r with maskRead := some (s.rdBytes q.maskAddr n) })) s

/-- SAMPLE: the token of a lane that samples drawn from its logits (R256, R258). A lane whose mask allows no token ends INVALID; logits
that are not finite are a format fault. -/
def execSample (site : Nat) (areg : BitVec 6) (logits : List W32) (s : State) : Out :=
  act { sites := true, cur := true, nxt := true } (fun s =>
    if !(s.doesSampler site 1 areg) then s
    else match s.laneAt site with
      | none => s
      | some l =>
        if !l.last then s
        else
          let q := s.seq l.idx
          let mask := if q.maskOn then some (((s.site site).maskRead).getD (s.rdBytes q.maskAddr (maskBytes logits.length))) else none
          let s1 := (s.takePoison site).updSite site (fun r => { r with maskRead := none })
          if !(logits.all finite32) then s1.formatFault site
          else match sampleToken q.req logits mask q.window (l.pos + 1) with
            | some t => s1.updLaneAt site (fun l => { l with token := some t })
            | none => s1.updLaneAt site (fun l =>
              if l.ran && l.outcome == 0 && l.endStatus == 0 then { l with endStatus := 0x1A } else l)) s

/-- RECORD: the lane's output record, as it stands before the commit, written at the field's address register (R263; log entry 39). -/
def execRecord (site : Nat) (areg : BitVec 6) (s : State) : Out :=
  act {
      thm := true, mem := true, host := true, poison := true, eng := true, cur := true, nxt := true, mesh := true, sync := true, seqs := true, flt := true } (fun s =>
    if !(s.doesSampler site 2 areg) then s
    else match s.laneAt site, s.laneOf site with
      | some l, some j =>
        let a := s.operandAt site areg
        let member := decide (2 ≤ (s.seq l.idx).req.ringSize ∧ (s.seq l.idx).req.ringIndex ≠ 0)
        let r : Rec := { laneRec l j.2 with
          token := if member then 0xFFFFFFFF else l.token.getD 0xFFFFFFFF
          position := if l.last then l.pos + 1 else l.pos
          ringMember := member }
        if s.okWrite site a 32 then s.wrBytes a r.bytes else s.addressFault site
      | _, _ => s) s

end Sys2Proof.Machine
end

