-- ==== Sys2Proof/Machine/Variants.lean ====
section
/-! DEFINITION. Resident variants and score banks: VAR_LOAD, VAR_UNLOAD, VAR_ARM, VAR_DISARM and what completes them (R159–R165, R189,
R190, R453). -/

namespace Sys2Proof.Machine

/-- Whether a bank is armed, or being armed, with a slot. -/
def State.slotArmed (s : State) (n : Nat) : Bool := (List.range 4).any (fun b => (s.bank b).state != 0 && decide ((s.bank b).slot = n))

/-- The bytes of variant images stored, or being fetched, in the variant area (R190). -/
def State.storedBytes (s : State) : Nat :=
  (s.vars.entries {}).foldl (fun (a : Nat) e => a + (match e.2.img with | some v => v.size | none => if e.2.state = 1 then e.2.limit else 0)) 0

/-- VAR_LOAD (R159, R160, R190): an EMPTY slot begins LOADING; the first failing status of Table 5.13, a source that cannot be reached last. -/
def State.varLoad (s : State) (b : CmdBlock) : State :=
  let n := b.par 0 1
  let size := b.par 16 8
  if 63 < n ∨ 1 < b.par 1 1 then s.result b 0x30 2
  else if (s.var n).state ≠ 0 then s.result b 0x30 3
  else if s.lock.vSize = 0 ∨ s.lock.vSize.toNat * 2 ^ 30 < 0x400000 + s.storedBytes + size then s.result b 0x30 4
  else if !(s.sourceOk b (b.par 1 1) (b.par 4 2)) then s.result b 0x30 6
  else (s.opened b 0x30).updVar n (fun v =>
    { state := 1, reason := v.reason, channel := b.channel, cseq := b.cseq, limit := size, startTick := s.tick })

/-- VAR_LOAD. -/
def execVarLoad (b : CmdBlock) (s : State) : Out :=
  act {
      nv := true, mem := true, host := true, poison := true, vars := true, parts := true, fab := true, chans := true, hif := true,
      sec := true } (fun s => s.accept ⟨0x30, true, [0]⟩ false false b (fun t => t.varLoad b)) s

/-- An image as it is stored in slot n: the address registers that name its own sync page hold that page's device-local addresses (R190). -/
def State.relocated (s : State) (n : Nat) (img : VariantImage) : VariantImage :=
  { img with scores := img.scores.map (fun r => { r with
      addrs := r.pageRegs.foldl (fun (a : List Nat) e => (a ++ List.replicate (e.1 + 1 - a.length) 0).set e.1 (s.syncPage n + e.2)) r.addrs }) }

/-- The outcome of the load checks: the image stored and its sync page zeroed (R189), or the slot EMPTY with the reason. -/
def State.varChecked (s : State) (n : Nat) (img : VariantImage) (reason : Byte) : State :=
  let v := s.var n
  if reason ≠ 0 then (s.updVar n (fun _ => { reason := reason })).complete v.channel 0x30 v.cseq 2 (reason.zeroExtend 40)
  else
    let g := (s.genOf img).getD false
    let s1 := s.updVar n (fun v => { v with
      state := 2, genSlot := g, img := some (s.relocated n img) })
    (s1.zeroMem (s1.syncPage n) 0x10000).complete v.channel 0x30 v.cseq 0 0

/-- VAR_LOAD_CHECKS_DONE (R160, R164). -/
def execVarLoadChecksDone (slot : Nat) (img : VariantImage) (s : State) : Out :=
  act { mem := true, poison := true, vars := true, fab := true, chans := true, hif := true } (fun s =>
    let v := s.var slot
    if v.state ≠ 1 then s
    else if badContainer img v.limit then (s.updVar slot (fun v => { reason := v.reason })).complete v.channel 0x30 v.cseq 1 0
    else s.varChecked slot img (s.loadReason slot img)) s

/-- VAR_LOAD_SOURCE_TIMEOUT: no image data for 1,024 ticks (R160). -/
def execVarLoadSourceTimeout (slot : Nat) (s : State) : Out :=
  act { vars := true, fab := true, chans := true, hif := true } (fun s =>
    let v := s.var slot
    s.when (v.state == 1 && decide (v.startTick + 1024 ≤ s.tick)) (fun s =>
      (s.updVar slot (fun v => { reason := v.reason })).complete v.channel 0x30 v.cseq 6 0)) s

/-- VAR_UNLOAD (R159, R165, R189): a slot that is not armed emptied, its sync context discarded. -/
def State.varUnload (s : State) (b : CmdBlock) : State :=
  let n := b.par 0 1
  if 63 < n then s.result b 0x31 2
  else if ((s.var n).state ≠ 2 ∧ (s.var n).state ≠ 3) ∨ s.slotArmed n then s.result b 0x31 3
  else (((s.opened b 0x31).updVar n (fun v => { reason := v.reason })).zeroMem (s.syncPage n) 0x10000).complete b.channel 0x31 b.cseq 0 0

/-- VAR_UNLOAD. -/
def execVarUnload (b : CmdBlock) (s : State) : Out :=
  act {
      nv := true, mem := true, host := true, poison := true, vars := true, parts := true, fab := true, chans := true, hif := true,
      sec := true } (fun s => s.accept ⟨0x31, true, [0]⟩ false false b (fun t => t.varUnload b)) s

/-- Whether a variant belongs to the outgoing generation of a rolling rewrite in progress (R165). -/
def State.yielding (s : State) (v : VariantImage) : Bool :=
  [s.wgt.genA, s.wgt.genB].any (fun g => g.state == 7 && g.imageId == v.imageId && g.digest == v.manifestDigest)

/-- VAR_ARM (R159, R165): a bank that is not running begins ARMING. -/
def State.varArm (s : State) (b : CmdBlock) : State :=
  let n := b.par 0 1
  let k := b.par 1 1
  let g := b.par 2 1
  let k0 := s.bank k
  (let sets := match (s.var n).img with | some v => v.gapSets | none => 7
    let out := match (s.var n).img with | some v => s.yielding v | none => false
    if 63 < n ∨ 3 < k ∨ sets < g then s.result b 0x32 2
    else if out then (s.updVar n (fun v => { v with reason := 0x02 })).result b 0x32 2
    else if (s.var n).state ≠ 2 then s.result b 0x32 3
    else if k0.state = 1 ∨ k0.state = 3 then s.result b 0x32 5
    else (s.opened b 0x32).updBank k (fun _ =>
      { state := 1, slot := n, gapSet := BitVec.ofNat 3 g, channel := b.channel, cseq := b.cseq }))

/-- VAR_ARM. -/
def execVarArm (b : CmdBlock) (s : State) : Out :=
  act {
      nv := true, mem := true, host := true, poison := true, vars := true, banks := true, parts := true, fab := true, chans := true,
      hif := true, sec := true } (fun s => s.accept ⟨0x32, false, [0, 1]⟩ false false b (fun t => t.varArm b)) s

/-- A score with the XST rows of a gap-route set in place of its own (R163). -/
def withGap (v : VariantImage) (set : Nat) (r : ScoreRec) : ScoreRec :=
  let new_ := (v.gaps.filter (fun g => decide (g.set = set ∧ g.site = r.site))).flatMap (fun g => g.xst)
  { r with xst := r.xst.filter (fun e => !(new_.any (fun n => decide (n.1 / 16 = e.1 / 16)))) ++ new_ }

/-- A bank's copy of its variant complete (R159): ARMED, or RUNNING where the engine is held and no bank runs (R453); a variant that
went STALE meanwhile cannot be armed (R158). -/
def State.armed (s : State) (n : Nat) : State :=
  let k := s.bank n
  match (s.var k.slot).img with
  | none => (s.updBank n (fun _ => {})).complete k.channel 0x32 k.cseq 3 0
  | some v =>
    if (s.var k.slot).state ≠ 2 then (s.updBank n (fun _ => {})).complete k.channel 0x32 k.cseq 3 0
    else
      let runs := s.held && !((List.range 4).any (fun b => (s.bank b).state == 3))
      let s1 := s.updBank n (fun k => { k with
        state := if runs then 3 else 2, variantId := v.variantId, scores := v.scores.map (withGap v k.gapSet.toNat),
        west := v.west, east := v.east })
      let s2 := if runs then State.setEntry { s1 with eng := { s1.eng with bank := n }, clk := { s1.clk with plan := v.plan } } else s1
      s2.complete k.channel 0x32 k.cseq 0 0

/-- ARM_COMPLETE. -/
def execArmComplete (bank : Nat) (s : State) : Out :=
  act { clk := true, banks := true, eng := true, mesh := true, fab := true, chans := true, hif := true } (fun s =>
      s.when ((s.bank bank).state == 1) (fun s => s.armed bank)) s

/-- VAR_DISARM (R159): a FREE bank stays as it is. -/
def State.varDisarm (s : State) (b : CmdBlock) : State :=
  let k := b.par 0 1
  if 3 < k then s.result b 0x33 2
  else if (s.bank k).state = 1 ∨ (s.bank k).state = 3 then s.result b 0x33 5
  else ((s.opened b 0x33).updBank k (fun _ => {})).complete b.channel 0x33 b.cseq 0 0

/-- VAR_DISARM. -/
def execVarDisarm (b : CmdBlock) (s : State) : Out :=
  act {
      nv := true, mem := true, host := true, poison := true, banks := true, parts := true, fab := true, chans := true, hif := true,
      sec := true } (fun s => s.accept ⟨0x33, false, [0, 1]⟩ false false b (fun t => t.varDisarm b)) s

end Sys2Proof.Machine
end

