-- ==== Sys2Proof/Machine/Dispatch.lean ====
section
/-! DEFINITION. One arm per command: what each command does to everything but the queue. -/

namespace Sys2Proof.Machine

def exec (i : Instr) (s : State) : Host.Outcome State Fault Refusal :=
  match i with
  | .powerOnReset env => Sys2Proof.Machine.execPowerOnReset env s
  | .meshLock env => Sys2Proof.Machine.execMeshLock env s
  | .coolantConfirmed vote => Sys2Proof.Machine.execCoolantConfirmed vote s
  | .integrityCheck => Sys2Proof.Machine.execIntegrityCheck s
  | .dramInit trained => Sys2Proof.Machine.execDramInit trained s
  | .ready => Sys2Proof.Machine.execReady s
  | .goldenRebuild => Sys2Proof.Machine.execGoldenRebuild s
  | .sysRstNReset lowNs env => Sys2Proof.Machine.execSysRstNReset lowNs env s
  | .devReset b env => Sys2Proof.Machine.execDevReset b env s
  | .bootWatchdogExpiry env => Sys2Proof.Machine.execBootWatchdogExpiry env s
  | .recoveryUpdateRestart env => Sys2Proof.Machine.execRecoveryUpdateRestart env s
  | .linkReset cause => Sys2Proof.Machine.execLinkReset cause s
  | .perstNDeassert width => Sys2Proof.Machine.execPerstNDeassert width s
  | .pfFlr => Sys2Proof.Machine.execPfFlr s
  | .vfFlr p => Sys2Proof.Machine.execVfFlr p s
  | .vfEnableClear => Sys2Proof.Machine.execVfEnableClear s
  | .managementTick => Sys2Proof.Machine.execManagementTick s
  | .sensorWindowEnd energy => Sys2Proof.Machine.execSensorWindowEnd energy s
  | .conversionComplete conv code cellBit => Sys2Proof.Machine.execConversionComplete conv code cellBit s
  | .sequenceTableWrite conv entries => Sys2Proof.Machine.execSequenceTableWrite conv entries s
  | .urgentRequest conv channel threshold code => Sys2Proof.Machine.execUrgentRequest conv channel threshold code s
  | .statisticsTickEnd => Sys2Proof.Machine.execStatisticsTickEnd s
  | .calibrationPause => Sys2Proof.Machine.execCalibrationPause s
  | .calibrationPauseEnd => Sys2Proof.Machine.execCalibrationPauseEnd s
  | .throttleExit h => Sys2Proof.Machine.execThrottleExit h s
  | .emergencyEnter vale => Sys2Proof.Machine.execEmergencyEnter vale s
  | .emergencyExit vale => Sys2Proof.Machine.execEmergencyExit vale s
  | .coolantRateCause c => Sys2Proof.Machine.execCoolantRateCause c s
  | .coolantCauseClear c => Sys2Proof.Machine.execCoolantCauseClear c s
  | .coolantFail => Sys2Proof.Machine.execCoolantFail s
  | .coolantFailTimeout => Sys2Proof.Machine.execCoolantFailTimeout s
  | .coolantFailClear => Sys2Proof.Machine.execCoolantFailClear s
  | .supplyLimit amps us => Sys2Proof.Machine.execSupplyLimit amps us s
  | .supplyLimitClear => Sys2Proof.Machine.execSupplyLimitClear s
  | .powerFail mv us => Sys2Proof.Machine.execPowerFail mv us s
  | .overvoltageCut mv us => Sys2Proof.Machine.execOvervoltageCut mv us s
  | .thermalTrip cluster tempCode => Sys2Proof.Machine.execThermalTrip cluster tempCode s
  | .railFault vale => Sys2Proof.Machine.execRailFault vale s
  | .holdoverEnter => Sys2Proof.Machine.execHoldoverEnter s
  | .relock => Sys2Proof.Machine.execRelock s
  | .nodeDecouple cluster => Sys2Proof.Machine.execNodeDecouple cluster s
  | .stepBoundary t => Sys2Proof.Machine.execStepBoundary t s
  | .bundleIssue h flips upsets => Sys2Proof.Machine.execBundleIssue h flips upsets s
  | .holdEnd => Sys2Proof.Machine.execHoldEnd s
  | .serviceWindow => Sys2Proof.Machine.execServiceWindow s
  | .syncStallBegin site => Sys2Proof.Machine.execSyncStallBegin site s
  | .syncStallEnd t => Sys2Proof.Machine.execSyncStallEnd t s
  | .syncWatchdog t => Sys2Proof.Machine.execSyncWatchdog t s
  | .mapSwitch => Sys2Proof.Machine.execMapSwitch s
  | .scrubVisit target a b c => Sys2Proof.Machine.execScrubVisit target a b c s
  | .tileSelfTest site r => Sys2Proof.Machine.execTileSelfTest site r s
  | .markClear site p => Sys2Proof.Machine.execMarkClear site p s
  | .suspectClear site => Sys2Proof.Machine.execSuspectClear site s
  | .tlActionClear vale => Sys2Proof.Machine.execTlActionClear vale s
  | .faultHoldEnd => Sys2Proof.Machine.execFaultHoldEnd s
  | .marginScan site p rg weak => Sys2Proof.Machine.execMarginScan site p rg weak s
  | .arrayAgeDue site p => Sys2Proof.Machine.execArrayAgeDue site p s
  | .refreshStart => Sys2Proof.Machine.execRefreshStart s
  | .programSessionDone site p flips weak trimOffs => Sys2Proof.Machine.execProgramSessionDone site p flips weak trimOffs s
  | .parkTtlExpiry entry => Sys2Proof.Machine.execParkTtlExpiry entry s
  | .deadlineReached entry => Sys2Proof.Machine.execDeadlineReached entry s
  | .partitionZeroingDone p => Sys2Proof.Machine.execPartitionZeroingDone p s
  | .hostCopyComplete channel cseq fault => Sys2Proof.Machine.execHostCopyComplete channel cseq fault s
  | .stagingComplete => Sys2Proof.Machine.execStagingComplete s
  | .installChunkReceived entry bytes => Sys2Proof.Machine.execInstallChunkReceived entry bytes s
  | .installSourceTimeout => Sys2Proof.Machine.execInstallSourceTimeout s
  | .generationCommit => Sys2Proof.Machine.execGenerationCommit s
  | .rollProgrammingStart => Sys2Proof.Machine.execRollProgrammingStart s
  | .varLoadChecksDone slot img => Sys2Proof.Machine.execVarLoadChecksDone slot img s
  | .armComplete bank => Sys2Proof.Machine.execArmComplete bank s
  | .adpLoadDone slot head sig chunks => Sys2Proof.Machine.execAdpLoadDone slot head sig chunks s
  | .adapterSlotReady slot => Sys2Proof.Machine.execAdapterSlotReady slot s
  | .fwWriteComplete readBackOk => Sys2Proof.Machine.execFwWriteComplete readBackOk s
  | .standbyExitDone => Sys2Proof.Machine.execStandbyExitDone s
  | .valeDarken vale => Sys2Proof.Machine.execValeDarken vale s
  | .partitionConfigApply p => Sys2Proof.Machine.execPartitionConfigApply p s
  | .partitionResetApply p => Sys2Proof.Machine.execPartitionResetApply p s
  | .profileChange => Sys2Proof.Machine.execProfileChange s
  | .genPointerMove => Sys2Proof.Machine.execGenPointerMove s
  | .egressKeyApply p => Sys2Proof.Machine.execEgressKeyApply p s
  | .wgtInstallNew b head sig plan => Sys2Proof.Machine.execWgtInstallNew b head sig plan s
  | .wgtInstallRoll b head sig plan => Sys2Proof.Machine.execWgtInstallRoll b head sig plan s
  | .wgtSwitch b => Sys2Proof.Machine.execWgtSwitch b s
  | .wgtRetire b => Sys2Proof.Machine.execWgtRetire b s
  | .wgtAbort b => Sys2Proof.Machine.execWgtAbort b s
  | .wgtFix b => Sys2Proof.Machine.execWgtFix b s
  | .adpLoad b => Sys2Proof.Machine.execAdpLoad b s
  | .adpRetire b => Sys2Proof.Machine.execAdpRetire b s
  | .varLoad b => Sys2Proof.Machine.execVarLoad b s
  | .varUnload b => Sys2Proof.Machine.execVarUnload b s
  | .varArm b => Sys2Proof.Machine.execVarArm b s
  | .varDisarm b => Sys2Proof.Machine.execVarDisarm b s
  | .fltRemap b => Sys2Proof.Machine.execFltRemap b s
  | .fltMapout b => Sys2Proof.Machine.execFltMapout b s
  | .hostCopy b => Sys2Proof.Machine.execHostCopy b s
  | .peerLost b => Sys2Proof.Machine.execPeerLost b s
  | .secSpdmRequest b req => Sys2Proof.Machine.execSecSpdmRequest b req s
  | .secSpdmSecuredCommand b openedOk inner detail => Sys2Proof.Machine.execSecSpdmSecuredCommand b openedOk inner detail s
  | .partConfig b => Sys2Proof.Machine.execPartConfig b s
  | .partReset b => Sys2Proof.Machine.execPartReset b s
  | .profileSet b => Sys2Proof.Machine.execProfileSet b s
  | .keyLoadOperatorCmd b k => Sys2Proof.Machine.execKeyLoadOperatorCmd b k s
  | .keyLoadPartitionCmd b k => Sys2Proof.Machine.execKeyLoadPartitionCmd b k s
  | .keyLoadPartitionEgress b k => Sys2Proof.Machine.execKeyLoadPartitionEgress b k s
  | .keyLoadRootAdd b k => Sys2Proof.Machine.execKeyLoadRootAdd b k s
  | .keyLoadRootRemove b k => Sys2Proof.Machine.execKeyLoadRootRemove b k s
  | .fwUpdate b img => Sys2Proof.Machine.execFwUpdate b img s
  | .dbgUnlock b token => Sys2Proof.Machine.execDbgUnlock b token s
  | .releaseFixed b r => Sys2Proof.Machine.execReleaseFixed b r s
  | .fixAtFactory b r => Sys2Proof.Machine.execFixAtFactory b r s
  | .clearOperatorKey b r => Sys2Proof.Machine.execClearOperatorKey b r s
  | .valePowerOff b => Sys2Proof.Machine.execValePowerOff b s
  | .valePowerOn b vote => Sys2Proof.Machine.execValePowerOn b vote s
  | .thmRelocate b => Sys2Proof.Machine.execThmRelocate b s
  | .pwrStateStandby b => Sys2Proof.Machine.execPwrStateStandby b s
  | .pwrStateActive b vote => Sys2Proof.Machine.execPwrStateActive b vote s
  | .getVersion channel => Sys2Proof.Machine.execGetVersion channel s
  | .getCapabilities channel => Sys2Proof.Machine.execGetCapabilities channel s
  | .negotiateAlgorithms channel supported => Sys2Proof.Machine.execNegotiateAlgorithms channel supported s
  | .getDigests channel => Sys2Proof.Machine.execGetDigests channel s
  | .getCertificate channel offset length => Sys2Proof.Machine.execGetCertificate channel offset length s
  | .challenge channel nonce => Sys2Proof.Machine.execChallenge channel nonce s
  | .getMeasurements channel index nonce => Sys2Proof.Machine.execGetMeasurements channel index nonce s
  | .keyExchange channel supported => Sys2Proof.Machine.execKeyExchange channel supported s
  | .spdmFinish channel verified => Sys2Proof.Machine.execSpdmFinish channel verified s
  | .heartbeat channel => Sys2Proof.Machine.execHeartbeat channel s
  | .keyUpdate channel => Sys2Proof.Machine.execKeyUpdate channel s
  | .endSession channel => Sys2Proof.Machine.execEndSession channel s
  | .setEndpointId bind owner eid => Sys2Proof.Machine.execSetEndpointId bind owner eid s
  | .getEndpointId bind => Sys2Proof.Machine.execGetEndpointId bind s
  | .getMctpVersionSupport bind msgType => Sys2Proof.Machine.execGetMctpVersionSupport bind msgType s
  | .getMessageTypeSupport bind => Sys2Proof.Machine.execGetMessageTypeSupport bind s
  | .getVendorDefinedMessageSupport bind selector => Sys2Proof.Machine.execGetVendorDefinedMessageSupport bind selector s
  | .getEndpointUuid bind => Sys2Proof.Machine.execGetEndpointUuid bind s
  | .mctpVendorMessage secured vendor word => Sys2Proof.Machine.execMctpVendorMessage secured vendor word s
  | .mctpAck secured => Sys2Proof.Machine.execMctpAck secured s
  | .pldmBase bind command => Sys2Proof.Machine.execPldmBase bind command s
  | .pldmPlatformMonitoring bind sensor => Sys2Proof.Machine.execPldmPlatformMonitoring bind sensor s
  | .pldmFruData bind => Sys2Proof.Machine.execPldmFruData bind s
  | .pldmFirmwareUpdate bind img => Sys2Proof.Machine.execPldmFirmwareUpdate bind img s
  | .mbxInWrite channel word => Sys2Proof.Machine.execMbxInWrite channel word s
  | .mbxOutRead channel => Sys2Proof.Machine.execMbxOutRead channel s
  | .descTail part v => Sys2Proof.Machine.execDescTail part v s
  | .rqTail owner part v => Sys2Proof.Machine.execRqTail owner part v s
  | .outHead owner v => Sys2Proof.Machine.execOutHead owner v s
  | .noticeHead part v => Sys2Proof.Machine.execNoticeHead part v s
  | .syncHsig n part v => Sys2Proof.Machine.execSyncHsig n part v s
  | .stepHoldSet => Sys2Proof.Machine.execStepHoldSet s
  | .stepHoldClear => Sys2Proof.Machine.execStepHoldClear s
  | .commitGlobal => Sys2Proof.Machine.execCommitGlobal s
  | .commitStep => Sys2Proof.Machine.execCommitStep s
  | .commitFabric => Sys2Proof.Machine.execCommitFabric s
  | .portRetrain port => Sys2Proof.Machine.execPortRetrain port s
  | .portDisable port disable => Sys2Proof.Machine.execPortDisable port disable s
  | .registerWrite fn bar offset part v => Sys2Proof.Machine.execRegisterWrite fn bar offset part v s
  | .halfReadLatch fn bar offset => Sys2Proof.Machine.execHalfReadLatch fn bar offset s
  | .requestFetch completionError => Sys2Proof.Machine.execRequestFetch completionError s
  | .requestPending owner => Sys2Proof.Machine.execRequestPending owner s
  | .outputWriteError owner => Sys2Proof.Machine.execOutputWriteError owner s
  | .admitSeq a => Sys2Proof.Machine.execAdmitSeq a s
  | .attach a => Sys2Proof.Machine.execAttach a s
  | .cancel a => Sys2Proof.Machine.execCancel a s
  | .park a => Sys2Proof.Machine.execPark a s
  | .resume a => Sys2Proof.Machine.execResume a s
  | .setMask a => Sys2Proof.Machine.execSetMask a s
  | .publish a => Sys2Proof.Machine.execPublish a s
  | .release a => Sys2Proof.Machine.execRelease a s
  | .reshardAction a => Sys2Proof.Machine.execReshardAction a s
  | .portTrained port rate lanesOk => Sys2Proof.Machine.execPortTrained port rate lanesOk s
  | .admitHello port hello => Sys2Proof.Machine.execAdmitHello port hello s
  | .admitProof port signatureOk => Sys2Proof.Machine.execAdmitProof port signatureOk s
  | .admissionTimeout port => Sys2Proof.Machine.execAdmissionTimeout port s
  | .timeFrame port sent echo => Sys2Proof.Machine.execTimeFrame port sent echo s
  | .windowFrame port f => Sys2Proof.Machine.execWindowFrame port f s
  | .msgPut port f => Sys2Proof.Machine.execMsgPut port f s
  | .msgPutSignal port f => Sys2Proof.Machine.execMsgPutSignal port f s
  | .msgSignal port f => Sys2Proof.Machine.execMsgSignal port f s
  | .msgGroup port f g => Sys2Proof.Machine.execMsgGroup port f g s
  | .broadcastFrame port f => Sys2Proof.Machine.execBroadcastFrame port f s
  | .linkAck port lseq => Sys2Proof.Machine.execLinkAck port lseq s
  | .retransmissionRequest port lseq => Sys2Proof.Machine.execRetransmissionRequest port lseq s
  | .retransmitTimeout port => Sys2Proof.Machine.execRetransmitTimeout port s
  | .portFail port cause => Sys2Proof.Machine.execPortFail port cause s
  | .portRetry port => Sys2Proof.Machine.execPortRetry port s
  | .windowDeadline slot => Sys2Proof.Machine.execWindowDeadline slot s
  | .pitchPoint late => Sys2Proof.Machine.execPitchPoint late s
  | .mac site f => Sys2Proof.Machine.execMac site f s
  | .sweep site f => Sys2Proof.Machine.execSweep site f s
  | .promote site f => Sys2Proof.Machine.execPromote site f s
  | .promoteReduce site f => Sys2Proof.Machine.execPromoteReduce site f s
  | .reduce site f => Sys2Proof.Machine.execReduce site f s
  | .merge site f => Sys2Proof.Machine.execMerge site f s
  | .emit site f => Sys2Proof.Machine.execEmit site f s
  | .convert site f => Sys2Proof.Machine.execConvert site f s
  | .clear site f => Sys2Proof.Machine.execClear site f s
  | .qload site f => Sys2Proof.Machine.execQload site f s
  | .kvappend site f key value => Sys2Proof.Machine.execKvappend site f key value s
  | .score site f => Sys2Proof.Machine.execScore site f s
  | .expsum site f => Sys2Proof.Machine.execExpsum site f s
  | .finish site f => Sys2Proof.Machine.execFinish site f s
  | .pagein site f local_ addr => Sys2Proof.Machine.execPagein site f local_ addr s
  | .pageout site f local_ addr => Sys2Proof.Machine.execPageout site f local_ addr s
  | .reshard site f local_ => Sys2Proof.Machine.execReshard site f local_ s
  | .zero site f => Sys2Proof.Machine.execZero site f s
  | .pload site f what => Sys2Proof.Machine.execPload site f what s
  | .pscore site f => Sys2Proof.Machine.execPscore site f s
  | .pexpsum site f => Sys2Proof.Machine.execPexpsum site f s
  | .pfinish site f outFmt => Sys2Proof.Machine.execPfinish site f outFmt s
  | .ringsend site f addr len => Sys2Proof.Machine.execRingsend site f addr len s
  | .dense site f outFmt xs rows => Sys2Proof.Machine.execDense site f outFmt xs rows s
  | .quant site f inFmt => Sys2Proof.Machine.execQuant site f inFmt s
  | .outlier site f => Sys2Proof.Machine.execOutlier site f s
  | .norm site f n => Sys2Proof.Machine.execNorm site f n s
  | .resid site f n => Sys2Proof.Machine.execResid site f n s
  | .gate site f n => Sys2Proof.Machine.execGate site f n s
  | .adapt site f n rank m => Sys2Proof.Machine.execAdapt site f n rank m s
  | .pmac site f n m opFmt => Sys2Proof.Machine.execPmac site f n m opFmt s
  | .logit site f n m => Sys2Proof.Machine.execLogit site f n m s
  | .sample site areg logits => Sys2Proof.Machine.execSample site areg logits s
  | .record site areg => Sys2Proof.Machine.execRecord site areg s
  | .mask site areg vocab => Sys2Proof.Machine.execMask site areg vocab s
  | .signal site f => Sys2Proof.Machine.execSignal site f s
  | .wait site f => Sys2Proof.Machine.execWait site f s
  | .monitor site f => Sys2Proof.Machine.execMonitor site f s
  | .bypass => Sys2Proof.Machine.execBypass s
  | .idcode => Sys2Proof.Machine.execIdcode s
  | .samplePreload => Sys2Proof.Machine.execSamplePreload s
  | .extest => Sys2Proof.Machine.execExtest s
  | .clamp => Sys2Proof.Machine.execClamp s
  | .highz => Sys2Proof.Machine.execHighz s
  | .ieee1687Access active => Sys2Proof.Machine.execIeee1687Access active s
  | .frefLoss => Sys2Proof.Machine.execFrefLoss s
  | .frefReturn => Sys2Proof.Machine.execFrefReturn s
  | .varLoadSourceTimeout slot => Sys2Proof.Machine.execVarLoadSourceTimeout slot s
  | .pcieLinkUp width => Sys2Proof.Machine.execPcieLinkUp width s
  | .vauxFalls => Sys2Proof.Machine.execVauxFalls s
  | .unsupportedRequest fn bar offset size isWrite => Sys2Proof.Machine.execUnsupportedRequest fn bar offset size isWrite s
  | .vfEnableSet => Sys2Proof.Machine.execVfEnableSet s
  | .linkCredit port cls credits => Sys2Proof.Machine.execLinkCredit port cls credits s

end Sys2Proof.Machine
end

