-- ==== Sys2Proof/Safety.lean ====
section
/-! DEFINITION. What counts as a safe run, in the terms the statements use: commands within the ratings, commands that reset, the
order of runs, and the locked configuration's legal values. -/

namespace Sys2Proof

/-- A command that states no condition beyond the absolute maximum ratings of Table 17.1 (R473). -/
def Instr.rated (i : Instr) : Bool :=
  match i with
  | .overvoltageCut mv _ => decide (mv ≤ 80000)
  | _ => true

/-- The resets that clear the commits (Table 15.4), and the injection-node lock that ends a power-on reset. -/
def Instr.isReset (i : Instr) : Bool :=
  match i with
  | .powerOnReset _ | .meshLock _ | .sysRstNReset _ _ | .devReset _ _ | .bootWatchdogExpiry _ | .recoveryUpdateRestart _ => true
  | _ => false

/-- The commands that may move the device time other than a reset: the ends of a tick, a step, a pause and a stall, the watchdog, and a
pitch point. -/
def Instr.movesTime (i : Instr) : Bool :=
  match i with
  | .managementTick | .stepBoundary _ | .calibrationPauseEnd | .syncStallEnd _ | .syncWatchdog _ | .pitchPoint _ => true
  | _ => false

/-- The function that makes the register access a command is (R355, R357, R370): a mailbox or doorbell access of the physical function or
of a partition's virtual function, a register of a block of BAR0, or any register written. -/
def Instr.accessBy (i : Instr) : Option Func :=
  match i with
  | .mbxInWrite c _ | .mbxOutRead c => if c < 2 then some .pf else if c < 18 then some (.vf (c - 1)) else none
  | .rqTail p _ _ | .outHead p _ => if p < 16 then some (.vf (p + 1)) else some .pf
  | .descTail _ _ | .noticeHead _ _ | .syncHsig _ _ _ | .stepHoldSet | .stepHoldClear | .commitGlobal | .commitStep | .commitFabric
  | .portRetrain _ | .portDisable _ _ => some .pf
  | .registerWrite fn _ _ _ _ => some fn
  | _ => none

namespace Machine

/-- A state from which the step answers a next state. -/
def State.goes (s : State) : Prop := ∃ t, step s = .next t

/-- `n` steps from a state, each answering a next state. -/
def runs : Nat → State → State → Prop
  | 0, s, t => t = s
  | n + 1, s, t => ∃ u, step s = .next u ∧ runs n u t

/-- A state `t` that differs from `s` in no component of the state outside `m`: the frame of a command that changes `m` alone. -/
def Within (m : Foot) (s t : State) : Prop := t = State.only m s t

/-- A command answers a next state, within `m`, of which `P` holds: it completes, with its effect `P` and its frame `m`. -/
def Answers (c : Instr) (s : State) (m : Foot) (P : State → Prop) : Prop := ∃ t, exec c s = .next t ∧ Within m s t ∧ P t

/-- A command block passes every check of R375, in the state that has taken its message: it is accepted, and its own checks follow. -/
abbrev State.accepts (s : State) (i : CmdInfo) (sec firstLoad : Bool) (b : CmdBlock) : Prop :=
  (s.takeIn b.channel).rejectReason i sec false firstLoad b = none

/-- The footprint of a LINK reset and of a PF_FLR. -/
def Foot.functions : Foot :=
  { boot := true, nv := true, mem := true, adps := true, eng := true, sync := true, frames := true, sweeps := true, seqs := true,
    parts := true, srv := true, fab := true, chans := true, hif := true, sec := true }

/-- What a device reset leaves (Table 15.4): the array cells, the host's memory, the keys and the device time; everything else that is
volatile is at its reset value, nothing is committed, and stage ROM is complete. -/
def State.restarted (s : State) (kind : BitVec 4) (t : State) : Prop :=
  t.time = s.time ∧ t.cells = s.cells ∧ t.host = s.host ∧ t.mem = [] ∧ t.poison = [] ∧ t.seqs = [] ∧ t.vars = [] ∧ t.banks = [] ∧
  t.acc24 = [] ∧ t.acc48 = [] ∧ t.eng = {} ∧ t.sync = {} ∧ t.mesh = {} ∧ t.pwr.off = false ∧ t.boot.ready = false ∧
  t.boot.resetKind = kind ∧ t.stageDone 0 = true ∧ t.nv.opKey = s.nv.opKey ∧ t.nv.roots = s.nv.roots ∧
  t.lock = { plan := s.lock.recPlan.getD 0x03333000, topo := s.lock.recTopo, recPlan := s.lock.recPlan, recTopo := s.lock.recTopo }

/-- What the reset of the physical function leaves (R457): the engine held, the host signals and the operator's doorbell registers at
their reset values; with the engine running, the operator's rings and channels too. -/
def State.functionsReset (s : State) (kind : BitVec 4) (t : State) : Prop :=
  t.boot = { s.boot with resetKind := kind } ∧ t.eng = { s.eng with hold := true } ∧
  (∀ a, hostSyncPage ≤ a → a < hostSyncPage + 0x1000 → t.mem.read a = 0) ∧
  (∀ a, ¬(hostSyncPage ≤ a ∧ a < hostSyncPage + 0x1000) → t.mem.read a = s.mem.read a) ∧
  t.sync.wdogSteps = 4 ∧ t.sync.hmon = [0, 0, 0, 0] ∧ t.sync.mirrorEn = false ∧ t.srv.fetched = [] ∧
  (s.held = false → t.hif.vfEnable = false ∧ t.hif.descEnable = false ∧ t.hif.descHead = 0 ∧ t.hif.descTail = 0 ∧
    t.hif.notEnable = false ∧ (t.part 31).rings = {} ∧ t.chan 0 = {} ∧ t.chan 1 = {} ∧ t.spdm 0 = {} ∧ t.spdm 1 = {})

/-- The footprint of a boundary. -/
def Foot.boundary : Foot :=
  { time := true, freeCount := true, clk := true, thm := true, pwr := true, nv := true, mem := true, host := true, poison := true,
    acc24 := true, acc48 := true, shadow := true, arrs := true, sites := true, wgt := true, adps := true, vars := true,
    banks := true, eng := true, cur := true, nxt := true, mesh := true, sync := true, kvs := true, pfs := true, frames := true,
    sweeps := true, seqs := true, parts := true, srv := true, sens := true, flt := true, fab := true, chans := true, hif := true,
    sec := true }

/-- The footprint of the death of a site (R307). -/
def Foot.dying : Foot :=
  { thm := true, arrs := true, sites := true, wgt := true, vars := true, eng := true, cur := true, nxt := true, mesh := true, sync := true, seqs := true,
    flt := true, fab := true, chans := true, hif := true }

/-- The footprint of a program session's end, with the repairs that it lets start. -/
def Foot.sessions : Foot :=
  { thm := true, mem := true, host := true, poison := true, cells := true, arrs := true, sites := true, wgt := true, vars := true,
    eng := true, cur := true, nxt := true, mesh := true, sync := true, seqs := true, sens := true, flt := true, fab := true, chans := true,
    hif := true }

/-- The footprint of a darkening. -/
def Foot.darkening : Foot :=
  { pwr := true, mem := true, poison := true, acc24 := true, acc48 := true, shadow := true, sites := true, kvs := true, pfs := true,
    sens := true, fab := true, chans := true, hif := true }

/-- The footprint of a relocation. -/
def Foot.moving : Foot :=
  { thm := true, nv := true, mem := true, host := true, poison := true, arrs := true, sites := true, wgt := true, vars := true,
    eng := true, cur := true, nxt := true, mesh := true, sync := true, seqs := true, parts := true, flt := true, fab := true, chans := true,
    hif := true, sec := true }

/-- What a boundary before step `m` leaves that ends in a hold (R304, R454): the engine held with nothing latched, at the number of the next
step to latch, and no bundle delivered. -/
abbrev State.heldAt (m : W64) (t : State) : Prop :=
  t.eng.state = 0 ∧ t.eng.stepNumber = m + 1 ∧ t.cur = {} ∧ t.nxt = {} ∧ t.eng.beatW = none ∧ t.eng.beatE = none

/-- What a boundary leaves that opens a step of variant `v` (R139, R454): the step resolved to be the opening one, at its first slot with no bundle
delivered, in a clock quiesce where a half's rate changes, else in a fill where `fill` slots are due, else in its first slot. -/
abbrev Resolved.openAt (r : Resolved) (v : VariantImage) (fill : Nat) (t : State) : Prop :=
  t.cur = r.opening ∧ t.nxt = r.latched ∧ t.eng.stepNumber = r.m ∧ t.eng.running = true ∧ t.eng.fresh = true ∧ t.eng.slot = 0 ∧
  t.eng.fillLeft = fill ∧ t.eng.beatW = none ∧ t.eng.beatE = none ∧ t.srv.emptySteps = r.s.srv.emptySteps + r.empties ∧
  t.eng.state = (if quietBeats r.s.clk.plan v.plan .west + quietBeats r.s.clk.plan v.plan .east ≠ 0 then 4 else if fill ≠ 0 then 1 else 2)

/-- The footprint of a descriptor action (R241). -/
def Foot.action : Foot :=
  { adps := true, frames := true, sweeps := true, seqs := true, parts := true, srv := true }

/-- An action names a pending request of a kind and, with its handle, an entry of the author's range whose sequence has not just ended
(R241). -/
abbrev State.actsOn (s : State) (a : ActionEntry) (kind : Byte) (r : PendReq) (i : Nat) : Prop :=
  s.pendingReq a.partition a.ringPos = some r ∧ r.req.kind = kind ∧ a.handle = r.req.handle ∧
  s.srv.endedNow.contains r.req.handle = false ∧ s.names r.req.handle = some i ∧ (s.cfg a.partition).hasEntry i = true

/-- The checks of THM_RELOCATE that follow its acceptance (R441). -/
abbrev State.relocatable (s : State) (b : CmdBlock) : Prop :=
  b.par 0 2 ≠ 0 ∧ b.par 0 2 ≤ 512 ∧ 8 + 4 * b.par 0 2 ≤ b.params.length ∧ relocInDie b = true ∧ s.held = true ∧
  s.wgt.install = none ∧ s.flt.move = none ∧ (relocPairs b).all s.pairOk = true ∧
  ((relocPairs b).map (·.2)).eraseDups.length = b.par 0 2 ∧ ((relocPairs b).map (·.1)).eraseDups.length = b.par 0 2

/-- A shape of FAB_TOPO whose every dimension is 1 to 16 (Table 11.9). -/
def shapeLegal (t : BitVec 33) : Bool :=
  let d := topoDims t
  decide ((1 ≤ d.1 ∧ d.1 ≤ 16) ∧ (1 ≤ d.2.1 ∧ d.2.1 ≤ 16) ∧ 1 ≤ d.2.2 ∧ d.2.2 ≤ 16)

/-- The RWL fields of the locked configuration hold values a write may store: GCTL_WREGION.size at most 768, and in FAB_TOPO and in
the recorded shape dimensions that are legal (R13, Tables 4.13 and 11.9). -/
def Locked.legal (l : Locked) : Bool := decide (l.wSize.toNat ≤ 768) && shapeLegal l.topo && shapeLegal l.recTopo

/-- What one cycle (row group, quarter, plane) of an array operation adds to the ACC24 of column `c` of logical array `l`: the plane
partial of the weight that begins there times the plane weight (R42, R46, R47). -/
def State.cycleGain (s : State) (k l : Nat) (f : ArrayField) (c : Nat) (cy : Nat × Nat × Nat) : Int :=
  let r := s.scoreAt k
  let fmt := arrayFmt r.tafmt l
  let rows := s.activeRows k (bankOf f.actBank (s.parity k)) (l % 2 ^ stackLog r.tmode) cy.1 cy.2.2
  let uns := decide (f.sign = 1) || (decide (f.sign = 2) && decide (s.kindAt k = 3))
  if f.lmask.getLsbD l = true ∧ fmt ≠ 0 ∧ 512 * cy.2.1 ≤ c ∧ c < 512 * (cy.2.1 + 1) ∧ c % fmtCols fmt = 0 then
    planePartial fmt (s.colCount k ((s.site k).physOf l) rows) rows.length c *
      (planeWeight (f.actFmt == 6) uns cy.2.2).getD 0
  else 0

/-- The counts of a cycle of logical array `l` agree with their check columns (R294). -/
abbrev State.cycleAgrees (s : State) (k l : Nat) (f : ArrayField) (cy : Nat × Nat × Nat) : Prop :=
  cycleMismatch (s.colCount k ((s.site k).physOf l)
    (s.activeRows k (bankOf f.actBank (s.parity k)) (l % 2 ^ stackLog (s.scoreAt k).tmode) cy.1 cy.2.2)) cy.2.1 = none

/-- The value of an ACC24 register. -/
def State.a24 (s : State) (k l b c : Nat) : Int := s.acc24.get 0 (key24 k l b c)

/-- The value of an ACC48 register. -/
def State.a48 (s : State) (k l c : Nat) : Int := s.acc48.get 0 (key48 k l c)

/-- An ACC24 register agrees with its shadow (R295). -/
abbrev State.true24 (s : State) (k l b c : Nat) : Prop := mod7 (s.a24 k l b c) = s.shadow.get 0 (2 * key24 k l b c)

/-- An ACC48 register agrees with its shadow (R295). -/
abbrev State.true48 (s : State) (k l c : Nat) : Prop := mod7 (s.a48 k l c) = s.shadow.get 0 (2 * key48 k l c + 1)

/-- A value fits a signed register of `n` bits. -/
abbrev fits (n : Nat) (v : Int) : Prop := -(2 ^ (n - 1) : Int) ≤ v ∧ v < (2 ^ (n - 1) : Int)

/-- What the cycles of an array operation need to leave no fault: no activation poisoned, the check columns agreeing, and every sum within 24
bits, with the ACC24 bank `b`. -/
def State.cyclesSound (s : State) (k : Nat) (f : ArrayField) (b : Nat) (cs : List (Nat × Nat × Nat)) : Prop :=
  s.poisoned (siteBase k + 0x4000 * bankOf f.actBank (s.parity k)) 0x4000 = false ∧
  (∀ l < 16, f.lmask.getLsbD l = true → ∀ cy ∈ cs, s.cycleAgrees k l f cy) ∧
  (∀ l < 16, ∀ j < 2048, ∀ n ≤ cs.length, fits 24 (s.a24 k l b j + ((cs.take n).map (s.cycleGain k l f j)).sum))

/-- What they do: every ACC24 of the bank raised by the gains of the cycles, shadows that agreed agreeing still, and no register else and no
other site changed. -/
def State.cyclesDone (s t : State) (k : Nat) (f : ArrayField) (b : Nat) (cs : List (Nat × Nat × Nat)) : Prop :=
  (∀ l < 16, ∀ j < 2048, t.a24 k l b j = s.a24 k l b j + (cs.map (s.cycleGain k l f j)).sum) ∧
  (∀ a, (∀ l < 16, ∀ j < 2048, a ≠ key24 k l b j) → t.acc24.get 0 a = s.acc24.get 0 a) ∧
  (∀ l < 16, ∀ j < 2048, s.true24 k l b j → t.true24 k l b j) ∧
  (∀ j, j ≠ k → t.site j = s.site j)

/-- The sums over a head group of the numerators and the denominators its cores hold for query head `i` of head slot `h`, and those a
ring's words carry (R209, R210). -/
def State.groupSums (s : State) (k h i : Nat) (l : Lane) : List Int × Int :=
  (s.headGroup (s.scoreAt k)).foldl (fun (b : List Int × Int) x =>
    ((b.1.zip (((s.kv x.site).num.getD h []).getD i (List.replicate 128 0))).map (fun y => y.1 + y.2),
      b.2 + ((s.kv x.site).den.getD h []).getD i 0)) (ringSum (s.ringWords k l (129 * kvG (s.scoreAt k).kvMode)) (kvG (s.scoreAt k).kvMode) i)

/-- Every byte of the device's memory and of the host's outside some ranges of the device-local space reads as before. -/
def State.keeps (s t : State) (ranges : List (Nat × Nat)) : Prop :=
  (∀ a, (∀ r ∈ ranges, ¬(r.1 ≤ a ∧ a < r.1 + r.2)) → t.mem.read a = s.mem.read a) ∧
  (∀ a, (∀ r ∈ ranges, ¬(r.1 ≤ 0x020000000000 + a ∧ 0x020000000000 + a < r.1 + r.2)) → t.host.read a = s.host.read a)

/-- A KEY_LOAD of a kind that keeps its rules: accepted, in an open session, its message opened, kind, target and material legal (R403–R406). -/
def State.keyLoads (s : State) (kind : Byte) (b : CmdBlock) (k : KeyRecord) : Prop :=
  s.accepts keyInfo true (s.firstLoad kind b.channel) b ∧ keyParams b = true ∧ (s.spdm b.channel).isOpen = true ∧ k.openedOk = true ∧
  k.reservedZero = true ∧ s.keyRule kind b.channel k = true ∧ k.material.length = keyBytes kind

/-- The one key that a KEY_LOAD of a kind stores: the operator's (1) or a partition's (2) command key, an egress key that waits for the boundary
(3), a root added (4) or removed (5). -/
def State.keyStored (s t : State) (kind : Byte) (k : KeyRecord) : Prop :=
  t.nv.opKey = (if kind = 1 then some k.material else s.nv.opKey) ∧
  t.nv.roots = (if kind = 4 then s.nv.roots ++ [k.material] else
    if kind = 5 then s.nv.roots.eraseIdx (ofLE k.material) else s.nv.roots) ∧
  (t.part k.target.toNat).cmdKey = (if kind = 2 then some k.material else (s.part k.target.toNat).cmdKey) ∧
  (kind = 2 → (t.part k.target.toNat).secCtr = 0) ∧
  (t.part k.target.toNat).egressDue =
    (if kind = 3 then (s.part k.target.toNat).egressDue ++ [k.material] else (s.part k.target.toNat).egressDue) ∧
  (t.part k.target.toNat).egressKey = (s.part k.target.toNat).egressKey ∧
  (∀ q, q ≠ k.target.toNat → (t.part q).cmdKey = (s.part q).cmdKey)

/-- The checks a vector operation `op` of a precision tile passes, where `u` is the state with the words of the route landed at its source: the
bundle asks for it, its operands lie where it may read and write, unpoisoned, and its source is finite (R78, R102, R197). -/
abbrev State.operandsOk (s u : State) (k op : Nat) (f : PrecField) (inFmt n m : Nat) : Prop :=
  s.doesPrec k op f = true ∧ precFmtOk f = true ∧ u = s.landWords k (s.operandAt k f.src) (n * elemBytes inFmt) ∧
  s.okUnit k (s.operandAt k f.src) (n * elemBytes inFmt) = true ∧ s.okWrite k (s.operandAt k f.dst) (m * elemBytes f.outFmt.toNat) = true ∧
  ((s.site k).inbox = [] ∨ s.okWrite k (s.operandAt k f.src) (n * elemBytes inFmt) = true) ∧ (s.site k).poisonIn = false ∧
  u.poisoned (s.operandAt k f.src) (n * elemBytes inFmt) = false ∧ (u.readElems inFmt (s.operandAt k f.src) n).2 = true

/-- The lanes of the step in progress, or of the next one. -/
def State.stepLanes (s : State) (next : Bool) : List Lane := if next then s.nxt.lanes else s.cur.lanes

end Machine

/-- A request that takes an SPDM exchange on (R401): allowed by the order of requests, it is answered with a code. -/
def SpdmRequest.allowed (r : SpdmRequest) (x : Machine.Spdm) : Bool :=
  match r with
  | .getVersion => true
  | .getCapabilities => x.versioned
  | .negotiateAlgorithms sup => x.capable && sup
  | .getDigests | .getCertificate _ _ | .challenge _ | .getMeasurements _ _ => x.negotiated
  | .keyExchange sup => x.negotiated && sup
  | .finish ok => x.keyed && ok
  | .heartbeat | .keyUpdate | .endSession => x.isOpen

/-- The response code of a request that is answered (R401). -/
def SpdmRequest.answerCode (r : SpdmRequest) : Byte :=
  match r with
  | .getVersion => 0x04
  | .getCapabilities => 0x61
  | .negotiateAlgorithms _ => 0x63
  | .getDigests => 0x01
  | .getCertificate _ _ => 0x02
  | .challenge _ => 0x03
  | .getMeasurements _ _ => 0x60
  | .keyExchange _ => 0x64
  | .finish _ => 0x65
  | .heartbeat => 0x68
  | .keyUpdate => 0x69
  | .endSession => 0x6C

/-- An SPDM request served on channel `c` that the order of requests allows has been answered: with its code, on its channel, where alone the
exchange changes; on channel 18 the response leaves in an MCTP message (R401). -/
def Machine.State.spdmAnswered (s t : Machine.State) (c : Nat) (r : SpdmRequest) : Prop :=
  (t.spdm c).response.take 2 = [0x13, r.answerCode] ∧
  (t.spdm c).isOpen = (match r with
    | .finish _ => true
    | .keyExchange _ | .endSession => false
    | _ => (s.spdm c).isOpen) ∧
  (t.spdm c).keyGen = (match r with
    | .keyExchange _ | .keyUpdate => (s.spdm c).keyGen + 1
    | _ => (s.spdm c).keyGen) ∧
  (∀ d, d ≠ c → t.spdm d = s.spdm d) ∧ t.sec = { s.sec with spdm := t.sec.spdm } ∧
  t.hif = { s.hif with mctpOut := if c = 18 then (t.spdm c).response else s.hif.mctpOut }

/-- The command that brings an SPDM request on a channel. -/
def SpdmRequest.command (r : SpdmRequest) (c : Nat) : Instr :=
  match r with
  | .getVersion => .getVersion c
  | .getCapabilities => .getCapabilities c
  | .negotiateAlgorithms sup => .negotiateAlgorithms c sup
  | .getDigests => .getDigests c
  | .getCertificate o n => .getCertificate c o n
  | .challenge x => .challenge c x
  | .getMeasurements i x => .getMeasurements c i x
  | .keyExchange sup => .keyExchange c sup
  | .finish ok => .spdmFinish c ok
  | .heartbeat => .heartbeat c
  | .keyUpdate => .keyUpdate c
  | .endSession => .endSession c

end Sys2Proof
end

