-- ==== Sys2Proof/WellFormed.lean ====
section
/-! DEFINITION. Which commands are well formed: every operand that names a channel, a site, a port or another numbered thing names
one that the device has. A meaning runs on any operand; an ill-formed command names nothing the spec speaks of. -/

namespace Sys2Proof

/-- What an ill-formed command names wrongly. -/
inductive Ill
  | block | channel | owner | partition | site | array | rowGroup | vale | cluster | converter | port | msgClass | bank | entry | slot | word
  | function | frame
  deriving DecidableEq, Repr

/-- A number that must lie below a bound. -/
def below (i : Ill) (n bound : Nat) : Option Ill := if n < bound then none else some i

/-- The first reason of a list of checks. -/
def firstIll (l : List (Option Ill)) : Option Ill := l.findSome? id

/-- A command block's channel, and the widths of its word's address and of its length (Table 12.8, R374). -/
def blockIll (b : CmdBlock) : Option Ill :=
  if 22 ≤ b.channel then some .channel
  else if 2 ^ 48 ≤ b.addr ∨ 65536 ≤ b.length ∨ b.length < b.params.length + 64 then some .block else none

/-- An owner: a partition or the operator (R387). -/
def ownerIll (p : Nat) : Option Ill := if p < 16 ∨ p = 31 then none else some .owner

/-- A site of the mesh (R16). -/
def siteIll (k : Nat) : Option Ill := if Machine.isSite k then none else some .site

/-- A function with the address space it reaches (Table 12.3). -/
def funcIll (fn : Func) (bar : Bar) : Option Ill :=
  match fn with
  | .pf => if bar = .vfBar0 then some .function else none
  | .vf n => if 1 ≤ n ∧ n ≤ 16 ∧ bar = .vfBar0 then none else some .function

/-- A frame's payload fills the units its header names (R321). -/
def frameIll (f : Frame) : Option Ill := if f.payload.length = 32 * f.units.toNat then none else some .frame

/-- The first thing a command names wrongly. -/
def Instr.ill (i : Instr) : Option Ill :=
  match i with
  | .powerOnReset _ => none
  | .meshLock _ => none
  | .coolantConfirmed _ => none
  | .integrityCheck => none
  | .dramInit _ => none
  | .ready => none
  | .goldenRebuild => none
  | .sysRstNReset _ _ => none
  | .devReset b _ => blockIll b
  | .bootWatchdogExpiry _ => none
  | .recoveryUpdateRestart _ => none
  | .linkReset _ => none
  | .perstNDeassert _ => none
  | .pfFlr => none
  | .vfFlr p => below .partition p 16
  | .vfEnableClear => none
  | .managementTick => none
  | .sensorWindowEnd _ => none
  | .conversionComplete conv _ _ => below .converter conv 3024
  | .sequenceTableWrite conv _ => below .converter conv 3024
  | .urgentRequest conv _ _ _ => below .converter conv 3024
  | .statisticsTickEnd => none
  | .calibrationPause => none
  | .calibrationPauseEnd => none
  | .throttleExit _ => none
  | .emergencyEnter vale => below .vale vale 84
  | .emergencyExit vale => below .vale vale 84
  | .coolantRateCause _ => none
  | .coolantCauseClear _ => none
  | .coolantFail => none
  | .coolantFailTimeout => none
  | .coolantFailClear => none
  | .supplyLimit _ _ => none
  | .supplyLimitClear => none
  | .powerFail _ _ => none
  | .overvoltageCut _ _ => none
  | .thermalTrip cluster _ => below .cluster cluster 2688
  | .railFault vale => below .vale vale 84
  | .holdoverEnter => none
  | .relock => none
  | .nodeDecouple cluster => below .cluster cluster 2688
  | .stepBoundary _ => none
  | .bundleIssue _ _ _ => none
  | .holdEnd => none
  | .serviceWindow => none
  | .syncStallBegin site => siteIll site
  | .syncStallEnd _ => none
  | .syncWatchdog _ => none
  | .mapSwitch => none
  | .scrubVisit _ _ _ _ => none
  | .tileSelfTest site _ => siteIll site
  | .markClear site p => firstIll [siteIll site, below .array p 17]
  | .suspectClear site => siteIll site
  | .tlActionClear vale => below .vale vale 84
  | .faultHoldEnd => none
  | .marginScan site p rg _ => firstIll [siteIll site, below .array p 17, below .rowGroup rg 16]
  | .arrayAgeDue site p => firstIll [siteIll site, below .array p 17]
  | .refreshStart => none
  | .programSessionDone site p _ _ _ => firstIll [siteIll site, below .array p 17]
  | .parkTtlExpiry entry => below .entry entry 32768
  | .deadlineReached entry => below .entry entry 32768
  | .partitionZeroingDone p => ownerIll p
  | .hostCopyComplete channel _ _ => below .channel channel 22
  | .stagingComplete => none
  | .installChunkReceived _ _ => none
  | .installSourceTimeout => none
  | .generationCommit => none
  | .rollProgrammingStart => none
  | .varLoadChecksDone slot _ => below .slot slot 64
  | .armComplete bank => below .bank bank 4
  | .adpLoadDone slot _ _ _ => below .slot slot 1024
  | .adapterSlotReady slot => below .slot slot 1024
  | .fwWriteComplete _ => none
  | .standbyExitDone => none
  | .valeDarken vale => below .vale vale 84
  | .partitionConfigApply p => ownerIll p
  | .partitionResetApply p => ownerIll p
  | .profileChange => none
  | .genPointerMove => none
  | .egressKeyApply p => ownerIll p
  | .wgtInstallNew b _ _ _ => blockIll b
  | .wgtInstallRoll b _ _ _ => blockIll b
  | .wgtSwitch b => blockIll b
  | .wgtRetire b => blockIll b
  | .wgtAbort b => blockIll b
  | .wgtFix b => blockIll b
  | .adpLoad b => blockIll b
  | .adpRetire b => blockIll b
  | .varLoad b => blockIll b
  | .varUnload b => blockIll b
  | .varArm b => blockIll b
  | .varDisarm b => blockIll b
  | .fltRemap b => blockIll b
  | .fltMapout b => blockIll b
  | .hostCopy b => blockIll b
  | .peerLost b => blockIll b
  | .secSpdmRequest b _ => blockIll b
  | .secSpdmSecuredCommand b _ inner _ => firstIll [blockIll b, blockIll inner]
  | .partConfig b => blockIll b
  | .partReset b => blockIll b
  | .profileSet b => blockIll b
  | .keyLoadOperatorCmd b _ => blockIll b
  | .keyLoadPartitionCmd b _ => blockIll b
  | .keyLoadPartitionEgress b _ => blockIll b
  | .keyLoadRootAdd b _ => blockIll b
  | .keyLoadRootRemove b _ => blockIll b
  | .fwUpdate b _ => blockIll b
  | .dbgUnlock b _ => blockIll b
  | .releaseFixed b _ => blockIll b
  | .fixAtFactory b _ => blockIll b
  | .clearOperatorKey b _ => blockIll b
  | .valePowerOff b => blockIll b
  | .valePowerOn b _ => blockIll b
  | .thmRelocate b => blockIll b
  | .pwrStateStandby b => blockIll b
  | .pwrStateActive b _ => blockIll b
  | .getVersion channel => below .channel channel 22
  | .getCapabilities channel => below .channel channel 22
  | .negotiateAlgorithms channel _ => below .channel channel 22
  | .getDigests channel => below .channel channel 22
  | .getCertificate channel _ _ => below .channel channel 22
  | .challenge channel _ => below .channel channel 22
  | .getMeasurements channel _ _ => below .channel channel 22
  | .keyExchange channel _ => below .channel channel 22
  | .spdmFinish channel _ => below .channel channel 22
  | .heartbeat channel => below .channel channel 22
  | .keyUpdate channel => below .channel channel 22
  | .endSession channel => below .channel channel 22
  | .setEndpointId _ _ _ => none
  | .getEndpointId _ => none
  | .getMctpVersionSupport _ _ => none
  | .getMessageTypeSupport _ => none
  | .getVendorDefinedMessageSupport _ _ => none
  | .getEndpointUuid _ => none
  | .mctpVendorMessage _ _ _ => none
  | .mctpAck _ => none
  | .pldmBase _ _ => none
  | .pldmPlatformMonitoring _ _ => none
  | .pldmFruData _ => none
  | .pldmFirmwareUpdate _ _ => none
  | .mbxInWrite channel _ => below .channel channel 22
  | .mbxOutRead channel => below .channel channel 22
  | .descTail _ _ => none
  | .rqTail owner _ _ => ownerIll owner
  | .outHead owner _ => ownerIll owner
  | .noticeHead _ _ => none
  | .syncHsig n _ _ => below .word n 256
  | .stepHoldSet => none
  | .stepHoldClear => none
  | .commitGlobal => none
  | .commitStep => none
  | .commitFabric => none
  | .portRetrain port => below .port port 24
  | .portDisable port _ => below .port port 24
  | .registerWrite fn bar _ _ _ => funcIll fn bar
  | .halfReadLatch fn bar _ => funcIll fn bar
  | .requestFetch _ => none
  | .requestPending owner => ownerIll owner
  | .outputWriteError owner => ownerIll owner
  | .admitSeq a => ownerIll a.partition
  | .attach a => ownerIll a.partition
  | .cancel a => ownerIll a.partition
  | .park a => ownerIll a.partition
  | .resume a => ownerIll a.partition
  | .setMask a => ownerIll a.partition
  | .publish a => ownerIll a.partition
  | .release a => ownerIll a.partition
  | .reshardAction a => ownerIll a.partition
  | .portTrained port _ _ => below .port port 24
  | .admitHello port _ => below .port port 24
  | .admitProof port _ => below .port port 24
  | .admissionTimeout port => below .port port 24
  | .timeFrame port _ _ => below .port port 24
  | .windowFrame port f => firstIll [below .port port 24, frameIll f]
  | .msgPut port f => firstIll [below .port port 24, frameIll f]
  | .msgPutSignal port f => firstIll [below .port port 24, frameIll f]
  | .msgSignal port f => firstIll [below .port port 24, frameIll f]
  | .msgGroup port f _ => firstIll [below .port port 24, frameIll f]
  | .broadcastFrame port f => firstIll [below .port port 24, frameIll f]
  | .linkAck port _ => below .port port 24
  | .retransmissionRequest port _ => below .port port 24
  | .retransmitTimeout port => below .port port 24
  | .portFail port _ => below .port port 24
  | .portRetry port => below .port port 24
  | .windowDeadline _ => none
  | .pitchPoint _ => none
  | .mac site _ => siteIll site
  | .sweep site _ => siteIll site
  | .promote site _ => siteIll site
  | .promoteReduce site _ => siteIll site
  | .reduce site _ => siteIll site
  | .merge site _ => siteIll site
  | .emit site _ => siteIll site
  | .convert site _ => siteIll site
  | .clear site _ => siteIll site
  | .qload site _ => siteIll site
  | .kvappend site _ _ _ => siteIll site
  | .score site _ => siteIll site
  | .expsum site _ => siteIll site
  | .finish site _ => siteIll site
  | .pagein site _ _ _ => siteIll site
  | .pageout site _ _ _ => siteIll site
  | .reshard site _ _ => siteIll site
  | .zero site _ => siteIll site
  | .pload site _ _ => siteIll site
  | .pscore site _ => siteIll site
  | .pexpsum site _ => siteIll site
  | .pfinish site _ _ => siteIll site
  | .ringsend site _ _ _ => siteIll site
  | .dense site _ _ _ _ => siteIll site
  | .quant site _ _ => siteIll site
  | .outlier site _ => siteIll site
  | .norm site _ _ => siteIll site
  | .resid site _ _ => siteIll site
  | .gate site _ _ => siteIll site
  | .adapt site _ _ _ _ => siteIll site
  | .pmac site _ _ _ _ => siteIll site
  | .logit site _ _ _ => siteIll site
  | .sample site _ _ => siteIll site
  | .record site _ => siteIll site
  | .mask site _ _ => siteIll site
  | .signal site _ => siteIll site
  | .wait site _ => siteIll site
  | .monitor site _ => siteIll site
  | .bypass => none
  | .idcode => none
  | .samplePreload => none
  | .extest => none
  | .clamp => none
  | .highz => none
  | .ieee1687Access _ => none
  | .frefLoss => none
  | .frefReturn => none
  | .varLoadSourceTimeout slot => below .slot slot 64
  | .pcieLinkUp _ => none
  | .vauxFalls => none
  | .unsupportedRequest fn bar _ _ _ => funcIll fn bar
  | .vfEnableSet => none
  | .linkCredit port cls _ => firstIll [below .port port 24, below .msgClass cls 4]

/-- Whether a command is well formed. -/
def Instr.wf (i : Instr) : Bool := i.ill.isNone

end Sys2Proof
end

