-- ==== Sys2Proof/Certificates/Slice0/Obligations.lean ====
section
/-! DEFINITION. The statements of the model: how the block runs its queue, what the whole machine keeps, and for every family of
commands where each of them completes, with what effect, and what it leaves. -/

open Sys2Proof Sys2Proof.Machine

/-! ## The queue and the whole machine -/

/-- A step with a command at the front of the queue is that command's effect on the state with the queue's rest. -/
def Obligations.StepRunsFrontCommand : Prop :=
  ∀ (c : Instr) (rest : List Instr) (s : State), s.pending = c :: rest → step s = exec c { s with pending := rest }

/-- The model's choice (log entry 2): with no command waiting a step counts the device time once, and changes nothing else, where the
injection node has locked and the module is not OFF; else it changes nothing. -/
def Obligations.EmptyQueueCountsTime : Prop :=
  ∀ s : State, s.pending = [] →
    step s = .next (if s.pwr.off = false ∧ s.stageDone 0 = true then { s with time := s.time + 1 } else s)

/-- First in, first out: whatever the front command does, a step that answers takes it off the queue and leaves the rest as it was. -/
def Obligations.QueueFirstInFirstOut : Prop :=
  ∀ s t : State, step s = .next t → t.pending = s.pending.tail

/-- A command is never refused, and only an absolute maximum rating that its own operands exceed stops it (R473). -/
def Obligations.RatedCommandsAnswer : Prop :=
  ∀ (c : Instr) (s : State), (c.rated = true → ∃ t, exec c s = .next t) ∧ (∀ r, exec c s ≠ .refused r)

/-- In OFF no command acts but the two that follow VAUX and the bus, and the trip that a power-fail sequence can still take. -/
def Obligations.OffActsOnNothing : Prop :=
  ∀ (c : Instr) (s : State), s.pwr.off = true → c.rated = true →
    (∀ env, c ≠ .powerOnReset env) → c ≠ .vauxFalls → (∀ k code, c ≠ .thermalTrip k code) → exec c s = .next s

/-- What a commit locks stays as it is until a reset: no other command changes a committed field of the locked configuration. -/
def Obligations.CommittedFieldsStayLocked : Prop :=
  ∀ (s t : State) (c : Instr) (rest : List Instr), s.pending = c :: rest → c.isReset = false → step s = .next t →
    (s.lock.cGlobal = true → t.lock.cGlobal = true ∧ t.lock.wBase = s.lock.wBase ∧ t.lock.wSize = s.lock.wSize) ∧
    (s.lock.cStep = true → t.lock.cStep = true ∧ t.lock.vBase = s.lock.vBase ∧ t.lock.vSize = s.lock.vSize) ∧
    (s.lock.cFabric = true → t.lock.cFabric = true ∧ t.lock.plan = s.lock.plan ∧ t.lock.topo = s.lock.topo)

/-- The locked configuration and the recorded shape hold legal values in every state a step answers from such a state. -/
def Obligations.LockedFieldsStayLegal : Prop :=
  ∀ s t : State, s.lock.legal = true → step s = .next t → t.lock.legal = true

/-- The same right after reset. -/
def Obligations.LockedFieldsLegalAtReset : Prop :=
  State.reset.lock.legal = true

/-- Device time never runs back: no command but a reset lowers it, in a state from which its next tick does not wrap it. Device time moves
only with the commands that say when they happen, and with the resets. -/
def Obligations.DeviceTimeRunsForward : Prop :=
  (∀ (s t : State), s.time.toNat < 2 ^ 64 - 2 ^ 20 → (∀ c rest, s.pending = c :: rest → c.isReset = false) → step s = .next t →
      s.time.toNat ≤ t.time.toNat) ∧
  (∀ (c : Instr) (s t : State), c.isReset = false → c.movesTime = false → exec c s = .next t → t.time = s.time)

/-! ## Start-up, resets and recovery -/

/-- POWER_ON_RESET starts stage ROM wherever Table 17.3 allows a start: what is not non-volatile is cleared, the array cells and the host's
memory stay, the engine is held and nothing is committed; with REFCLK present stage ROM completes at device time 0. -/
def Obligations.PowerOnClearsAllButTheNonVolatile : Prop :=
  ∀ (env : BootEnv) (s : State), s.mayStart = true →
    Answers (.powerOnReset env) s .all (fun t =>
      t.time = 0 ∧ t.cells = s.cells ∧ t.host = s.host ∧ t.mem = [] ∧ t.poison = [] ∧ t.seqs = [] ∧ t.vars = [] ∧ t.banks = [] ∧
      t.acc24 = [] ∧ t.acc48 = [] ∧ t.eng = {} ∧ t.sync = {} ∧ t.mesh = {} ∧ t.pwr.off = false ∧ t.boot.ready = false ∧
      t.lock = { plan := s.lock.recPlan.getD 0x03333000, topo := s.lock.recTopo, recPlan := s.lock.recPlan, recTopo := s.lock.recTopo } ∧
      t.nv.opKey = s.nv.opKey ∧ t.nv.roots = s.nv.roots ∧ t.nv.partCfgs = s.nv.partCfgs ∧ t.nv.minSvn = s.nv.minSvn ∧
      t.stageDone 0 = env.refclk)

/-- The stages of start-up: each command completes its own stage of Table 15.1 once those below it are complete. -/
def Obligations.StartUpStagesComplete : Prop :=
  ∀ s : State, s.pwr.off = false →
    (∀ env : BootEnv, env.refclk = true → s.boot.recovery = false → s.stagesBelow 4 = true → s.stageDone 4 = false → s.boot.stopped = false →
      Answers (.meshLock env) s { clk := true, pwr := true, cool := true, boot := true } (fun t =>
        t.clk = { s.clk with refPresent := true, refLocked := true } ∧ t.boot = { s.boot with done := s.boot.done ||| 0x010 } ∧
        (∀ vy < 12, valeBit t.pwr.interiors (7 * vy) = true) ∧ t.cool = { s.cool with goodTicks := 0 })) ∧
    (∀ vote : VoteInput, s.stagesBelow 5 = true → s.stageDone 5 = false → 8 ≤ s.cool.goodTicks →
      Answers (.coolantConfirmed vote) s
        { thm := true, pwr := true, boot := true, nv := true, arrs := true, sites := true, wgt := true, vars := true, eng := true,
          cur := true, nxt := true, mesh := true, sync := true, seqs := true, sens := true, flt := true, fab := true, chans := true, hif := true } (fun t =>
        t.stageDone 5 = true ∧ t.stageDone 6 = true ∧ t.pwr.dramUp = true ∧ (∀ v < 84, valeBit t.pwr.interiors v = true) ∧
        (∀ v < 84, valeBit t.pwr.uncal v = true ∧ valeBit t.sens.due v = true))) ∧
    (s.stagesBelow 8 = true → s.stageDone 8 = false →
      Answers .integrityCheck s { boot := true, arrs := true } (fun t =>
        t.boot = { s.boot with done := s.boot.done ||| 0x100 } ∧
        (∀ k p, p < 17 → arrKey k p ∈ s.knownArrays → (t.arr k p).acrc = s.crcOf k p ∧
          (t.arr k p).unverified = ((s.arr k p).cut || decide (s.crcOf k p ≠ (s.arr k p).recCrc))) ∧
        (∀ n, n ∉ s.knownArrays → t.arrs.get {} n = s.arrs.get {} n))) ∧
    (∀ trained, s.stageDone 5 = true → s.stageDone 9 = false →
      Answers (.dramInit trained) s { boot := true, mem := true, poison := true } (fun t =>
        t.boot = { s.boot with done := s.boot.done ||| 0x200, stacksOk := trained } ∧
        (∀ a, t.mem.read a = if a < 0x00C000000000 then 0 else s.mem.read a))) ∧
    (s.stagesBelow 10 = true → s.boot.ready = false → s.boot.recovery = false →
      Answers .ready s { pwr := true, boot := true, nv := true, eng := true, fab := true, chans := true, hif := true } (fun t =>
        t.boot = { s.boot with ready := true, readyTime := s.time } ∧ t.eng = { s.eng with hold := true, state := 0, stepNumber := 0 } ∧
        t.pwr = { s.pwr with state := 0b010 } ∧
        t.nv = { s.nv with minSvn := if s.nv.minSvn < s.nv.fwSvn then s.nv.fwSvn else s.nv.minSvn })) ∧
    (s.boot.ready = true → s.lock.cGlobal = true → s.boot.goldenRebuilt = false →
      (∀ g ∈ [s.wgt.genA, s.wgt.genB], g.state = 6 ∨ g.state = 7 → s.inWregion g.goldenBase g.goldenSize = true) →
      Answers .goldenRebuild s { boot := true, mem := true, host := true, poison := true } (fun t =>
        t.boot = { s.boot with goldenRebuilt := true } ∧
        (∀ a, (∀ g ∈ [s.wgt.genA, s.wgt.genB], ∀ e ∈ g.arrays, ¬(e.golden ≤ a ∧ a < e.golden + 0x41800)) →
          t.mem.read a = s.mem.read a)))

/-- The device resets restart at stage FIRMWARE: DRAM and the volatile state are lost, the array cells and the device time stay, nothing is
committed, and GCTL_BOOT.reset_kind says which reset it was. -/
def Obligations.DeviceResetsRestartAtFirmware : Prop :=
  ∀ (s : State) (env : BootEnv), s.pwr.off = false →
    (∀ lowNs, 10000 ≤ lowNs → Answers (.sysRstNReset lowNs env) s .all (State.restarted s 1)) ∧
    (∀ b : CmdBlock, s.accepts ⟨0x68, true, [0, 18]⟩ false false b → b.par 0 1 = 1 →
      Answers (.devReset b env) s .all (State.restarted s 2)) ∧
    Answers (.bootWatchdogExpiry env) s .all (fun t => State.restarted s 3 t ∧ t.boot.restarts = satInc s.boot.restarts) ∧
    (s.boot.recovery = true → s.boot.recoveryUpdated = true →
      Answers (.recoveryUpdateRestart env) s .all (fun t => State.restarted s 3 t ∧ t.boot.restarts = satInc s.boot.restarts))

/-- The resets of the link and of functions: a LINK reset and a PF_FLR hold the engine, clear the operator's rings and channels and their
registers and the host signals; the resets of partitions are requested, and in recovery mode the endpoint alone retrains. -/
def Obligations.LinkAndFunctionResets : Prop :=
  ∀ s : State, s.pwr.off = false →
    (∀ cause, s.boot.recovery = true → Answers (.linkReset cause) s { hif := true } (fun t =>
      t.hif = { s.hif with linkWidth := 0, perst := s.hif.perst || decide (cause = .perst) })) ∧
    (∀ cause, s.boot.recovery = false → Answers (.linkReset cause) s .functions (fun t =>
      State.functionsReset s 4 t ∧ t.hif.linkWidth = 0 ∧ (cause = .perst → t.hif.perst = true))) ∧
    Answers .pfFlr s .functions (State.functionsReset s 5) ∧
    (∀ width, Answers (.perstNDeassert width) s { hif := true } (fun t => t.hif = { s.hif with perst := false, linkWidth := width })) ∧
    (∀ width, s.hif.perst = false → Answers (.pcieLinkUp width) s { hif := true } (fun t => t.hif = { s.hif with linkWidth := width })) ∧
    Answers .vfEnableSet s { hif := true } (fun t => t.hif = { s.hif with vfEnable := true }) ∧
    (s.held = false → Answers .vfEnableClear s { parts := true, hif := true } (fun t =>
      t.hif = { s.hif with vfEnable := false } ∧
      ∀ p < 16, s.configured p = true → (s.part p).zeroing = none → (t.part p).resetDue.isSome = true)) ∧
    (∀ p < 16, s.configured p = true → s.held = false → (s.part p).zeroing = none →
      Answers (.vfFlr p) s { parts := true } (fun t =>
        (t.part p).resetDue = some ((s.part p).resetDue.getD (false, (s.part p).cfgDue.length, [])) ∧
        ∀ q, q ≠ p → t.part q = s.part q))

/-! ## The management tick, sensing and calibration -/

/-- MANAGEMENT_TICK takes the device time to the end of the tick and starts the tick's evaluations anew; a half with a vale at or above
t_throttle is in THROTTLE, with its thermal cause set. In a device without a locked injection node it has no effect. -/
def Obligations.ManagementTickEndsTheTick : Prop :=
  ∀ s : State, s.pwr.off = false → s.stageDone 0 = true →
    Answers .managementTick s
      { time := true, freeCount := true, clk := true, thm := true, pwr := true, cool := true, poison := true, sites := true,
        convs := true, sens := true, flt := true, fab := true, chans := true, hif := true } (fun t =>
      t.time = BitVec.ofNat 64 ((s.tick + 1) * 2 ^ 20) ∧ t.sens.modTick = [] ∧ (∀ c, (t.conv c).tickSum = 0 ∧ (t.conv c).tickCnt = 0) ∧
      (∀ v ∈ s.tickVales, valeInHalf .west v.1 = true → atLeast v.2 s.thm.tThrottle.toNat = true → t.thm.westState = 2) ∧
      (∀ v ∈ s.tickVales, valeInHalf .east v.1 = true → atLeast v.2 s.thm.tThrottle.toNat = true → t.thm.eastState = 2) ∧
      ((s.tick + 1) % s.sens.window.toNat = 0 → t.sens.windowDue = true))

/-- Converters: a conversion of a running sequence enters its accumulator set, count, sum, square and extremes; an urgent request leaves
only whether its threshold was crossed; a stopped converter takes a legal table and starts at its first valid entry; the end of a window
clears every set and makes the new window length take effect. -/
def Obligations.ConvertersAccumulate : Prop :=
  ∀ s : State, s.pwr.off = false →
    (∀ (conv : Nat) (code : BitVec 10) (cellBit : Bool), (s.conv conv).running = true → s.convUp conv = true → (s.conv conv).atSync = false →
      ∀ e, e = (s.conv conv).table.getD (s.conv conv).cur 0 → sePull e = 0 → seChannel e ≠ 3 →
      Answers (.conversionComplete conv code cellBit) s { convs := true, sens := true } (fun t =>
        (t.conv conv).accs.get {} (seSet e) = ((s.conv conv).accs.get {} (seSet e)).add code ∧
        (∀ n, n ≠ seSet e → (t.conv conv).accs.get {} n = (s.conv conv).accs.get {} n) ∧
        (seChannel e = 0 → (t.conv conv).tickSum = (s.conv conv).tickSum + code.toNat ∧ (t.conv conv).tickCnt = (s.conv conv).tickCnt + 1))) ∧
    (∀ (conv : Nat) (channel : BitVec 5) (threshold code : BitVec 10), s.convUp conv = true → channelOk conv channel.toNat = true →
      Answers (.urgentRequest conv channel threshold code) s { convs := true } (fun t =>
        (t.conv conv).accs = (s.conv conv).accs ∧ (∀ c, c ≠ conv → t.conv c = s.conv c) ∧
        ((s.conv conv).trig = false → (t.conv conv).crossed = some (channel, threshold, decide (threshold ≤ code))))) ∧
    (∀ (conv : Nat) (entries : List (BitVec 32)), s.convUp conv = true → (s.conv conv).running = false → entries.length ≤ 32 →
      entries.all (entryOk conv) = true →
      Answers (.sequenceTableWrite conv entries) s { convs := true } (fun t =>
        (t.conv conv).table = entries ∧ (t.conv conv).running = (nextEntry entries 0).isSome ∧ (t.conv conv).accs = (s.conv conv).accs)) ∧
    (∀ energy : W64, s.sens.windowDue = true →
      Answers (.sensorWindowEnd energy) s { pwr := true, convs := true, sens := true } (fun t =>
        (∀ c, (t.conv c).accs = []) ∧ t.pwr = { s.pwr with energy := energy } ∧ t.sens.window = s.sens.windowNext ∧
        t.sens.windowDue = false ∧ (∀ v < 84, t.sens.valeT.get {} v = s.valeAgg v 0)))

/-- Calibration: at the end of their statistics tick vales fall due; a pause stops issue for 34,000 counts and puts the measured trim offsets
of the vales it serves, and of no other, into force; at its end their due bits are clear and issue stands where it stopped. Margin scans count weak cells row group by row group; the count of the
last row group is the array's, and an array over its baseline by more than the limit, or as old as max_age, is due for refresh. -/
def Obligations.CalibrationAndScans : Prop :=
  (∀ s : State, s.pwr.off = false →
      (s.sens.statOver ≠ 0 →
        Answers .statisticsTickEnd s { sens := true, fab := true } (fun t =>
          t.sens = { s.sens with statDone := s.sens.statDone ||| s.sens.statOver, statOver := 0 } ∧
          (s.nv.profileShared = false → t.fab = s.fab))) ∧
      (s.pauseHere = true →
        Answers .calibrationPause s { nv := true, arrs := true, eng := true, convs := true, sens := true, fab := true } (fun t =>
          t.eng = { s.eng with state := 3, resume := s.eng.state, calPauseDue := false, pauseEnd := s.time + 34000 } ∧
          t.sens.pausing = s.calDue ∧ t.sens.calPauseTick = some s.tick ∧
          t.fab = { s.fab with pauseAt := none, pitch := if s.held then s.fab.pitch else s.fab.pitch + 34000 } ∧
          (∀ n, valeBit s.calDue (siteVale (n / 17)) = true → t.arrs.get {} n = { s.arrs.get {} n with trims := (s.arrs.get {} n).trimOffs }) ∧
          (∀ n, siteVale (n / 17) < 84 → valeBit s.calDue (siteVale (n / 17)) = false → t.arrs.get {} n = s.arrs.get {} n))) ∧
      (s.eng.state = 3 → s.eng.abortDue = none → s.pwr.onDue = [] →
        Answers .calibrationPauseEnd s
          { time := true, pwr := true, boot := true, eng := true, sens := true } (fun t =>
          t.time = maxTime s.time s.eng.pauseEnd ∧ t.eng = { s.eng with state := s.eng.resume, resume := 0 } ∧ t.sens.pausing = 0 ∧
          (∀ v < 84, valeBit s.sens.pausing v = true → valeBit t.sens.due v = false ∧ valeBit t.pwr.uncal v = false) ∧
          (s.stagesBelow 7 = true → t.stageDone 7 = true)))) ∧
  (∀ s : State, s.pwr.off = false →
      (∀ site p rg weak, s.mayScan site p = true → rg = (s.arr site p).scanRg → rg < 15 →
        Answers (.marginScan site p rg weak) s { arrs := true } (fun t =>
          t.arr site p = { s.arr site p with scanRg := rg + 1, scanWeak := (s.arr site p).scanWeak + weak } ∧
          ∀ n, n ≠ arrKey site p → t.arrs.get {} n = s.arrs.get {} n)) ∧
      (∀ site p rg weak, s.mayScan site p = true → rg = (s.arr site p).scanRg → 15 ≤ rg →
        Answers (.marginScan site p rg weak) s { nv := true, arrs := true, sens := true, flt := true } (fun t =>
          (t.arr site p).scanRg = 0 ∧ (t.arr site p).weak = BitVec.ofNat 16 (min ((s.arr site p).scanWeak + weak) 65535) ∧
          (t.arr site p).due = ((s.arr site p).due ||
            (decide ((s.arr site p).baseline.toNat + s.sens.weakLimit.toNat < (s.arr site p).scanWeak + weak) && !(s.holdsNothing site))) ∧
          ∀ n, n ≠ arrKey site p → t.arrs.get {} n = s.arrs.get {} n)) ∧
      (∀ site p, p < 17 → s.sens.maxAge.toNat ≤ s.ageOf site p → s.holdsNothing site = false →
        Answers (.arrayAgeDue site p) s { arrs := true } (fun t =>
          t.arr site p = { s.arr site p with due := true } ∧ ∀ n, n ≠ arrKey site p → t.arrs.get {} n = s.arrs.get {} n)))

/-! ## Clocks, power and cooling -/

/-- The references: a loss of REFCLK is counted and puts the mesh into holdover, and its return ends it; FREF comes and goes; a node that
loses lock is decoupled and every site of its cluster dies. -/
def Obligations.ReferencesAndNodes : Prop :=
  ∀ s : State, s.pwr.off = false →
    (s.stageDone 0 = true → s.clk.holdover = false →
      Answers .holdoverEnter s { clk := true, fab := true, chans := true, hif := true } (fun t =>
        t.clk = { s.clk with holdover := true, refPresent := false, refLosses := satInc s.clk.refLosses })) ∧
    (s.clk.holdover = true →
      Answers .relock s { clk := true, fab := true, chans := true, hif := true } (fun t =>
        t.clk = { s.clk with holdover := false, refPresent := true })) ∧
    Answers .frefLoss s { clk := true } (fun t => t.clk = { s.clk with frefPresent := false }) ∧
    Answers .frefReturn s { clk := true } (fun t => t.clk = { s.clk with frefPresent := true }) ∧
    (∀ cluster, cluster < 2688 → s.clk.refLocked = true → s.clk.decoupledSet.contains cluster = false →
      Answers (.nodeDecouple cluster) s
        { clk := true, thm := true, arrs := true, sites := true, wgt := true, vars := true, eng := true, cur := true, nxt := true,
          mesh := true, sync := true, seqs := true, flt := true, fab := true, chans := true, hif := true } (fun t =>
        t.clk = { s.clk with decoupled := s.clk.decoupled + 1, decoupledSet := cluster :: s.clk.decoupledSet } ∧
        ∀ k ∈ clusterSites cluster, (t.site k).fstate = 3))

/-- Thermal states: THROTTLE ends after 64 ticks below t_warn; a confirmed urgent reading at or above the emergency code puts a powered vale
into emergency, with the hold set where the running variant uses it; 64 cool ticks end it and make the vale due for calibration. -/
def Obligations.ThermalStates : Prop :=
  ∀ s : State, s.pwr.off = false →
    (s.thm.westState = 2 → 64 ≤ s.thm.belowW →
      Answers (.throttleExit .west) s { clk := true, thm := true, fab := true, chans := true, hif := true } (fun t =>
        t.thm = { s.thm with westState := 0 } ∧ t.clk.causeW.getLsbD 0 = false ∧ t.clk.causeE = s.clk.causeE)) ∧
    (s.thm.eastState = 2 → 64 ≤ s.thm.belowE →
      Answers (.throttleExit .east) s { clk := true, thm := true, fab := true, chans := true, hif := true } (fun t =>
        t.thm = { s.thm with eastState := 0 } ∧ t.clk.causeE.getLsbD 0 = false ∧ t.clk.causeW = s.clk.causeW)) ∧
    (∀ vale c thr, vale < 84 → c < 32 → 640 ≤ thr.toNat → (s.conv (32 * vale + c)).crossed = some (0, thr, true) →
      s.interiorUp vale = true → valeBit s.thm.emerg vale = false →
      Answers (.emergencyEnter vale) s { thm := true, wgt := true, eng := true, fab := true, chans := true, hif := true } (fun t =>
        valeBit t.thm.emerg vale = true ∧ t.thm.emergencies = satInc s.thm.emergencies ∧
        (∀ v, v < 84 → v ≠ vale → valeBit t.thm.emerg v = valeBit s.thm.emerg v) ∧
        (s.held = true → valeBit t.thm.stopped vale = true) ∧
        t.eng = { s.eng with hold := s.eng.hold || (s.running && s.bankUses s.eng.bank vale) })) ∧
    (∀ vale, valeBit s.thm.emerg vale = true → 64 ≤ s.thm.coolTicks.get 0 vale → s.interiorUp vale = true →
      s.flt.exchanging = [] → s.flt.move = none → s.flt.respares = [] →
      Answers (.emergencyExit vale) s
        { thm := true, pwr := true, wgt := true, sens := true, fab := true, chans := true, hif := true } (fun t =>
        t.thm = { s.thm with
          emerg := clrVale s.thm.emerg vale, stopped := clrVale s.thm.stopped vale, stopAtHold := clrVale s.thm.stopAtHold vale,
          coolTicks := s.thm.coolTicks.set 0 vale 0 } ∧
        valeBit t.sens.due vale = true ∧ valeBit t.pwr.uncal vale = true))

/-- Coolant protection: the rate cause of both halves with 8 ticks of a condition and without it after 64, coolant fail with every powered
interior in emergency, its end, and STANDBY where it lasts 810 ticks. The supply: a limit is counted and sets the supply cause of both
halves, and 810 ticks below 450 A clear it; a power fail, an overvoltage and a trip end in OFF with their cause, a trip with
THERM_TRIP_N asserted, and VAUX releases it; a faulted rail kills every site of its interior. -/
def Obligations.CoolantAndSupplyProtection : Prop :=
  (∀ s : State, s.pwr.off = false →
      (8 ≤ s.cool.hotInletTicks → s.cool.causeInlet = false →
        Answers (.coolantRateCause .inletHigh) s { clk := true, cool := true, fab := true, chans := true, hif := true } (fun t =>
          t.cool = { s.cool with causeInlet := true, inletClearTicks := 0 } ∧
          t.clk.causeW.getLsbD 1 = true ∧ t.clk.causeE.getLsbD 1 = true)) ∧
      (8 ≤ s.cool.lowFlowTicks → s.cool.causeFlow = false →
        Answers (.coolantRateCause .flowLow) s { clk := true, cool := true, fab := true, chans := true, hif := true } (fun t =>
          t.cool = { s.cool with causeFlow := true, flowClearTicks := 0 } ∧
          t.clk.causeW.getLsbD 1 = true ∧ t.clk.causeE.getLsbD 1 = true)) ∧
      (64 ≤ s.cool.inletClearTicks → s.cool.causeFlow = false →
        Answers (.coolantCauseClear .inletHigh) s { clk := true, cool := true, fab := true, chans := true, hif := true } (fun t =>
          t.cool = { s.cool with causeInlet := false } ∧ t.clk.causeW.getLsbD 1 = false ∧ t.clk.causeE.getLsbD 1 = false)) ∧
      (64 ≤ s.cool.flowClearTicks → s.cool.causeInlet = false →
        Answers (.coolantCauseClear .flowLow) s { clk := true, cool := true, fab := true, chans := true, hif := true } (fun t =>
          t.cool = { s.cool with causeFlow := false } ∧ t.clk.causeW.getLsbD 1 = false ∧ t.clk.causeE.getLsbD 1 = false)) ∧
      (s.cool.fail = false → 8 ≤ s.cool.veryLowTicks ∨ (s.cool.leakA = true ∧ s.cool.leakB = true) →
        Answers .coolantFail s { thm := true, cool := true, wgt := true, eng := true, fab := true, chans := true, hif := true } (fun t =>
          t.cool = { s.cool with fail := true, failTicks := 0, failClearTicks := 0 } ∧
          (∀ v < 84, s.interiorUp v = true → valeBit t.thm.emerg v = true))) ∧
      (s.cool.fail = true → 64 ≤ s.cool.failClearTicks →
        Answers .coolantFailClear s { cool := true, fab := true, chans := true, hif := true } (fun t =>
          t.cool = { s.cool with fail := false, failTicks := 0 })) ∧
      (s.cool.fail = true → 810 ≤ s.cool.failTicks → s.pwr.state ≠ 0b011 →
        Answers .coolantFailTimeout s
          { clk := true, thm := true, pwr := true, mem := true, poison := true, acc24 := true, acc48 := true, shadow := true,
            sites := true, banks := true, eng := true, cur := true, nxt := true, mesh := true, sync := true, kvs := true, pfs := true, outl := true,
            frames := true, sweeps := true, seqs := true, convs := true, fab := true } (fun t =>
          t.pwr.state = 0b011 ∧ t.pwr.interiors = 0 ∧ t.pwr.ringUp = false ∧ t.pwr.dramUp = s.pwr.dramUp ∧ t.banks = [] ∧
          t.eng.hold = true ∧ t.eng.state = 0))) ∧
  (∀ s : State,
      (∀ amps us, s.pwr.off = false → 500 < amps → 50 ≤ us → s.pwr.limit = false →
        Answers (.supplyLimit amps us) s { clk := true, pwr := true, fab := true, chans := true, hif := true } (fun t =>
          t.pwr = { s.pwr with limit := true, limits := satInc s.pwr.limits, limitTicks := 0 } ∧
          t.clk.causeW.getLsbD 2 = true ∧ t.clk.causeE.getLsbD 2 = true)) ∧
      (s.pwr.off = false → s.pwr.limit = true → 810 ≤ s.pwr.limitTicks →
        Answers .supplyLimitClear s { clk := true, pwr := true, fab := true, chans := true, hif := true } (fun t =>
          t.pwr = { s.pwr with limit := false } ∧ t.clk.causeW.getLsbD 2 = false ∧ t.clk.causeE.getLsbD 2 = false)) ∧
      (∀ mv us, s.pwr.off = false → mv < 55000 → 10 ≤ us →
        Answers (.powerFail mv us) s
          { thm := true, pwr := true, eng := true, cur := true, nxt := true, mesh := true, sync := true, seqs := true } (fun t =>
          t.pwr = { s.pwr with off := true, offCause := .powerFail, interiors := 0, ringUp := false, dramUp := false } ∧
          (s.eng.state = 1 ∨ s.eng.state = 2 → t.eng.aborts = s.eng.aborts + 1 ∧ t.cur = {} ∧ t.nxt = {}))) ∧
      (∀ mv us, s.pwr.off = false → 72000 < mv → mv ≤ 80000 → 10 ≤ us →
        Answers (.overvoltageCut mv us) s { pwr := true } (fun t =>
          t.pwr = { s.pwr with off := true, offCause := .overvoltage, interiors := 0, ringUp := false, dramUp := false })) ∧
      (∀ mv us, 80000 < mv → exec (.overvoltageCut mv us) s = .fault .beyondRatings) ∧
      (∀ cluster code, s.pwr.off = false ∨ s.pwr.offCause = .powerFail → cluster < 2688 → 700 ≤ code →
        Answers (.thermalTrip cluster code) s { thm := true, pwr := true } (fun t =>
          t.pwr = { s.pwr with off := true, offCause := .trip, interiors := 0, ringUp := false, dramUp := false } ∧
          t.thm = { s.thm with tripN := false })) ∧
      Answers .vauxFalls s { thm := true, pwr := true } (fun t =>
        t.pwr = { s.pwr with off := true, vauxUp := false, interiors := 0, ringUp := false, dramUp := false } ∧
        t.thm = { s.thm with tripN := true }) ∧
      (∀ vale, s.pwr.off = false → vale < 84 → s.interiorUp vale = true →
        Answers (.railFault vale) s
          { thm := true, pwr := true, arrs := true, sites := true, wgt := true, vars := true, eng := true, cur := true, nxt := true,
            mesh := true, sync := true, seqs := true, flt := true, fab := true, chans := true, hif := true } (fun t =>
          t.pwr.railFaults = satInc s.pwr.railFaults ∧ ∀ k ∈ interiorSites vale, (t.site k).fstate = 3)))

/-- The power commands: accepted by R375 and their own checks, a vale of a held engine is darkened at once and one of a running engine at
the next boundary; a dark vale is powered; STANDBY lowers the rails, ACTIVE raises them again, and its exit completes once every vale is
calibrated; a darkening takes effect at its boundary; a relocation is taken with its moves. -/
def Obligations.PowerCommands : Prop :=
  ∀ (s : State) (b : CmdBlock), s.pwr.off = false →
    (s.accepts valePowerInfo false false b → b.par 1 1 = 0 → b.par 0 1 < 84 → b.par 0 1 % 7 ≠ 0 → valeBit s.pwr.dark (b.par 0 1) = false →
      (∀ e ∈ s.pwr.darkenDue, e.1 ≠ b.par 0 1) → (∀ n < 4, (s.bank n).state ≠ 0 → s.bankUses n (b.par 0 1) = false) → s.interiorHolds (b.par 0 1) = false → s.held = false →
      Answers (.valePowerOff b) s
        { pwr := true, nv := true, mem := true, host := true, poison := true, parts := true, fab := true, chans := true, hif := true } (fun t =>
        t.pwr = { s.pwr with darkenDue := s.pwr.darkenDue ++ [(b.par 0 1, b.channel, b.cseq)] })) ∧
    (∀ vote, s.accepts valePowerInfo false false b → b.par 1 1 = 1 → b.par 0 1 < 84 → valeBit s.pwr.dark (b.par 0 1) = true →
      Answers (.valePowerOn b vote) s
        { thm := true, pwr := true, nv := true, mem := true, host := true, poison := true, arrs := true, sites := true, wgt := true,
          vars := true, eng := true, cur := true, nxt := true, mesh := true, sync := true, seqs := true, parts := true, sens := true, flt := true, fab := true, chans := true,
          hif := true } (fun t =>
        valeBit t.pwr.dark (b.par 0 1) = false ∧ valeBit t.pwr.interiors (b.par 0 1) = true ∧ valeBit t.pwr.uncal (b.par 0 1) = true ∧
        t.pwr.onDue = s.pwr.onDue ++ [(b.par 0 1, b.channel, b.cseq)] ∧ valeBit t.sens.due (b.par 0 1) = true)) ∧
    (s.accepts pwrStateInfo false false b → b.par 0 1 = 1 → s.pwr.state ≠ 0b011 → s.pwr.state ≠ 0b100 → s.held = true →
      s.framesInUse = false → s.busyForStandby = false →
      Answers (.pwrStateStandby b) s
        { clk := true, thm := true, pwr := true, nv := true, mem := true, host := true, poison := true, acc24 := true, acc48 := true,
          shadow := true, sites := true, banks := true, eng := true, cur := true, nxt := true, kvs := true, pfs := true, outl := true,
          frames := true, sweeps := true, parts := true, convs := true, fab := true, chans := true, hif := true } (fun t =>
        t.pwr = { s.pwr with state := 0b011, interiors := 0, ringUp := false } ∧ t.banks = [] ∧ t.clk.refLocked = false ∧
        t.eng = { s.eng with running := false, state := 0 })) ∧
    (∀ vote, s.accepts pwrStateInfo false false b → b.par 0 1 = 0 → s.pwr.state = 0b011 →
      Answers (.pwrStateActive b vote) s
        { clk := true, thm := true, pwr := true, nv := true, mem := true, host := true, poison := true, arrs := true, sites := true,
          wgt := true, vars := true, eng := true, cur := true, nxt := true, mesh := true, sync := true, seqs := true, parts := true, sens := true, flt := true, fab := true,
          chans := true, hif := true } (fun t =>
        t.pwr.state = 0b100 ∧ t.pwr.ringUp = true ∧ t.pwr.exitCmd = some (b.channel, b.cseq) ∧ t.clk.refLocked = true ∧
        (∀ v < 84, valeBit t.pwr.interiors v = !(valeBit s.pwr.dark v)))) ∧
    (s.pwr.state = 0b100 → s.pwr.uncal = 0 →
      Answers .standbyExitDone s { pwr := true, fab := true, chans := true, hif := true } (fun t =>
        t.pwr = { s.pwr with state := 0b010, exitCmd := none })) ∧
    (∀ vale, s.settled = false → exec (.valeDarken vale) s = .next s) ∧
    (∀ vale, vale < 84 → (∃ e ∈ s.pwr.darkenDue, e.1 = vale) → s.settled = true →
      Answers (.valeDarken vale) s .darkening (fun t =>
        valeBit t.pwr.dark vale = true ∧ valeBit t.pwr.interiors vale = false ∧ valeBit t.sens.due vale = false ∧
        (∀ e ∈ t.pwr.darkenDue, e.1 ≠ vale))) ∧
    (∀ left, left = (relocPairs b).flatMap (fun e => (s.heldArrays e.1).map (fun a => (e.2, a))) →
      s.accepts ⟨0x61, false, [0, 1, 18]⟩ false false b → s.relocatable b → left ≠ [] →
      left.all (fun e => s.goldenOk e.2) = true → (relocPairs b).all (fun e => s.chunksOk e.1) = true →
      Answers (.thmRelocate b) s .moving (fun t =>
        t.flt.move = some { channel := b.channel, cseq := b.cseq, code := 0x61, pairs := relocPairs b, left := left }))

/-! ## The step engine and synchronisation -/

/-- A boundary: after the last slot of a step, or after an abort, STEP_BOUNDARY at a time resolves it, and opens the step that is then due, or
holds the engine where STEP_CTRL.hold was set or something holds it then; a step of another variant, or after an abort, begins with the fill of
its variant. It is the same at the end of a hold, where a group's member first waits for the pitch point of its start. Before the last slot, or in
a stall, no boundary comes. In the service window of a slot every queued copy is made; a retired frame or page whose last reader has committed
may be zeroed, and is where nothing else takes the time of its cores, its head slices then reading as zero; nothing else changes its life. A stall
has no window. -/
def Obligations.BoundariesAndServiceWindows : Prop :=
  ∀ (s : State) (t : W64), s.pwr.off = false →
    (∀ kind r v, kind = (if s.eng.state = 5 then BoundaryKind.restart else .run) →
      r = State.resolveBoundary { s with time := maxTime s.time t } kind → s.atBoundary = true →
      (r.holds s.eng.hold = true →
        Answers (.stepBoundary t) s .boundary (fun u => u.time = maxTime s.time t ∧ State.heldAt r.m u)) ∧
      (r.holds s.eng.hold = false → (r.s.var r.opening.variant).img = some v →
        Answers (.stepBoundary t) s .boundary (fun u =>
          u.time = maxTime s.time t ∧ r.openAt v (if s.eng.state = 5 ∨ s.cur.variant ≠ r.opening.variant then v.depth - 1 else 0) u))) ∧
    (s.atBoundary = false → exec (.stepBoundary t) s = .next s) ∧
    (∀ r v, r = s.resolveBoundary .exit → s.mayRun = true →
      (r.holds s.eng.hold = true → Answers .holdEnd s .boundary (State.heldAt r.m)) ∧
      (r.holds s.eng.hold = false → (r.s.var r.opening.variant).img = some v →
        Answers .holdEnd s .boundary (r.openAt v (v.depth - 1)))) ∧
    (s.mayRun = false → s.fab.member = false → exec .holdEnd s = .next s) ∧
    (s.running = true → s.sync.stalled = false →
      Answers .serviceWindow s { mem := true, host := true, poison := true, frames := true, sweeps := true } (fun t =>
        (∀ f, (t.frame f).copyFrom = none) ∧
        (∀ f, ¬((s.frame f).life = 2 ∧ (s.frame f).retiredAt < s.eng.stepNumber) → (t.frame f).life = (s.frame f).life) ∧
        (∀ f, (s.frame f).life = 2 → (t.frame f).life = 2 ∨ (t.frame f).life = 3) ∧
        (∀ f, ¬((s.sweepPage f).life = 2 ∧ (s.sweepPage f).retiredAt < s.eng.stepNumber) → t.sweepPage f = s.sweepPage f) ∧
        (∀ f, s.frames.entries {} = [(f, s.frame f)] → (s.frame f).life = 2 → (s.frame f).retiredAt < s.eng.stepNumber →
          (s.frame f).copyFrom = none → (∀ p ∈ layoutPlaces (s.layoutOf (s.frame f)) f, p.len ≤ 0x20000) →
          (t.frame f).life = 3 ∧
          ∀ p ∈ layoutPlaces (s.layoutOf (s.frame f)) f, ∀ a, p.slices ≤ a → a < p.slices + p.len → t.mem.read a = 0))) ∧
    (s.running = false ∨ s.sync.stalled = true → exec .serviceWindow s = .next s)

/-- A bundle that decodes and names its slot issues for one beat of its half: it is what the units of the half act on, the other half's stands,
and the half goes on to the next repetition, to the next bundle, or, with both bodies done, to the next slot. One that does not decode, or names
another slot, is a bundle fault, which is counted and logged and aborts a running step. In a stall no bundle issues, and a half does not run ahead
of the other. A beat of a clock quiesce carries no bundle; after the last of them the rates are those of the step's variant. -/
def Obligations.BundlesIssueOrFault : Prop :=
  ∀ (s : State) (h : Half) (flips : BitVec 1024) (upsets : List FlitUpset) (v : VariantImage) (b : BitVec 1024) (i r : Nat),
    s.pwr.off = false → s.runImg = some v → s.issueAt h = (i, r) → ((s.bank s.eng.bank).body h)[i]? = some b →
    (s.eng.state = 4 →
      Answers (.bundleIssue h flips upsets) s { clk := true, eng := true } (fun t =>
        t.eng.quietW = (match h with | .west => s.eng.quietW - 1 | .east => s.eng.quietW) ∧
        t.eng.quietE = (match h with | .west => s.eng.quietE | .east => s.eng.quietE - 1) ∧
        t.eng.state = (if t.eng.quietW ≠ 0 ∨ t.eng.quietE ≠ 0 then 4 else if 0 < s.eng.fillLeft then 1 else 2) ∧
        t.clk.plan = (if t.eng.quietW ≠ 0 ∨ t.eng.quietE ≠ 0 then s.clk.plan else v.plan))) ∧
    (s.eng.state ≠ 4 → s.decodes = true → s.eng.halfDue h = true →
      ∀ o k, o = (match h with | .west => Half.east | .east => .west) → k = s.bank s.eng.bank →
      (∀ d, decodeBundle (if r = 0 then b ^^^ flips else b) = some d → (headerOf d.1).var = k.slot → s.sync.stalled = false →
        Answers (.bundleIssue h flips upsets) s { sites := true, eng := true, mesh := true } (fun t =>
          t.beat h = some { bundle := d.1, rep := r, slot := s.eng.slot, fillLeft := s.eng.fillLeft, slotCount := s.eng.slotCount,
                            steps := s.eng.state != 0 } ∧
          t.beat o = s.beat o ∧ t.eng.stepNumber = s.eng.stepNumber ∧
          t.eng.clkOf h = s.eng.clkOf h + 16 * nclkTime s.clk.plan h ∧ t.eng.clkOf o = s.eng.clkOf o ∧
          (r < (headerOf d.1).rep → t.issueAt h = (i, r + 1) ∧ t.issueAt o = s.issueAt o ∧ t.eng.slot = s.eng.slot) ∧
          ((headerOf d.1).rep ≤ r → i + 1 < (k.body h).length ∨ (s.issueAt o).1 < (k.body o).length →
            t.issueAt h = (i + 1, 0) ∧ t.issueAt o = s.issueAt o ∧ t.eng.slot = s.eng.slot) ∧
          ((headerOf d.1).rep ≤ r → (k.body h).length = i + 1 → (k.body o).length ≤ (s.issueAt o).1 →
            t.issueAt h = (0, 0) ∧ t.issueAt o = (0, 0) ∧
            t.eng.slot = (if s.eng.state = 2 then s.eng.slot + 1 else s.eng.slot)) ∧
          t.eng.eccCorrected = if d.2 then satInc s.eng.eccCorrected else s.eng.eccCorrected)) ∧
      (∀ d, decodeBundle (if r = 0 then b ^^^ flips else b) = some d → (headerOf d.1).var = k.slot → s.sync.stalled = true →
        exec (.bundleIssue h flips upsets) s = .next s) ∧
      ((∀ d, decodeBundle (if r = 0 then b ^^^ flips else b) = some d → (headerOf d.1).var ≠ k.slot) →
        s.eng.faultTimes = [] → s.eng.state = 2 →
        Answers (.bundleIssue h flips upsets) s
          { thm := true, banks := true, eng := true, cur := true, nxt := true, mesh := true, sync := true, seqs := true, flt := true } (fun t =>
          t.eng.eccFaults = satInc s.eng.eccFaults ∧ t.eng.aborts = s.eng.aborts + 1 ∧ t.eng.state = 5 ∧ t.cur = {} ∧ t.nxt = {} ∧
          t.flt.head = s.flt.head + 1))) ∧
    (s.eng.state ≠ 4 → s.eng.halfDue h = false → exec (.bundleIssue h flips upsets) s = .next s)

/-- A late WAIT stalls issue, and is counted; the stall ends once the word is reached, its length added to the stall time; one that lasts
the watchdog's limit is counted, aborts the step, and ends too. A host signal adds to its word and to no other byte. -/
def Obligations.StallsAndHostSignals : Prop :=
  ∀ s : State, s.pwr.off = false →
    (∀ site w, s.sync.waits.find? (fun w => decide (w.1 / 8 = site) && s.unmet w) = some w → s.sync.stalled = false → s.held = false →
      Answers (.syncStallBegin site) s { sync := true } (fun t =>
        t.sync = { s.sync with
          stalled := true, stalls := s.sync.stalls + 1, stallStart := s.time, stallAddr := BitVec.ofNat 48 w.2.1,
          x := BitVec.ofNat 8 (siteX site), y := BitVec.ofNat 8 (siteY site), waitTarget := some w })) ∧
    (∀ t, s.sync.stalled = true → s.waitMet = true →
      Answers (.syncStallEnd t) s { time := true, sync := true } (fun u =>
        u.time = maxTime s.time t ∧
        u.sync = { s.sync with
          stalled := false, waitTarget := none, stallTime := s.sync.stallTime + (maxTime s.time t - s.sync.stallStart) })) ∧
    (∀ t, s.isLate t = true → s.eng.state = 2 →
      (∀ e ∈ s.sync.lateTimes, e.1 ≠ siteAt s.sync.x.toNat s.sync.y.toNat) →
      Answers (.syncWatchdog t) s
        { time := true, thm := true, eng := true, cur := true, nxt := true, mesh := true, sync := true, seqs := true, flt := true } (fun u =>
        u.time = maxTime s.time t ∧ u.sync.wdogFires = s.sync.wdogFires + 1 ∧ u.sync.stalled = false ∧
        u.sync.stallTime = s.sync.stallTime + (maxTime s.time t - s.sync.stallStart) ∧
        u.eng.aborts = s.eng.aborts + 1 ∧ u.eng.state = 5 ∧ u.flt.head = s.flt.head + 1)) ∧
    (∀ (n : Nat) (v : W64), n < 256 → s.blockOpen = true →
      Answers (.syncHsig n .whole v) s { mem := true, poison := true, sync := true, hif := true } (fun t =>
        t.mem.readLE (hostSyncPage + 8 * n) 8 = (s.mem.readLE (hostSyncPage + 8 * n) 8 + v.toNat) % 2 ^ 64 ∧
        (∀ a, ¬(hostSyncPage + 8 * n ≤ a ∧ a < hostSyncPage + 8 * n + 8) → t.mem.read a = s.mem.read a) ∧
        t.sync.stalls = s.sync.stalls ∧ t.sync.held = s.sync.held))

/-- The sync operations that a bundle asks of a site: a SIGNAL to a fill word adds at once and one to a committed or mirror word is held for the
commit; a WAIT raises its expectation, is left to be satisfied where its word is below it, and else disarms the wake of its register; a MONITOR
arms a wake; at an address that is no sync word of the program each is an address fault, logged, that aborts a running step. -/
def Obligations.SyncOperationsOfStepPrograms : Prop :=
  ∀ (s : State) (site : Nat) (f : SyncField) (a key : Nat) (x : W64), s.pwr.off = false → a = s.aregOf site f.areg.toNat →
    key = expKey site (f.operand.toNat / 8192) → x = s.sync.exps.get 0 key + BitVec.ofNat 64 (f.operand.toNat % 8192) →
    (s.doesSync site 1 f = true → s.home a = .fill →
      Answers (.signal site f) s { mem := true, host := true, poison := true, sync := true } (fun t =>
        t.rdLE a 8 = (s.rdLE a 8 + f.operand.toNat) % 2 ^ 64 ∧ t.sync.held = s.sync.held ∧
        t.sync.waits = s.sync.waits.filter t.unmet)) ∧
    (s.doesSync site 1 f = true → s.home a = .committed ∨ s.home a = .mirror →
      Answers (.signal site f) s { sync := true } (fun t =>
        t.sync = { s.sync with held := s.sync.held ++ [(a, BitVec.ofNat 64 f.operand.toNat)] })) ∧
    (s.doesSync site 2 f = true → s.home a = .fill → s.sync.stalled = false →
      Answers (.wait site f) s { sync := true } (fun t =>
        t.sync.exps.get 0 key = x ∧ (∀ k, k ≠ key → t.sync.exps.get 0 k = s.sync.exps.get 0 k) ∧
        (s.rdLE a 8 < x.toNat →
          t.sync.waits = s.sync.waits.filter s.unmet ++ [(key, a, x)] ∧ t.sync.monitors = s.sync.monitors ∧ t.sync.woken = s.sync.woken) ∧
        (x.toNat ≤ s.rdLE a 8 →
          t.sync.waits = s.sync.waits ∧ t.sync.monitors = s.sync.monitors.filter (fun m => !decide (m.1 = key)) ∧
          t.sync.woken = s.sync.woken.filter (· ≠ key)))) ∧
    (s.doesSync site 3 f = true → s.home a = .fill → s.sync.stalled = false →
      Answers (.monitor site f) s { sync := true } (fun t => t.sync = { s.sync with monitors := s.sync.monitors ++ [(key, a)] })) ∧
    (∀ m P, m = { thm := true, eng := true, cur := true, nxt := true, mesh := true, sync := true, seqs := true, flt := true } →
      P = (fun (t : State) => t.flt.head = s.flt.head + 1 ∧ t.eng.aborts = s.eng.aborts + 1 ∧ t.eng.state = 5) →
      s.home a = .other → s.eng.state = 2 →
      (s.doesSync site 1 f = true → Answers (.signal site f) s m P) ∧
      (s.doesSync site 2 f = true → s.sync.stalled = false → Answers (.wait site f) s m P) ∧
      (s.doesSync site 3 f = true → s.sync.stalled = false → Answers (.monitor site f) s m P))

/-! ## Faults, sessions and repair -/

/-- Faults that pass: a mark clears after 64 ticks and counts as transient, a SUSPECT tile returns after 1,000 clean ticks, a TL action is
removed, and the fault hold ends once no exchange is left and no repair waits for a session. Hardened words and self-tests: a minority copy
is counted, a word without a majority is the site's death or, for a global word, the device fault with the engine held; a failed
self-test is counted and kills the tile, and a passed one changes nothing. -/
def Obligations.FaultStatesClearAndScrubbing : Prop :=
  (∀ s : State, s.pwr.off = false →
      (∀ site p m0, (s.site site).marks.find? (fun m => decide (m.p = p)) = some m0 → 64 * 2 ^ 20 ≤ (s.time - m0.time).toNat →
        Answers (.markClear site p) s { sites := true, flt := true } (fun t =>
          t.flt = { s.flt with transient := satInc s.flt.transient } ∧ (∀ m ∈ (t.site site).marks, m.p ≠ p) ∧
          (∀ k, k ≠ site → t.site k = s.site k))) ∧
      (∀ site, (s.site site).fstate = 2 → 1000 ≤ (s.site site).cleanTicks.toNat →
        Answers (.suspectClear site) s { sites := true } (fun t =>
          t.site site = { s.site site with fstate := if (s.site site).marks.isEmpty then 0 else 1, cleanTicks := 0 } ∧
          (∀ k, k ≠ site → t.site k = s.site k))) ∧
      (∀ vale, (s.flt.tlVales.get (0, 0) vale).1 ≠ 0 → s.lastMismatch vale + 1000 ≤ s.tick →
        Answers (.tlActionClear vale) s { clk := true, flt := true, fab := true, chans := true, hif := true } (fun t =>
          t.flt = { s.flt with tlVales := s.flt.tlVales.set (0, 0) vale (0, 0) } ∧ t.clk.plan = s.clk.plan)) ∧
      (s.eng.faultHold = true → s.flt.exchanging = [] → s.flt.tlHoldUntil ≤ s.tick → s.flt.move = none → s.flt.respares = [] →
        Answers .faultHoldEnd s { eng := true } (fun t => t.eng = { s.eng with faultHold := false }))) ∧
  (∀ (s : State) (a b c : W64), s.pwr.off = false →
      (∀ k w, isSite k = true → s.powered k = true → (a = b ∨ b = c ∨ a = c) → ¬(a = b ∧ b = c) →
        Answers (.scrubVisit (.site k w) a b c) s { sites := true, flt := true } (fun t =>
          t.flt = { s.flt with votes := s.flt.votes + 1 } ∧ t.site k = { s.site k with votes := satInc (s.site k).votes } ∧
          (∀ j, j ≠ k → t.site j = s.site j))) ∧
      (∀ k w, isSite k = true → s.powered k = true → a ≠ b → b ≠ c → a ≠ c →
        Answers (.scrubVisit (.site k w) a b c) s .dying (fun t => (t.site k).fstate = 3)) ∧
      (∀ w, (a = b ∨ b = c ∨ a = c) → ¬(a = b ∧ b = c) →
        Answers (.scrubVisit (.global w) a b c) s { flt := true } (fun t => t.flt = { s.flt with votes := s.flt.votes + 1 })) ∧
      (∀ w, a ≠ b → b ≠ c → a ≠ c →
        Answers (.scrubVisit (.global w) a b c) s { flt := true, fab := true, chans := true, hif := true } (fun t =>
          t.flt = { s.flt with deviceFault := true } ∧ ∀ slot, t.mustHold slot = true)) ∧
      (∀ site r, s.selfTestable site = true → s.selfTestOk site r = false →
        Answers (.tileSelfTest site r) s .dying (fun t =>
          (t.site site).fstate = 3 ∧ (t.site site).selftestFails = satInc (s.site site).selftestFails)) ∧
      (∀ site r, s.selfTestable site = true → s.selfTestOk site r = true → exec (.tileSelfTest site r) s = .next s))

/-- Program sessions: the array's cells become its golden image, its age restarts, and no other array's cells change; a refresh opens one
session and charges its array one cycle; at a boundary or in a fault hold every valid next map replaces the current one, and the array it leaves
waits to be reprogrammed as the spare. -/
def Obligations.SessionsProgramTheirArray : Prop :=
  ∀ s : State, s.pwr.off = false →
    (∀ site p weak offs x, s.wgt.sessions.find? (fun x => decide (x.site = site ∧ x.p = p) && !x.suspended) = some x →
      Answers (.programSessionDone site p [] weak offs) s .sessions (fun t =>
        (∀ i, i < imageBytes → t.cells.read (cellKey site p 0 0 + i) = s.mem.read (x.source + i)) ∧
        (∀ a, ¬(cellKey site p 0 0 ≤ a ∧ a < cellKey site p 0 0 + imageBytes) → t.cells.read a = s.cells.read a) ∧
        (t.arr site p).progTick = s.poweredTicks ∧ (t.arr site p).trimOffs = offs)) ∧
    (∀ k p l g, s.nextRefresh = some (k, p) → (s.site k).amap.phys.findIdx? (fun q => decide (q = p)) = some l →
      s.goldenOf k l = some g → s.goldenOk g = true →
      Answers .refreshStart s { arrs := true, sites := true, wgt := true } (fun t =>
        t.site k = { s.site k with copyActive := true } ∧
        t.wgt = { s.wgt with sessions := s.wgt.sessions ++ [sessionOf k (s.site k).amap.spare (.refresh 2) g] } ∧
        (t.arr k (s.site k).amap.spare).cycles = (s.arr k (s.site k).amap.spare).cycles + 1 ∧
        (∀ n, n ≠ arrKey k (s.site k).amap.spare → t.arrs.get {} n = s.arrs.get {} n))) ∧
    ((s.held = true ∧ s.eng.faultHold = true) ∨ s.opening = true →
      Answers .mapSwitch s
        { thm := true, mem := true, host := true, poison := true, arrs := true, sites := true, wgt := true, vars := true, eng := true,
          cur := true, nxt := true, mesh := true, sync := true, seqs := true, flt := true, fab := true, chans := true, hif := true } (fun t =>
        (∀ k, (t.site k).nextValid = false) ∧
        (∀ k, (s.site k).nextValid = true → (t.site k).amap = (s.site k).next ∧ (t.site k).switches = satInc (s.site k).switches) ∧
        (∀ k, (s.site k).nextValid = false → (t.site k).amap = (s.site k).amap ∧ (t.site k).switches = (s.site k).switches))) ∧
    (s.held = true → s.eng.faultHold = true → s.flt.exchanging = [] → s.flt.move = none →
      Answers .mapSwitch s { sites := true, flt := true } (fun t =>
        (∀ k, (s.site k).nextValid = true → (k, (s.site k).next.spare) ∈ t.flt.respares) ∧
        (∀ k, (s.site k).nextValid = false → t.site k = s.site k))) ∧
    (¬(s.held = true ∧ s.eng.faultHold = true) → s.opening = false → exec .mapSwitch s = .next s)

/-- The fault commands mark a dead site FAILED in the defect map with its version raised: a remap of a site that holds nothing completes at
once and takes its replacement into service, a map-out needs none. -/
def Obligations.FaultCommandsWriteTheDefectMap : Prop :=
  ∀ (s : State) (b : CmdBlock), s.pwr.off = false → s.held = true → s.faultBusy = false →
    (∀ k n, s.accepts ⟨0x38, false, [0, 1]⟩ false false b → siteArg b 0 = some k → siteArg b 2 = some n →
      (s.deadSite k || s.wornSite k) = true → s.replaces k n = true → valeBit s.pwr.dark (siteVale n) = false →
      s.gensAt k = [] →
      Answers (.fltRemap b) s
        { nv := true, mem := true, host := true, poison := true, sites := true, vars := true, seqs := true, parts := true,
          fab := true, chans := true, hif := true } (fun t =>
        t.siteCode k = 3 ∧ (siteType k = 1 → t.siteCode n = 0) ∧ t.nv.defectVersion = s.nv.defectVersion + 1)) ∧
    (∀ k, s.accepts ⟨0x39, false, [0, 1]⟩ false false b → siteArg b 0 = some k →
      (s.deadSite k = true ∨ s.siteCode k = 1) → s.gensAt k = [] →
      Answers (.fltMapout b) s
        { nv := true, mem := true, host := true, poison := true, sites := true, vars := true, seqs := true, parts := true,
          fab := true, chans := true, hif := true } (fun t =>
        t.siteCode k = 3 ∧ t.nv.defectVersion = s.nv.defectVersion + 1))

/-! ## Serving: actions and the ends of sequences -/

/-- An action acts at a step boundary alone. Every action that resolves is counted: applied ones and the others, one record each in the operator's
next batch; an action whose request is not pending changes nothing else. The actions on prefixes and layouts: PUBLISH gives the named pages to a new prefix that the
sequence then reads; RELEASE drops a prefix's own handle; RESHARD takes decode frames for every page index the sequence holds, and
leaves the re-shard pending. -/
def Obligations.PrefixActionsAndCounts : Prop :=
  (∀ (s : State) (a : ActionEntry), s.opening = false →
      ∀ c ∈ [Instr.admitSeq a, Instr.attach a, Instr.cancel a, Instr.park a, Instr.resume a, Instr.setMask a, Instr.publish a,
        Instr.release a, Instr.reshardAction a], exec c s = .next s) ∧
  (∀ (s : State) (a : ActionEntry), s.pwr.off = false → s.opening = true → s.pendingReq a.partition a.ringPos = none →
      ∀ c ∈ [Instr.admitSeq a, Instr.attach a, Instr.cancel a, Instr.park a, Instr.resume a, Instr.setMask a, Instr.publish a, Instr.release a],
        Answers c s { srv := true } (fun t =>
          t.srv = { s.srv with notApplied := satInc s.srv.notApplied, actRecs := t.srv.actRecs } ∧
          t.srv.actRecs.length = s.srv.actRecs.length + 1)) ∧
  (∀ (s : State) (a : ActionEntry), s.pwr.off = false → s.opening = true →
      (∀ r i, s.pendingReq a.partition a.ringPos = some r → r.req.kind = 0x06 → s.srv.endedNow.contains r.req.handle = false →
        s.names r.req.handle = some i → (s.cfg a.partition).hasEntry i = true → (s.cfg a.partition).hasEntry (handleIdx a.handle) = true →
        (s.seq i).state = 2 → (s.seq i).layout = 1 → s.resharding i = false → (s.seq i).pfxOf = none →
        r.req.count ≤ (s.seq i).length → (r.req.count % 16 = 0 ∨ r.req.count = (s.seq i).length) → s.canTake a.handle = true →
        handleIdx a.handle ≠ i →
        Answers (.publish a) s .action (fun t =>
          (t.seq (handleIdx a.handle)).state = 7 ∧ (t.seq (handleIdx a.handle)).isPrefix = true ∧
          (t.seq (handleIdx a.handle)).handleHeld = true ∧ (t.seq (handleIdx a.handle)).length = r.req.count ∧
          (t.seq (handleIdx a.handle)).frames = (s.seq i).frames.filter (fun e => decide (e.1 < (r.req.count + 15) / 16)) ∧
          (t.seq i).pfxOf = some (handleIdx a.handle) ∧ t.srv.applied = satInc s.srv.applied)) ∧
      (∀ r x, s.actsOn a 0x07 r x → (s.seq x).state = 7 → (s.seq x).handleHeld = true →
        Answers (.release a) s .action (fun t =>
          (t.seq x).handleHeld = false ∧ (∀ j, j ≠ x → t.seq j = s.seq j) ∧ t.srv.applied = satInc s.srv.applied)) ∧
      (∀ i, a.ringPos = 0xFFFFFFFF → s.srv.endedNow.contains a.handle = false → s.names a.handle = some i →
        (s.cfg a.partition).hasEntry i = true → (s.seq i).state = 2 → (s.seq i).layout = 2 → (s.seq i).req.count ≤ (s.seq i).length →
        s.resharding i = false → (s.allocFrames i (sortBy id ((s.seq i).sweep.map (·.1)).eraseDups)).isSome = true →
        Answers (.reshardAction a) s .action (fun t =>
          t.resharding i = true ∧ (t.seq i).layout = 2 ∧ t.srv.applied = satInc s.srv.applied)))

/-- ADMIT and ATTACH at a boundary: a request whose admission passes R250 takes the entry its handle names, active under the live generation; one
that must wait is QUEUED where its owner's queue has room; either way the request is consumed and the action applied. -/
def Obligations.AdmissionsTakeTheirEntry : Prop :=
  ∀ (s : State) (a : ActionEntry) (r : PendReq) (pfx : Option Nat) (i : Nat) (tag : BitVec 16), s.pwr.off = false → s.opening = true →
    i = handleIdx a.handle → tag = (a.handle >>> 16).truncate 16 →
    s.pendingReq a.partition a.ringPos = some r → r.req.kind = 0x01 → (s.cfg a.partition).hasEntry i = true → s.canTake a.handle = true →
    ∀ (v : State) (res : AdmitRes), (v, res) = ((s.consume a.partition a.ringPos).reclaim i).admitCore a.partition r i tag pfx →
    ∀ Active Queued : State → Prop,
    Active = (fun t => (t.seq i).state = 2 ∧ (t.seq i).tag = tag ∧ (t.seq i).partition = a.partition ∧ (t.seq i).pfxOf = pfx ∧
      (t.seq i).req = r.req ∧ t.srv.applied = satInc s.srv.applied ∧
      (t.part a.partition).rings.consumed = (s.part a.partition).rings.consumed + 1) →
    Queued = (fun t => (t.seq i).state = 1 ∧ (t.seq i).tag = tag ∧ (t.seq i).req = r.req ∧ t.srv.applied = satInc s.srv.applied) →
    (r.req.flags.getLsbD 2 = false → pfx = none →
      (res = .done 0x01 → Answers (.admitSeq a) s .action Active) ∧
      (res = .queue → (v.queueOf a.partition).length < (v.cfg a.partition).queueLimit → Answers (.admitSeq a) s .action Queued)) ∧
    (r.req.flags.getLsbD 2 = true → pfx.isSome = true → pfx = s.prefixNamed a.partition r.req.pfx →
      (res = .done 0x01 → Answers (.attach a) s .action Active) ∧
      (res = .queue → (v.queueOf a.partition).length < (v.cfg a.partition).queueLimit → Answers (.attach a) s .action Queued))

/-- The actions on a sequence, at a boundary: CANCEL frees its entry with status CANCELLED, or EXPIRED of an expired one; PARK puts an active sequence on
its way to a tier; RESUME of one still parking makes it active again; SET_MASK turns its mask on or off; each consumes its request. A
sequence whose deadline has passed ends DEADLINE, and a parked one whose time-to-live has run out is EXPIRED; before that, and away from a
boundary, neither command has an effect. -/
def Obligations.SequencesEndParkAndResume : Prop :=
  (∀ (s : State) (a : ActionEntry) (r : PendReq) (i : Nat), s.pwr.off = false → s.opening = true →
      (s.actsOn a 0x02 r i → 1 ≤ (s.seq i).state.toNat → (s.seq i).state.toNat ≤ 6 →
        Answers (.cancel a) s .action (fun t =>
          t.seq i = { tag := (s.seq i).tag, status := if (s.seq i).state = 6 then 0x16 else 0x12 } ∧ t.srv.applied = satInc s.srv.applied)) ∧
      (∀ tier, s.actsOn a 0x03 r i → (s.seq i).state = 2 → (r.req.limit = 0 ∨ (811 ≤ r.req.limit ∧ r.req.limit ≤ 70037842)) →
        s.parkTier (s.seq i) (r.req.flags.getLsbD 0) 0 = some tier →
        Answers (.park a) s .action (fun t =>
          (t.seq i).state = 3 ∧ (t.seq i).tier = tier ∧ (t.seq i).preempted = false ∧
          (t.seq i).ttl = (if r.req.limit = 0 then (s.cfg a.partition).defaultTtl else r.req.limit) ∧
          (t.seq i).gen = (s.seq i).gen ∧ (t.seq i).length = (s.seq i).length ∧ t.srv.applied = satInc s.srv.applied)) ∧
      (s.actsOn a 0x04 r i → (s.seq i).state = 3 →
        Answers (.resume a) s { parts := true, seqs := true, srv := true } (fun t =>
          t.seq i = { s.seq i with
            state := 2, tier := 0, pagesLeft := [], parkPages := [], parkBytes := 0, preempted := false, status := 0x05 } ∧
          (∀ j, j ≠ i → t.seq j = s.seq j) ∧ t.srv.applied = satInc s.srv.applied)) ∧
      (s.actsOn a 0x05 r i → 1 ≤ (s.seq i).state.toNat → (s.seq i).state.toNat ≤ 5 → r.req.flags.getLsbD 1 = false →
        Answers (.setMask a) s { parts := true, seqs := true, srv := true } (fun t =>
          t.seq i = { s.seq i with maskOn := false } ∧ (∀ j, j ≠ i → t.seq j = s.seq j) ∧ t.srv.applied = satInc s.srv.applied)) ∧
      (s.actsOn a 0x05 r i → 1 ≤ (s.seq i).state.toNat → (s.seq i).state.toNat ≤ 5 → r.req.flags.getLsbD 1 = true →
        s.inReach a.partition r.req.maskAddr (maskBytes (s.vocabOf (s.seq i).gen)) = true →
        Answers (.setMask a) s { parts := true, seqs := true, srv := true } (fun t =>
          t.seq i = { s.seq i with maskOn := true, maskAddr := r.req.maskAddr } ∧ (∀ j, j ≠ i → t.seq j = s.seq j)))) ∧
  (∀ (s : State) (i : Nat), s.pwr.off = false →
      (s.opening = true → 1 ≤ (s.seq i).state.toNat → (s.seq i).state.toNat ≤ 5 → (s.seq i).req.deadline ≠ 0 → (s.seq i).req.deadline ≤ s.time →
        Answers (.deadlineReached i) s { adps := true, frames := true, sweeps := true, seqs := true, parts := true, srv := true } (fun t =>
          t.seq i = { tag := (s.seq i).tag, status := 0x13 })) ∧
      (s.time < (s.seq i).req.deadline ∨ s.opening = false → exec (.deadlineReached i) s = .next s) ∧
      (s.opening = true → (s.seq i).state = 4 → (s.seq i).parkTick + (s.seq i).ttl ≤ s.tick →
        Answers (.parkTtlExpiry i) s { seqs := true, parts := true } (fun t =>
          t.seq i = { s.seq i with state := 6, tier := 0, parkBytes := 0, status := 0x16 } ∧ (∀ j, j ≠ i → t.seq j = s.seq j))) ∧
      (s.tick < (s.seq i).parkTick + (s.seq i).ttl ∨ s.opening = false → exec (.parkTtlExpiry i) s = .next s))

/-! ## The host interface -/

/-- The mailbox: a word the channel can take is stored and waits; one that arrives while another waits is discarded with in_overrun set; a
read of MBX_OUT returns the word and, with nothing queued, clears the register and out_full. The doorbells: a tail that neither overruns
nor withdraws is taken, any other sets tail_error; a request tail, an output head and a notice head are taken as written; the upper half
of a count is ignored. -/
def Obligations.MailboxAndDoorbells : Prop :=
  (∀ (s : State) (c : Nat) (w : W64), s.pwr.off = false → c < 22 → (2 ≤ c → c < 18 → s.vfOpen (c - 2) = true) →
      ((s.chan c).inFull = false → s.wordReason c w = none →
        Answers (.mbxInWrite c w) s { chans := true, hif := true } (fun t =>
          t.chan c = { s.chan c with inWord := w, inFull := true } ∧ (∀ d, d ≠ c → t.chan d = s.chan d) ∧
          t.hif = { s.hif with latches := t.hif.latches })) ∧
      ((s.chan c).inFull = true →
        Answers (.mbxInWrite c w) s { chans := true, hif := true } (fun t =>
          t.chan c = { s.chan c with overrun := true } ∧ (∀ d, d ≠ c → t.chan d = s.chan d))) ∧
      ((s.chan c).queue = [] →
        Answers (.mbxOutRead c) s { chans := true, hif := true } (fun t =>
          t.hif.readData = (s.chan c).outWord ∧ t.chan c = { s.chan c with outWord := 0, outFull := false } ∧
          (∀ d, d ≠ c → t.chan d = s.chan d)))) ∧
  (∀ (s : State) (v : W64), s.pwr.off = false → s.blockOpen = true →
      (((v.truncate 32 : W32) - s.hif.descHead).toNat ≤ s.hif.descEntries.toNat →
        ((v.truncate 32 : W32) - s.hif.descTail).toNat ≤ s.hif.descEntries.toNat → s.held = false →
        Answers (.descTail .whole v) s { hif := true } (fun t =>
          t.hif = { s.hif with descTail := v.truncate 32, latches := t.hif.latches })) ∧
      (¬(((v.truncate 32 : W32) - s.hif.descHead).toNat ≤ s.hif.descEntries.toNat ∧
        ((v.truncate 32 : W32) - s.hif.descTail).toNat ≤ s.hif.descEntries.toNat) →
        Answers (.descTail .whole v) s { hif := true } (fun t => t.hif = { s.hif with descTailErr := true, latches := t.hif.latches })) ∧
      Answers (.descTail .upper v) s { hif := true } (fun t => t.hif = { s.hif with latches := t.hif.latches }) ∧
      (∀ p, s.ownerOpen p = true →
        Answers (.rqTail p .whole v) s { parts := true, hif := true } (fun t =>
          t.part p = { s.part p with rings := { (s.part p).rings with rqTail := v.truncate 32 } } ∧ (∀ q, q ≠ p → t.part q = s.part q))) ∧
      (∀ p, s.ownerOpen p = true → (s.part p).rings.outHostErr = true →
        Answers (.outHead p v) s { parts := true, hif := true } (fun t =>
          t.part p = { s.part p with rings := { (s.part p).rings with outHead := v } } ∧ (∀ q, q ≠ p → t.part q = s.part q))) ∧
      (∀ p, s.ownerOpen p = true → (s.part p).rings.outHostErr = false → (s.part p).rings.spill = [] →
        Answers (.outHead p v) s { parts := true, hif := true } (fun t =>
          (t.part p).rings.outHead = v ∧ (t.part p).rings.outTail = (s.part p).rings.outTail ∧ (∀ q, q ≠ p → t.part q = s.part q))) ∧
      Answers (.noticeHead .whole v) s { hif := true } (fun t =>
        t.hif = { s.hif with notHead := v.truncate 32, latches := t.hif.latches }))

/-- STEP_CTRL.hold and the commits: writing hold holds the engine at the next boundary or lets the hold end; a commit of a block whose
registers are legal locks it, the fabric's records its plan and shape, and an illegal plan leaves every port with reason PLAN. -/
def Obligations.HoldAndCommits : Prop :=
  ∀ s : State, s.pwr.off = false →
    (s.blockOpen = true → Answers .stepHoldSet s { eng := true, hif := true } (fun t => t.eng = { s.eng with hold := true })) ∧
    (s.blockOpen = true → Answers .stepHoldClear s { eng := true, hif := true } (fun t => t.eng = { s.eng with hold := false })) ∧
    (s.lock.wSize = 0 ∨ s.okDram s.wRange.1 s.wRange.2 = true →
      Answers .commitGlobal s { lock := true, hif := true } (fun t => t.lock = { s.lock with cGlobal := true })) ∧
    (s.lock.wSize ≠ 0 → s.okDram s.wRange.1 s.wRange.2 = false →
      Answers .commitGlobal s { hif := true } (fun t => t.hif = { s.hif with latches := t.hif.latches })) ∧
    (s.vareaOk = true → Answers .commitStep s { lock := true, hif := true } (fun t => t.lock = { s.lock with cStep := true })) ∧
    (s.lock.cFabric = false → topoLegal s.lock.topo = true → planLegal s.lock.plan s.lock.topo = true →
      Answers .commitFabric s { lock := true, fab := true, hif := true } (fun t =>
        t.lock = { s.lock with cFabric := true, recPlan := some s.lock.plan, recTopo := s.lock.topo } ∧
        (∀ n < 24, portRole s.lock.plan n ≠ 0 → (s.port n).disable = false → (t.port n).state = 1))) ∧
    (s.lock.cFabric = false → planLegal s.lock.plan s.lock.topo = false →
      Answers .commitFabric s { lock := true, fab := true, hif := true } (fun t =>
        t.lock.cFabric = true ∧ (∀ n < 24, (t.port n).reason = 6 ∧ (t.port n).state = if (s.port n).disable then 6 else 0)))

/-- Request rings: the device fetches the next record round-robin, and a completion error disables the ring; a fetched request becomes
pending; an output write that fails goes back to the spill with host_error set. Copies and lost peers: an accepted HOST_COPY stays open
as a copy in progress; at its completion the destination holds what the source held and nothing else has changed in that memory; a peer
declared lost is recorded and breaks the group that held it. -/
def Obligations.RequestsAndCopies : Prop :=
  (∀ s : State, s.pwr.off = false →
      (∀ p, s.noticeRoom = true → s.nextAuthor = some p →
        Answers (.requestFetch true) s { parts := true } (fun t =>
          t.part p = { s.part p with rings := { (s.part p).rings with rqEnable := false, rqHostErr := true } } ∧
          (∀ q, q ≠ p → t.part q = s.part q))) ∧
      (∀ p, s.noticeRoom = true → s.nextAuthor = some p → (s.headRequest p).kind ≠ 1 →
        Answers (.requestFetch false) s { host := true, parts := true, hif := true } (fun t =>
          (t.part p).rings.rqHead = (s.part p).rings.rqHead + 1 ∧
          (t.part p).rings.reqs = (s.part p).rings.reqs ++ [{ pos := (s.part p).rings.rqHead, req := s.headRequest p, pending := true }] ∧
          t.hif.notTail = s.hif.notTail + 1 ∧ (∀ q, q ≠ p → t.part q = s.part q))) ∧
      (∀ p r, (s.part p).rings.reqs.find? (fun r => !r.pending) = some r →
        Answers (.requestPending p) s { mem := true, host := true, poison := true, parts := true, hif := true } (fun t =>
          (t.part p).rings.reqs = (s.part p).rings.reqs.map (fun e => if e.pos = r.pos then { e with pending := true } else e) ∧
          t.hif.notTail = s.hif.notTail + 1 ∧ (∀ q, q ≠ p → t.part q = s.part q))) ∧
      (∀ p, (s.part p).rings.lastBatch ≠ [] →
        Answers (.outputWriteError p) s { parts := true } (fun t =>
          (t.part p).rings.outHostErr = true ∧ (t.part p).rings.spill = (s.part p).rings.lastBatch :: (s.part p).rings.spill ∧
          (t.part p).rings.lastBatch = [] ∧ (∀ q, q ≠ p → t.part q = s.part q)))) ∧
  (∀ (s : State), s.pwr.off = false →
      (∀ b : CmdBlock, b.channel < 2 → s.accepts ⟨0x40, false, [0, 1] ++ vfChans⟩ false false b → 64 ≤ b.par 16 8 → b.par 16 8 ≤ 2 ^ 30 →
        b.par 16 8 % 64 = 0 → inHost (b.par 0 8) (b.par 16 8) = true → s.inDramReach 31 (b.par 8 8) (b.par 16 8) = true →
        Answers (.hostCopy b) s { nv := true, fab := true, chans := true, hif := true } (fun t =>
          t.hif.copies = s.hif.copies ++
            [{ channel := b.channel, cseq := b.cseq, src := b.par 0 8, dst := b.par 8 8, len := b.par 16 8 }])) ∧
      (∀ c : Copy, s.hif.copies.find? (fun k => decide (k.channel = c.channel ∧ k.cseq = c.cseq)) = some c →
        0x020000000000 ≤ c.src → c.src < 0x030000000000 →
        Answers (.hostCopyComplete c.channel c.cseq none) s { mem := true, poison := true, fab := true, chans := true, hif := true } (fun t =>
          (∀ i, i < c.len → t.mem.read (c.dst + i) = s.host.read (c.src - 0x020000000000 + i)) ∧
          (∀ a, ¬(c.dst ≤ a ∧ a < c.dst + c.len) → t.mem.read a = s.mem.read a))) ∧
      (∀ c : Copy, s.hif.copies.find? (fun k => decide (k.channel = c.channel ∧ k.cseq = c.cseq)) = some c →
        c.src < 0x020000000000 →
        Answers (.hostCopyComplete c.channel c.cseq none) s { host := true, fab := true, chans := true, hif := true } (fun t =>
          (∀ i, i < c.len → t.host.read (c.dst - 0x020000000000 + i) = s.mem.read (c.src + i)) ∧
          (∀ a, ¬(c.dst - 0x020000000000 ≤ a ∧ a < c.dst - 0x020000000000 + c.len) → t.host.read a = s.host.read a))) ∧
      (∀ b : CmdBlock, s.accepts ⟨0x48, false, [0, 20]⟩ false false b → b.par 0 2 ≤ 1023 → b.par 0 2 ≠ s.device →
        Answers (.peerLost b) s
          { nv := true, mem := true, host := true, poison := true, seqs := true, parts := true, fab := true, chans := true, hif := true } (fun t =>
          b.par 0 2 ∈ t.fab.lost ∧ (s.fab.member = true → b.par 0 2 ∈ s.fab.peers → t.fab.regroup = true ∧ t.fab.aligned = false))))

/-! ## Weights and generations -/

/-- WGT_INSTALL in either mode: an accepted install into a slot that will be EMPTY, in mode ROLL beside a READY or LIVE one that is not fixed, of an
image that passes the checks before its chunks, stages; one whose image fails ends with the status of the first failed check, the slot as it
was. -/
def Obligations.InstallsBegin : Prop :=
  ∀ (s : State) (b : CmdBlock) (head plan : List Byte) (sig : ImageSig) (slot : Bool), s.pwr.off = false →
    slot = decide (b.par 0 1 = 1) → s.accepts ⟨0x20, true, [0, 18]⟩ false false b → b.par 3 1 = 0 → s.installSource b = true →
    s.wgt.install = none → s.lock.wSize ≠ 0 → (s.projected.gen slot).state = 0 →
    ∀ m, m = { nv := true, wgt := true, fab := true, chans := true, hif := true } →
    ∀ (Stages : Bool → State → Prop) (Fails : Byte → State → Prop),
    Stages = (fun roll t => t.wgt.phase = 1 ∧ (t.pgen slot).state = 1 ∧ t.gen (!slot) = s.gen (!slot) ∧
      ∃ i, t.wgt.install = some i ∧ i.img = parseImage head sig ∧ i.plan = parsePlan plan ∧ i.roll = roll ∧ i.received = []) →
    Fails = (fun st t => t.wgt.phase = 0 ∧ t.wgt.install = none ∧ t.wgt.status = st ∧ t.pgen slot = s.projected.gen slot ∧
      t.gen (!slot) = s.gen (!slot)) →
    (∀ st, installParams b 0 = true → (s.projected.gen slot).fixed = false →
      st = s.imageStatus (b.par 0 1) false (b.par 16 8) (parseImage head sig) (parsePlan plan) →
      (st = 0 → Answers (.wgtInstallNew b head sig plan) s m (Stages false)) ∧
      (st ≠ 0 → Answers (.wgtInstallNew b head sig plan) s m (Fails st))) ∧
    (∀ st, installParams b 1 = true → (s.projected.gen (!slot)).fixed = false →
      ((s.projected.gen (!slot)).state = 3 ∨ (s.projected.gen (!slot)).state = 4) → (s.gen (!slot)).state ≠ 7 →
      st = s.imageStatus (b.par 0 1) true (b.par 16 8) (parseImage head sig) (parsePlan plan) →
      (st = 0 → Answers (.wgtInstallRoll b head sig plan) s m (Stages true)) ∧
      (st ≠ 0 → Answers (.wgtInstallRoll b head sig plan) s m (Fails st)))

/-- The chunks of an install: one that passes its checks is received, one that fails ends the install with its status and its entry, and so
does a source that is silent for 1,024 ticks; with every planned chunk received programming begins, or, in mode ROLL, the wait for the drain of the
outgoing slot, after which it is YIELDING. -/
def Obligations.ChunksStageAndProgram : Prop :=
  ∀ (s : State) (i : Install), s.pwr.off = false → s.wgt.install = some i →
    (∀ entry bytes m, s.wgt.phase = 1 → i.loader = false → i.img.manifest[entry]? = some m →
      (∃ e ∈ i.plan.entries, e.entry = entry) → entry ∉ i.received → chunkStatus i.img.imageId m bytes = 0 →
      Answers (.installChunkReceived entry bytes) s { mem := true, host := true, poison := true, wgt := true } (fun t =>
        t.wgt = { s.wgt with install := some { i with received := i.received ++ [entry], lastTick := s.tick } })) ∧
    (∀ entry bytes m, s.wgt.phase = 1 → i.loader = false → i.img.manifest[entry]? = some m →
      (∃ e ∈ i.plan.entries, e.entry = entry) → entry ∉ i.received → chunkStatus i.img.imageId m bytes ≠ 0 →
      Answers (.installChunkReceived entry bytes) s { wgt := true, fab := true, chans := true, hif := true } (fun t =>
        t.wgt.install = none ∧ t.wgt.phase = 0 ∧ t.wgt.status = chunkStatus i.img.imageId m bytes ∧
        t.wgt.failEntry = BitVec.ofNat 32 entry ∧ t.pgen i.target = i.prior)) ∧
    (s.wgt.phase = 1 → i.lastTick + 1024 ≤ s.tick →
      Answers .installSourceTimeout s { wgt := true, fab := true, chans := true, hif := true } (fun t =>
        t.wgt.install = none ∧ t.wgt.phase = 0 ∧ t.wgt.status = 0x0C ∧ t.pgen i.target = i.prior)) ∧
    (s.wgt.phase = 1 → i.roll = false → (∀ e ∈ i.plan.entries, e.entry ∈ i.received) →
      (∀ x ∈ i.arrays, (s.site (siteAt x.2.1.x x.2.1.y)).fstate ≠ 3) →
      Answers .stagingComplete s { mem := true, host := true, poison := true, arrs := true, wgt := true } (fun t =>
        (t.pgen i.target).state = 2 ∧ (t.wgt.phase = 3 ∨ t.wgt.phase = 4))) ∧
    (s.wgt.phase = 1 → i.roll = true → (s.gen (!i.target)).state ≠ 7 → s.held = false → (∀ e ∈ i.plan.entries, e.entry ∈ i.received) →
      Answers .stagingComplete s { wgt := true } (fun t => t.wgt = { s.wgt with phase := 2 })) ∧
    (s.settled = true → s.wgt.phase = 2 → i.roll = true → s.activePinned (s.gen (!i.target)).number = 0 → s.wgt.retireDue = [] →
      s.wgt.dueA = none → s.wgt.dueB = none → (∀ x ∈ i.arrays, (s.site (siteAt x.2.1.x x.2.1.y)).fstate ≠ 3) →
      Answers .rollProgrammingStart s
        { mem := true, host := true, poison := true, arrs := true, wgt := true, vars := true, fab := true } (fun t =>
        (t.gen (!i.target)).state = 7 ∧ (t.gen (!i.target)).recState = (s.gen (!i.target)).state ∧ (t.gen i.target).state = 2 ∧
        (t.wgt.phase = 3 ∨ t.wgt.phase = 4))) ∧
    (s.settled = false → exec .rollProgrammingStart s = .next s)

/-- GENERATION_COMMIT gives the generation its number, records the largest, and ends the install; in mode NEW the slot is READY at once
where the engine is held or at a boundary, and in mode ROLL it is LIVE with the pointer, the outgoing slot EMPTY. The other commands on
generations: a switch and a retirement wait for the boundary, where the pointer moves; a fix is permanent; an abort of a staging install leaves the
slot as it was. -/
def Obligations.GenerationsCommitSwitchAndRetire : Prop :=
  (∀ (s : State) (i : Install), s.pwr.off = false → s.wgt.install = some i → s.wgt.phase = 4 → (s.pgen i.target).number = 0 →
      s.nv.largestGen.toNat + 1 < 2 ^ 32 →
      (i.roll = false → (s.pgen i.target).state = 2 → s.retiring i.target = false →
        Answers .generationCommit s { nv := true, wgt := true, flt := true, fab := true, chans := true, hif := true } (fun t =>
          (t.pgen i.target).number = s.nv.largestGen + 1 ∧ (t.pgen i.target).committed = true ∧ t.nv.largestGen = s.nv.largestGen + 1 ∧
          (t.pgen i.target).state = (if s.settled then 3 else 2) ∧ t.wgt.install = none ∧ t.wgt.phase = 0 ∧ t.flt.unrestored = false)) ∧
      (i.roll = true →
        Answers .generationCommit s
          { nv := true, mem := true, poison := true, arrs := true, sites := true, wgt := true, vars := true, flt := true, fab := true,
            chans := true, hif := true } (fun t =>
          (t.gen i.target).state = 4 ∧ (t.gen i.target).number = s.nv.largestGen + 1 ∧ t.gen (!i.target) = {} ∧
          t.wgt.ptrValid = true ∧ t.wgt.liveSlot = i.target ∧ t.wgt.install = none))) ∧
  (∀ (s : State) (b : CmdBlock) (slot : Bool), s.pwr.off = false → b.par 0 1 = (if slot then 1 else 0) →
      (s.accepts ⟨0x21, true, [0, 18]⟩ false false b → s.rollHolds = false → s.wgt.install = none →
        ((s.projected.gen slot).state = 3 ∨ (s.projected.gen slot).state = 5) →
        Answers (.wgtSwitch b) s { nv := true, wgt := true, fab := true, chans := true, hif := true } (fun t =>
          t.wgt = { s.wgt with switchPending := s.wgt.switchPending ++ [(b.par 0 1, b.channel, b.cseq)] })) ∧
      (∀ c q (u : State), s.opening = true → s.wgt.switchPending = [(if slot then 1 else 0, c, q)] → u = s.settleDues.settleCommits →
        (u.gen slot).state = 3 ∨ (u.gen slot).state = 5 →
        Answers .genPointerMove s { wgt := true, fab := true, chans := true, hif := true } (fun t =>
          t.wgt.ptrValid = true ∧ t.wgt.liveSlot = slot ∧ (t.gen slot).state = 4 ∧ t.wgt.switchPending = [] ∧
          (t.gen (!slot)).state = if s.wgt.ptrValid = true ∧ s.wgt.liveSlot = !slot then
            (if 0 < s.pinned (u.gen (!slot)).number then 5 else 3) else (u.gen (!slot)).state)) ∧
      (s.opening = false → exec .genPointerMove s = .next s) ∧
      (s.accepts ⟨0x22, true, [0, 18]⟩ false false b → (s.projected.gen slot).state = 3 →
        s.projected.pinned (s.projected.gen slot).number = 0 → (s.projected.gen slot).fixed = false →
        Answers (.wgtRetire b) s { nv := true, wgt := true, fab := true, chans := true, hif := true } (fun t =>
          t.wgt = { s.wgt with retireDue := s.wgt.retireDue ++ [(b.par 0 1, b.channel, b.cseq)] })) ∧
      (s.accepts ⟨0x24, true, [0, 18]⟩ false false b → (s.projected.gen slot).state = 3 ∨ (s.projected.gen slot).state = 4 →
        Answers (.wgtFix b) s { nv := true, wgt := true, fab := true, chans := true, hif := true } (fun t =>
          (t.pgen slot).fixed = true ∧ t.pgen (!slot) = s.pgen (!slot))) ∧
      (∀ i, s.accepts ⟨0x23, true, [0, 18]⟩ false false b → s.wgt.install = some i → s.wgt.phase = 1 ∨ s.wgt.phase = 2 →
        (i.roll = false ∨ (s.gen (!i.target)).state ≠ 7) →
        Answers (.wgtAbort b) s { nv := true, arrs := true, wgt := true, fab := true, chans := true, hif := true } (fun t =>
          t.wgt.install = none ∧ t.wgt.phase = 0 ∧ t.wgt.status = 0x0B ∧ t.pgen i.target = abortedSlot i)))

/-- Adapter slots: a FREE slot of the issuer starts LOADING with its DRAM zeroed; an image that passes its checks makes it READY at the next
boundary, one that fails returns it to FREE; a READY slot retires. -/
def Obligations.AdapterSlots : Prop :=
  ∀ (s : State), s.pwr.off = false →
    (∀ b : CmdBlock, b.channel < 2 → s.accepts ⟨0x28, false, [0, 1] ++ vfChans⟩ false false b →
      (s.cfg 31).ownsSlot (b.par 0 2) = true → s.inReach 31 (b.par 8 8) (b.par 16 8) = true → s.lock.wSize ≠ 0 →
      b.par 16 8 ≤ ((s.cfg 31).adpPlace (b.par 0 2)).2 → (s.adp (b.par 0 2)).state = 0 →
      Answers (.adpLoad b) s { nv := true, mem := true, poison := true, adps := true, fab := true, chans := true, hif := true } (fun t =>
        t.adp (b.par 0 2) = { state := 1, channel := b.channel, cseq := b.cseq, limit := b.par 16 8 } ∧
        (∀ n, n ≠ b.par 0 2 → t.adp n = s.adp n) ∧
        (∀ a, t.mem.read a = if ((s.cfg 31).adpPlace (b.par 0 2)).1 ≤ a ∧
          a < ((s.cfg 31).adpPlace (b.par 0 2)).1 + ((s.cfg 31).adpPlace (b.par 0 2)).2 then 0 else s.mem.read a))) ∧
    (∀ slot head sig chunks c, s.adpCfg slot = some c → (s.adp slot).state = 1 → (s.adp slot).readyDue = false →
      (s.adapterStatus c (s.adp slot).limit (parseImage head sig) chunks = 0 →
        (parseImage head sig).chunkAreaSize ≤ (c.adpPlace slot).2 →
        Answers (.adpLoadDone slot head sig chunks) s { mem := true, host := true, poison := true, adps := true } (fun t =>
          (t.adp slot).readyDue = true ∧ (t.adp slot).state = 1 ∧ (t.adp slot).contract = (parseImage head sig).contractId ∧
          (∀ n, n ≠ slot → t.adp n = s.adp n))) ∧
      (s.adapterStatus c (s.adp slot).limit (parseImage head sig) chunks ≠ 0 →
        Answers (.adpLoadDone slot head sig chunks) s { adps := true, fab := true, chans := true, hif := true } (fun t =>
          t.adp slot = {} ∧ (∀ n, n ≠ slot → t.adp n = s.adp n)))) ∧
    (∀ slot, s.opening = true → (s.adp slot).state = 1 → (s.adp slot).readyDue = true →
      Answers (.adapterSlotReady slot) s { adps := true, fab := true, chans := true, hif := true } (fun t =>
        t.adp slot = { s.adp slot with state := 2, readyDue := false } ∧ (∀ n, n ≠ slot → t.adp n = s.adp n))) ∧
    (∀ slot, s.opening = false → exec (.adapterSlotReady slot) s = .next s) ∧
    (∀ b : CmdBlock, b.channel < 2 → s.accepts ⟨0x29, false, [0, 1] ++ vfChans⟩ false false b →
      (s.cfg 31).ownsSlot (b.par 0 2) = true → (s.adp (b.par 0 2)).state = 2 →
      Answers (.adpRetire b) s { nv := true, adps := true, fab := true, chans := true, hif := true } (fun t =>
        t.adp (b.par 0 2) = { s.adp (b.par 0 2) with state := 3 } ∧ (∀ n, n ≠ b.par 0 2 → t.adp n = s.adp n)))

/-! ## Variants and banks -/

/-- Resident variants: an EMPTY slot starts LOADING; an image that passes every check is stored, with the place of its sync page, which is zeroed; one that fails
leaves the slot EMPTY with the reason; a source silent for 1,024 ticks does too; a slot that is not armed is emptied. -/
def Obligations.VariantsLoadAndUnload : Prop :=
  ∀ (s : State), s.pwr.off = false →
    (∀ b : CmdBlock, s.accepts ⟨0x30, true, [0]⟩ false false b → b.par 0 1 ≤ 63 → b.par 1 1 ≤ 1 →
      s.sourceOk b (b.par 1 1) (b.par 4 2) = true → (s.var (b.par 0 1)).state = 0 → s.lock.vSize ≠ 0 →
      0x400000 + s.storedBytes + b.par 16 8 ≤ s.lock.vSize.toNat * 2 ^ 30 →
      Answers (.varLoad b) s { nv := true, vars := true, fab := true, chans := true, hif := true } (fun t =>
        t.var (b.par 0 1) = { state := 1, reason := (s.var (b.par 0 1)).reason, channel := b.channel, cseq := b.cseq,
                              limit := b.par 16 8, startTick := s.tick } ∧
        (∀ n, n ≠ b.par 0 1 → t.var n = s.var n))) ∧
    (∀ slot img, (s.var slot).state = 1 → badContainer img (s.var slot).limit = false → s.loadReason slot img = 0 →
      Answers (.varLoadChecksDone slot img) s { mem := true, poison := true, vars := true, fab := true, chans := true, hif := true } (fun t =>
        (t.var slot).state = 2 ∧ (t.var slot).img = some (s.relocated slot img) ∧ (∀ n, n ≠ slot → t.var n = s.var n) ∧
        (∀ a, t.mem.read a = if s.syncPage slot ≤ a ∧ a < s.syncPage slot + 0x10000 then 0 else s.mem.read a))) ∧
    (∀ slot img, (s.var slot).state = 1 → badContainer img (s.var slot).limit = false → s.loadReason slot img ≠ 0 →
      Answers (.varLoadChecksDone slot img) s { vars := true, fab := true, chans := true, hif := true } (fun t =>
        t.var slot = { reason := s.loadReason slot img } ∧ (∀ n, n ≠ slot → t.var n = s.var n))) ∧
    (∀ slot, (s.var slot).state = 1 → (s.var slot).startTick + 1024 ≤ s.tick →
      Answers (.varLoadSourceTimeout slot) s { vars := true, fab := true, chans := true, hif := true } (fun t =>
        t.var slot = { reason := (s.var slot).reason } ∧ (∀ n, n ≠ slot → t.var n = s.var n))) ∧
    (∀ b : CmdBlock, s.accepts ⟨0x31, true, [0]⟩ false false b → b.par 0 1 ≤ 63 →
      ((s.var (b.par 0 1)).state = 2 ∨ (s.var (b.par 0 1)).state = 3) → s.slotArmed (b.par 0 1) = false →
      Answers (.varUnload b) s { nv := true, mem := true, poison := true, vars := true, fab := true, chans := true, hif := true } (fun t =>
        t.var (b.par 0 1) = { reason := (s.var (b.par 0 1)).reason } ∧ (∀ n, n ≠ b.par 0 1 → t.var n = s.var n) ∧
        (∀ a, t.mem.read a = if s.syncPage (b.par 0 1) ≤ a ∧ a < s.syncPage (b.par 0 1) + 0x10000 then 0 else s.mem.read a)))

/-- Score banks: a bank that is not running starts ARMING with its slot and gap-route set; once its copy is complete it holds the variant's
scores and bodies, ARMED, or RUNNING where the engine is held and no bank runs; one whose variant has gone STALE meanwhile, and one that is disarmed
and not running, is freed. -/
def Obligations.BanksArmAndDisarm : Prop :=
  ∀ (s : State), s.pwr.off = false →
    (∀ (b : CmdBlock) (v : VariantImage), s.accepts ⟨0x32, false, [0, 1]⟩ false false b → b.par 0 1 ≤ 63 → b.par 1 1 ≤ 3 →
      (s.var (b.par 0 1)).img = some v → (s.var (b.par 0 1)).state = 2 → b.par 2 1 ≤ v.gapSets → s.yielding v = false →
      (s.bank (b.par 1 1)).state ≠ 1 → (s.bank (b.par 1 1)).state ≠ 3 →
      Answers (.varArm b) s { nv := true, banks := true, fab := true, chans := true, hif := true } (fun t =>
        t.bank (b.par 1 1) = { state := 1, slot := b.par 0 1, gapSet := BitVec.ofNat 3 (b.par 2 1), channel := b.channel, cseq := b.cseq } ∧
        (∀ n, n ≠ b.par 1 1 → t.bank n = s.bank n))) ∧
    (∀ (k : Nat) (v : VariantImage), (s.bank k).state = 1 → (s.var (s.bank k).slot).img = some v → (s.var (s.bank k).slot).state = 2 →
      Answers (.armComplete k) s { clk := true, banks := true, eng := true, mesh := true, fab := true, chans := true, hif := true } (fun t =>
        (t.bank k).variantId = v.variantId ∧ (t.bank k).west = v.west ∧ (t.bank k).east = v.east ∧
        (t.bank k).scores = v.scores.map (withGap v (s.bank k).gapSet.toNat) ∧
        (t.bank k).slot = (s.bank k).slot ∧ (∀ n, n ≠ k → t.bank n = s.bank n) ∧
        (s.held = true → (∀ n < 4, (s.bank n).state ≠ 3) → (t.bank k).state = 3 ∧ t.eng = { s.eng with bank := k } ∧ t.clk.plan = v.plan) ∧
        (s.held = false ∨ (∃ n < 4, (s.bank n).state = 3) →
          (t.bank k).state = 2 ∧ t.eng = s.eng ∧ t.clk = s.clk ∧ t.mesh = s.mesh))) ∧
    (∀ k : Nat, (s.bank k).state = 1 → (s.var (s.bank k).slot).state ≠ 2 →
      Answers (.armComplete k) s { banks := true, fab := true, chans := true, hif := true } (fun t =>
        t.bank k = {} ∧ (∀ n, n ≠ k → t.bank n = s.bank n))) ∧
    (∀ b : CmdBlock, s.accepts ⟨0x33, false, [0, 1]⟩ false false b → b.par 0 1 ≤ 3 → (s.bank (b.par 0 1)).state ≠ 1 →
      (s.bank (b.par 0 1)).state ≠ 3 →
      Answers (.varDisarm b) s { nv := true, banks := true, fab := true, chans := true, hif := true } (fun t =>
        t.bank (b.par 0 1) = {} ∧ (∀ n, n ≠ b.par 0 1 → t.bank n = s.bank n)))

/-! ## What waits for a boundary -/

/-- Partition records, resets, the profile and egress keys take effect at a boundary, all but the last also in a hold, and not between: the
last record of an owner is in force and recorded, a reset ends every sequence of the partition, loses its keys and starts zeroing its areas,
which then read zero. -/
def Obligations.PartitionChangesTakeEffect : Prop :=
  ∀ (s : State) (p : Nat), s.pwr.off = false →
    (∀ (l : List (PartCfg × Nat × BitVec 4)) (e : PartCfg × Nat × BitVec 4), (s.part p).cfgDue = l ++ [e] → (s.part p).resetDue = none →
      s.settled = true → Answers (.partitionConfigApply p) s
        { nv := true, adps := true, frames := true, sweeps := true, seqs := true, parts := true, srv := true, fab := true,
          chans := true, hif := true } (fun t =>
        (t.part p).cfg = some e.1 ∧ (t.part p).cfgDue = [] ∧ t.nv.partCfgs.get none p = some e.1)) ∧
    (∀ unconf n cmds, p < 16 → (s.part p).resetDue = some (unconf, n, cmds) → (s.part p).cfgDue = [] →
      s.settled = true → Answers (.partitionResetApply p) s
        { nv := true, adps := true, frames := true, sweeps := true, seqs := true, parts := true, srv := true, fab := true,
          chans := true, hif := true, sec := true } (fun t =>
        (t.part p).zeroing = some (unconf, cmds) ∧ (t.part p).resetDue = none ∧ (t.part p).cmdKey = none ∧
        (t.part p).egressKey = none ∧ (t.part p).rings = {} ∧ (unconf = true → (t.part p).cfg = none) ∧
        (∀ i, (s.seq i).partition = p → (t.seq i).state = 0) ∧ t.spdm (2 + p) = {})) ∧
    (∀ unconf cmds c, (s.part p).zeroing = some (unconf, cmds) → (s.part p).zeroCfg = some c →
      Answers (.partitionZeroingDone p) s
        { mem := true, poison := true, adps := true, parts := true, fab := true, chans := true, hif := true } (fun t =>
        (∀ a, (∃ r ∈ c.areas, r.1 ≤ a ∧ a < r.1 + r.2) → t.mem.read a = 0) ∧
        (∀ a, (∀ r ∈ c.areas, ¬(r.1 ≤ a ∧ a < r.1 + r.2)) → t.mem.read a = s.mem.read a) ∧
        t.part p = { s.part p with zeroing := none, zeroCfg := none } ∧ (∀ q, q ≠ p → t.part q = s.part q))) ∧
    (∀ l e, s.sec.profilePending = l ++ [e] → s.settled = true →
      Answers .profileChange s { nv := true, fab := true, chans := true, hif := true, sec := true } (fun t =>
        t.nv = { s.nv with profileShared := e.1 } ∧ t.sec = { s.sec with profilePending := [] })) ∧
    (s.settled = false → ∀ c ∈ [Instr.partitionConfigApply p, .partitionResetApply p, .profileChange], exec c s = .next s) ∧
    (s.opening = false → exec (.egressKeyApply p) s = .next s) ∧
    (∀ l k, (s.part p).egressDue = l ++ [k] → s.opening = true →
      Answers (.egressKeyApply p) s { parts := true } (fun t =>
        (t.part p).egressKey = some k ∧ (t.part p).egressCtr = 0 ∧ (t.part p).egressDue = [] ∧
        (t.part p).epoch = (s.part p).epoch + BitVec.ofNat 16 (l.length + 1) ∧ (∀ q, q ≠ p → t.part q = s.part q)))

/-! ## The operations of the sites -/

/-- Array cycles of weight tiles: where the bundle asks for it, a MAC adds the plane partial of its row group, quarter and plane, times the
plane weight, to the ACC24 of every weight of the logical arrays it names, a SWEEP those of all its planes; no other register changes, and
shadows that agreed still do; this where no sum leaves 24 bits, the check columns agree and no activation is poisoned. -/
def Obligations.ArrayCyclesAccumulate : Prop :=
  ∀ (s : State) (k b : Nat) (f : ArrayField), s.pwr.off = false → b = bankOf f.accBank (s.parity k) →
    (s.doesArray k 1 f = true → arrayFieldOk 1 f = true → s.cyclesSound k f b [(f.rg.toNat, f.q.toNat, f.plane.toNat)] →
      Answers (.mac k f) s { acc24 := true, shadow := true, sites := true } (fun t =>
        s.cyclesDone t k f b [(f.rg.toNat, f.q.toNat, f.plane.toNat)])) ∧
    (s.doesArray k 2 f = true → arrayFieldOk 2 f = true → s.cyclesSound k f b (sweepCycles f) →
      Answers (.sweep k f) s { acc24 := true, shadow := true, sites := true } (fun t => s.cyclesDone t k f b (sweepCycles f)))

/-- Accumulators of weight tiles: PROMOTE sets or adds every ACC24 of its bank into its ACC48, shifted by 8 bits where asked for, and clears
it; REDUCE adds the members of each stack group into its first; PROMOTE_REDUCE is the one and then the other; CLEAR zeroes the tile's
ACC48. Each where the shadows agree and no sum leaves 48 bits; other registers keep their values. In a lane that holds the first of two runs
nothing is reduced. -/
def Obligations.PromotionsAndReductions : Prop :=
  ∀ (s : State) (k b : Nat) (f : AccField) (shift add : Bool) (x : Nat → Nat → Int) (n : Nat), s.pwr.off = false →
    b = bankOf f.bank (s.parity k) → n = 2 ^ stackLog (s.scoreAt k).tmode →
    (∀ l j, x l j = (if add then s.a48 k l j else 0) + s.a24 k l b j * (if shift then 256 else 1)) →
    (s.doesAcc k 1 f = true → promoteMode f (s.kindAt k) = some (shift, add) →
      (∀ l < 16, ∀ j < 2048, s.true24 k l b j ∧ fits 48 (x l j)) →
      Answers (.promote k f) s { acc24 := true, acc48 := true, shadow := true, sites := true } (fun t =>
        (∀ l < 16, ∀ j < 2048, t.a48 k l j = x l j ∧ t.a24 k l b j = 0 ∧ (s.true48 k l j → t.true48 k l j)) ∧
        (∀ a, (∀ l < 16, ∀ j < 2048, a ≠ key48 k l j) → t.acc48.get 0 a = s.acc48.get 0 a) ∧
        (∀ a, (∀ l < 16, ∀ j < 2048, a ≠ key24 k l b j) → t.acc24.get 0 a = s.acc24.get 0 a) ∧
        (∀ j, j ≠ k → t.site j = s.site j))) ∧
    (s.doesAcc k 2 f = true → promoteMode f (s.kindAt k) = some (shift, add) →
      (∀ l < 16, ∀ j < 2048, s.true24 k l b j ∧ (add = true → s.true48 k l j) ∧ fits 48 (x l j)) →
      (∀ g < 16 / n, ∀ j < 2048, ∀ i ≤ n, fits 48 (((List.range i).map (fun m => x (g * n + m) j)).sum)) →
      Answers (.promoteReduce k f) s { acc24 := true, acc48 := true, shadow := true, sites := true } (fun t =>
        (∀ l < 16, ∀ j < 2048, t.a24 k l b j = 0 ∧ (l % n ≠ 0 ∨ heldBack (s.kindAt k) = true → t.a48 k l j = x l j)) ∧
        (heldBack (s.kindAt k) = false → ∀ g < 16 / n, ∀ j < 2048,
          t.a48 k (g * n) j = ((List.range n).map (fun m => x (g * n + m) j)).sum) ∧
        (∀ a, (∀ l < 16, ∀ j < 2048, a ≠ key48 k l j) → t.acc48.get 0 a = s.acc48.get 0 a) ∧
        (∀ a, (∀ l < 16, ∀ j < 2048, a ≠ key24 k l b j) → t.acc24.get 0 a = s.acc24.get 0 a) ∧
        (∀ j, j ≠ k → t.site j = s.site j))) ∧
    (promoteMode f (s.kindAt k) = none → exec (.promote k f) s = .next s ∧ exec (.promoteReduce k f) s = .next s) ∧
    (s.doesAcc k 3 f = true → heldBack (s.kindAt k) = false → (∀ l < 16, ∀ j < 2048, s.true48 k l j) →
      (∀ g < 16 / n, ∀ j < 2048, ∀ i ≤ n, fits 48 (((List.range i).map (fun m => s.a48 k (g * n + m) j)).sum)) →
      Answers (.reduce k f) s { acc48 := true, shadow := true } (fun t =>
        (∀ g < 16 / n, ∀ j < 2048, t.a48 k (g * n) j = ((List.range n).map (fun m => s.a48 k (g * n + m) j)).sum) ∧
        (∀ a, (∀ g < 16 / n, ∀ j < 2048, a ≠ key48 k (g * n) j) → t.acc48.get 0 a = s.acc48.get 0 a))) ∧
    (heldBack (s.kindAt k) = true → exec (.reduce k f) s = .next s) ∧
    (s.doesAcc k 7 f = true →
      Answers (.clear k f) s { acc48 := true, shadow := true } (fun t =>
        (∀ l < 16, ∀ j < 2048, t.a48 k l j = 0 ∧ t.true48 k l j) ∧
        (∀ a, (∀ l < 16, ∀ j < 2048, a ≠ key48 k l j) → t.acc48.get 0 a = s.acc48.get 0 a)))

/-- Words of weight tiles: MERGE adds the partial words the route has delivered, channel by channel, into their ACC48; EMIT hands the ACC48 of
the channels to the router as partial words; CONVERT hands their converted values, times the channel's and the token's scales, rounded once,
with the words of a partial buffer merged first where it is asked to; a scale that is not finite is a format fault of the lane, and the value
made with it a free finite one. In a lane that holds the first of two runs none of them acts. -/
def Obligations.PartialWordsAndConversion : Prop :=
  ∀ (s u : State) (k : Nat) (f : AccField) (place : Nat → Option (Nat × Nat × Nat)) (word : Nat → W64) (sc : Nat → Nat) (st : Nat) (o : FFmt),
    s.pwr.off = false → (s.site k).poisonIn = false → u = s.fillBuffer k (bankOf f.buf (s.parity k)) f →
    (∀ c, place c = chanPlace (s.scoreAt k).tmode (s.scoreAt k).tafmt c) → o = outFmt (s.scoreAt k).tmode →
    (∀ c, word c = BitVec.ofNat 64 (u.mem.readLE
      (siteBase k + (s.scoreAt k).addrs.getD ((f.areg.toNat + bankOf f.buf (s.parity k)) % 64) 0 + 8 * (c - f.base.toNat)) 8)) →
    (∀ c, sc c = u.mem.readLE (siteBase k + 0x8000 + 2 * c) 2) → st = u.mem.readLE (siteBase k + 0x18000 + 8 * (s.site k).promoted) 4 →
    (∀ ws, s.doesAcc k 4 f = true → ws = (s.site k).inbox.take (f.count.toNat + 1) → heldBack (s.kindAt k) = false →
      (∀ i w l j fmt, ws[i]? = some w → place (f.base.toNat + i) = some (l, j, fmt) →
        ∃ v, partialValue w = some v ∧ fits 48 (s.a48 k l j + v)) →
      Answers (.merge k f) s { acc48 := true, shadow := true, sites := true } (fun t =>
        (∀ i w l j fmt v, ws[i]? = some w → place (f.base.toNat + i) = some (l, j, fmt) → partialValue w = some v →
          t.a48 k l j = s.a48 k l j + v) ∧
        (∀ a, (∀ i l j fmt, i < ws.length → place (f.base.toNat + i) = some (l, j, fmt) → a ≠ key48 k l j) →
          t.acc48.get 0 a = s.acc48.get 0 a) ∧
        t.site k = { s.site k with inbox := (s.site k).inbox.drop (f.count.toNat + 1) } ∧ (∀ j, j ≠ k → t.site j = s.site j))) ∧
    (s.doesAcc k 5 f = true → heldBack (s.kindAt k) = false →
      (∀ c ∈ channelsOf f, ∀ l j fmt, place c = some (l, j, fmt) → s.true48 k l j) →
      Answers (.emit k f) s { sites := true } (fun t =>
        t.site k = { s.site k with
          outbox := (s.site k).outbox ++ (channelsOf f).filterMap (fun c => (place c).map (fun e => BitVec.ofInt 64 (s.a48 k e.1 e.2.1))) } ∧
        (∀ j, j ≠ k → t.site j = s.site j))) ∧
    (s.doesAcc k 6 f = true → heldBack (s.kindAt k) = false → f.mergeIn = false → fp32.finite st = true →
      (∀ c ∈ channelsOf f, ∀ l j fmt, place c = some (l, j, fmt) → s.true48 k l j ∧ bf16.finite (sc c) = true) →
      Answers (.convert k f) s { sites := true } (fun t =>
        t.site k = { s.site k with
          outbox := (s.site k).outbox ++ wordsOf ((channelsOf f).flatMap (fun c => (place c).elim [] (fun e =>
            leBytes o.bytes (convertValue o (s.a48 k e.1 e.2.1) (sc c) st e.2.2)))) } ∧
        (∀ j, j ≠ k → t.site j = s.site j))) ∧
    (∀ val : Nat → Int, s.doesAcc k 6 f = true → heldBack (s.kindAt k) = false → f.mergeIn = true → fp32.finite st = true →
      (∀ c ∈ channelsOf f, ∀ l j fmt, place c = some (l, j, fmt) →
        s.true48 k l j ∧ bf16.finite (sc c) = true ∧ partialValue (word c) = some (val c) ∧ fits 48 (s.a48 k l j + val c) ∧
        u.poisoned (siteBase k + (s.scoreAt k).addrs.getD ((f.areg.toNat + bankOf f.buf (s.parity k)) % 64) 0 + 8 * (c - f.base.toNat)) 8
          = false) →
      Answers (.convert k f) s { mem := true, host := true, poison := true, acc48 := true, shadow := true, sites := true } (fun t =>
        t.mem = u.mem ∧ t.host = u.host ∧
        (∀ c ∈ channelsOf f, ∀ l j fmt, place c = some (l, j, fmt) → t.a48 k l j = s.a48 k l j + val c) ∧
        (∀ a, (∀ c ∈ channelsOf f, ∀ l j fmt, place c = some (l, j, fmt) → a ≠ key48 k l j) → t.acc48.get 0 a = s.acc48.get 0 a) ∧
        t.site k = { u.site k with
          outbox := (s.site k).outbox ++ wordsOf ((channelsOf f).flatMap (fun c => (place c).elim [] (fun e =>
            leBytes o.bytes (convertValue o (s.a48 k e.1 e.2.1 + val c) (sc c) st e.2.2)))) } ∧
        (∀ j, j ≠ k → t.site j = s.site j))) ∧
    (∀ nx j c d, s.doesAcc k 6 f = true → heldBack (s.kindAt k) = false → f.mergeIn = false → s.laneOf k = some (nx, j) →
      (∀ c ∈ channelsOf f, ∀ l i fmt, place c = some (l, i, fmt) → s.true48 k l i) →
      c ∈ channelsOf f → place c = some d → (fp32.finite st = false ∨ bf16.finite (sc c) = false) →
      Answers (.convert k f) s { freeCount := true, sites := true, cur := true, nxt := true } (fun t =>
        t.stepLanes (!nx) = s.stepLanes (!nx) ∧
        t.stepLanes nx = (s.stepLanes nx).modify (resultLane (s.stepLanes nx) j) Lane.formatFaulted ∧
        ∃ y : Nat → Nat, (∀ c e, c ∈ channelsOf f → place c = some e →
            o.finite (y c) = true ∨ y c = convertValue o (s.a48 k e.1 e.2.1) (sc c) st e.2.2 ∧ fp32.finite st = true ∧ bf16.finite (sc c) = true) ∧
          (t.site k).outbox = (s.site k).outbox ++ wordsOf ((channelsOf f).flatMap (fun c => (place c).elim [] (fun _ =>
            leBytes o.bytes (y c)))))) ∧
    (heldBack (s.kindAt k) = true →
      exec (.merge k f) s = .next s ∧ exec (.emit k f) s = .next s ∧ exec (.convert k f) s = .next s)

/-- The fixed exponential of R208: below 4,864 it is T[delta mod 256] shifted right by delta div 256, where T[r] is the integer nearest to
2^18 * 2^(-r/256) and none lies on a tie (the bounds are those of the half-integers on either side, raised to the 256th power); from
4,864 on it is 0. -/
def Obligations.FixedExponentialRounds : Prop :=
  (∀ delta : Nat, delta < 4864 →
    ∃ T : Nat, (2 * T - 1) ^ 256 < 2 ^ (19 * 256 - delta % 256) ∧ 2 ^ (19 * 256 - delta % 256) < (2 * T + 1) ^ 256 ∧
      fixedExp delta = T >>> (delta / 256)) ∧
  (∀ delta : Nat, 4864 ≤ delta → fixedExp delta = 0) ∧
  fixedExp 0 = 262144 ∧ fixedExp 128 = 185364 ∧ fixedExp 255 = 131427

/-- Attention of KV cores, where the bundle asks for it: QLOAD puts a head slot's queries, taken from the route, into integer form; KVAPPEND
writes the lane's key and value at its position, with the value exponent; SCORE takes the scores of the lane's key set and their maxima;
EXPSUM the sums of the second pass under the maxima of the head group and the ring; FINISH divides the group's sums at group index 0; ZERO
clears the core's scratch. What a core computes for a ring lane it also hands to the route. A score scale that lies where the core may not
read is an address fault. -/
def Obligations.KvCoresAttend : Prop :=
  ∀ (s : State) (k : Nat) (f : KvField) (r : ScoreRec) (h fmt : Nat), s.pwr.off = false →
    (s.site k).poisonIn = false → r = s.scoreAt k → h = f.head.toNat → fmt = kvFmt r.kvMode →
    (∀ (q : FFmt) (code : Nat) (v : List (List Nat) × State), s.doesKv k 1 f = true →
      code = s.queryFmt (match s.laneAt k with | some l => l.owner | none => 31) → fmtOf code = some q →
      v = s.takeVecs k (kvG r.kvMode) q (elemBytes code) → (∀ e ∈ v.1, e.all q.finite = true) →
      Answers (.qload k f) s { sites := true, kvs := true } (fun t =>
        t.kv k = { s.kv k with q := setAt [] (s.kv k).q h (v.1.map (fun e => intForm (e.map q.val))) } ∧
        t.site k = { s.site k with inbox := (s.site k).inbox.drop ((kvG r.kvMode * 128 * elemBytes code + 7) / 8) } ∧
        (∀ j, j ≠ k → t.kv j = s.kv j ∧ t.site j = s.site j))) ∧
    (∀ (key value : List W32) (l : Lane) (u p slice : Nat), s.doesKv k 2 f = true → s.laneAt k = some l →
      s.localFrame r (s.seq l.idx) (l.pos / 16) = some u → p = l.pos % 16 → slice = (sliceAt k r.kvMode u h).1 → h < kvHeads r.kvMode →
      fmt ∈ [0x07, 0x08, 0x0C, 0x0D, 0x0E] → (u * kvHeads r.kvMode + h + 1) * sliceBytes fmt ≤ 0x380000 →
      key.length = 128 → value.length = 128 → key.all finite32 = true → value.all finite32 = true →
      Answers (.kvappend k f key value) s { mem := true, poison := true } (fun t =>
        t.mem.readBytes (slice + (vecAt fmt false p).1) (elemLen fmt) = (vecEncode fmt (key.map (fun x => fp32.val x.toNat))).1 ∧
        t.mem.readBytes (slice + (vecAt fmt true p).1) (elemLen fmt) = (vecEncode fmt (value.map (fun x => fp32.val x.toNat))).1 ∧
        (isMx fmt = true →
          t.mem.readBytes (slice + (vecAt fmt false p).2) 4 = (vecEncode fmt (key.map (fun x => fp32.val x.toNat))).2 ∧
          t.mem.readBytes (slice + (vecAt fmt true p).2) 4 = (vecEncode fmt (value.map (fun x => fp32.val x.toNat))).2) ∧
        t.mem.read ((sliceAt k r.kvMode u h).2 + p) = BitVec.ofInt 8 (intForm (t.readVec slice fmt true p).1).1 ∧
        (∀ a, ¬(slice ≤ a ∧ a < slice + sliceBytes fmt) → a ≠ (sliceAt k r.kvMode u h).2 + p → t.mem.read a = s.mem.read a))) ∧
    (∀ (l : Lane) (sg : W32), s.doesKv k 3 f = true → s.laneAt k = some l → s.okUnit k (s.operandAt k f.areg) 4 = true →
      sg = BitVec.ofNat 32 (s.rdLE (s.operandAt k f.areg) 4) → finite32 sg = true → s.poisonedKeys k = false →
      (∀ e ∈ s.keySet r l, (s.readVec (sliceAt k r.kvMode e.2.1 h).1 fmt false e.2.2).2 = true) →
      Answers (.score k f) s { sites := true, kvs := true } (fun t =>
        (t.kv k).scores.getD h [] = ((s.kv k).q.getD h []).map (fun q => (s.keySet r l).map (fun e =>
          (e.1, scoreOf sg q (intForm (s.readVec (sliceAt k r.kvMode e.2.1 h).1 fmt false e.2.2).1)))) ∧
        (t.kv k).m.getD h [] = ((t.kv k).scores.getD h []).map (fun z => maxInt? (z.map (·.2))) ∧
        (t.kv k).e.getD h none = maxInt? ((s.keySet r l).map (fun e => (s.mem.read ((sliceAt k r.kvMode e.2.1 h).2 + e.2.2)).toInt)) ∧
        (∀ g, g ≠ h → (t.kv k).scores.getD g [] = (s.kv k).scores.getD g []) ∧ (t.kv k).q = (s.kv k).q ∧
        t.site k = { s.site k with outbox := (s.site k).outbox ++ (if s.ringLane l then
          (((t.kv k).m.getD h []).flatMap (fun m => [m.getD noMax, ((t.kv k).e.getD h none).getD noMax])).map (BitVec.ofInt 64) else []) } ∧
        (∀ j, j ≠ k → t.kv j = s.kv j ∧ t.site j = s.site j))) ∧
    (∀ (l : Lane), s.doesKv k 3 f = true → s.laneAt k = some l → s.okUnit k (s.operandAt k f.areg) 4 = false →
      exec (.score k f) s = .next (s.addressFault k)) ∧
    (∀ (l : Lane) (i : Nat) (m e : Int) (ws : List Int), s.doesKv k 4 f = true → s.laneAt k = some l → s.poisonedKeys k = false →
      ws = s.ringWords k l (2 * kvG r.kvMode) → i < ((s.kv k).q.getD h []).length →
      (∀ x ∈ s.keySet r l, (s.readVec (sliceAt k r.kvMode x.2.1 h).1 fmt true x.2.2).2 = true) →
      ((s.headGroup r).map (fun x => ((s.kv x.site).m.getD h []).getD i none)).foldl maxOpt (ringMax ws (kvG r.kvMode) i).1 = some m →
      ((s.headGroup r).map (fun x => (s.kv x.site).e.getD h none)).foldl maxOpt
        ((List.range (kvG r.kvMode)).foldl (fun a i => maxOpt a (ringMax ws (kvG r.kvMode) i).2) none) = some e →
      Answers (.expsum k f) s { sites := true, kvs := true } (fun t =>
        (((t.kv k).num.getD h []).getD i [], ((t.kv k).den.getD h []).getD i 0) =
          ((((s.kv k).scores.getD h []).getD i []).zip (s.keySet r l)).foldl
            (fun (a : List Int × Int) (x : (Nat × Int) × (Nat × Nat × Nat)) =>
              let ev := (s.mem.read ((sliceAt k r.kvMode x.2.2.1 h).2 + x.2.2.2)).toInt
              attendTerm m e a (x.1.2, ev, (s.readVec (sliceAt k r.kvMode x.2.2.1 h).1 fmt true x.2.2.2).1.map (fun v =>
                clampInt (-127) 127 (rneScaled v.m 1 (v.e + 6 - ev))))) (List.replicate 128 0, 0) ∧
        (t.kv k).e.getD h none = some e ∧ (t.kv k).scores = (s.kv k).scores ∧
        (s.ringLane l = false → t.site k = s.site k) ∧
        (s.ringLane l = true → t.site k = { s.site k with
          inbox := (s.site k).inbox.drop (s.ringCount k l (2 * kvG r.kvMode))
          outbox := (s.site k).outbox ++
            ((((t.kv k).den.getD h []).zip ((t.kv k).num.getD h [])).flatMap (fun x => x.1 :: x.2)).map (BitVec.ofInt 64) }) ∧
        (∀ j, j ≠ k → t.kv j = s.kv j ∧ t.site j = s.site j))) ∧
    (∀ (l : Lane) (e : Int), s.doesKv k 5 f = true → s.laneAt k = some l → kvGidx r.kvMode = 0 → (s.kv k).e.getD h none = some e →
      (∀ i < ((s.kv k).q.getD h []).length, (s.groupSums k h i l).2 ≠ 0) →
      Answers (.finish k f) s { sites := true } (fun t =>
        t.site k = { s.site k with
          inbox := if s.ringLane l then (s.site k).inbox.drop (s.ringCount k l (129 * kvG r.kvMode)) else (s.site k).inbox
          outbox := (s.site k).outbox ++ fp32Words ((List.range ((s.kv k).q.getD h []).length).flatMap (fun i =>
            (s.groupSums k h i l).1.map (attendOut e (s.groupSums k h i l).2))) } ∧
        (∀ j, j ≠ k → t.site j = s.site j))) ∧
    (kvGidx r.kvMode ≠ 0 → exec (.finish k f) s = .next s) ∧
    (s.doesKv k 9 f = true → Answers (.zero k f) s { kvs := true } (fun t => t.kv k = {} ∧ (∀ j, j ≠ k → t.kv j = s.kv j)))

/-- Pages of KV cores: PAGEIN writes the head slices of a canonical page, of DRAM or of a cold object that opens, into a local frame of the
sequence that resumes, and gives the frame the layout of the variant that runs; PAGEOUT writes those of a sequence that parks into DRAM, or
seals the page once no core has it left to write, each striking the page off; a cold object that does not open ends its request; RESHARD
copies one sweep page to the decode cores that hold its frame, and notes the move. -/
def Obligations.KvPagesMove : Prop :=
  ∀ (s : State) (k : Nat) (f : KvField) (u addr : Nat) (r : ScoreRec) (v : VariantImage) (n page layer : Nat), s.pwr.off = false →
    r = s.scoreAt k → s.runImg = some v → n = sliceBytes (kvFmt r.kvMode) →
    (∀ i len bs, s.doesKv k 6 f = true → s.pageOwner 5 k u = some i → (s.seq i).parkFmt.toNat = kvFmt r.kvMode →
      s.pageAt r (s.seq i) u = some (page, layer) → r.site = k →
      ((s.seq i).tier ≠ 2 ∧ len = v.kvHeadCount * n ∧ bs = s.rdBytes addr len ∨
        (s.seq i).tier = 2 ∧ len = 32 + v.kvHeadCount * n + 16 ∧ s.openCold i layer page addr = some bs ∧ v.kvHeadCount * n ≤ bs.length) →
      s.okDram addr len = true → s.poisoned addr len = false → (∀ e ∈ coreHeads r, e.2 < v.kvHeadCount) →
      (u + 1) * kvHeads r.kvMode * n ≤ 0x380000 → 16 * (u + 1) * kvHeads r.kvMode ≤ 0xC000 →
      Answers (.pagein k f u addr) s { mem := true, poison := true, frames := true, seqs := true, srv := true } (fun t =>
        (∀ e ∈ coreHeads r, t.mem.readBytes (sliceAt k r.kvMode u e.1).1 n = (bs.drop (e.2 * n)).take n) ∧
        t.seq i = { s.seq i with pagesLeft := (s.seq i).pagesLeft.filter (fun e => !decide (e = (k, u))) } ∧
        (∀ j, j ≠ i → t.seq j = s.seq j) ∧
        (∀ e, (s.seq i).frames.find? (fun e => decide (e.1 = page)) = some e →
          t.frame e.2 = { s.frame e.2 with layout := (s.layoutId v).1 } ∧ (∀ g, g ≠ e.2 → t.frame g = s.frame g) ∧
          t.srv = (s.layoutId v).2.srv) ∧
        ((s.seq i).frames.find? (fun e => decide (e.1 = page)) = none → t.frames = s.frames ∧ t.srv = s.srv) ∧
        (∀ a, ¬(siteBase k ≤ a ∧ a < siteBase k + 0x38C000) → t.mem.read a = s.mem.read a))) ∧
    (∀ i, s.doesKv k 6 f = true → s.pageOwner 5 k u = some i → (s.seq i).parkFmt.toNat = kvFmt r.kvMode →
      s.pageAt r (s.seq i) u = some (page, layer) → (s.seq i).tier = 2 → s.okDram addr (32 + v.kvHeadCount * n + 16) = true →
      s.poisoned addr (32 + v.kvHeadCount * n + 16) = false → s.openCold i layer page addr = none →
      Answers (.pagein k f u addr) s { seqs := true, parts := true } (fun t =>
        t.seq i = { s.seq i with endDue := 0x19 } ∧ (∀ j, j ≠ i → t.seq j = s.seq j) ∧
        t.part (s.seq i).partition =
          { s.part (s.seq i).partition with sealFaults := satInc (s.part (s.seq i).partition).sealFaults })) ∧
    (∀ i, s.doesKv k 7 f = true → s.pageOwner 3 k u = some i → s.pageAt r (s.seq i) u = some (page, layer) → r.site = k →
      (∀ l ∈ s.cur.lanes ++ s.nxt.lanes, l.ran = true → l.idx = i → l.handle ≠ s.handleOf i) →
      ((s.seq i).tier ≠ 2 → s.okDram addr (v.kvHeadCount * n) = true → (s.cfg (s.seq i).partition).parkArea.1 ≤ addr →
        addr + v.kvHeadCount * n ≤ (s.cfg (s.seq i).partition).parkArea.1 + (s.cfg (s.seq i).partition).parkArea.2 →
        (∀ e ∈ coreHeads r, e.2 < v.kvHeadCount) → ((coreHeads r).map (·.2)).Nodup → (u + 1) * kvHeads r.kvMode * n ≤ 0x380000 →
        Answers (.pageout k f u addr) s { mem := true, poison := true, seqs := true } (fun t =>
          (∀ e ∈ coreHeads r, t.mem.readBytes (addr + e.2 * n) n = s.mem.readBytes (sliceAt k r.kvMode u e.1).1 n) ∧
          t.seq i = { s.seq i with pagesLeft := (s.seq i).pagesLeft.filter (fun e => !decide (e = (k, u))) } ∧
          (∀ j, j ≠ i → t.seq j = s.seq j) ∧
          (∀ a, ¬(addr ≤ a ∧ a < addr + v.kvHeadCount * n) → t.mem.read a = s.mem.read a))) ∧
      ((s.seq i).tier = 2 →
        Answers (.pageout k f u addr) s { seqs := true, parts := true, fab := true } (fun t =>
          t.seq i = { s.seq i with
            pagesLeft := (s.seq i).pagesLeft.filter (fun e => !decide (e = (k, u)))
            parkCtr := if (s.seq i).pagesLeft.length = (s.pagePlaces (s.seq i)).length then (s.part (s.seq i).partition).egressCtr
              else (s.seq i).parkCtr } ∧
          (∀ j, j ≠ i → t.seq j = s.seq j) ∧ (∀ p, p ≠ (s.seq i).partition → t.part p = s.part p) ∧
          ((t.seq i).pagesLeft.any (fun e => decide (s.pageAt (s.scoreAt e.1) (s.seq i) e.2 = some (page, layer))) = true →
            t.fab = s.fab ∧ t.parts = s.parts)))) ∧
    (∀ (x : Reshard) (fr : Nat), s.doesKv k 8 f = true → kvRole r.kvMode = 2 → r.site = k →
      s.srv.reshards.findSome? (fun x => (s.nextMove x).map (fun n => (x, n))) = some (x, page) →
      s.pageAt r (s.seq x.idx) u = some (page, layer) → s.frameOf (s.seq x.idx) page = some fr →
      (page, layer) ∉ x.done → (page, layer) ∉ x.moved → (s.frame fr).layout = (s.layoutId v).1 →
      ((s.movedIn k).length < v.reshardRate ∨ (x.idx, page) ∈ s.movedIn k) →
      ((v.kvCores 1).map (·.site)).Nodup →
      (∀ d ∈ v.kvCores 1, isSite d.site = true ∧ kvFmt d.kvMode = kvFmt r.kvMode ∧
        (fr / kvK d.kvMode + 1) * kvHeads d.kvMode * n ≤ 0x380000 ∧ 16 * (fr / kvK d.kvMode + 1) * kvHeads d.kvMode ≤ 0xC000) →
      (u + 1) * 32 * n ≤ 0x380000 →
      Answers (.reshard k f u) s { mem := true, poison := true, srv := true } (fun t =>
        (∀ d ∈ v.kvCores 1, fr % kvK d.kvMode = kvGidx d.kvMode → ∀ h < kvHeads d.kvMode, headLayer (d.kvHeads.getD h 0) = layer →
          headNumber (d.kvHeads.getD h 0) < 32 →
          t.mem.readBytes (sliceAt d.site d.kvMode (fr / kvK d.kvMode) h).1 n =
            s.mem.readBytes (sliceAt k r.kvMode u (headNumber (d.kvHeads.getD h 0))).1 n) ∧
        (∀ a, (∀ d ∈ v.kvCores 1, ¬(siteBase d.site ≤ a ∧ a < siteBase d.site + 0x38C000)) → t.mem.read a = s.mem.read a) ∧
        t.srv = { (s.noteMove k x.idx page).srv with reshards := s.srv.reshards.map (fun z =>
          if z.idx = x.idx then { z with moved := z.moved ++ [(page, layer)] } else z) })) ∧
    (∀ (x : Reshard), s.srv.reshards.findSome? (fun x => (s.nextMove x).map (fun n => (x, n))) = some (x, page) → r.site = k →
      v.reshardRate ≤ (s.movedIn k).length → (x.idx, page) ∉ s.movedIn k → exec (.reshard k f u) s = .next s)

/-- Prefill cores, where the bundle asks for it: PLOAD puts a query block of the route, which begins a new attention, or the keys or the values of
a sweep page's head slice into integer form; PSCORE raises the maxima of its queries; PEXPSUM adds the terms of its pairs under the maxima of
the lane's cores; PFINISH divides the merged sums; RINGSEND hands sweep pages to the route; DENSE a matrix run's outputs. An operand that lies
where the core may not read is an address fault. -/
def Obligations.PrefillCoresAttend : Prop :=
  ∀ (s : State) (k : Nat) (f : PfField), s.pwr.off = false → (s.site k).poisonIn = false →
    (s.doesPf k 1 f = true → pfFmtOk f = true →
      (∀ next lane count vs, vs = s.queryVecs k f.opfmt.toNat count → (∀ v ∈ vs, (operandVals f.opfmt.toNat v).2 = true) →
        Answers (.pload k f (.query next lane count)) s { sites := true, pfs := true } (fun t =>
          t.pf k = { lane := s.queryLane k next lane, q := vs.map (fun v => intForm (operandVals f.opfmt.toNat v).1) } ∧
          t.site k = { s.site k with inbox := (s.site k).inbox.drop ((count * 128 * elemBytes f.opfmt.toNat + 7) / 8) } ∧
          (∀ j, j ≠ k → t.pf j = s.pf j ∧ t.site j = s.site j))) ∧
      (∀ a fmt, a = s.operandAt k f.areg → s.sweepSlice a = some fmt → s.poisoned a (sliceBytes fmt) = false →
        ((∀ p < 16, (s.readVec a fmt false p).2 = true) →
          Answers (.pload k f .key) s { pfs := true } (fun t =>
            t.pf k = { s.pf k with k := (List.range 16).map (fun p => intForm (s.readVec a fmt false p).1) } ∧
            (∀ j, j ≠ k → t.pf j = s.pf j))) ∧
        ((∀ p < 16, (s.readVec a fmt true p).2 = true) →
          Answers (.pload k f .value) s { pfs := true } (fun t =>
            t.pf k = { s.pf k with v := (List.range 16).map (fun p => intForm (s.readVec a fmt true p).1) } ∧
            (∀ j, j ≠ k → t.pf j = s.pf j)))) ∧
      (s.sweepSlice (s.operandAt k f.areg) = none →
        exec (.pload k f .key) s = .next (s.addressFault k) ∧ exec (.pload k f .value) s = .next (s.addressFault k))) ∧
    (∀ sg, s.doesPf k 2 f = true → pfFmtOk f = true → s.sigmaAt k f.areg = some sg → finite32 sg = true →
      Answers (.pscore k f) s { pfs := true } (fun t =>
        (∀ i q, (s.pf k).q[i]? = some q → (t.pf k).m.getD i none =
          maxOpt ((s.pf k).m.getD i none) (maxInt? ((s.realPairs k f).map (fun e => scoreOf sg q e.2.1)))) ∧
        (t.pf k).e = maxOpt (s.pf k).e (maxInt? ((s.realPairs k f).map (fun e => e.2.2.1))) ∧
        (t.pf k).q = (s.pf k).q ∧ (t.pf k).k = (s.pf k).k ∧ (t.pf k).v = (s.pf k).v ∧ (∀ j, j ≠ k → t.pf j = s.pf j))) ∧
    (∀ sg, s.doesPf k 3 f = true → pfFmtOk f = true → s.sigmaAt k f.areg = some sg → finite32 sg = true →
      Answers (.pexpsum k f) s { pfs := true } (fun t =>
        (∀ i q m e, (s.pf k).q[i]? = some q → ((s.pfGroup k).map (fun j => (s.pf j).m.getD i none)).foldl maxOpt none = some m →
          ((s.pfGroup k).map (fun j => (s.pf j).e)).foldl maxOpt none = some e →
          ((t.pf k).num.getD i [], (t.pf k).den.getD i 0) =
            (s.realPairs k f).foldl (fun (a : List Int × Int) x => attendTerm m e a (scoreOf sg q x.2.1, x.2.2.1, x.2.2.2))
              ((s.pf k).num.getD i (List.replicate 128 0), (s.pf k).den.getD i 0)) ∧
        (t.pf k).q = (s.pf k).q ∧ (t.pf k).m = (s.pf k).m ∧ (∀ j, j ≠ k → t.pf j = s.pf j))) ∧
    (pfFmtOk f = true → s.sigmaAt k f.areg = none →
      (s.doesPf k 2 f = true → exec (.pscore k f) s = .next (s.addressFault k)) ∧
      (s.doesPf k 3 f = true → exec (.pexpsum k f) s = .next (s.addressFault k))) ∧
    (∀ (o : BitVec 5) (e : Int) (sums : Nat → List Int × Int), s.doesPf k 4 f = true → pfOutOk o = true →
      ((s.pfGroup k).map (fun j => (s.pf j).e)).foldl maxOpt none = some e →
      (∀ i, sums i = (s.pfGroup k).foldl (fun (b : List Int × Int) j =>
        ((b.1.zip ((s.pf j).num.getD i (List.replicate 128 0))).map (fun y => y.1 + y.2), b.2 + (s.pf j).den.getD i 0))
        (List.replicate 128 0, 0)) →
      (∀ i < (s.pf k).q.length, (sums i).2 ≠ 0) →
      Answers (.pfinish k f o) s { sites := true, pfs := true } (fun t =>
        (t.pf k).out = (List.range (s.pf k).q.length).map (fun i => (sums i).1.map (attendOut e (sums i).2)) ∧
        (t.site k).outbox = (s.site k).outbox ++ outWords o.toNat (t.pf k).out.flatten ∧
        (∀ j, j ≠ k → t.site j = s.site j ∧ t.pf j = s.pf j))) ∧
    (∀ addr len, s.doesPf k 5 f = true →
      ((∀ i < len, s.okByte (addr + i) = true) → s.poisoned addr len = false →
        Answers (.ringsend k f addr len) s { sites := true } (fun t =>
          t.site k = { s.site k with outbox := (s.site k).outbox ++ wordsOf (s.windowBytesOf addr len) } ∧ (∀ j, j ≠ k → t.site j = s.site j))) ∧
      (∀ i < len, s.okByte (addr + i) = false → exec (.ringsend k f addr len) s = .next (s.addressFault k))) ∧
    (∀ (o : BitVec 5) xs rows, s.doesPf k 6 f = true → pfFmtOk f = true → pfOutOk o = true → (operandVals f.opfmt.toNat xs).2 = true →
      (∀ w ∈ rows, (operandVals f.opfmt.toNat w).2 = true) →
      Answers (.dense k f o xs rows) s { sites := true, pfs := true } (fun t =>
        (t.pf k).out = [rows.map (denseRow f.opfmt.toNat xs)] ∧
        (t.site k).outbox = (s.site k).outbox ++ outWords o.toNat (rows.map (denseRow f.opfmt.toNat xs)) ∧
        (∀ j, j ≠ k → t.site j = s.site j ∧ t.pf j = s.pf j)))

/-- Precision tiles, where the bundle asks for it, on what stands at the source once the words of the route have landed there: QUANT writes the
quantised bytes of a point and the token scale, by the kind of its lane, into the bank of every tile that reads the point, or at the
destination where none does, and keeps the outliers, or ends the token as overflowed with its cause and point; OUTLIER hands the outliers'
partial words, with the rows the tile holds, to the router; RESID, PMAC and LOGIT round each result once; ADAPT adds a lane's low-rank product,
or nothing; what NORM and GATE compute the spec does not state: a free function of the operands and the named parameters gives it, in finite
values (log entry 36). No other byte of memory changes. A source that is not finite is a format fault, and the results free finite values; an
operand where the tile may not read or write is an address fault. -/
def Obligations.PrecisionTilesCompute : Prop :=
  ∀ (s u : State) (k : Nat) (f : PrecField) (a b out : Nat) (m : Foot), s.pwr.off = false → (s.site k).poisonIn = false →
    a = s.operandAt k f.src → b = s.operandAt k f.dst → out = f.outFmt.toNat →
    m = { mem := true, host := true, poison := true, sites := true } →
    (∀ v d d' (inFmt : BitVec 5) ys, s.runImg = some v → v.quant.find? (fun d => decide (d.point = f.index.toNat)) = some d →
      s.doesPrec k 1 f = true → precFmtOk f = true → quantInOk inFmt.toNat = true → u = s.landWords k a (d.n * elemBytes inFmt.toNat) →
      s.okWrite k a (d.n * elemBytes inFmt.toNat) = true → s.okWrite k b d.n = true → s.okWrite k (s.scaleAddr b d.n) 4 = true →
      u.poisoned a (d.n * elemBytes inFmt.toNat) = false → u.readElems inFmt.toNat a d.n = (ys, true) → d' = { d with indices := u.setOf k d } →
      (∀ (q : List Int) (st : Nat) (o : List (Nat × Int)),
        (q, st, o) = (if s.kindAt k = 2 then ((quantiseWide d' ys).1.map (· / 256), (quantiseWide d' ys).2, [])
          else if s.kindAt k = 3 then ((quantiseWide d' ys).1.map (· % 256), (quantiseWide d' ys).2, [])
          else
            let r := quantise d' v.kOutlier (!(decide (s.kindAt k = 4 ∨ s.kindAt k = 5 ∨ s.kindAt k = 7)) && d.outEn)
              (if d.actFmt = 6 ∧ s.kindAt k ≠ 4 ∧ s.kindAt k ≠ 5 then 7 else 127) ys
            (r.q, r.st, r.outliers)) →
        (s.kindAt k ∉ [2, 3, 4, 5, 7] → (quantise d' v.kOutlier d.outEn (if d.actFmt = 6 then 7 else 127) ys).cause = 0) →
        (d.readers = [] → (b + d.n ≤ s.scaleAddr b d.n ∨ s.scaleAddr b d.n + 4 ≤ b) →
          Answers (.quant k f inFmt) s { mem := true, host := true, poison := true, sites := true, outl := true } (fun t =>
            t.rdBytes b d.n = q.map (BitVec.ofInt 8) ∧ t.rdLE (s.scaleAddr b d.n) 4 = st % 2 ^ 32 ∧
            Sparse.get [] t.outl d.point = o ∧ u.keeps t [(b, d.n), (s.scaleAddr b d.n, 4)])) ∧
        (d.readers ≠ [] → (d.readers.map (·.1)).Nodup → (∀ e ∈ d.readers, siteType e.1 = 1 ∧ e.2.1 + e.2.2 ≤ d.n ∧ e.2.2 ≤ 0x4000) →
          Answers (.quant k f inFmt) s { mem := true, host := true, poison := true, sites := true, outl := true } (fun t =>
            (∀ e ∈ d.readers,
              t.rdBytes (siteBase e.1 + 0x4000 * s.bankNamed b) e.2.2 = ((q.drop e.2.1).take e.2.2).map (BitVec.ofInt 8) ∧
              t.rdLE (siteBase e.1 + 0x18000 + 8 * s.bankNamed b) 4 = st % 2 ^ 32) ∧
            Sparse.get [] t.outl d.point = o ∧
            u.keeps t (d.readers.flatMap (fun e =>
              [(siteBase e.1 + 0x4000 * s.bankNamed b, e.2.2), (siteBase e.1 + 0x18000 + 8 * s.bankNamed b, 4)]))))) ∧
      (∀ nx j r, s.kindAt k ∉ [2, 3, 4, 5, 7] → r = quantise d' v.kOutlier d.outEn (if d.actFmt = 6 then 7 else 127) ys → r.cause ≠ 0 →
        s.laneOf k = some (nx, j) → resultLane (s.stepLanes nx) j = j →
        Answers (.quant k f inFmt) s { mem := true, host := true, poison := true, sites := true, cur := true, nxt := true } (fun t =>
          t.stepLanes (!nx) = s.stepLanes (!nx) ∧
          t.stepLanes nx = (s.stepLanes nx).modify j (fun l => if l.ran && l.outcome == 0 && l.endStatus == 0 then
            { l with kind := 0, outcome := 3, cause := BitVec.ofNat 4 r.cause, point := d.point } else l) ∧
          (r.cause ≠ 3 → t.mem = u.mem ∧ t.host = u.host) ∧
          (r.cause = 3 → d.readers = [] → (b + d.n ≤ s.scaleAddr b d.n ∨ s.scaleAddr b d.n + 4 ≤ b) →
            t.rdBytes b d.n = r.q.map (BitVec.ofInt 8) ∧ t.rdLE (s.scaleAddr b d.n) 4 = r.st % 2 ^ 32 ∧
            u.keeps t [(b, d.n), (s.scaleAddr b d.n, 4)])))) ∧
    (∀ d c, s.runImg.bind (fun v => v.quant.find? (fun d => decide (d.point = f.index.toNat))) = some d → s.rowsChunk a = some c →
      s.doesPrec k 2 f = true → precFmtOk f = true → s.poisoned c.dest c.length = false →
      Answers (.outlier k f) s { sites := true } (fun t =>
        t.site k = { s.site k with
          outbox := (s.site k).outbox ++ (outlierSums (Sparse.get [] s.outl f.index.toNat) (s.outlierRows k d c)).map (BitVec.ofInt 64) } ∧
        (∀ j, j ≠ k → t.site j = s.site j))) ∧
    (∀ n, s.operandsOk u k 3 f out n n →
      Answers (.norm k f n) s m (fun t =>
        t.rdBytes b (n * elemBytes out) = (List.range n).flatMap (fun i =>
          freeElem out (Config.vectorValue 3 f.index.toNat (u.readCodes out a n) (u.paramBytes f.index.toNat) i)) ∧
        (t.readElems out b n).2 = true ∧ u.keeps t [(b, n * elemBytes out)])) ∧
    (∀ n, s.operandsOk u k 5 f out n n →
      Answers (.gate k f n) s m (fun t =>
        t.rdBytes b (n * elemBytes out) = (List.range n).flatMap (fun i =>
          freeElem out (Config.vectorValue 5 f.index.toNat (u.readCodes out a n) (u.paramBytes f.index.toNat) i)) ∧
        (t.readElems out b n).2 = true ∧ u.keeps t [(b, n * elemBytes out)])) ∧
    (∀ n, s.operandsOk u k 4 f out n n → (u.readElems out b n).2 = true → u.poisoned b (n * elemBytes out) = false →
      Answers (.resid k f n) s m (fun t =>
        t.rdBytes b (n * elemBytes out) =
          ((u.readElems out a n).1.zip (u.readElems out b n).1).flatMap (fun e => encodeOut out (dyAdd e.1 e.2)) ∧
        u.keeps t [(b, n * elemBytes out)])) ∧
    (∀ n nx j, s.operandsOk u k 4 f out n n → (u.readElems out b n).2 = false → u.poisoned b (n * elemBytes out) = false →
      s.laneOf k = some (nx, j) →
      Answers (.resid k f n) s { freeCount := true, mem := true, host := true, poison := true, sites := true, cur := true, nxt := true } (fun t =>
        t.stepLanes (!nx) = s.stepLanes (!nx) ∧
        t.stepLanes nx = (s.stepLanes nx).modify (resultLane (s.stepLanes nx) j) Lane.formatFaulted ∧
        (t.readElems out b n).2 = true ∧ u.keeps t [(b, n * elemBytes out)])) ∧
    (∀ n m' inFmt x size w, u.matrixChunk f.index.toNat = some x → w = x.format.toNat → size = n * m' * elemBytes w → size ≤ x.length →
      u.okUnit k x.dest size = true → u.poisoned x.dest size = false → (u.readElems w x.dest (n * m')).2 = true →
      (∀ op : BitVec 5, s.operandsOk u k 7 f op.toNat n m' → precInOk op.toNat = true → inFmt = op.toNat →
        Answers (.pmac k f n m' op) s m (fun t =>
          t.rdBytes b (m' * elemBytes out) =
            (u.matVec inFmt w (u.readElems inFmt a n).1 x.dest n m').flatMap (encodeOut out) ∧
          u.keeps t [(b, m' * elemBytes out)])) ∧
      (s.operandsOk u k 8 f 0x0B n m' → inFmt = 0x0B →
        Answers (.logit k f n m') s m (fun t =>
          t.rdBytes b (m' * elemBytes out) =
            (u.matVec inFmt w (u.readElems inFmt a n).1 x.dest n m').flatMap (encodeOut out) ∧
          u.keeps t [(b, m' * elemBytes out)]))) ∧
    (∀ n rank m' l, s.operandsOk u k 6 f out n m' → s.laneAt k = some l → u.pairAt l f.index.toNat = none →
      exec (.adapt k f n rank m') s = .next u) ∧
    (∀ n rank m' l p fmt pa pb, s.operandsOk u k 6 f out n m' → s.laneAt k = some l → u.pairAt l f.index.toNat = some p →
      u.rdLE (p + 2) 2 = rank → (u.readElems out b m').2 = true → u.poisoned b (m' * elemBytes out) = false → fmt = u.rdLE (p + 4) 1 →
      u.adapterElems fmt (p + 16) (n * rank) = (pa, true) →
      u.adapterElems fmt (p + 16 + adapterLen fmt (n * rank)) (rank * m') = (pb, true) →
      Answers (.adapt k f n rank m') s m (fun t =>
        t.rdBytes b (m' * elemBytes out) = ((u.readElems out b m').1.zip ((List.range m').map (fun j =>
          product false ((List.range rank).map (fun i => product false (u.readElems out a n).1
            ((List.range n).map (fun x => pa.getD (x * rank + i) { m := 0, e := 0 }))))
            ((List.range rank).map (fun i => pb.getD (i * m' + j) { m := 0, e := 0 }))))).flatMap
          (fun e => encodeOut out (dyAdd e.1 e.2)) ∧
        u.keeps t [(b, m' * elemBytes out)])) ∧
    (∀ n, precFmtOk f = true → s.okWrite k b (n * elemBytes out) = false →
      (s.doesPrec k 3 f = true → exec (.norm k f n) s = .next (s.addressFault k)) ∧
      (s.doesPrec k 4 f = true → exec (.resid k f n) s = .next (s.addressFault k)) ∧
      (s.doesPrec k 5 f = true → exec (.gate k f n) s = .next (s.addressFault k)))

/-- The sampler, where the bundle asks for it: MASK reads the mask of the lane's sequence, or notes that none is on; SAMPLE puts the token drawn
into the lane that keeps its result, none for a lane that does not sample, and ends INVALID where no token is allowed, which is the only case
without a token; at temperature 0 the token is an allowed one; RECORD writes the lane's record, or where its site may not write is an address
fault. -/
def Obligations.TheSamplerDraws : Prop :=
  ∀ (s : State) (k j : Nat) (nx : Bool) (areg : BitVec 6) (l : Lane), s.pwr.off = false → s.laneAt k = some l →
    s.laneOf k = some (nx, j) → (s.site k).poisonIn = false →
    (∀ vocab, s.doesSampler k 3 areg = true → (s.seq l.idx).maskOn = true →
      s.poisoned (s.seq l.idx).maskAddr (maskBytes vocab) = false →
      Answers (.mask k areg vocab) s { sites := true } (fun t =>
        t.site k = { s.site k with maskRead := some (s.rdBytes (s.seq l.idx).maskAddr (maskBytes vocab)) } ∧
        (∀ i, i ≠ k → t.site i = s.site i))) ∧
    (∀ vocab, s.doesSampler k 3 areg = true → (s.seq l.idx).maskOn = false →
      Answers (.mask k areg vocab) s { sites := true } (fun t =>
        t.site k = { s.site k with maskRead := none } ∧ (∀ i, i ≠ k → t.site i = s.site i))) ∧
    (∀ logits mask, s.doesSampler k 1 areg = true → l.last = true → logits.all finite32 = true →
      mask = (if (s.seq l.idx).maskOn then
        some (((s.site k).maskRead).getD (s.rdBytes (s.seq l.idx).maskAddr (maskBytes logits.length))) else none) →
      (∀ tok, sampleToken (s.seq l.idx).req logits mask (s.seq l.idx).window (l.pos + 1) = some tok →
        Answers (.sample k areg logits) s { sites := true, cur := true, nxt := true } (fun t =>
          t.stepLanes nx = (s.stepLanes nx).modify (resultLane (s.stepLanes nx) j) (fun x => { x with token := some tok }) ∧
          t.stepLanes (!nx) = s.stepLanes (!nx) ∧
          t.site k = { s.site k with maskRead := none } ∧ (∀ i, i ≠ k → t.site i = s.site i))) ∧
      (allowed mask logits.length = [] →
        Answers (.sample k areg logits) s { sites := true, cur := true, nxt := true } (fun t =>
          t.stepLanes (!nx) = s.stepLanes (!nx) ∧
          t.stepLanes nx = (s.stepLanes nx).modify (resultLane (s.stepLanes nx) j) (fun x =>
            if x.ran && x.outcome == 0 && x.endStatus == 0 then { x with endStatus := 0x1A } else x))) ∧
      (sampleToken (s.seq l.idx).req logits mask (s.seq l.idx).window (l.pos + 1) = none → allowed mask logits.length = []) ∧
      (∀ tok, (s.seq l.idx).req.temperature.toNat % 2 ^ 31 = 0 →
        sampleToken (s.seq l.idx).req logits mask (s.seq l.idx).window (l.pos + 1) = some tok → tok ∈ allowed mask logits.length)) ∧
    (∀ logits, l.last = false → exec (.sample k areg logits) s = .next s) ∧
    (∀ member, s.doesSampler k 2 areg = true → s.okWrite k (s.operandAt k areg) 32 = true →
      member = decide (2 ≤ (s.seq l.idx).req.ringSize ∧ (s.seq l.idx).req.ringIndex ≠ 0) →
      Answers (.record k areg) s { mem := true, host := true, poison := true } (fun t =>
        t.rdBytes (s.operandAt k areg) 32 = Rec.bytes { laneRec l j with
          token := if member then 0xFFFFFFFF else l.token.getD 0xFFFFFFFF
          position := if l.last then l.pos + 1 else l.pos
          ringMember := member } ∧
        s.keeps t [(s.operandAt k areg, 32)])) ∧
    (s.doesSampler k 2 areg = true → s.okWrite k (s.operandAt k areg) 32 = false → exec (.record k areg) s = .next (s.addressFault k))

/-! ## Isolation and security -/

/-- Partitions: an accepted record or reset waits for the boundary, or takes effect at once while the engine is held: the record in force,
or every sequence of the partition ended, its session closed and its areas being zeroed; a refused record changes no partition; the
profile changes only with no tenant configured. -/
def Obligations.PartitionsAreConfiguredAndReset : Prop :=
  ∀ (s : State) (b : CmdBlock), s.pwr.off = false →
    (∀ p, s.accepts ⟨0x51, true, [0, 18]⟩ false false b → p = (parseRecord b).partition → s.recordStatus b = 0 → s.held = false →
      Answers (.partConfig b) s { nv := true, parts := true, chans := true, hif := true } (fun t =>
        t.part p = { s.part p with cfgDue := (s.part p).cfgDue ++ [(parseRecord b, b.channel, b.cseq)] } ∧
        (∀ q, q ≠ p → t.part q = s.part q) ∧ (0x51, b.cseq) ∈ (t.chan b.channel).openCmds)) ∧
    (∀ p, s.accepts ⟨0x51, true, [0, 18]⟩ false false b → p = (parseRecord b).partition → s.recordStatus b = 0 → s.held = true →
      (s.part p).cfgDue = [] → (s.part p).resetDue = none →
      Answers (.partConfig b) s
        { nv := true, adps := true, frames := true, sweeps := true, seqs := true, parts := true, srv := true, chans := true, hif := true }
        (fun t => (t.part p).cfg = some (parseRecord b) ∧ t.nv.partCfgs.get none p = some (parseRecord b) ∧ (t.part p).cfgDue = [] ∧
          (∀ q, q ≠ p → (t.part q).cfg = (s.part q).cfg))) ∧
    (s.accepts ⟨0x51, true, [0, 18]⟩ false false b → s.recordStatus b ≠ 0 →
      Answers (.partConfig b) s { nv := true, chans := true, hif := true } (fun t =>
        t.nv.partCfgs = s.nv.partCfgs ∧ (t.chan b.channel).openCmds = (s.chan b.channel).openCmds)) ∧
    (∀ p, s.accepts ⟨0x52, true, [0, 18]⟩ false false b → p = b.par 0 1 → p ≤ 15 → b.par 1 1 ≤ 1 → (s.part p).zeroing = none →
      (s.part p).resetDue = none → s.held = false →
      Answers (.partReset b) s { nv := true, parts := true, chans := true, hif := true } (fun t =>
        t.part p = { s.part p with resetDue := some (decide (b.par 1 1 = 1), (s.part p).cfgDue.length, [(b.channel, b.cseq)]) } ∧
        (∀ q, q ≠ p → t.part q = s.part q))) ∧
    (∀ p, s.accepts ⟨0x52, true, [0, 18]⟩ false false b → p = b.par 0 1 → p ≤ 15 → b.par 1 1 ≤ 1 → (s.part p).zeroing = none →
      (s.part p).resetDue = none → (s.part p).cfgDue = [] → s.held = true →
      Answers (.partReset b) s
        { nv := true, adps := true, frames := true, sweeps := true, seqs := true, parts := true, srv := true, fab := true,
          chans := true, hif := true, sec := true } (fun t =>
        t.part p = {
          cfg := if b.par 1 1 = 1 then none else (s.part p).cfg
          zeroing := some (decide (b.par 1 1 = 1), [(b.channel, b.cseq)]), zeroCfg := some (s.cfg p) } ∧
        t.spdm (2 + p) = {} ∧ (∀ i, (s.seq i).partition = p → (t.seq i).state = 0) ∧
        (b.par 1 1 = 1 → t.nv.partCfgs.get none p = none))) ∧
    (s.accepts ⟨0x53, true, [0, 18]⟩ false false b → b.par 0 1 ≤ 1 → s.hasTenants = false → s.sec.lifecycle = 0 →
      (s.held = false →
        Answers (.profileSet b) s { nv := true, chans := true, hif := true, sec := true } (fun t =>
          t.sec = { s.sec with profilePending := s.sec.profilePending ++ [(decide (b.par 0 1 = 1), b.channel, b.cseq)] } ∧
          t.nv.profileShared = s.nv.profileShared)) ∧
      (s.held = true → s.sec.profilePending = [] →
        Answers (.profileSet b) s { nv := true, chans := true, hif := true, sec := true } (fun t =>
          t.nv.profileShared = decide (b.par 0 1 = 1) ∧ t.sec.profilePending = []))) ∧
    (s.accepts ⟨0x53, true, [0, 18]⟩ false false b → s.hasTenants = true →
      Answers (.profileSet b) s { nv := true, chans := true, hif := true } (fun t => t.nv.profileShared = s.nv.profileShared))

/-- SPDM: a request that the order of requests allows is answered with its code on its channel, where alone the exchange changes (the order
rules are the model's, log entry 40); any other gets the ERROR response; where SPDM is not served nothing happens. A SEC_SPDM writes its
response to its buffer, and a VF's secured command is served as one on a secure channel. -/
def Obligations.SpdmExchanges : Prop :=
  ∀ (s : State) (c : Nat) (r : SpdmRequest) (m : Foot), s.pwr.off = false → m = { freeCount := true, hif := true, sec := true } →
    (s.spdmServed c = true →
      Answers (.getVersion c) s m (s.spdmAnswered · c .getVersion) ∧
      ((s.spdm c).versioned = true → Answers (.getCapabilities c) s m (s.spdmAnswered · c .getCapabilities)) ∧
      ((s.spdm c).capable = true → Answers (.negotiateAlgorithms c true) s m (s.spdmAnswered · c (.negotiateAlgorithms true))) ∧
      ((s.spdm c).negotiated = true →
        Answers (.getDigests c) s m (s.spdmAnswered · c .getDigests) ∧
        (∀ o n, Answers (.getCertificate c o n) s m (s.spdmAnswered · c (.getCertificate o n))) ∧
        (∀ x, Answers (.challenge c x) s m (s.spdmAnswered · c (.challenge x))) ∧
        (∀ i x, Answers (.getMeasurements c i x) s m (s.spdmAnswered · c (.getMeasurements i x))) ∧
        Answers (.keyExchange c true) s m (s.spdmAnswered · c (.keyExchange true))) ∧
      ((s.spdm c).keyed = true → Answers (.spdmFinish c true) s m (s.spdmAnswered · c (.finish true))) ∧
      ((s.spdm c).isOpen = true →
        Answers (.heartbeat c) s m (s.spdmAnswered · c .heartbeat) ∧ Answers (.keyUpdate c) s m (s.spdmAnswered · c .keyUpdate) ∧
        Answers (.endSession c) s m (s.spdmAnswered · c .endSession))) ∧
    (s.spdmServed c = true → r.allowed (s.spdm c) = false →
      Answers (r.command c) s { hif := true, sec := true } (fun t =>
        t.spdm c = { s.spdm c with response := [0x13, 0x7F] } ∧ (∀ d, d ≠ c → t.spdm d = s.spdm d))) ∧
    (s.spdmServed c = false → exec (r.command c) s = .next s) ∧
    (∀ b : CmdBlock, s.accepts spdmInfo false false b → s.spdmParams b 0 = true → r.allowed (s.spdm b.channel) = true →
      Answers (.secSpdmRequest b r) s
        { freeCount := true, nv := true, mem := true, host := true, poison := true, parts := true, fab := true, chans := true,
          hif := true, sec := true } (fun t =>
        (t.spdm b.channel).response.take 2 = [0x13, r.answerCode] ∧
        t.rdBytes (b.par 8 8) (((t.spdm b.channel).response.take (b.par 0x10 4)).length) =
          (t.spdm b.channel).response.take (b.par 0x10 4) ∧
        (t.chan b.channel).openCmds.length = (s.chan b.channel).openCmds.length)) ∧
    (∀ (b inner : CmdBlock) (k : KeyRecord) (u : State), s.accepts spdmInfo false false b → s.spdmParams b 1 = true →
      2 ≤ b.channel → b.channel < 18 → (s.spdm b.channel).isOpen = true → u = (s.takeIn b.channel).recordCounter b →
      inner.blkCode = 0x54 →
      u.rejectReason keyInfo true true (u.firstLoad 2 b.channel) (innerOf b inner) = none →
      keyParams (innerOf b inner) = true → k.openedOk = true → k.reservedZero = true → u.keyRule 2 b.channel k = true →
      k.material.length = 64 →
      Answers (.secSpdmSecuredCommand b true inner (.key 2 k)) s
        { freeCount := true, nv := true, mem := true, host := true, poison := true, parts := true, chans := true,
          hif := true } (fun t =>
        (t.part (b.channel - 2)).cmdKey = some k.material ∧ (t.part (b.channel - 2)).secCtr = 0 ∧
        (∀ q, q ≠ b.channel - 2 → t.part q = s.part q)))

/-- Keys: a KEY_LOAD whose message opens and whose kind, target and material keep their rules stores that one key: the operator's or a
partition's command key, an egress key that waits for the boundary, a root added or removed. Without an open session no key changes. -/
def Obligations.KeyLoadsStoreTheirKey : Prop :=
  ∀ (s : State) (b : CmdBlock) (k : KeyRecord) (m : Foot), s.pwr.off = false →
    m = { nv := true, parts := true, chans := true, hif := true } →
    (s.keyLoads 1 b k → Answers (.keyLoadOperatorCmd b k) s m (s.keyStored · 1 k)) ∧
    (s.keyLoads 2 b k → Answers (.keyLoadPartitionCmd b k) s m (s.keyStored · 2 k)) ∧
    (s.keyLoads 3 b k → Answers (.keyLoadPartitionEgress b k) s m (s.keyStored · 3 k)) ∧
    (s.keyLoads 4 b k → Answers (.keyLoadRootAdd b k) s m (s.keyStored · 4 k)) ∧
    (s.keyLoads 5 b k → Answers (.keyLoadRootRemove b k) s m (s.keyStored · 5 k)) ∧
    (∀ kind c, (kind, c) ∈ [((1 : Byte), Instr.keyLoadOperatorCmd b k), (2, .keyLoadPartitionCmd b k), (3, .keyLoadPartitionEgress b k),
        (4, .keyLoadRootAdd b k), (5, .keyLoadRootRemove b k)] →
      s.accepts keyInfo true (s.firstLoad kind b.channel) b → (s.spdm b.channel).isOpen = false →
      Answers c s m (fun t =>
        t.nv.opKey = s.nv.opKey ∧ t.nv.roots = s.nv.roots ∧
        (∀ q, (t.part q).cmdKey = (s.part q).cmdKey ∧ (t.part q).egressDue = (s.part q).egressDue)))

/-- Debug access, vendor records and firmware: an unlock without tenants opens its scope, under INTERNAL only with a token bound to this
device and its nonce; a vendor record that holds has its effect, and every use renews the nonce; an image that passes its checks begins
to be written, and the end of its write puts it into the flash as it was read back. -/
def Obligations.RecordsUnlocksAndFirmware : Prop :=
  ∀ (s : State) (b : CmdBlock) (r : VendorRecord), s.pwr.off = false →
    (s.accepts ⟨0x56, true, [0, 18]⟩ false false b → s.hasTenants = false →
      (b.par 0 1 = 1 →
        Answers (.dbgUnlock b r) s { nv := true, chans := true, hif := true, sec := true } (fun t =>
          t.sec = { s.sec with lifecycle := 1, scope := 1, unlocked := true })) ∧
      (b.par 0 1 = 2 → s.inReach 31 (b.par 8 8) vendorBytes = true → s.recordHolds r = true →
        Answers (.dbgUnlock b r) s { freeCount := true, nv := true, chans := true, hif := true, sec := true } (fun t =>
          t.sec = { s.sec with lifecycle := 1, scope := 2, unlocked := true, nonce := newNonce s.freeCount })) ∧
      (b.par 0 1 = 2 → s.inReach 31 (b.par 8 8) vendorBytes = true → s.recordHolds r = false →
        Answers (.dbgUnlock b r) s { freeCount := true, nv := true, chans := true, hif := true, sec := true } (fun t =>
          t.sec = { s.sec with nonce := newNonce s.freeCount }))) ∧
    (s.accepts ⟨0x56, true, [0, 18]⟩ false false b → s.hasTenants = true →
      Answers (.dbgUnlock b r) s { nv := true, chans := true, hif := true } (fun _ => True)) ∧
    (s.accepts ⟨0x57, true, [0, 18]⟩ false false b → s.inReach 31 (b.par 8 8) vendorBytes = true →
      (s.recordHolds r = true → s.slotHeld r = true →
        Answers (.fixAtFactory b r) s { freeCount := true, nv := true, wgt := true, chans := true, hif := true, sec := true } (fun t =>
          t.gen (r.slot == 1) = { s.gen (r.slot == 1) with fixed := true } ∧ t.gen (!(r.slot == 1)) = s.gen (!(r.slot == 1)) ∧
          t.sec = { s.sec with nonce := newNonce s.freeCount }) ∧
        Answers (.releaseFixed b r) s { freeCount := true, nv := true, wgt := true, chans := true, hif := true, sec := true } (fun t =>
          t.gen (r.slot == 1) = { s.gen (r.slot == 1) with fixed := false } ∧ t.gen (!(r.slot == 1)) = s.gen (!(r.slot == 1)) ∧
          t.sec = { s.sec with nonce := newNonce s.freeCount })) ∧
      (s.recordHolds r = true →
        Answers (.clearOperatorKey b r) s { freeCount := true, nv := true, chans := true, hif := true, sec := true } (fun t =>
          t.nv.opKey = none ∧ t.nv.roots = s.nv.roots ∧ t.sec = { s.sec with nonce := newNonce s.freeCount })) ∧
      (s.recordHolds r = false → ∀ c ∈ [Instr.releaseFixed b r, Instr.fixAtFactory b r, Instr.clearOperatorKey b r],
        Answers c s { freeCount := true, nv := true, chans := true, hif := true, sec := true } (fun t =>
          t.nv.opKey = s.nv.opKey ∧ t.sec = { s.sec with nonce := newNonce s.freeCount }))) ∧
    (∀ img : FwImage, s.accepts ⟨0x55, true, [0, 18]⟩ false false b → b.par 0 1 = 0 → s.boot.recovery = false →
      ((b.par 1 1 = 0 ∧ s.inReach 31 (b.par 8 8) (b.par 16 8) = true) ∨ (b.par 1 1 = 1 ∧ b.par 4 2 ≤ 255)) →
      (s.imageVerdict img = 0 →
        Answers (.fwUpdate b img) s { nv := true, chans := true, hif := true, sec := true } (fun t =>
          t.sec = { s.sec with fwWrite := s.sec.fwWrite ++ [(img, some (b.channel, b.cseq))] })) ∧
      (s.imageVerdict img ≠ 0 →
        Answers (.fwUpdate b img) s { nv := true, chans := true, hif := true } (fun t => t.nv.flash = s.nv.flash))) ∧
    (∀ ok img cmd rest, s.sec.fwWrite = (img, cmd) :: rest →
      Answers (.fwWriteComplete ok) s { boot := true, nv := true, fab := true, chans := true, hif := true, sec := true } (fun t =>
        t.nv = { s.nv with flash := { img with digestOk := ok } } ∧ t.sec = { s.sec with fwWrite := rest }))

/-! ## The management bus, JTAG and the registers -/

/-- The management bus from the end of stage ROM on: an EID is assigned and read back, a message type is listed or not, a vendor-defined
message of this vendor puts its word into the channel of the BMC, an acknowledgement frees its slot, PLDM names its types and reads the
sensors, and an image that passes its checks begins to be written. The encodings are those of the DMTF's specifications, which the model
presumes (log entry 41). -/
def Obligations.TheManagementBusAnswers : Prop :=
  ∀ (s : State) (bind : Binding), s.pwr.off = false → s.stageDone 0 = true →
    (∀ owner eid : Byte, eid ≠ 0 → eid ≠ 0xFF →
      Answers (.setEndpointId bind owner eid) s { hif := true } (fun t =>
        t.eid bind = eid ∧ t.hif.mctpOut = [0x00, 1, 0, 0, eid, 0] ∧ (∀ o, o ≠ bind → t.eid o = s.eid o))) ∧
    (∀ owner eid : Byte, eid = 0 ∨ eid = 0xFF →
      Answers (.setEndpointId bind owner eid) s { hif := true } (fun t => t.hif = { s.hif with mctpOut := [0x00, 1, 2] })) ∧
    Answers (.getEndpointId bind) s { hif := true } (fun t => t.hif = { s.hif with mctpOut := [0x00, 2, 0, s.eid bind, 0, 0] }) ∧
    (∀ m : Byte, m = 0 ∨ m = 0xFF →
      Answers (.getMctpVersionSupport bind m) s { hif := true } (fun t =>
        t.hif = { s.hif with mctpOut := [0x00, 4, 0, 1, 0xF1, 0xF3, 0xFF, 0] })) ∧
    (∀ m : Byte, m ∉ [0x00, 0x01, 0x05, 0x06, 0x7E, 0xFF] →
      Answers (.getMctpVersionSupport bind m) s { hif := true } (fun t => t.hif = { s.hif with mctpOut := [0x00, 4, 0x80] })) ∧
    Answers (.getMessageTypeSupport bind) s { hif := true } (fun t =>
      t.hif = { s.hif with mctpOut := [0x00, 5, 0, 5, 0x00, 0x01, 0x05, 0x06, 0x7E] }) ∧
    Answers (.getVendorDefinedMessageSupport bind 0) s { hif := true } (fun t => t.hif.mctpOut.take 7 = [0x00, 6, 0, 0xFF, 0, 0x1F, 0x6C]) ∧
    Answers (.getEndpointUuid bind) s { hif := true } (fun t =>
      t.hif = { s.hif with mctpOut := t.hif.mctpOut } ∧ t.hif.mctpOut.take 3 = [0x00, 3, 0]) ∧
    (∀ (secured : Bool) (w : W64) (c : Nat), c = (if secured then 18 else 19) → (secured = true → (s.spdm 18).isOpen = true) →
      (s.chan c).inFull = false → s.wordReason c w = none →
      Answers (.mctpVendorMessage secured 0x1F6C w) s { chans := true } (fun t =>
        t.chan c = { s.chan c with inWord := w, inFull := true } ∧ (∀ d, d ≠ c → t.chan d = s.chan d))) ∧
    (∀ (secured : Bool) (c : Nat), c = (if secured then 18 else 19) → (secured = true → (s.spdm 18).isOpen = true) →
      (takeWord s.boot.ready (s.chan c).queue = none →
        Answers (.mctpAck secured) s { chans := true } (fun t => t.chan c = { s.chan c with outWord := 0, outFull := false })) ∧
      (∀ w rest, takeWord s.boot.ready (s.chan c).queue = some (w, rest) →
        Answers (.mctpAck secured) s { chans := true } (fun t =>
          t.chan c = { s.chan c with queue := rest, outWord := w, outFull := true, outCnt := (s.chan c).outCnt + 1 }))) ∧
    (s.boot.recovery = false →
      Answers (.pldmBase bind 4) s { hif := true } (fun t =>
        t.hif = { s.hif with pldmOut := [0x01, 0, 4, 0, 0x35, 0, 0, 0, 0, 0, 0, 0] }) ∧
      (∀ (n : BitVec 16) (x : Nat), s.sensorReading n.toNat = some x →
        Answers (.pldmPlatformMonitoring bind n) s { hif := true } (fun t =>
          t.hif = { s.hif with pldmOut := [0x01, 2, 0x11, 0] ++ leBytes 8 x })) ∧
      (∀ n : BitVec 16, s.sensorReading n.toNat = none →
        Answers (.pldmPlatformMonitoring bind n) s { hif := true } (fun t => t.hif = { s.hif with pldmOut := [0x01, 2, 0x11, 0x80] })) ∧
      Answers (.pldmFruData bind) s { hif := true } (fun t => t.hif.pldmOut.take 4 = [0x01, 4, 2, 0])) ∧
    (∀ img : FwImage, s.boot.ready = true ∨ s.boot.recovery = true →
      Answers (.pldmFirmwareUpdate bind img) s { hif := true, sec := true } (fun t =>
        t.hif = { s.hif with pldmOut := [0x01, 5, 0x18, s.imageVerdict img] } ∧
        t.sec = { s.sec with fwWrite := if s.imageVerdict img = 0 then s.sec.fwWrite ++ [(img, none)] else s.sec.fwWrite }))

/-- JTAG (R415): BYPASS, IDCODE and SAMPLE/PRELOAD are offered in every state, and IDCODE shifts out bits [31:0] of ID_JTAG; EXTEST, CLAMP
and HIGHZ take the pins under scope BOARD and are not selected under any other; the network of IEEE 1687 opens under scope INTERNAL and
under no other. -/
def Obligations.JtagInstructionsNeedTheirScope : Prop :=
  ∀ s : State, s.pwr.off = false →
    Answers .bypass s { jtag := true } (fun t =>
      t.jtag.ir = .bypass ∧ t.jtag.pinsTaken = false ∧ t.jtag.access1687 = false) ∧
    Answers .idcode s { jtag := true } (fun t =>
      t.jtag.ir = .idcode ∧ t.jtag.data = 0x10B8474F ∧ t.jtag.pinsTaken = false ∧ t.jtag.access1687 = false) ∧
    Answers .samplePreload s { jtag := true } (fun t =>
      t.jtag.ir = .samplePreload ∧ t.jtag.pinsTaken = false ∧ t.jtag.access1687 = false) ∧
    Answers .extest s { jtag := true } (fun t =>
      (s.sec.scope = 1 → t.jtag.ir = .extest ∧ t.jtag.pinsTaken = true) ∧
      (s.sec.scope ≠ 1 → t.jtag.ir ≠ .extest ∧ t.jtag.pinsTaken = false) ∧ t.jtag.access1687 = false) ∧
    Answers .clamp s { jtag := true } (fun t =>
      (s.sec.scope = 1 → t.jtag.ir = .clamp ∧ t.jtag.pinsTaken = true) ∧
      (s.sec.scope ≠ 1 → t.jtag.ir ≠ .clamp ∧ t.jtag.pinsTaken = false) ∧ t.jtag.access1687 = false) ∧
    Answers .highz s { jtag := true } (fun t =>
      (s.sec.scope = 1 → t.jtag.ir = .highz ∧ t.jtag.pinsTaken = true) ∧
      (s.sec.scope ≠ 1 → t.jtag.ir ≠ .highz ∧ t.jtag.pinsTaken = false) ∧ t.jtag.access1687 = false) ∧
    (∀ active : Bool, Answers (.ieee1687Access active) s { jtag := true } (fun t =>
      (s.sec.scope = 2 → t.jtag.ir = .ieee1687 ∧ t.jtag.access1687 = active) ∧
      (s.sec.scope ≠ 2 → t.jtag.ir ≠ .ieee1687 ∧ t.jtag.access1687 = false) ∧ t.jtag.pinsTaken = false))

/-- Registers: a write stores the fields its bytes cover and keeps a field given a value that is not legal; a committed register keeps its
fields, and so do the rings of an enabled ring; an access outside every register is counted, returns zero and stores nothing. -/
def Obligations.RegistersReadAndWrite : Prop :=
  ∀ s : State, s.pwr.off = false →
    (∀ v : W64, s.reach .pf .bar0 0x10300 = .pf 0x10300 →
      Answers (.registerWrite .pf .bar0 0x10300 .whole v) s { flt := true, hif := true } (fun t =>
        t.flt = { s.flt with tlMode := if v.toNat % 4 ≤ 2 then BitVec.ofNat 2 (v.toNat % 4) else s.flt.tlMode })) ∧
    (∀ v : W64, s.reach .pf .bar0 0x10148 = .pf 0x10148 → s.lock.cGlobal = false →
      Answers (.registerWrite .pf .bar0 0x10148 .whole v) s { lock := true, hif := true } (fun t =>
        t.lock = { s.lock with
          wBase := BitVec.ofNat 10 (v.toNat / 2 ^ 30 % 1024)
          wSize := if v.toNat % 1024 ≤ 768 then BitVec.ofNat 10 (v.toNat % 1024) else s.lock.wSize })) ∧
    (∀ v : W64, s.reach .pf .bar0 0x10148 = .pf 0x10148 → s.lock.cGlobal = true →
      Answers (.registerWrite .pf .bar0 0x10148 .whole v) s { hif := true } (fun t =>
        t.hif = { s.hif with latches := s.hif.latches.set none 0 none })) ∧
    (∀ (fn : Func) (bar : Bar) (off : Nat) (part : Sys2Proof.Part) (v : W64), s.reach fn bar off = .unsupported →
      Answers (.registerWrite fn bar off part v) s { hif := true } (fun t =>
        t.hif = { s.hif with latches := s.hif.latches.set none (Func.key fn) none, unsupported := satInc s.hif.unsupported })) ∧
    (∀ (fn : Func) (bar : Bar) (off p : Nat) (part : Sys2Proof.Part) (v : W64), s.reach fn bar off = .vf p 0x08 →
      (s.part p).zeroing = none → (s.part p).rings.rqEnable = true →
      Answers (.registerWrite fn bar off part v) s { parts := true, hif := true } (fun t => ∀ q, t.part q = s.part q)) ∧
    (∀ (fn : Func) (bar : Bar) (off size : Nat) (wr : Bool), s.isUnsupported fn bar off size = true →
      Answers (.unsupportedRequest fn bar off size wr) s { hif := true } (fun t =>
        t.hif = { s.hif with
          latches := s.hif.latches.set none (Func.key fn) none, unsupported := satInc s.hif.unsupported
          readData := if wr then s.hif.readData else 0 }))

/-- 32-bit reads (R467): a read of the lower half of a register that is not RC returns it and latches the upper half, which the next read
of the upper half by the same function returns; every other access of the function cancels the latch; a 32-bit read of either half of an
RC register returns that half and clears nothing, and a 64-bit read returns it whole and clears it. -/
def Obligations.HalfReadsLatchTheUpperHalf : Prop :=
  ∀ (s : State) (fn : Func) (bar : Bar) (off : Nat), s.pwr.off = false →
    (off % 8 = 0 → (∃ o, s.reach fn bar off = .pf o ∨ ∃ p, s.reach fn bar off = .vf p o) →
      ((s.reach fn bar off).isRc = false →
        Answers (.halfReadLatch fn bar off) s { hif := true } (fun t =>
          t.hif.readData.toNat = (s.readAt (s.reach fn bar off)).toNat % 2 ^ 32 ∧
          t.hif.latches.get none (Func.key fn) =
            some { bar := bar, offset := off, upper := BitVec.ofNat 32 ((s.readAt (s.reach fn bar off)).toNat / 2 ^ 32) })) ∧
      (∀ l, s.reach fn bar off ≠ .pf 0x10000 → s.hif.latches.get none (Func.key fn) = some l → l.bar = bar → l.offset = off →
        Answers (.halfReadLatch fn bar (off + 4)) s { hif := true } (fun t => t.hif.readData = l.upper.zeroExtend 64)) ∧
      ((s.reach fn bar off).isRc = true → s.hif.latches.get none (Func.key fn) = none →
        Answers (.halfReadLatch fn bar off) s { hif := true } (fun t =>
          t.hif.readData.toNat = (s.readAt (s.reach fn bar off)).toNat % 2 ^ 32) ∧
        Answers (.halfReadLatch fn bar (off + 4)) s { hif := true } (fun t =>
          t.hif.readData.toNat = (s.readAt (s.reach fn bar off)).toNat / 2 ^ 32))) ∧
    (∀ c t, (c.accessBy = some fn ∨ (∃ b o, c = .halfReadLatch fn b o ∧ (o % 8 ≠ 0 ∨ (s.reach fn b o).isRc = true)) ∨
        (∃ b o z w, c = .unsupportedRequest fn b o z w ∧ s.isUnsupported fn b o z = true)) →
      exec c s = .next t → t.hif.latches.get none (Func.key fn) = none) ∧
    (∀ n, n < 22 → (2 ≤ n → n < 18 → s.vfOpen (n - 2) = true) → (s.chan n).queue = [] →
      Answers (.mbxOutRead n) s { chans := true, hif := true } (fun t => t.hif.readData = (s.chan n).outWord ∧ (t.chan n).outWord = 0))

/-! ## The Torren link -/

/-- Ports: all four lanes aligned begin the TIME exchanges, fewer leave the port down as a whole; two exchanges begin admission; a peer is
admitted or refused with the first failing reason, and after 8 ticks with TIMEOUT; a port that fails leaves UP, trains again after its
backoff, and is retrained or disabled by its register. Other ports keep their state. -/
def Obligations.PortsTrainAndAreAdmitted : Prop :=
  ∀ (s : State) (n : Nat), s.pwr.off = false → n < 24 →
    (∀ rate lanes, (s.port n).state = 1 → rate ≠ 3 →
      Answers (.portTrained n rate lanes) s { fab := true } (fun t =>
        (t.port n).lanesOk = lanes ∧ (t.port n).rate = (if lanes = 0xF then rate else 3) ∧
        (lanes = 0xF → (t.port n).state = 1 ∧ (t.port n).timeCount = 0 ∧ (t.port n).out.length = (s.port n).out.length + 1) ∧
        (lanes ≠ 0xF → (t.port n).state = if 0 < (s.port n).backoff then 5 else 1) ∧ (∀ m, m ≠ n → t.port m = s.port m))) ∧
    (∀ sent echo, (s.port n).rate ≠ 3 → (s.port n).state = 1 ∨ (s.port n).state = 2 ∨ (s.port n).state = 3 →
      Answers (.timeFrame n sent echo) s { freeCount := true, fab := true } (fun t =>
        (t.port n).timeCount = min 2 ((s.port n).timeCount + 1) ∧ (t.port n).lastLat = (s.time - echo).toNat / 2 ∧
        (t.port n).peerTime = sent ∧
        ((s.port n).timeCount = 0 → (t.port n).isLong = decide (578 < (s.time - echo).toNat / 2) ∧
          (t.port n).offset = sent + BitVec.ofNat 64 ((s.time - echo).toNat / 2) - s.time) ∧
        (t.port n).state = (if (s.port n).state = 1 ∧ 1 ≤ (s.port n).timeCount then 2 else (s.port n).state) ∧
        (∀ m, m ≠ n → t.port m = s.port m))) ∧
    (∀ h, (s.port n).state = 2 →
      Answers (.admitHello n h) s { freeCount := true, fab := true } (fun t =>
        (t.port n).hello = some h ∧ (t.port n).state = 2 ∧ (t.port n).out.length = (s.port n).out.length + 1 ∧
        (∀ m, m ≠ n → t.port m = s.port m))) ∧
    (∀ h ok, (s.port n).hello = some h → (s.port n).state = 2 →
      (s.admitReason n h ok = 0 →
        Answers (.admitProof n ok) s { freeCount := true, fab := true, chans := true, hif := true } (fun t =>
          (t.port n).state = 3 ∧ (t.port n).reason = 0 ∧ (t.port n).peer = BitVec.ofNat 10 h.device ∧
          (t.port n).digest = h.keyDigest ∧ (t.port n).backoff = 0)) ∧
      (s.admitReason n h ok ≠ 0 →
        Answers (.admitProof n ok) s { freeCount := true, fab := true, chans := true, hif := true } (fun t =>
          (t.port n).state = 4 ∧ (t.port n).reason = s.admitReason n h ok))) ∧
    (((s.port n).state = 1 ∧ (s.port n).rate ≠ 3) ∨ (s.port n).state = 2 → 8 ≤ (s.port n).admitTicks →
      Answers (.admissionTimeout n) s { fab := true, chans := true, hif := true } (fun t => (t.port n).state = 4 ∧ (t.port n).reason = 7)) ∧
    ((s.port n).admitTicks < 8 → exec (.admissionTimeout n) s = .next s) ∧
    (∀ cause, (s.port n).state = 3 →
      Answers (.portFail n cause) s { freeCount := true, fab := true } (fun t =>
        (t.port n).state = 5 ∧ (t.port n).replay = [] ∧ (t.port n).wait = [] ∧ (t.port n).pin = (s.port n).pin ∧
        (t.port n).fec = (if cause = .fec then satAdd (s.port n).fec 17 else (s.port n).fec))) ∧
    ((s.port n).state = 5 → (s.port n).disable = false → (s.port n).backoff ≤ (s.port n).admitTicks →
      Answers (.portRetry n) s { fab := true } (fun t =>
        t.port n = { s.port n with
          state := 1, rate := 3, admitTicks := 0, backoff := if (s.port n).backoff = 0 then 1 else min 1024 (2 * (s.port n).backoff) } ∧
        (∀ m, m ≠ n → t.port m = s.port m))) ∧
    ((s.port n).admitTicks < (s.port n).backoff → exec (.portRetry n) s = .next s) ∧
    (s.blockOpen = true → s.lock.cFabric = true → portRole s.lock.plan n ≠ 0 →
      Answers (.portRetrain n) s { freeCount := true, fab := true, hif := true } (fun t =>
        t.port n = (s.port n).toTraining ∧ (∀ m, m ≠ n → t.port m = s.port m))) ∧
    (s.blockOpen = true →
      Answers (.portDisable n true) s { freeCount := true, fab := true, hif := true } (fun t =>
        (t.port n).disable = true ∧ (t.port n).state = 6 ∧ (∀ m, m ≠ n → t.port m = s.port m))) ∧
    (s.blockOpen = true → (s.port n).disable = true →
      Answers (.portDisable n false) s { freeCount := true, fab := true, hif := true } (fun t =>
        (t.port n).disable = false ∧
        (t.port n).state = (if s.lock.cFabric = true ∧ portRole s.lock.plan n ≠ 0 then 1 else 0) ∧ (∀ m, m ≠ n → t.port m = s.port m)))

/-- Messages: a legal frame in order on an UP port is acknowledged, and one for an inbox that takes it stores its payload or raises its
signal word and changes no other byte; one for another device goes on with one hop more; a broadcast goes to the children too; a GROUP
message reaches a member; an illegal frame is dropped and counted, one out of order is not taken. -/
def Obligations.MessagesReachTheirInbox : Prop :=
  ∀ (s : State) (n : Nat) (f : Frame) (i : Inbox) (base : Nat), s.pwr.off = false → n < 24 → (s.port n).state = 3 →
    i = s.fab.inboxes.get {} f.tag.toNat → base = i.base.toNat * 4096 → s.fmChannel f.tag.toNat = none →
    (frameLegal f = false → ∀ c ∈ [Instr.msgPut n f, Instr.msgPutSignal n f, Instr.msgSignal n f, Instr.broadcastFrame n f],
      Answers c s { fab := true } (fun t =>
        t.port n = { s.port n with crcDrops := satInc (s.port n).crcDrops } ∧ (∀ m, m ≠ n → t.port m = s.port m))) ∧
    (frameLegal f = true → f.lseq ≠ (s.port n).expectLseq →
      ∀ c ∈ [Instr.msgPut n f, Instr.msgPutSignal n f, Instr.msgSignal n f, Instr.broadcastFrame n f],
      Answers c s { fab := true } (fun t =>
        (t.port n).expectLseq = (s.port n).expectLseq ∧ (t.port n).out.length = (s.port n).out.length + 1 ∧
        (∀ m, m ≠ n → t.port m = s.port m))) ∧
    (frameLegal f = true → f.lseq = (s.port n).expectLseq → f.kind = 2 → f.flags.getLsbD 2 = false → f.dst.toNat = s.device →
      inboxTakes i f = true →
      (argOk 1 f.arg = true →
        Answers (.msgPut n f) s { mem := true, host := true, poison := true, fab := true } (fun t =>
          (t.port n).expectLseq = (s.port n).expectLseq + 1 ∧
          t.rdBytes (base + f.offset.toNat) f.payload.length = f.payload ∧ s.keeps t [(base + f.offset.toNat, f.payload.length)])) ∧
      (argOk 2 f.arg = true → (base + f.offset.toNat + f.payload.length ≤ base + 8 * argIndex f.arg ∨
          base + 8 * argIndex f.arg + 8 ≤ base + f.offset.toNat) →
        Answers (.msgPutSignal n f) s { mem := true, host := true, poison := true, sync := true, fab := true } (fun t =>
          t.rdBytes (base + f.offset.toNat) f.payload.length = f.payload ∧
          t.rdLE (base + 8 * argIndex f.arg) 8 = (s.rdLE (base + 8 * argIndex f.arg) 8 + argInc f.arg) % 2 ^ 64 ∧
          s.keeps t [(base + f.offset.toNat, f.payload.length), (base + 8 * argIndex f.arg, 8)])) ∧
      (argOk 3 f.arg = true →
        Answers (.msgSignal n f) s { mem := true, host := true, poison := true, sync := true, fab := true } (fun t =>
          t.rdLE (base + 8 * argIndex f.arg) 8 = (s.rdLE (base + 8 * argIndex f.arg) 8 + argInc f.arg) % 2 ^ 64 ∧
          s.keeps t [(base + 8 * argIndex f.arg, 8)]))) ∧
    (frameLegal f = true → f.lseq = (s.port n).expectLseq → f.kind = 2 → f.flags.getLsbD 2 = false → f.dst.toNat = s.device →
      inboxTakes i f = false → argOk 1 f.arg = true →
      Answers (.msgPut n f) s { fab := true } (fun t => t.fab.drops = satInc s.fab.drops)) ∧
    (∀ m, frameLegal f = true → f.lseq = (s.port n).expectLseq → f.kind = 2 → f.flags.getLsbD 2 = false → f.dst.toNat ≠ s.device →
      argOk 1 f.arg = true → s.routePort f = some m → m ≠ n →
      Answers (.msgPut n f) s { fab := true } (fun t =>
        t.port m = (s.port m).push { f with hops := f.hops + 1 } ∧ (∀ j, j ≠ m → j ≠ n → t.port j = s.port j))) ∧
    (frameLegal f = true → f.lseq = (s.port n).expectLseq → f.kind = 2 → f.cls = 3 → f.flags.getLsbD 2 = true → argOk 1 f.arg = true →
      s.fab.parent.toNat = n → s.fab.children.getLsbD n = false → inboxTakes i f = true →
      Answers (.broadcastFrame n f) s { mem := true, host := true, poison := true, fab := true } (fun t =>
        t.rdBytes (base + f.offset.toNat) f.payload.length = f.payload ∧
        (∀ m < 24, s.fab.children.getLsbD m = true → (s.port m).state = 3 → t.port m = (s.port m).push { f with hops := f.hops + 1 }) ∧
        (∀ m < 24, m ≠ n → s.fab.children.getLsbD m = false → t.port m = s.port m))) ∧
    (frameLegal f = true → f.lseq = (s.port n).expectLseq → f.kind = 2 → f.cls = 1 → argOk 4 f.arg = true → f.dst.toNat = s.device →
      s.fab.member = true →
      (∀ p, Answers (.msgGroup n f (.start p)) s { fab := true } (fun t =>
        t.fab.pitch = p ∧ t.fab.startAt = some (p - s.fab.gtime) ∧ f.src.toNat ∈ t.fab.peers)) ∧
      (∀ p, Answers (.msgGroup n f (.pauseAt p)) s { fab := true } (fun t => t.fab.pauseAt = some (p - s.fab.gtime))) ∧
      (s.fab.master.toNat ≠ s.device → Answers (.msgGroup n f .calRequest) s { fab := true } (fun t =>
        t.fab.pauseAt = s.fab.pauseAt ∧ f.src.toNat ∈ t.fab.peers)) ∧
      (∀ step lanes, Answers (.msgGroup n f (.faultMap step lanes)) s { fab := true } (fun t =>
        (step, f.src.toNat, lanes) ∈ t.fab.maps)))

/-- The link layer and the windows: an acknowledgement empties the replay buffer up to it, a request or a timeout sends frames again,
credits let waiting frames go in order; a window frame for this device is kept until its deadline, where each window reaches its sites,
a bound port attachment site by its express port, what is missing as poisoned flits, and one for another device of the basin goes on; a member's step begins at its pitch point, and one more than 17 counts late is skipped. -/
def Obligations.LinksWindowsAndPitchPoints : Prop :=
  ∀ (s : State) (n : Nat), s.pwr.off = false → n < 24 →
    (∀ lseq : W32, Answers (.linkAck n lseq) s { fab := true } (fun t =>
      t.port n = { s.port n with replay := (s.port n).replay.filter (fun f => decide (lseq.toNat < f.lseq.toNat ∧
          f.lseq.toNat - lseq.toNat ≤ 2 ^ 31 ∨ f.lseq.toNat < lseq.toNat ∧ f.lseq.toNat + 2 ^ 31 ≤ lseq.toNat)) } ∧
      (∀ m, m ≠ n → t.port m = s.port m))) ∧
    (∀ lseq : W32, (s.port n).state = 3 →
      Answers (.retransmissionRequest n lseq) s { fab := true } (fun t =>
        (t.port n).replay = (s.port n).replay ∧
        (t.port n).out = (s.port n).out ++ (s.port n).replay.filter (fun f => decide ((f.lseq - lseq).toNat < 2 ^ 31)) ∧
        (∀ m, m ≠ n → t.port m = s.port m))) ∧
    (∀ f rest, (s.port n).state = 3 → (s.port n).replay = f :: rest →
      Answers (.retransmitTimeout n) s { fab := true } (fun t =>
        t.port n = { s.port n with out := (s.port n).out ++ [f], retrans := satInc (s.port n).retrans } ∧
        (∀ m, m ≠ n → t.port m = s.port m))) ∧
    (∀ cls credits k, 1 ≤ cls → cls ≤ 3 → (s.port n).credits.length = 4 → (∀ f ∈ (s.port n).wait, f.cls.toNat = cls) →
      k = min ((s.port n).credits.getD cls 0 + credits) (s.port n).wait.length →
      Answers (.linkCredit n cls credits) s { fab := true } (fun t =>
        (t.port n).wait = (s.port n).wait.drop k ∧ (t.port n).credits.getD cls 0 = (s.port n).credits.getD cls 0 + credits - k ∧
        (t.port n).out.length = (s.port n).out.length + k ∧ (t.port n).replay.length = (s.port n).replay.length + k ∧
        (t.port n).nextLseq = (s.port n).nextLseq + BitVec.ofNat 32 k ∧ (∀ m, m ≠ n → t.port m = s.port m))) ∧
    (∀ f : Frame, (s.port n).state = 3 → frameLegal f = true → f.kind = 1 → portRole s.lock.plan n ≠ 7 → (s.port n).isLong = false →
      f.dst.toNat = s.device →
      Answers (.windowFrame n f) s { fab := true } (fun t =>
        t.fab = { s.fab with
          winGot := s.fab.winGot ++ [(f.arg.toNat, f.tag.toNat, f.offset.toNat, f.payload)]
          winPoisoned := if f.flags.getLsbD 0 then s.fab.winPoisoned ++ [(f.arg.toNat, f.tag.toNat)] else s.fab.winPoisoned })) ∧
    (∀ f : Frame, (s.port n).state = 3 → frameLegal f = false ∨ f.kind ≠ 1 ∨ portRole s.lock.plan n = 7 ∨ (s.port n).isLong = true →
      Answers (.windowFrame n f) s { fab := true } (fun t =>
        t.port n = { s.port n with crcDrops := satInc (s.port n).crcDrops } ∧ t.fab.winGot = s.fab.winGot)) ∧
    (∀ (f : Frame) r m rest, (s.port n).state = 3 → frameLegal f = true → f.kind = 1 → portRole s.lock.plan n ≠ 7 → (s.port n).isLong = false →
      f.dst.toNat ≠ s.device → f.dst.toNat / 64 = s.device / 64 → f.hops.toNat < 3 → s.routeRole f.dst.toNat = some r → s.windowSet r = m :: rest →
      Answers (.windowFrame n f) s { fab := true } (fun t =>
        t.port m = { s.port m with out := (s.port m).out ++
          [{ f with hops := f.hops + 1, crc := ({ f with hops := f.hops + 1 } : Frame).crcOf }] } ∧
        (∀ j, j ≠ m → t.port j = s.port j) ∧ t.fab.winGot = s.fab.winGot)) ∧
    (∀ slot v, s.runImg = some v → s.sync.stalled = false →
      Answers (.windowDeadline slot) s { sites := true, mesh := true, fab := true } (fun t =>
        t.fab.winGot = s.fab.winGot.filter (fun e => decide (e.1 ≠ slot)) ∧
        (∀ w bs, s.windowData slot w.1 w.2.1 = some bs → s.fab.winPoisoned.contains (slot, w.1) = false →
          (s.windowFlits slot w).flatMap (·.1) = wordsOf bs ∧ (s.windowFlits slot w).any (·.2) = false) ∧
        (∀ w k, v.windows.filter (fun x => x.2.2.contains k) = [w] → w.2.2.Nodup →
          (s.portBound k = false →
            (t.site k).inbox = (s.site k).inbox ++ (s.windowFlits slot w).flatMap (·.1) ∧
            (t.site k).poisonIn = ((s.site k).poisonIn || (s.windowFlits slot w).any (·.2))) ∧
          (s.portBound k = true → t.site k = s.site k ∧
            ∀ e ∈ (s.windowFlits slot w).zipIdx,
              { dest := .router k 6, due := s.eng.clkOf (siteHalf k) + e.2 * nclkTime s.clk.plan (siteHalf k), words := e.1.1,
                poisoned := e.1.2 } ∈ t.mesh.flits)))) ∧
    (∀ slot w, 0 < w.2.1 → s.windowData slot w.1 w.2.1 = none → (s.windowFlits slot w).any (·.2) = true) ∧
    (∀ slot, s.sync.stalled = true → exec (.windowDeadline slot) s = .next s) ∧
    (∀ late v, s.atPitch = true → s.runImg = some v →
      (late ≤ 17 →
        Answers (.pitchPoint late) s { time := true, fab := true } (fun t =>
          t.time = maxTime s.time (s.pitchTime late) ∧
          t.fab = { s.fab with pitch := s.fab.pitch + BitVec.ofNat 64 (stepCounts v) + s.fab.guard.zeroExtend 64 })) ∧
      (17 < late →
        Answers (.pitchPoint late) s { time := true, cur := true, fab := true } (fun t =>
          t.time = maxTime s.time (s.pitchTime late) ∧ t.fab.slips = satInc s.fab.slips ∧ t.fab.slipping = true ∧ t.cur.empty = true ∧
          (∀ l ∈ t.cur.lanes, l.ran = false) ∧ t.cur.lanes.length = s.cur.lanes.length)))
end

