-- ==== Sys2Proof/Laws/Sparse.lean ====
section
/-! SUPPORT. The laws of sparse data and of memory: a write is read back where it went and changes nothing else, and every
operation keeps the canonical form. -/

namespace Sys2Proof

variable {α : Type} [DecidableEq α]

/-- A key lies above a bound. -/
def Sparse.Above (lo : Option Nat) (a : Nat) : Prop := ∀ l, lo = some l → l < a

theorem Sparse.above_none (a : Nat) : Sparse.Above none a := by intro l h; cases h

theorem Sparse.above_some {l a : Nat} : Sparse.Above (some l) a ↔ l < a :=
  ⟨fun h => h l rfl, fun h m e => by cases e; exact h⟩

theorem Sparse.above_trans {lo : Option Nat} {a b : Nat} (h : Sparse.Above lo a) (hab : a < b) : Sparse.Above lo b :=
  fun l e => lt_trans (h l e) hab

/-- The canonical form of a non-empty store, by its head. -/
theorem Sparse.wfFrom_cons {d : α} {lo : Option Nat} {k : Nat} {v : α} {m : Sparse α} :
    Sparse.wfFrom d lo ((k, v) :: m) = true ↔ Sparse.Above lo k ∧ v ≠ d ∧ Sparse.wfFrom d (some k) m = true := by
  cases lo with
  | none => simp [Sparse.wfFrom, Sparse.above_none]
  | some l => simp [Sparse.wfFrom, Sparse.above_some, and_assoc]

theorem Sparse.wfFrom_nil {d : α} {lo : Option Nat} : Sparse.wfFrom d lo ([] : Sparse α) = true := by cases lo <;> rfl

/-- A store well formed above a key is well formed above a smaller bound. -/
theorem Sparse.wfFrom_mono {d : α} {k : Nat} {lo : Option Nat} {m : Sparse α} (hk : Sparse.Above lo k ∨ lo = some k)
    (h : Sparse.wfFrom d (some k) m = true) : Sparse.wfFrom d lo m = true := by
  cases m with
  | nil => exact Sparse.wfFrom_nil
  | cons e m =>
    obtain ⟨k2, v⟩ := e
    rw [Sparse.wfFrom_cons] at h ⊢
    refine ⟨?_, h.2⟩
    rcases hk with hk | rfl
    · exact Sparse.above_trans hk (Sparse.above_some.1 h.1)
    · exact h.1

/-- Keeping some entries of a store keeps the canonical form. -/
theorem Sparse.wfFrom_filter {d : α} (p : Nat × α → Bool) :
    ∀ {m : Sparse α} {lo : Option Nat}, Sparse.wfFrom d lo m = true → Sparse.wfFrom d lo (m.filter p) = true
  | [], _, _ => Sparse.wfFrom_nil
  | (k, v) :: m, lo, h => by
    have hc := Sparse.wfFrom_cons.1 h
    by_cases hp : p (k, v)
    · rw [List.filter_cons_of_pos hp]
      exact Sparse.wfFrom_cons.2 ⟨hc.1, hc.2.1, Sparse.wfFrom_filter p hc.2.2⟩
    · rw [List.filter_cons_of_neg hp]
      exact Sparse.wfFrom_filter p (Sparse.wfFrom_mono (.inl hc.1) hc.2.2)

/-- Putting an entry whose key is absent keeps the canonical form above any bound below the key. -/
theorem Sparse.wfFrom_put {d : α} {a : Nat} {v : α} (hv : v ≠ d) :
    ∀ {m : Sparse α} {lo : Option Nat}, Sparse.wfFrom d lo m = true → Sparse.Above lo a → (∀ e ∈ m, e.1 ≠ a) →
      Sparse.wfFrom d lo (Sparse.put m a v) = true
  | [], lo, _, ha, _ => Sparse.wfFrom_cons.2 ⟨ha, hv, Sparse.wfFrom_nil⟩
  | (k, w) :: m, lo, h, ha, hm => by
    have hc := Sparse.wfFrom_cons.1 h
    have hk : k ≠ a := hm (k, w) (by simp)
    by_cases h1 : a < k
    · simp only [Sparse.put, if_pos h1]
      exact Sparse.wfFrom_cons.2 ⟨ha, hv, Sparse.wfFrom_cons.2 ⟨Sparse.above_some.2 h1, hc.2⟩⟩
    · simp only [Sparse.put, if_neg h1]
      exact Sparse.wfFrom_cons.2 ⟨hc.1, hc.2.1,
        Sparse.wfFrom_put hv hc.2.2 (Sparse.above_some.2 (by omega)) (fun e he => hm e (by simp [he]))⟩

/-- Setting a key keeps the canonical form. -/
theorem Sparse.wf_set {d : α} {m : Sparse α} (h : Sparse.wf d m = true) (a : Nat) (v : α) : Sparse.wf d (Sparse.set d m a v) = true := by
  unfold Sparse.set
  split
  · exact Sparse.wfFrom_filter _ h
  · next hv =>
    refine Sparse.wfFrom_put hv (Sparse.wfFrom_filter _ h) (Sparse.above_none a) (fun e he => ?_)
    simpa using (List.mem_filter.1 he).2

omit [DecidableEq α] in
/-- A filter by key reads as the default where the key is dropped. -/
theorem Sparse.get_filter {d : α} (p : Nat → Bool) (b : Nat) :
    ∀ m : Sparse α, Sparse.get d (m.filter (fun e => p e.1)) b = if p b then Sparse.get d m b else d
  | [] => by simp [Sparse.get]
  | (k, v) :: m => by
    by_cases hp : p k
    · rw [List.filter_cons_of_pos (by simpa using hp)]
      by_cases hk : k = b
      · subst hk; simp [Sparse.get, hp]
      · simp only [Sparse.get, if_neg hk, Sparse.get_filter p b m]
    · rw [List.filter_cons_of_neg (by simpa using hp), Sparse.get_filter p b m]
      by_cases hk : k = b
      · subst hk; simp [hp]
      · simp only [Sparse.get, if_neg hk]

omit [DecidableEq α] in
theorem Sparse.get_erase {d : α} (m : Sparse α) (a b : Nat) :
    Sparse.get d (Sparse.erase m a) b = if b = a then d else Sparse.get d m b := by
  have h := Sparse.get_filter (d := d) (fun k => decide (k ≠ a)) b m
  unfold Sparse.erase
  rw [h]
  by_cases h : b = a <;> simp [h]

omit [DecidableEq α] in
theorem Sparse.get_put {d : α} {a : Nat} {v : α} (b : Nat) :
    ∀ m : Sparse α, Sparse.get d m a = d → (∀ e ∈ m, e.1 ≠ a) → Sparse.get d (Sparse.put m a v) b = if b = a then v else Sparse.get d m b
  | [], _, _ => by
    by_cases h : b = a
    · subst h; simp [Sparse.put, Sparse.get]
    · simp [Sparse.put, Sparse.get, h, Ne.symm h]
  | (k, w) :: m, hg, hm => by
    have hk : k ≠ a := hm (k, w) (by simp)
    have hg2 : Sparse.get d m a = d := by simpa [Sparse.get, hk] using hg
    by_cases h1 : a < k
    · by_cases h : b = a
      · subst h; simp [Sparse.put, Sparse.get, h1]
      · simp [Sparse.put, Sparse.get, h1, h, Ne.symm h]
    · simp only [Sparse.put, if_neg h1, Sparse.get, Sparse.get_put b m hg2 (fun e he => hm e (by simp [he]))]
      by_cases h2 : k = b
      · subst h2; simp [hk]
      · simp [h2]

/-- A value set is read back, and every other key is left. -/
theorem Sparse.get_set {d : α} (m : Sparse α) (a b : Nat) (v : α) :
    Sparse.get d (Sparse.set d m a v) b = if b = a then v else Sparse.get d m b := by
  unfold Sparse.set
  split
  · next hv => rw [Sparse.get_erase, hv]
  · rw [Sparse.get_put b _ (by rw [Sparse.get_erase, if_pos rfl])
      (fun e he => by simpa using (List.mem_filter.1 he).2), Sparse.get_erase]
    by_cases h : b = a <;> simp [h]

theorem Sparse.get_set_self {d : α} (m : Sparse α) (a : Nat) (v : α) : Sparse.get d (Sparse.set d m a v) a = v := by
  rw [Sparse.get_set, if_pos rfl]

/-- Updating a key keeps the canonical form. -/
theorem Sparse.wf_upd {d : α} {m : Sparse α} (h : Sparse.wf d m = true) (a : Nat) (f : α → α) : Sparse.wf d (Sparse.upd d m a f) = true :=
  Sparse.wf_set h a _

theorem Sparse.get_upd {d : α} (m : Sparse α) (a b : Nat) (f : α → α) :
    Sparse.get d (Sparse.upd d m a f) b = if b = a then f (Sparse.get d m a) else Sparse.get d m b :=
  Sparse.get_set m a b _

theorem Sparse.get_upd_self {d : α} (m : Sparse α) (a : Nat) (f : α → α) :
    Sparse.get d (Sparse.upd d m a f) a = f (Sparse.get d m a) := by
  rw [Sparse.get_upd, if_pos rfl]

/-- Keys dropped keep the canonical form. -/
theorem Sparse.wf_drop {d : α} {m : Sparse α} (h : Sparse.wf d m = true) (p : Nat → Bool) : Sparse.wf d (Sparse.drop p m) = true :=
  Sparse.wfFrom_filter _ h

/-- Every key of a store well formed above a key lies above it. -/
theorem Sparse.lt_of_wfFrom {d : α} : ∀ {m : Sparse α} {l : Nat}, Sparse.wfFrom d (some l) m = true → ∀ e ∈ m, l < e.1
  | [], _, _, e, he => by cases he
  | (k, v) :: m, l, h, e, he => by
    have hc := Sparse.wfFrom_cons.1 h
    have hk := Sparse.above_some.1 hc.1
    rcases List.mem_cons.1 he with rfl | he
    · exact hk
    · exact lt_trans hk (Sparse.lt_of_wfFrom hc.2.2 e he)

/-- Values mapped and defaults dropped keep the canonical form. -/
theorem Sparse.wfFrom_mapVals {d : α} (f : Nat → α → α) :
    ∀ {m : Sparse α} {lo : Option Nat}, Sparse.wfFrom d lo m = true → Sparse.wfFrom d lo (Sparse.mapVals d f m) = true
  | [], _, _ => Sparse.wfFrom_nil
  | (k, v) :: m, lo, h => by
    have hc := Sparse.wfFrom_cons.1 h
    have ih := Sparse.wfFrom_mapVals f hc.2.2
    unfold Sparse.mapVals
    split
    · exact Sparse.wfFrom_mono (.inl hc.1) (Sparse.wfFrom_filter _ ih)
    · exact Sparse.wfFrom_cons.2 ⟨hc.1, ‹_›, ih⟩

/-- Values mapped: a key reads the image of what it read, where the default's image is the default. -/
theorem Sparse.get_mapVals {d : α} (f : Nat → α → α) (hd : ∀ k, f k d = d) :
    ∀ (m : Sparse α) (a : Nat), Sparse.get d (Sparse.mapVals d f m) a = f a (Sparse.get d m a)
  | [], a => by simp [Sparse.mapVals, Sparse.get, hd]
  | (k, v) :: m, a => by
    have ih := Sparse.get_mapVals f hd m a
    unfold Sparse.mapVals
    by_cases hk : k = a
    · subst hk
      split
      · rw [Sparse.get_erase, if_pos rfl]; simp [Sparse.get, *]
      · simp [Sparse.get]
    · split
      · rw [Sparse.get_erase, if_neg (fun e => hk e.symm), ih]; simp [Sparse.get, hk]
      · simp [Sparse.get, hk, ih]

/-- An entry is read exactly where the store reads that value, which is not the default. -/
theorem Sparse.mem_entries {d : α} : ∀ {m : Sparse α} {e : Nat × α}, e ∈ Sparse.entries d m ↔ Sparse.get d m e.1 = e.2 ∧ e.2 ≠ d
  | [], e => by simp [Sparse.entries, Sparse.get]; exact fun h => h.symm
  | (k, v) :: m, e => by
    have ih := Sparse.mem_entries (d := d) (m := m) (e := e)
    unfold Sparse.entries
    by_cases hk : k = e.1
    · subst hk
      by_cases hv : v = d
      · simp [Sparse.get, hv, List.mem_filter]
        exact fun h => h.symm
      · simp only [hv, if_false, List.mem_cons, List.mem_filter, Sparse.get, if_pos]
        constructor
        · rintro (h | ⟨_, h⟩)
          · rw [h]; exact ⟨rfl, hv⟩
          · simp at h
        · rintro ⟨h, _⟩; exact .inl (by rw [h])
    · have hf : e ∈ (Sparse.entries d m).filter (fun x => decide (x.1 ≠ k)) ↔ e ∈ Sparse.entries d m := by
        rw [List.mem_filter]; simp [Ne.symm hk]
      by_cases hv : v = d
      · simp only [hv, if_true, hf, ih, Sparse.get, hk, if_false]
      · simp only [hv, if_false, List.mem_cons, hf, ih, Sparse.get, hk]
        constructor
        · rintro (h | h)
          · exact absurd (by rw [h]) hk
          · exact h
        · exact fun h => .inr h

/-- No key stands twice among the entries. -/
theorem Sparse.nodup_entries {d : α} : ∀ m : Sparse α, ((Sparse.entries d m).map (·.1)).Nodup
  | [] => List.nodup_nil
  | (k, v) :: m => by
    have ih := Sparse.nodup_entries (d := d) m
    have hf : (((Sparse.entries d m).filter (fun e => decide (e.1 ≠ k))).map (·.1)).Nodup :=
      ih.sublist (List.Sublist.map _ (List.filter_sublist))
    unfold Sparse.entries
    split
    · exact hf
    · refine List.nodup_cons.2 ⟨?_, hf⟩
      simp [List.mem_filter]

/-- In canonical form the entries are the store itself. -/
theorem Sparse.entries_of_wfFrom {d : α} : ∀ {m : Sparse α} {lo : Option Nat}, Sparse.wfFrom d lo m = true → Sparse.entries d m = m
  | [], _, _ => rfl
  | (k, v) :: m, lo, h => by
    have hc := Sparse.wfFrom_cons.1 h
    unfold Sparse.entries
    rw [Sparse.entries_of_wfFrom hc.2.2]
    have : m.filter (fun e => decide (e.1 ≠ k)) = m := by
      refine List.filter_eq_self.2 (fun e he => ?_)
      have := Sparse.lt_of_wfFrom hc.2.2 e he
      simp; omega
    rw [if_neg hc.2.1, this]

theorem Sparse.wf_mapVals {d : α} {m : Sparse α} (h : Sparse.wf d m = true) (f : Nat → α → α) : Sparse.wf d (Sparse.mapVals d f m) = true :=
  Sparse.wfFrom_mapVals f h

/-- A run of values written keeps the canonical form. -/
theorem Sparse.wf_setList {d : α} : ∀ (vs : List α) {m : Sparse α} (a : Nat), Sparse.wf d m = true → Sparse.wf d (Sparse.setList d m a vs) = true
  | [], _, _, h => h
  | _ :: vs, _, a, h => Sparse.wf_setList vs (a + 1) (Sparse.wf_set h a _)

/-- A run of values written is read back, and every other key is left. -/
theorem Sparse.get_setList {d : α} : ∀ (vs : List α) (m : Sparse α) (a b : Nat),
    Sparse.get d (Sparse.setList d m a vs) b = if h : a ≤ b ∧ b < a + vs.length then vs[b - a]'(by omega) else Sparse.get d m b
  | [], m, a, b => by simp [Sparse.setList]
  | v :: vs, m, a, b => by
    rw [Sparse.setList, Sparse.get_setList vs _ (a + 1) b, Sparse.get_set]
    by_cases h1 : b = a
    · subst h1; simp
    · by_cases h2 : a + 1 ≤ b ∧ b < a + 1 + vs.length
      · have h3 : a ≤ b ∧ b < a + (v :: vs).length := by simp; omega
        rw [dif_pos h2, dif_pos h3]
        have e : b - a = (b - (a + 1)) + 1 := by omega
        simp only [e, List.getElem_cons_succ]
      · have h3 : ¬(a ≤ b ∧ b < a + (v :: vs).length) := by simp; omega
        rw [dif_neg h2, dif_neg h3, if_neg h1]

/-- Entries folded in keep the canonical form. -/
theorem Sparse.wf_foldSet {d : α} (g : Nat × α → Nat) (v : Nat × α → α) : ∀ (l : List (Nat × α)) {m : Sparse α},
    Sparse.wf d m = true → Sparse.wf d (l.foldl (fun acc e => acc.set d (g e) (v e)) m) = true
  | [], _, h => h
  | _ :: l, _, h => Sparse.wf_foldSet g v l (Sparse.wf_set h _ _)

/-- Entries folded in: a key reads what the last of them with that place gives it, all of them alike. -/
theorem Sparse.get_foldSet {d : α} (g : Nat × α → Nat) (v : Nat × α → α) (x : α) (b : Nat) : ∀ (l : List (Nat × α)) (m : Sparse α),
    (∀ e ∈ l, g e = b → v e = x) →
    Sparse.get d (l.foldl (fun acc e => acc.set d (g e) (v e)) m) b = if ∃ e ∈ l, g e = b then x else Sparse.get d m b
  | [], m, _ => by simp
  | e :: l, m, h => by
    rw [List.foldl_cons, Sparse.get_foldSet g v x b l _ (fun y hy => h y (List.mem_cons_of_mem _ hy)), Sparse.get_set]
    by_cases h1 : ∃ e ∈ l, g e = b
    · rw [if_pos h1, if_pos]
      obtain ⟨y, hy, e1⟩ := h1
      exact ⟨y, List.mem_cons_of_mem _ hy, e1⟩
    · rw [if_neg h1]
      by_cases h2 : b = g e
      · rw [if_pos h2, if_pos ⟨e, List.mem_cons_self, h2.symm⟩]; exact h e (List.mem_cons_self) h2.symm
      · rw [if_neg h2, if_neg]
        rintro ⟨y, hy, e1⟩
        rcases List.mem_cons.1 hy with rfl | hy
        · exact h2 e1.symm
        · exact h1 ⟨y, hy, e1⟩

omit [DecidableEq α] in
/-- A key that reads something but the default is listed. -/
theorem Sparse.listed {d : α} : ∀ (m : Sparse α) (a : Nat), Sparse.get d m a ≠ d → ∃ e ∈ m, e.1 = a
  | [], a, h => absurd rfl h
  | (k, v) :: m, a, h => by
    by_cases hk : k = a
    · exact ⟨(k, v), List.mem_cons_self, hk⟩
    · rw [Sparse.get, if_neg hk] at h
      obtain ⟨e, he, e1⟩ := Sparse.listed m a h
      exact ⟨e, List.mem_cons_of_mem _ he, e1⟩

/-- A range copied reads as its source did, and every key outside it is left. -/
theorem Sparse.get_copyRange {d : α} (m from_ : Sparse α) (src dst n b : Nat) :
    Sparse.get d (Sparse.copyRange d m from_ src dst n) b =
      if dst ≤ b ∧ b < dst + n then Sparse.get d from_ (b - dst + src) else Sparse.get d m b := by
  unfold Sparse.copyRange
  have hd := Sparse.get_filter (d := d) (fun k => !decide (dst ≤ k ∧ k < dst + n)) b m
  rw [Sparse.get_foldSet (fun e : Nat × α => e.1 - src + dst) (fun e => Sparse.get d from_ e.1) (Sparse.get d from_ (b - dst + src)) b]
  · have hdr : Sparse.get d (Sparse.drop (fun k => decide (dst ≤ k ∧ k < dst + n)) m) b =
        if dst ≤ b ∧ b < dst + n then d else Sparse.get d m b := by
      unfold Sparse.drop; rw [hd]; by_cases h : dst ≤ b ∧ b < dst + n <;> simp [h]
    rw [hdr]
    by_cases hb : dst ≤ b ∧ b < dst + n
    · simp only [hb, if_true, and_self]
      split
      · rfl
      · rename_i hn
        by_contra hne
        obtain ⟨e, he, e1⟩ := Sparse.listed from_ (b - dst + src) (fun h => hne h.symm)
        exact hn ⟨e, List.mem_filter.2 ⟨he, by simp; omega⟩, by omega⟩
    · rw [if_neg hb, if_neg hb, if_neg]
      rintro ⟨e, he, e1⟩
      have := (List.mem_filter.1 he).2
      simp at this
      omega
  · intro e he e1
    have := (List.mem_filter.1 he).2
    simp at this
    congr 1
    omega

/-- A range copied keeps the canonical form. -/
theorem Sparse.wf_copyRange {d : α} {m : Sparse α} (h : Sparse.wf d m = true) (from_ : Sparse α) (src dst n : Nat) :
    Sparse.wf d (Sparse.copyRange d m from_ src dst n) = true :=
  Sparse.wf_foldSet (fun e => e.1 - src + dst) (fun e => from_.get d e.1) _ (Sparse.wf_drop h _)

/-! ## Memory -/

theorem Memory.wf_write {m : Memory} (h : m.wf = true) (a : Nat) (b : Byte) : (m.write a b).wf = true := Sparse.wf_set h a b

theorem Memory.read_write (m : Memory) (a c : Nat) (b : Byte) :
    (m.write a b).read c = if c = a then b else m.read c := Sparse.get_set m a c b

theorem Memory.wf_writeBytes {m : Memory} (h : m.wf = true) (a : Nat) (bs : List Byte) : (m.writeBytes a bs).wf = true :=
  Sparse.wf_setList bs a h

/-- Bytes written are read back, and every byte outside them is left. -/
theorem Memory.read_writeBytes (m : Memory) (a c : Nat) (bs : List Byte) :
    (m.writeBytes a bs).read c = if h : a ≤ c ∧ c < a + bs.length then bs[c - a]'(by omega) else m.read c :=
  Sparse.get_setList bs m a c

theorem Memory.wf_writeLE {m : Memory} (h : m.wf = true) (a n v : Nat) : (m.writeLE a n v).wf = true :=
  Memory.wf_writeBytes h a _

theorem leBytes_length : ∀ n v : Nat, (leBytes n v).length = n
  | 0, _ => rfl
  | n + 1, v => by simp [leBytes, leBytes_length n]

/-- A number written leaves every byte outside it. -/
theorem Memory.read_writeLE_other (m : Memory) (a n v c : Nat) (hc : ¬(a ≤ c ∧ c < a + n)) :
    (m.writeLE a n v).read c = m.read c := by
  unfold Memory.writeLE
  rw [Memory.read_writeBytes, dif_neg (by rw [leBytes_length]; exact hc)]

theorem Memory.wf_zero {m : Memory} (h : m.wf = true) (a n : Nat) : (m.zero a n).wf = true := Sparse.wfFrom_filter _ h

/-- A range zeroed reads zero, and every byte outside it is left. -/
theorem Memory.read_zero (m : Memory) (a n c : Nat) :
    (m.zero a n).read c = if a ≤ c ∧ c < a + n then 0#8 else m.read c := by
  have := Sparse.get_filter (d := (0#8 : Byte)) (fun k => !decide (a ≤ k ∧ k < a + n)) c m
  unfold Memory.zero Memory.read
  rw [this]
  by_cases hc : a ≤ c ∧ c < a + n <;> simp [hc]

/-- A number's bytes hold it, modulo their width (R71). -/
theorem ofLE_leBytes : ∀ n v : Nat, ofLE (leBytes n v) = v % 256 ^ n
  | 0, v => by simp [leBytes, ofLE, Nat.mod_one]
  | n + 1, v => by
    rw [leBytes, ofLE, ofLE_leBytes n, BitVec.toNat_ofNat, show (256 : Nat) ^ (n + 1) = 256 * 256 ^ n from pow_succ' 256 n,
      Nat.mod_mul (a := 256), show (2 : Nat) ^ 8 = 256 from rfl]

/-- A number written in `n` bytes is read back, modulo their width. -/
theorem Memory.readLE_writeLE : ∀ (n : Nat) (m : Memory) (a v : Nat), (m.writeLE a n v).readLE a n = v % 256 ^ n
  | 0, m, a, v => by simp [Memory.readLE, Nat.mod_one]
  | n + 1, m, a, v => by
    have e : m.writeLE a (n + 1) v = (m.write a (BitVec.ofNat 8 v)).writeLE (a + 1) n (v / 256) := rfl
    rw [Memory.readLE, e, Memory.readLE_writeLE n _ (a + 1) (v / 256),
      Memory.read_writeLE_other _ _ _ _ _ (by omega), Memory.read_write, if_pos rfl, BitVec.toNat_ofNat,
      show (256 : Nat) ^ (n + 1) = 256 * 256 ^ n from pow_succ' 256 n, Nat.mod_mul (a := 256), show (2 : Nat) ^ 8 = 256 from rfl]

end Sys2Proof
end

