-- ==== Sys2Proof/Laws/State.lean ====
section
/-! SUPPORT. One law per field and update: an update of one record leaves every other field of the state. -/

namespace Sys2Proof.Machine

section
variable (s : State) (p : Nat) (f : Part → Part)
@[simp] theorem State.updPart_pending : (s.updPart p f).pending = s.pending := rfl
@[simp] theorem State.updPart_time : (s.updPart p f).time = s.time := rfl
@[simp] theorem State.updPart_freeCount : (s.updPart p f).freeCount = s.freeCount := rfl
@[simp] theorem State.updPart_lock : (s.updPart p f).lock = s.lock := rfl
@[simp] theorem State.updPart_clk : (s.updPart p f).clk = s.clk := rfl
@[simp] theorem State.updPart_thm : (s.updPart p f).thm = s.thm := rfl
@[simp] theorem State.updPart_pwr : (s.updPart p f).pwr = s.pwr := rfl
@[simp] theorem State.updPart_cool : (s.updPart p f).cool = s.cool := rfl
@[simp] theorem State.updPart_boot : (s.updPart p f).boot = s.boot := rfl
@[simp] theorem State.updPart_nv : (s.updPart p f).nv = s.nv := rfl
@[simp] theorem State.updPart_mem : (s.updPart p f).mem = s.mem := rfl
@[simp] theorem State.updPart_host : (s.updPart p f).host = s.host := rfl
@[simp] theorem State.updPart_poison : (s.updPart p f).poison = s.poison := rfl
@[simp] theorem State.updPart_cells : (s.updPart p f).cells = s.cells := rfl
@[simp] theorem State.updPart_acc24 : (s.updPart p f).acc24 = s.acc24 := rfl
@[simp] theorem State.updPart_acc48 : (s.updPart p f).acc48 = s.acc48 := rfl
@[simp] theorem State.updPart_shadow : (s.updPart p f).shadow = s.shadow := rfl
@[simp] theorem State.updPart_arrs : (s.updPart p f).arrs = s.arrs := rfl
@[simp] theorem State.updPart_sites : (s.updPart p f).sites = s.sites := rfl
@[simp] theorem State.updPart_wgt : (s.updPart p f).wgt = s.wgt := rfl
@[simp] theorem State.updPart_adps : (s.updPart p f).adps = s.adps := rfl
@[simp] theorem State.updPart_vars : (s.updPart p f).vars = s.vars := rfl
@[simp] theorem State.updPart_banks : (s.updPart p f).banks = s.banks := rfl
@[simp] theorem State.updPart_eng : (s.updPart p f).eng = s.eng := rfl
@[simp] theorem State.updPart_cur : (s.updPart p f).cur = s.cur := rfl
@[simp] theorem State.updPart_nxt : (s.updPart p f).nxt = s.nxt := rfl
@[simp] theorem State.updPart_mesh : (s.updPart p f).mesh = s.mesh := rfl
@[simp] theorem State.updPart_sync : (s.updPart p f).sync = s.sync := rfl
@[simp] theorem State.updPart_kvs : (s.updPart p f).kvs = s.kvs := rfl
@[simp] theorem State.updPart_pfs : (s.updPart p f).pfs = s.pfs := rfl
@[simp] theorem State.updPart_outl : (s.updPart p f).outl = s.outl := rfl
@[simp] theorem State.updPart_frames : (s.updPart p f).frames = s.frames := rfl
@[simp] theorem State.updPart_sweeps : (s.updPart p f).sweeps = s.sweeps := rfl
@[simp] theorem State.updPart_seqs : (s.updPart p f).seqs = s.seqs := rfl
@[simp] theorem State.updPart_srv : (s.updPart p f).srv = s.srv := rfl
@[simp] theorem State.updPart_convs : (s.updPart p f).convs = s.convs := rfl
@[simp] theorem State.updPart_sens : (s.updPart p f).sens = s.sens := rfl
@[simp] theorem State.updPart_flt : (s.updPart p f).flt = s.flt := rfl
@[simp] theorem State.updPart_fab : (s.updPart p f).fab = s.fab := rfl
@[simp] theorem State.updPart_chans : (s.updPart p f).chans = s.chans := rfl
@[simp] theorem State.updPart_hif : (s.updPart p f).hif = s.hif := rfl
@[simp] theorem State.updPart_sec : (s.updPart p f).sec = s.sec := rfl
@[simp] theorem State.updPart_jtag : (s.updPart p f).jtag = s.jtag := rfl
end

section
variable (s : State) (p : Nat) (f : Rings → Rings)
@[simp] theorem State.updRings_pending : (s.updRings p f).pending = s.pending := rfl
@[simp] theorem State.updRings_time : (s.updRings p f).time = s.time := rfl
@[simp] theorem State.updRings_freeCount : (s.updRings p f).freeCount = s.freeCount := rfl
@[simp] theorem State.updRings_lock : (s.updRings p f).lock = s.lock := rfl
@[simp] theorem State.updRings_clk : (s.updRings p f).clk = s.clk := rfl
@[simp] theorem State.updRings_thm : (s.updRings p f).thm = s.thm := rfl
@[simp] theorem State.updRings_pwr : (s.updRings p f).pwr = s.pwr := rfl
@[simp] theorem State.updRings_cool : (s.updRings p f).cool = s.cool := rfl
@[simp] theorem State.updRings_boot : (s.updRings p f).boot = s.boot := rfl
@[simp] theorem State.updRings_nv : (s.updRings p f).nv = s.nv := rfl
@[simp] theorem State.updRings_mem : (s.updRings p f).mem = s.mem := rfl
@[simp] theorem State.updRings_host : (s.updRings p f).host = s.host := rfl
@[simp] theorem State.updRings_poison : (s.updRings p f).poison = s.poison := rfl
@[simp] theorem State.updRings_cells : (s.updRings p f).cells = s.cells := rfl
@[simp] theorem State.updRings_acc24 : (s.updRings p f).acc24 = s.acc24 := rfl
@[simp] theorem State.updRings_acc48 : (s.updRings p f).acc48 = s.acc48 := rfl
@[simp] theorem State.updRings_shadow : (s.updRings p f).shadow = s.shadow := rfl
@[simp] theorem State.updRings_arrs : (s.updRings p f).arrs = s.arrs := rfl
@[simp] theorem State.updRings_sites : (s.updRings p f).sites = s.sites := rfl
@[simp] theorem State.updRings_wgt : (s.updRings p f).wgt = s.wgt := rfl
@[simp] theorem State.updRings_adps : (s.updRings p f).adps = s.adps := rfl
@[simp] theorem State.updRings_vars : (s.updRings p f).vars = s.vars := rfl
@[simp] theorem State.updRings_banks : (s.updRings p f).banks = s.banks := rfl
@[simp] theorem State.updRings_eng : (s.updRings p f).eng = s.eng := rfl
@[simp] theorem State.updRings_cur : (s.updRings p f).cur = s.cur := rfl
@[simp] theorem State.updRings_nxt : (s.updRings p f).nxt = s.nxt := rfl
@[simp] theorem State.updRings_mesh : (s.updRings p f).mesh = s.mesh := rfl
@[simp] theorem State.updRings_sync : (s.updRings p f).sync = s.sync := rfl
@[simp] theorem State.updRings_kvs : (s.updRings p f).kvs = s.kvs := rfl
@[simp] theorem State.updRings_pfs : (s.updRings p f).pfs = s.pfs := rfl
@[simp] theorem State.updRings_outl : (s.updRings p f).outl = s.outl := rfl
@[simp] theorem State.updRings_frames : (s.updRings p f).frames = s.frames := rfl
@[simp] theorem State.updRings_sweeps : (s.updRings p f).sweeps = s.sweeps := rfl
@[simp] theorem State.updRings_seqs : (s.updRings p f).seqs = s.seqs := rfl
@[simp] theorem State.updRings_srv : (s.updRings p f).srv = s.srv := rfl
@[simp] theorem State.updRings_convs : (s.updRings p f).convs = s.convs := rfl
@[simp] theorem State.updRings_sens : (s.updRings p f).sens = s.sens := rfl
@[simp] theorem State.updRings_flt : (s.updRings p f).flt = s.flt := rfl
@[simp] theorem State.updRings_fab : (s.updRings p f).fab = s.fab := rfl
@[simp] theorem State.updRings_chans : (s.updRings p f).chans = s.chans := rfl
@[simp] theorem State.updRings_hif : (s.updRings p f).hif = s.hif := rfl
@[simp] theorem State.updRings_sec : (s.updRings p f).sec = s.sec := rfl
@[simp] theorem State.updRings_jtag : (s.updRings p f).jtag = s.jtag := rfl
end

section
variable (s : State) (k : Nat) (f : SiteSt → SiteSt)
@[simp] theorem State.updSite_pending : (s.updSite k f).pending = s.pending := rfl
@[simp] theorem State.updSite_time : (s.updSite k f).time = s.time := rfl
@[simp] theorem State.updSite_freeCount : (s.updSite k f).freeCount = s.freeCount := rfl
@[simp] theorem State.updSite_lock : (s.updSite k f).lock = s.lock := rfl
@[simp] theorem State.updSite_clk : (s.updSite k f).clk = s.clk := rfl
@[simp] theorem State.updSite_thm : (s.updSite k f).thm = s.thm := rfl
@[simp] theorem State.updSite_pwr : (s.updSite k f).pwr = s.pwr := rfl
@[simp] theorem State.updSite_cool : (s.updSite k f).cool = s.cool := rfl
@[simp] theorem State.updSite_boot : (s.updSite k f).boot = s.boot := rfl
@[simp] theorem State.updSite_nv : (s.updSite k f).nv = s.nv := rfl
@[simp] theorem State.updSite_mem : (s.updSite k f).mem = s.mem := rfl
@[simp] theorem State.updSite_host : (s.updSite k f).host = s.host := rfl
@[simp] theorem State.updSite_poison : (s.updSite k f).poison = s.poison := rfl
@[simp] theorem State.updSite_cells : (s.updSite k f).cells = s.cells := rfl
@[simp] theorem State.updSite_acc24 : (s.updSite k f).acc24 = s.acc24 := rfl
@[simp] theorem State.updSite_acc48 : (s.updSite k f).acc48 = s.acc48 := rfl
@[simp] theorem State.updSite_shadow : (s.updSite k f).shadow = s.shadow := rfl
@[simp] theorem State.updSite_arrs : (s.updSite k f).arrs = s.arrs := rfl
@[simp] theorem State.updSite_wgt : (s.updSite k f).wgt = s.wgt := rfl
@[simp] theorem State.updSite_adps : (s.updSite k f).adps = s.adps := rfl
@[simp] theorem State.updSite_vars : (s.updSite k f).vars = s.vars := rfl
@[simp] theorem State.updSite_banks : (s.updSite k f).banks = s.banks := rfl
@[simp] theorem State.updSite_eng : (s.updSite k f).eng = s.eng := rfl
@[simp] theorem State.updSite_cur : (s.updSite k f).cur = s.cur := rfl
@[simp] theorem State.updSite_nxt : (s.updSite k f).nxt = s.nxt := rfl
@[simp] theorem State.updSite_mesh : (s.updSite k f).mesh = s.mesh := rfl
@[simp] theorem State.updSite_sync : (s.updSite k f).sync = s.sync := rfl
@[simp] theorem State.updSite_kvs : (s.updSite k f).kvs = s.kvs := rfl
@[simp] theorem State.updSite_pfs : (s.updSite k f).pfs = s.pfs := rfl
@[simp] theorem State.updSite_outl : (s.updSite k f).outl = s.outl := rfl
@[simp] theorem State.updSite_frames : (s.updSite k f).frames = s.frames := rfl
@[simp] theorem State.updSite_sweeps : (s.updSite k f).sweeps = s.sweeps := rfl
@[simp] theorem State.updSite_seqs : (s.updSite k f).seqs = s.seqs := rfl
@[simp] theorem State.updSite_parts : (s.updSite k f).parts = s.parts := rfl
@[simp] theorem State.updSite_srv : (s.updSite k f).srv = s.srv := rfl
@[simp] theorem State.updSite_convs : (s.updSite k f).convs = s.convs := rfl
@[simp] theorem State.updSite_sens : (s.updSite k f).sens = s.sens := rfl
@[simp] theorem State.updSite_flt : (s.updSite k f).flt = s.flt := rfl
@[simp] theorem State.updSite_fab : (s.updSite k f).fab = s.fab := rfl
@[simp] theorem State.updSite_chans : (s.updSite k f).chans = s.chans := rfl
@[simp] theorem State.updSite_hif : (s.updSite k f).hif = s.hif := rfl
@[simp] theorem State.updSite_sec : (s.updSite k f).sec = s.sec := rfl
@[simp] theorem State.updSite_jtag : (s.updSite k f).jtag = s.jtag := rfl
end

section
variable (s : State) (n : Nat) (f : Seq → Seq)
@[simp] theorem State.updSeq_pending : (s.updSeq n f).pending = s.pending := rfl
@[simp] theorem State.updSeq_time : (s.updSeq n f).time = s.time := rfl
@[simp] theorem State.updSeq_freeCount : (s.updSeq n f).freeCount = s.freeCount := rfl
@[simp] theorem State.updSeq_lock : (s.updSeq n f).lock = s.lock := rfl
@[simp] theorem State.updSeq_clk : (s.updSeq n f).clk = s.clk := rfl
@[simp] theorem State.updSeq_thm : (s.updSeq n f).thm = s.thm := rfl
@[simp] theorem State.updSeq_pwr : (s.updSeq n f).pwr = s.pwr := rfl
@[simp] theorem State.updSeq_cool : (s.updSeq n f).cool = s.cool := rfl
@[simp] theorem State.updSeq_boot : (s.updSeq n f).boot = s.boot := rfl
@[simp] theorem State.updSeq_nv : (s.updSeq n f).nv = s.nv := rfl
@[simp] theorem State.updSeq_mem : (s.updSeq n f).mem = s.mem := rfl
@[simp] theorem State.updSeq_host : (s.updSeq n f).host = s.host := rfl
@[simp] theorem State.updSeq_poison : (s.updSeq n f).poison = s.poison := rfl
@[simp] theorem State.updSeq_cells : (s.updSeq n f).cells = s.cells := rfl
@[simp] theorem State.updSeq_acc24 : (s.updSeq n f).acc24 = s.acc24 := rfl
@[simp] theorem State.updSeq_acc48 : (s.updSeq n f).acc48 = s.acc48 := rfl
@[simp] theorem State.updSeq_shadow : (s.updSeq n f).shadow = s.shadow := rfl
@[simp] theorem State.updSeq_arrs : (s.updSeq n f).arrs = s.arrs := rfl
@[simp] theorem State.updSeq_sites : (s.updSeq n f).sites = s.sites := rfl
@[simp] theorem State.updSeq_wgt : (s.updSeq n f).wgt = s.wgt := rfl
@[simp] theorem State.updSeq_adps : (s.updSeq n f).adps = s.adps := rfl
@[simp] theorem State.updSeq_vars : (s.updSeq n f).vars = s.vars := rfl
@[simp] theorem State.updSeq_banks : (s.updSeq n f).banks = s.banks := rfl
@[simp] theorem State.updSeq_eng : (s.updSeq n f).eng = s.eng := rfl
@[simp] theorem State.updSeq_cur : (s.updSeq n f).cur = s.cur := rfl
@[simp] theorem State.updSeq_nxt : (s.updSeq n f).nxt = s.nxt := rfl
@[simp] theorem State.updSeq_mesh : (s.updSeq n f).mesh = s.mesh := rfl
@[simp] theorem State.updSeq_sync : (s.updSeq n f).sync = s.sync := rfl
@[simp] theorem State.updSeq_kvs : (s.updSeq n f).kvs = s.kvs := rfl
@[simp] theorem State.updSeq_pfs : (s.updSeq n f).pfs = s.pfs := rfl
@[simp] theorem State.updSeq_outl : (s.updSeq n f).outl = s.outl := rfl
@[simp] theorem State.updSeq_frames : (s.updSeq n f).frames = s.frames := rfl
@[simp] theorem State.updSeq_sweeps : (s.updSeq n f).sweeps = s.sweeps := rfl
@[simp] theorem State.updSeq_parts : (s.updSeq n f).parts = s.parts := rfl
@[simp] theorem State.updSeq_srv : (s.updSeq n f).srv = s.srv := rfl
@[simp] theorem State.updSeq_convs : (s.updSeq n f).convs = s.convs := rfl
@[simp] theorem State.updSeq_sens : (s.updSeq n f).sens = s.sens := rfl
@[simp] theorem State.updSeq_flt : (s.updSeq n f).flt = s.flt := rfl
@[simp] theorem State.updSeq_fab : (s.updSeq n f).fab = s.fab := rfl
@[simp] theorem State.updSeq_chans : (s.updSeq n f).chans = s.chans := rfl
@[simp] theorem State.updSeq_hif : (s.updSeq n f).hif = s.hif := rfl
@[simp] theorem State.updSeq_sec : (s.updSeq n f).sec = s.sec := rfl
@[simp] theorem State.updSeq_jtag : (s.updSeq n f).jtag = s.jtag := rfl
end

section
variable (s : State) (n : Nat) (f : KvFrame → KvFrame)
@[simp] theorem State.updFrame_pending : (s.updFrame n f).pending = s.pending := rfl
@[simp] theorem State.updFrame_time : (s.updFrame n f).time = s.time := rfl
@[simp] theorem State.updFrame_freeCount : (s.updFrame n f).freeCount = s.freeCount := rfl
@[simp] theorem State.updFrame_lock : (s.updFrame n f).lock = s.lock := rfl
@[simp] theorem State.updFrame_clk : (s.updFrame n f).clk = s.clk := rfl
@[simp] theorem State.updFrame_thm : (s.updFrame n f).thm = s.thm := rfl
@[simp] theorem State.updFrame_pwr : (s.updFrame n f).pwr = s.pwr := rfl
@[simp] theorem State.updFrame_cool : (s.updFrame n f).cool = s.cool := rfl
@[simp] theorem State.updFrame_boot : (s.updFrame n f).boot = s.boot := rfl
@[simp] theorem State.updFrame_nv : (s.updFrame n f).nv = s.nv := rfl
@[simp] theorem State.updFrame_mem : (s.updFrame n f).mem = s.mem := rfl
@[simp] theorem State.updFrame_host : (s.updFrame n f).host = s.host := rfl
@[simp] theorem State.updFrame_poison : (s.updFrame n f).poison = s.poison := rfl
@[simp] theorem State.updFrame_cells : (s.updFrame n f).cells = s.cells := rfl
@[simp] theorem State.updFrame_acc24 : (s.updFrame n f).acc24 = s.acc24 := rfl
@[simp] theorem State.updFrame_acc48 : (s.updFrame n f).acc48 = s.acc48 := rfl
@[simp] theorem State.updFrame_shadow : (s.updFrame n f).shadow = s.shadow := rfl
@[simp] theorem State.updFrame_arrs : (s.updFrame n f).arrs = s.arrs := rfl
@[simp] theorem State.updFrame_sites : (s.updFrame n f).sites = s.sites := rfl
@[simp] theorem State.updFrame_wgt : (s.updFrame n f).wgt = s.wgt := rfl
@[simp] theorem State.updFrame_adps : (s.updFrame n f).adps = s.adps := rfl
@[simp] theorem State.updFrame_vars : (s.updFrame n f).vars = s.vars := rfl
@[simp] theorem State.updFrame_banks : (s.updFrame n f).banks = s.banks := rfl
@[simp] theorem State.updFrame_eng : (s.updFrame n f).eng = s.eng := rfl
@[simp] theorem State.updFrame_cur : (s.updFrame n f).cur = s.cur := rfl
@[simp] theorem State.updFrame_nxt : (s.updFrame n f).nxt = s.nxt := rfl
@[simp] theorem State.updFrame_mesh : (s.updFrame n f).mesh = s.mesh := rfl
@[simp] theorem State.updFrame_sync : (s.updFrame n f).sync = s.sync := rfl
@[simp] theorem State.updFrame_kvs : (s.updFrame n f).kvs = s.kvs := rfl
@[simp] theorem State.updFrame_pfs : (s.updFrame n f).pfs = s.pfs := rfl
@[simp] theorem State.updFrame_outl : (s.updFrame n f).outl = s.outl := rfl
@[simp] theorem State.updFrame_sweeps : (s.updFrame n f).sweeps = s.sweeps := rfl
@[simp] theorem State.updFrame_seqs : (s.updFrame n f).seqs = s.seqs := rfl
@[simp] theorem State.updFrame_parts : (s.updFrame n f).parts = s.parts := rfl
@[simp] theorem State.updFrame_srv : (s.updFrame n f).srv = s.srv := rfl
@[simp] theorem State.updFrame_convs : (s.updFrame n f).convs = s.convs := rfl
@[simp] theorem State.updFrame_sens : (s.updFrame n f).sens = s.sens := rfl
@[simp] theorem State.updFrame_flt : (s.updFrame n f).flt = s.flt := rfl
@[simp] theorem State.updFrame_fab : (s.updFrame n f).fab = s.fab := rfl
@[simp] theorem State.updFrame_chans : (s.updFrame n f).chans = s.chans := rfl
@[simp] theorem State.updFrame_hif : (s.updFrame n f).hif = s.hif := rfl
@[simp] theorem State.updFrame_sec : (s.updFrame n f).sec = s.sec := rfl
@[simp] theorem State.updFrame_jtag : (s.updFrame n f).jtag = s.jtag := rfl
end

section
variable (s : State) (n : Nat) (f : KvFrame → KvFrame)
@[simp] theorem State.updSweep_pending : (s.updSweep n f).pending = s.pending := rfl
@[simp] theorem State.updSweep_time : (s.updSweep n f).time = s.time := rfl
@[simp] theorem State.updSweep_freeCount : (s.updSweep n f).freeCount = s.freeCount := rfl
@[simp] theorem State.updSweep_lock : (s.updSweep n f).lock = s.lock := rfl
@[simp] theorem State.updSweep_clk : (s.updSweep n f).clk = s.clk := rfl
@[simp] theorem State.updSweep_thm : (s.updSweep n f).thm = s.thm := rfl
@[simp] theorem State.updSweep_pwr : (s.updSweep n f).pwr = s.pwr := rfl
@[simp] theorem State.updSweep_cool : (s.updSweep n f).cool = s.cool := rfl
@[simp] theorem State.updSweep_boot : (s.updSweep n f).boot = s.boot := rfl
@[simp] theorem State.updSweep_nv : (s.updSweep n f).nv = s.nv := rfl
@[simp] theorem State.updSweep_mem : (s.updSweep n f).mem = s.mem := rfl
@[simp] theorem State.updSweep_host : (s.updSweep n f).host = s.host := rfl
@[simp] theorem State.updSweep_poison : (s.updSweep n f).poison = s.poison := rfl
@[simp] theorem State.updSweep_cells : (s.updSweep n f).cells = s.cells := rfl
@[simp] theorem State.updSweep_acc24 : (s.updSweep n f).acc24 = s.acc24 := rfl
@[simp] theorem State.updSweep_acc48 : (s.updSweep n f).acc48 = s.acc48 := rfl
@[simp] theorem State.updSweep_shadow : (s.updSweep n f).shadow = s.shadow := rfl
@[simp] theorem State.updSweep_arrs : (s.updSweep n f).arrs = s.arrs := rfl
@[simp] theorem State.updSweep_sites : (s.updSweep n f).sites = s.sites := rfl
@[simp] theorem State.updSweep_wgt : (s.updSweep n f).wgt = s.wgt := rfl
@[simp] theorem State.updSweep_adps : (s.updSweep n f).adps = s.adps := rfl
@[simp] theorem State.updSweep_vars : (s.updSweep n f).vars = s.vars := rfl
@[simp] theorem State.updSweep_banks : (s.updSweep n f).banks = s.banks := rfl
@[simp] theorem State.updSweep_eng : (s.updSweep n f).eng = s.eng := rfl
@[simp] theorem State.updSweep_cur : (s.updSweep n f).cur = s.cur := rfl
@[simp] theorem State.updSweep_nxt : (s.updSweep n f).nxt = s.nxt := rfl
@[simp] theorem State.updSweep_mesh : (s.updSweep n f).mesh = s.mesh := rfl
@[simp] theorem State.updSweep_sync : (s.updSweep n f).sync = s.sync := rfl
@[simp] theorem State.updSweep_kvs : (s.updSweep n f).kvs = s.kvs := rfl
@[simp] theorem State.updSweep_pfs : (s.updSweep n f).pfs = s.pfs := rfl
@[simp] theorem State.updSweep_outl : (s.updSweep n f).outl = s.outl := rfl
@[simp] theorem State.updSweep_frames : (s.updSweep n f).frames = s.frames := rfl
@[simp] theorem State.updSweep_seqs : (s.updSweep n f).seqs = s.seqs := rfl
@[simp] theorem State.updSweep_parts : (s.updSweep n f).parts = s.parts := rfl
@[simp] theorem State.updSweep_srv : (s.updSweep n f).srv = s.srv := rfl
@[simp] theorem State.updSweep_convs : (s.updSweep n f).convs = s.convs := rfl
@[simp] theorem State.updSweep_sens : (s.updSweep n f).sens = s.sens := rfl
@[simp] theorem State.updSweep_flt : (s.updSweep n f).flt = s.flt := rfl
@[simp] theorem State.updSweep_fab : (s.updSweep n f).fab = s.fab := rfl
@[simp] theorem State.updSweep_chans : (s.updSweep n f).chans = s.chans := rfl
@[simp] theorem State.updSweep_hif : (s.updSweep n f).hif = s.hif := rfl
@[simp] theorem State.updSweep_sec : (s.updSweep n f).sec = s.sec := rfl
@[simp] theorem State.updSweep_jtag : (s.updSweep n f).jtag = s.jtag := rfl
end

section
variable (s : State) (n : Nat) (f : VarSlot → VarSlot)
@[simp] theorem State.updVar_pending : (s.updVar n f).pending = s.pending := rfl
@[simp] theorem State.updVar_time : (s.updVar n f).time = s.time := rfl
@[simp] theorem State.updVar_freeCount : (s.updVar n f).freeCount = s.freeCount := rfl
@[simp] theorem State.updVar_lock : (s.updVar n f).lock = s.lock := rfl
@[simp] theorem State.updVar_clk : (s.updVar n f).clk = s.clk := rfl
@[simp] theorem State.updVar_thm : (s.updVar n f).thm = s.thm := rfl
@[simp] theorem State.updVar_pwr : (s.updVar n f).pwr = s.pwr := rfl
@[simp] theorem State.updVar_cool : (s.updVar n f).cool = s.cool := rfl
@[simp] theorem State.updVar_boot : (s.updVar n f).boot = s.boot := rfl
@[simp] theorem State.updVar_nv : (s.updVar n f).nv = s.nv := rfl
@[simp] theorem State.updVar_mem : (s.updVar n f).mem = s.mem := rfl
@[simp] theorem State.updVar_host : (s.updVar n f).host = s.host := rfl
@[simp] theorem State.updVar_poison : (s.updVar n f).poison = s.poison := rfl
@[simp] theorem State.updVar_cells : (s.updVar n f).cells = s.cells := rfl
@[simp] theorem State.updVar_acc24 : (s.updVar n f).acc24 = s.acc24 := rfl
@[simp] theorem State.updVar_acc48 : (s.updVar n f).acc48 = s.acc48 := rfl
@[simp] theorem State.updVar_shadow : (s.updVar n f).shadow = s.shadow := rfl
@[simp] theorem State.updVar_arrs : (s.updVar n f).arrs = s.arrs := rfl
@[simp] theorem State.updVar_sites : (s.updVar n f).sites = s.sites := rfl
@[simp] theorem State.updVar_wgt : (s.updVar n f).wgt = s.wgt := rfl
@[simp] theorem State.updVar_adps : (s.updVar n f).adps = s.adps := rfl
@[simp] theorem State.updVar_banks : (s.updVar n f).banks = s.banks := rfl
@[simp] theorem State.updVar_eng : (s.updVar n f).eng = s.eng := rfl
@[simp] theorem State.updVar_cur : (s.updVar n f).cur = s.cur := rfl
@[simp] theorem State.updVar_nxt : (s.updVar n f).nxt = s.nxt := rfl
@[simp] theorem State.updVar_mesh : (s.updVar n f).mesh = s.mesh := rfl
@[simp] theorem State.updVar_sync : (s.updVar n f).sync = s.sync := rfl
@[simp] theorem State.updVar_kvs : (s.updVar n f).kvs = s.kvs := rfl
@[simp] theorem State.updVar_pfs : (s.updVar n f).pfs = s.pfs := rfl
@[simp] theorem State.updVar_outl : (s.updVar n f).outl = s.outl := rfl
@[simp] theorem State.updVar_frames : (s.updVar n f).frames = s.frames := rfl
@[simp] theorem State.updVar_sweeps : (s.updVar n f).sweeps = s.sweeps := rfl
@[simp] theorem State.updVar_seqs : (s.updVar n f).seqs = s.seqs := rfl
@[simp] theorem State.updVar_parts : (s.updVar n f).parts = s.parts := rfl
@[simp] theorem State.updVar_srv : (s.updVar n f).srv = s.srv := rfl
@[simp] theorem State.updVar_convs : (s.updVar n f).convs = s.convs := rfl
@[simp] theorem State.updVar_sens : (s.updVar n f).sens = s.sens := rfl
@[simp] theorem State.updVar_flt : (s.updVar n f).flt = s.flt := rfl
@[simp] theorem State.updVar_fab : (s.updVar n f).fab = s.fab := rfl
@[simp] theorem State.updVar_chans : (s.updVar n f).chans = s.chans := rfl
@[simp] theorem State.updVar_hif : (s.updVar n f).hif = s.hif := rfl
@[simp] theorem State.updVar_sec : (s.updVar n f).sec = s.sec := rfl
@[simp] theorem State.updVar_jtag : (s.updVar n f).jtag = s.jtag := rfl
end

section
variable (s : State) (b : Nat) (f : Bank → Bank)
@[simp] theorem State.updBank_pending : (s.updBank b f).pending = s.pending := rfl
@[simp] theorem State.updBank_time : (s.updBank b f).time = s.time := rfl
@[simp] theorem State.updBank_freeCount : (s.updBank b f).freeCount = s.freeCount := rfl
@[simp] theorem State.updBank_lock : (s.updBank b f).lock = s.lock := rfl
@[simp] theorem State.updBank_clk : (s.updBank b f).clk = s.clk := rfl
@[simp] theorem State.updBank_thm : (s.updBank b f).thm = s.thm := rfl
@[simp] theorem State.updBank_pwr : (s.updBank b f).pwr = s.pwr := rfl
@[simp] theorem State.updBank_cool : (s.updBank b f).cool = s.cool := rfl
@[simp] theorem State.updBank_boot : (s.updBank b f).boot = s.boot := rfl
@[simp] theorem State.updBank_nv : (s.updBank b f).nv = s.nv := rfl
@[simp] theorem State.updBank_mem : (s.updBank b f).mem = s.mem := rfl
@[simp] theorem State.updBank_host : (s.updBank b f).host = s.host := rfl
@[simp] theorem State.updBank_poison : (s.updBank b f).poison = s.poison := rfl
@[simp] theorem State.updBank_cells : (s.updBank b f).cells = s.cells := rfl
@[simp] theorem State.updBank_acc24 : (s.updBank b f).acc24 = s.acc24 := rfl
@[simp] theorem State.updBank_acc48 : (s.updBank b f).acc48 = s.acc48 := rfl
@[simp] theorem State.updBank_shadow : (s.updBank b f).shadow = s.shadow := rfl
@[simp] theorem State.updBank_arrs : (s.updBank b f).arrs = s.arrs := rfl
@[simp] theorem State.updBank_sites : (s.updBank b f).sites = s.sites := rfl
@[simp] theorem State.updBank_wgt : (s.updBank b f).wgt = s.wgt := rfl
@[simp] theorem State.updBank_adps : (s.updBank b f).adps = s.adps := rfl
@[simp] theorem State.updBank_vars : (s.updBank b f).vars = s.vars := rfl
@[simp] theorem State.updBank_eng : (s.updBank b f).eng = s.eng := rfl
@[simp] theorem State.updBank_cur : (s.updBank b f).cur = s.cur := rfl
@[simp] theorem State.updBank_nxt : (s.updBank b f).nxt = s.nxt := rfl
@[simp] theorem State.updBank_mesh : (s.updBank b f).mesh = s.mesh := rfl
@[simp] theorem State.updBank_sync : (s.updBank b f).sync = s.sync := rfl
@[simp] theorem State.updBank_kvs : (s.updBank b f).kvs = s.kvs := rfl
@[simp] theorem State.updBank_pfs : (s.updBank b f).pfs = s.pfs := rfl
@[simp] theorem State.updBank_outl : (s.updBank b f).outl = s.outl := rfl
@[simp] theorem State.updBank_frames : (s.updBank b f).frames = s.frames := rfl
@[simp] theorem State.updBank_sweeps : (s.updBank b f).sweeps = s.sweeps := rfl
@[simp] theorem State.updBank_seqs : (s.updBank b f).seqs = s.seqs := rfl
@[simp] theorem State.updBank_parts : (s.updBank b f).parts = s.parts := rfl
@[simp] theorem State.updBank_srv : (s.updBank b f).srv = s.srv := rfl
@[simp] theorem State.updBank_convs : (s.updBank b f).convs = s.convs := rfl
@[simp] theorem State.updBank_sens : (s.updBank b f).sens = s.sens := rfl
@[simp] theorem State.updBank_flt : (s.updBank b f).flt = s.flt := rfl
@[simp] theorem State.updBank_fab : (s.updBank b f).fab = s.fab := rfl
@[simp] theorem State.updBank_chans : (s.updBank b f).chans = s.chans := rfl
@[simp] theorem State.updBank_hif : (s.updBank b f).hif = s.hif := rfl
@[simp] theorem State.updBank_sec : (s.updBank b f).sec = s.sec := rfl
@[simp] theorem State.updBank_jtag : (s.updBank b f).jtag = s.jtag := rfl
end

section
variable (s : State) (n : Nat) (f : Adp → Adp)
@[simp] theorem State.updAdp_pending : (s.updAdp n f).pending = s.pending := rfl
@[simp] theorem State.updAdp_time : (s.updAdp n f).time = s.time := rfl
@[simp] theorem State.updAdp_freeCount : (s.updAdp n f).freeCount = s.freeCount := rfl
@[simp] theorem State.updAdp_lock : (s.updAdp n f).lock = s.lock := rfl
@[simp] theorem State.updAdp_clk : (s.updAdp n f).clk = s.clk := rfl
@[simp] theorem State.updAdp_thm : (s.updAdp n f).thm = s.thm := rfl
@[simp] theorem State.updAdp_pwr : (s.updAdp n f).pwr = s.pwr := rfl
@[simp] theorem State.updAdp_cool : (s.updAdp n f).cool = s.cool := rfl
@[simp] theorem State.updAdp_boot : (s.updAdp n f).boot = s.boot := rfl
@[simp] theorem State.updAdp_nv : (s.updAdp n f).nv = s.nv := rfl
@[simp] theorem State.updAdp_mem : (s.updAdp n f).mem = s.mem := rfl
@[simp] theorem State.updAdp_host : (s.updAdp n f).host = s.host := rfl
@[simp] theorem State.updAdp_poison : (s.updAdp n f).poison = s.poison := rfl
@[simp] theorem State.updAdp_cells : (s.updAdp n f).cells = s.cells := rfl
@[simp] theorem State.updAdp_acc24 : (s.updAdp n f).acc24 = s.acc24 := rfl
@[simp] theorem State.updAdp_acc48 : (s.updAdp n f).acc48 = s.acc48 := rfl
@[simp] theorem State.updAdp_shadow : (s.updAdp n f).shadow = s.shadow := rfl
@[simp] theorem State.updAdp_arrs : (s.updAdp n f).arrs = s.arrs := rfl
@[simp] theorem State.updAdp_sites : (s.updAdp n f).sites = s.sites := rfl
@[simp] theorem State.updAdp_wgt : (s.updAdp n f).wgt = s.wgt := rfl
@[simp] theorem State.updAdp_vars : (s.updAdp n f).vars = s.vars := rfl
@[simp] theorem State.updAdp_banks : (s.updAdp n f).banks = s.banks := rfl
@[simp] theorem State.updAdp_eng : (s.updAdp n f).eng = s.eng := rfl
@[simp] theorem State.updAdp_cur : (s.updAdp n f).cur = s.cur := rfl
@[simp] theorem State.updAdp_nxt : (s.updAdp n f).nxt = s.nxt := rfl
@[simp] theorem State.updAdp_mesh : (s.updAdp n f).mesh = s.mesh := rfl
@[simp] theorem State.updAdp_sync : (s.updAdp n f).sync = s.sync := rfl
@[simp] theorem State.updAdp_kvs : (s.updAdp n f).kvs = s.kvs := rfl
@[simp] theorem State.updAdp_pfs : (s.updAdp n f).pfs = s.pfs := rfl
@[simp] theorem State.updAdp_outl : (s.updAdp n f).outl = s.outl := rfl
@[simp] theorem State.updAdp_frames : (s.updAdp n f).frames = s.frames := rfl
@[simp] theorem State.updAdp_sweeps : (s.updAdp n f).sweeps = s.sweeps := rfl
@[simp] theorem State.updAdp_seqs : (s.updAdp n f).seqs = s.seqs := rfl
@[simp] theorem State.updAdp_parts : (s.updAdp n f).parts = s.parts := rfl
@[simp] theorem State.updAdp_srv : (s.updAdp n f).srv = s.srv := rfl
@[simp] theorem State.updAdp_convs : (s.updAdp n f).convs = s.convs := rfl
@[simp] theorem State.updAdp_sens : (s.updAdp n f).sens = s.sens := rfl
@[simp] theorem State.updAdp_flt : (s.updAdp n f).flt = s.flt := rfl
@[simp] theorem State.updAdp_fab : (s.updAdp n f).fab = s.fab := rfl
@[simp] theorem State.updAdp_chans : (s.updAdp n f).chans = s.chans := rfl
@[simp] theorem State.updAdp_hif : (s.updAdp n f).hif = s.hif := rfl
@[simp] theorem State.updAdp_sec : (s.updAdp n f).sec = s.sec := rfl
@[simp] theorem State.updAdp_jtag : (s.updAdp n f).jtag = s.jtag := rfl
end

section
variable (s : State) (c : Nat) (f : Chan → Chan)
@[simp] theorem State.updChan_pending : (s.updChan c f).pending = s.pending := rfl
@[simp] theorem State.updChan_time : (s.updChan c f).time = s.time := rfl
@[simp] theorem State.updChan_freeCount : (s.updChan c f).freeCount = s.freeCount := rfl
@[simp] theorem State.updChan_lock : (s.updChan c f).lock = s.lock := rfl
@[simp] theorem State.updChan_clk : (s.updChan c f).clk = s.clk := rfl
@[simp] theorem State.updChan_thm : (s.updChan c f).thm = s.thm := rfl
@[simp] theorem State.updChan_pwr : (s.updChan c f).pwr = s.pwr := rfl
@[simp] theorem State.updChan_cool : (s.updChan c f).cool = s.cool := rfl
@[simp] theorem State.updChan_boot : (s.updChan c f).boot = s.boot := rfl
@[simp] theorem State.updChan_nv : (s.updChan c f).nv = s.nv := rfl
@[simp] theorem State.updChan_mem : (s.updChan c f).mem = s.mem := rfl
@[simp] theorem State.updChan_host : (s.updChan c f).host = s.host := rfl
@[simp] theorem State.updChan_poison : (s.updChan c f).poison = s.poison := rfl
@[simp] theorem State.updChan_cells : (s.updChan c f).cells = s.cells := rfl
@[simp] theorem State.updChan_acc24 : (s.updChan c f).acc24 = s.acc24 := rfl
@[simp] theorem State.updChan_acc48 : (s.updChan c f).acc48 = s.acc48 := rfl
@[simp] theorem State.updChan_shadow : (s.updChan c f).shadow = s.shadow := rfl
@[simp] theorem State.updChan_arrs : (s.updChan c f).arrs = s.arrs := rfl
@[simp] theorem State.updChan_sites : (s.updChan c f).sites = s.sites := rfl
@[simp] theorem State.updChan_wgt : (s.updChan c f).wgt = s.wgt := rfl
@[simp] theorem State.updChan_adps : (s.updChan c f).adps = s.adps := rfl
@[simp] theorem State.updChan_vars : (s.updChan c f).vars = s.vars := rfl
@[simp] theorem State.updChan_banks : (s.updChan c f).banks = s.banks := rfl
@[simp] theorem State.updChan_eng : (s.updChan c f).eng = s.eng := rfl
@[simp] theorem State.updChan_cur : (s.updChan c f).cur = s.cur := rfl
@[simp] theorem State.updChan_nxt : (s.updChan c f).nxt = s.nxt := rfl
@[simp] theorem State.updChan_mesh : (s.updChan c f).mesh = s.mesh := rfl
@[simp] theorem State.updChan_sync : (s.updChan c f).sync = s.sync := rfl
@[simp] theorem State.updChan_kvs : (s.updChan c f).kvs = s.kvs := rfl
@[simp] theorem State.updChan_pfs : (s.updChan c f).pfs = s.pfs := rfl
@[simp] theorem State.updChan_outl : (s.updChan c f).outl = s.outl := rfl
@[simp] theorem State.updChan_frames : (s.updChan c f).frames = s.frames := rfl
@[simp] theorem State.updChan_sweeps : (s.updChan c f).sweeps = s.sweeps := rfl
@[simp] theorem State.updChan_seqs : (s.updChan c f).seqs = s.seqs := rfl
@[simp] theorem State.updChan_parts : (s.updChan c f).parts = s.parts := rfl
@[simp] theorem State.updChan_srv : (s.updChan c f).srv = s.srv := rfl
@[simp] theorem State.updChan_convs : (s.updChan c f).convs = s.convs := rfl
@[simp] theorem State.updChan_sens : (s.updChan c f).sens = s.sens := rfl
@[simp] theorem State.updChan_flt : (s.updChan c f).flt = s.flt := rfl
@[simp] theorem State.updChan_fab : (s.updChan c f).fab = s.fab := rfl
@[simp] theorem State.updChan_hif : (s.updChan c f).hif = s.hif := rfl
@[simp] theorem State.updChan_sec : (s.updChan c f).sec = s.sec := rfl
@[simp] theorem State.updChan_jtag : (s.updChan c f).jtag = s.jtag := rfl
end

section
variable (s : State) (n : Nat) (f : Port → Port)
@[simp] theorem State.updPort_pending : (s.updPort n f).pending = s.pending := rfl
@[simp] theorem State.updPort_time : (s.updPort n f).time = s.time := rfl
@[simp] theorem State.updPort_freeCount : (s.updPort n f).freeCount = s.freeCount := rfl
@[simp] theorem State.updPort_lock : (s.updPort n f).lock = s.lock := rfl
@[simp] theorem State.updPort_clk : (s.updPort n f).clk = s.clk := rfl
@[simp] theorem State.updPort_thm : (s.updPort n f).thm = s.thm := rfl
@[simp] theorem State.updPort_pwr : (s.updPort n f).pwr = s.pwr := rfl
@[simp] theorem State.updPort_cool : (s.updPort n f).cool = s.cool := rfl
@[simp] theorem State.updPort_boot : (s.updPort n f).boot = s.boot := rfl
@[simp] theorem State.updPort_nv : (s.updPort n f).nv = s.nv := rfl
@[simp] theorem State.updPort_mem : (s.updPort n f).mem = s.mem := rfl
@[simp] theorem State.updPort_host : (s.updPort n f).host = s.host := rfl
@[simp] theorem State.updPort_poison : (s.updPort n f).poison = s.poison := rfl
@[simp] theorem State.updPort_cells : (s.updPort n f).cells = s.cells := rfl
@[simp] theorem State.updPort_acc24 : (s.updPort n f).acc24 = s.acc24 := rfl
@[simp] theorem State.updPort_acc48 : (s.updPort n f).acc48 = s.acc48 := rfl
@[simp] theorem State.updPort_shadow : (s.updPort n f).shadow = s.shadow := rfl
@[simp] theorem State.updPort_arrs : (s.updPort n f).arrs = s.arrs := rfl
@[simp] theorem State.updPort_sites : (s.updPort n f).sites = s.sites := rfl
@[simp] theorem State.updPort_wgt : (s.updPort n f).wgt = s.wgt := rfl
@[simp] theorem State.updPort_adps : (s.updPort n f).adps = s.adps := rfl
@[simp] theorem State.updPort_vars : (s.updPort n f).vars = s.vars := rfl
@[simp] theorem State.updPort_banks : (s.updPort n f).banks = s.banks := rfl
@[simp] theorem State.updPort_eng : (s.updPort n f).eng = s.eng := rfl
@[simp] theorem State.updPort_cur : (s.updPort n f).cur = s.cur := rfl
@[simp] theorem State.updPort_nxt : (s.updPort n f).nxt = s.nxt := rfl
@[simp] theorem State.updPort_mesh : (s.updPort n f).mesh = s.mesh := rfl
@[simp] theorem State.updPort_sync : (s.updPort n f).sync = s.sync := rfl
@[simp] theorem State.updPort_kvs : (s.updPort n f).kvs = s.kvs := rfl
@[simp] theorem State.updPort_pfs : (s.updPort n f).pfs = s.pfs := rfl
@[simp] theorem State.updPort_outl : (s.updPort n f).outl = s.outl := rfl
@[simp] theorem State.updPort_frames : (s.updPort n f).frames = s.frames := rfl
@[simp] theorem State.updPort_sweeps : (s.updPort n f).sweeps = s.sweeps := rfl
@[simp] theorem State.updPort_seqs : (s.updPort n f).seqs = s.seqs := rfl
@[simp] theorem State.updPort_parts : (s.updPort n f).parts = s.parts := rfl
@[simp] theorem State.updPort_srv : (s.updPort n f).srv = s.srv := rfl
@[simp] theorem State.updPort_convs : (s.updPort n f).convs = s.convs := rfl
@[simp] theorem State.updPort_sens : (s.updPort n f).sens = s.sens := rfl
@[simp] theorem State.updPort_flt : (s.updPort n f).flt = s.flt := rfl
@[simp] theorem State.updPort_chans : (s.updPort n f).chans = s.chans := rfl
@[simp] theorem State.updPort_hif : (s.updPort n f).hif = s.hif := rfl
@[simp] theorem State.updPort_sec : (s.updPort n f).sec = s.sec := rfl
@[simp] theorem State.updPort_jtag : (s.updPort n f).jtag = s.jtag := rfl
end

section
variable (s : State) (c : Nat) (f : Spdm → Spdm)
@[simp] theorem State.updSpdm_pending : (s.updSpdm c f).pending = s.pending := rfl
@[simp] theorem State.updSpdm_time : (s.updSpdm c f).time = s.time := rfl
@[simp] theorem State.updSpdm_freeCount : (s.updSpdm c f).freeCount = s.freeCount := rfl
@[simp] theorem State.updSpdm_lock : (s.updSpdm c f).lock = s.lock := rfl
@[simp] theorem State.updSpdm_clk : (s.updSpdm c f).clk = s.clk := rfl
@[simp] theorem State.updSpdm_thm : (s.updSpdm c f).thm = s.thm := rfl
@[simp] theorem State.updSpdm_pwr : (s.updSpdm c f).pwr = s.pwr := rfl
@[simp] theorem State.updSpdm_cool : (s.updSpdm c f).cool = s.cool := rfl
@[simp] theorem State.updSpdm_boot : (s.updSpdm c f).boot = s.boot := rfl
@[simp] theorem State.updSpdm_nv : (s.updSpdm c f).nv = s.nv := rfl
@[simp] theorem State.updSpdm_mem : (s.updSpdm c f).mem = s.mem := rfl
@[simp] theorem State.updSpdm_host : (s.updSpdm c f).host = s.host := rfl
@[simp] theorem State.updSpdm_poison : (s.updSpdm c f).poison = s.poison := rfl
@[simp] theorem State.updSpdm_cells : (s.updSpdm c f).cells = s.cells := rfl
@[simp] theorem State.updSpdm_acc24 : (s.updSpdm c f).acc24 = s.acc24 := rfl
@[simp] theorem State.updSpdm_acc48 : (s.updSpdm c f).acc48 = s.acc48 := rfl
@[simp] theorem State.updSpdm_shadow : (s.updSpdm c f).shadow = s.shadow := rfl
@[simp] theorem State.updSpdm_arrs : (s.updSpdm c f).arrs = s.arrs := rfl
@[simp] theorem State.updSpdm_sites : (s.updSpdm c f).sites = s.sites := rfl
@[simp] theorem State.updSpdm_wgt : (s.updSpdm c f).wgt = s.wgt := rfl
@[simp] theorem State.updSpdm_adps : (s.updSpdm c f).adps = s.adps := rfl
@[simp] theorem State.updSpdm_vars : (s.updSpdm c f).vars = s.vars := rfl
@[simp] theorem State.updSpdm_banks : (s.updSpdm c f).banks = s.banks := rfl
@[simp] theorem State.updSpdm_eng : (s.updSpdm c f).eng = s.eng := rfl
@[simp] theorem State.updSpdm_cur : (s.updSpdm c f).cur = s.cur := rfl
@[simp] theorem State.updSpdm_nxt : (s.updSpdm c f).nxt = s.nxt := rfl
@[simp] theorem State.updSpdm_mesh : (s.updSpdm c f).mesh = s.mesh := rfl
@[simp] theorem State.updSpdm_sync : (s.updSpdm c f).sync = s.sync := rfl
@[simp] theorem State.updSpdm_kvs : (s.updSpdm c f).kvs = s.kvs := rfl
@[simp] theorem State.updSpdm_pfs : (s.updSpdm c f).pfs = s.pfs := rfl
@[simp] theorem State.updSpdm_outl : (s.updSpdm c f).outl = s.outl := rfl
@[simp] theorem State.updSpdm_frames : (s.updSpdm c f).frames = s.frames := rfl
@[simp] theorem State.updSpdm_sweeps : (s.updSpdm c f).sweeps = s.sweeps := rfl
@[simp] theorem State.updSpdm_seqs : (s.updSpdm c f).seqs = s.seqs := rfl
@[simp] theorem State.updSpdm_parts : (s.updSpdm c f).parts = s.parts := rfl
@[simp] theorem State.updSpdm_srv : (s.updSpdm c f).srv = s.srv := rfl
@[simp] theorem State.updSpdm_convs : (s.updSpdm c f).convs = s.convs := rfl
@[simp] theorem State.updSpdm_sens : (s.updSpdm c f).sens = s.sens := rfl
@[simp] theorem State.updSpdm_flt : (s.updSpdm c f).flt = s.flt := rfl
@[simp] theorem State.updSpdm_fab : (s.updSpdm c f).fab = s.fab := rfl
@[simp] theorem State.updSpdm_chans : (s.updSpdm c f).chans = s.chans := rfl
@[simp] theorem State.updSpdm_hif : (s.updSpdm c f).hif = s.hif := rfl
@[simp] theorem State.updSpdm_jtag : (s.updSpdm c f).jtag = s.jtag := rfl
end

section
variable (s : State) (c : Nat) (f : Conv → Conv)
@[simp] theorem State.updConv_pending : (s.updConv c f).pending = s.pending := rfl
@[simp] theorem State.updConv_time : (s.updConv c f).time = s.time := rfl
@[simp] theorem State.updConv_freeCount : (s.updConv c f).freeCount = s.freeCount := rfl
@[simp] theorem State.updConv_lock : (s.updConv c f).lock = s.lock := rfl
@[simp] theorem State.updConv_clk : (s.updConv c f).clk = s.clk := rfl
@[simp] theorem State.updConv_thm : (s.updConv c f).thm = s.thm := rfl
@[simp] theorem State.updConv_pwr : (s.updConv c f).pwr = s.pwr := rfl
@[simp] theorem State.updConv_cool : (s.updConv c f).cool = s.cool := rfl
@[simp] theorem State.updConv_boot : (s.updConv c f).boot = s.boot := rfl
@[simp] theorem State.updConv_nv : (s.updConv c f).nv = s.nv := rfl
@[simp] theorem State.updConv_mem : (s.updConv c f).mem = s.mem := rfl
@[simp] theorem State.updConv_host : (s.updConv c f).host = s.host := rfl
@[simp] theorem State.updConv_poison : (s.updConv c f).poison = s.poison := rfl
@[simp] theorem State.updConv_cells : (s.updConv c f).cells = s.cells := rfl
@[simp] theorem State.updConv_acc24 : (s.updConv c f).acc24 = s.acc24 := rfl
@[simp] theorem State.updConv_acc48 : (s.updConv c f).acc48 = s.acc48 := rfl
@[simp] theorem State.updConv_shadow : (s.updConv c f).shadow = s.shadow := rfl
@[simp] theorem State.updConv_arrs : (s.updConv c f).arrs = s.arrs := rfl
@[simp] theorem State.updConv_sites : (s.updConv c f).sites = s.sites := rfl
@[simp] theorem State.updConv_wgt : (s.updConv c f).wgt = s.wgt := rfl
@[simp] theorem State.updConv_adps : (s.updConv c f).adps = s.adps := rfl
@[simp] theorem State.updConv_vars : (s.updConv c f).vars = s.vars := rfl
@[simp] theorem State.updConv_banks : (s.updConv c f).banks = s.banks := rfl
@[simp] theorem State.updConv_eng : (s.updConv c f).eng = s.eng := rfl
@[simp] theorem State.updConv_cur : (s.updConv c f).cur = s.cur := rfl
@[simp] theorem State.updConv_nxt : (s.updConv c f).nxt = s.nxt := rfl
@[simp] theorem State.updConv_mesh : (s.updConv c f).mesh = s.mesh := rfl
@[simp] theorem State.updConv_sync : (s.updConv c f).sync = s.sync := rfl
@[simp] theorem State.updConv_kvs : (s.updConv c f).kvs = s.kvs := rfl
@[simp] theorem State.updConv_pfs : (s.updConv c f).pfs = s.pfs := rfl
@[simp] theorem State.updConv_outl : (s.updConv c f).outl = s.outl := rfl
@[simp] theorem State.updConv_frames : (s.updConv c f).frames = s.frames := rfl
@[simp] theorem State.updConv_sweeps : (s.updConv c f).sweeps = s.sweeps := rfl
@[simp] theorem State.updConv_seqs : (s.updConv c f).seqs = s.seqs := rfl
@[simp] theorem State.updConv_parts : (s.updConv c f).parts = s.parts := rfl
@[simp] theorem State.updConv_srv : (s.updConv c f).srv = s.srv := rfl
@[simp] theorem State.updConv_sens : (s.updConv c f).sens = s.sens := rfl
@[simp] theorem State.updConv_flt : (s.updConv c f).flt = s.flt := rfl
@[simp] theorem State.updConv_fab : (s.updConv c f).fab = s.fab := rfl
@[simp] theorem State.updConv_chans : (s.updConv c f).chans = s.chans := rfl
@[simp] theorem State.updConv_hif : (s.updConv c f).hif = s.hif := rfl
@[simp] theorem State.updConv_sec : (s.updConv c f).sec = s.sec := rfl
@[simp] theorem State.updConv_jtag : (s.updConv c f).jtag = s.jtag := rfl
end

section
variable (s : State) (k p : Nat) (f : Arr → Arr)
@[simp] theorem State.updArr_pending : (s.updArr k p f).pending = s.pending := rfl
@[simp] theorem State.updArr_time : (s.updArr k p f).time = s.time := rfl
@[simp] theorem State.updArr_freeCount : (s.updArr k p f).freeCount = s.freeCount := rfl
@[simp] theorem State.updArr_lock : (s.updArr k p f).lock = s.lock := rfl
@[simp] theorem State.updArr_clk : (s.updArr k p f).clk = s.clk := rfl
@[simp] theorem State.updArr_thm : (s.updArr k p f).thm = s.thm := rfl
@[simp] theorem State.updArr_pwr : (s.updArr k p f).pwr = s.pwr := rfl
@[simp] theorem State.updArr_cool : (s.updArr k p f).cool = s.cool := rfl
@[simp] theorem State.updArr_boot : (s.updArr k p f).boot = s.boot := rfl
@[simp] theorem State.updArr_nv : (s.updArr k p f).nv = s.nv := rfl
@[simp] theorem State.updArr_mem : (s.updArr k p f).mem = s.mem := rfl
@[simp] theorem State.updArr_host : (s.updArr k p f).host = s.host := rfl
@[simp] theorem State.updArr_poison : (s.updArr k p f).poison = s.poison := rfl
@[simp] theorem State.updArr_cells : (s.updArr k p f).cells = s.cells := rfl
@[simp] theorem State.updArr_acc24 : (s.updArr k p f).acc24 = s.acc24 := rfl
@[simp] theorem State.updArr_acc48 : (s.updArr k p f).acc48 = s.acc48 := rfl
@[simp] theorem State.updArr_shadow : (s.updArr k p f).shadow = s.shadow := rfl
@[simp] theorem State.updArr_sites : (s.updArr k p f).sites = s.sites := rfl
@[simp] theorem State.updArr_wgt : (s.updArr k p f).wgt = s.wgt := rfl
@[simp] theorem State.updArr_adps : (s.updArr k p f).adps = s.adps := rfl
@[simp] theorem State.updArr_vars : (s.updArr k p f).vars = s.vars := rfl
@[simp] theorem State.updArr_banks : (s.updArr k p f).banks = s.banks := rfl
@[simp] theorem State.updArr_eng : (s.updArr k p f).eng = s.eng := rfl
@[simp] theorem State.updArr_cur : (s.updArr k p f).cur = s.cur := rfl
@[simp] theorem State.updArr_nxt : (s.updArr k p f).nxt = s.nxt := rfl
@[simp] theorem State.updArr_mesh : (s.updArr k p f).mesh = s.mesh := rfl
@[simp] theorem State.updArr_sync : (s.updArr k p f).sync = s.sync := rfl
@[simp] theorem State.updArr_kvs : (s.updArr k p f).kvs = s.kvs := rfl
@[simp] theorem State.updArr_pfs : (s.updArr k p f).pfs = s.pfs := rfl
@[simp] theorem State.updArr_outl : (s.updArr k p f).outl = s.outl := rfl
@[simp] theorem State.updArr_frames : (s.updArr k p f).frames = s.frames := rfl
@[simp] theorem State.updArr_sweeps : (s.updArr k p f).sweeps = s.sweeps := rfl
@[simp] theorem State.updArr_seqs : (s.updArr k p f).seqs = s.seqs := rfl
@[simp] theorem State.updArr_parts : (s.updArr k p f).parts = s.parts := rfl
@[simp] theorem State.updArr_srv : (s.updArr k p f).srv = s.srv := rfl
@[simp] theorem State.updArr_convs : (s.updArr k p f).convs = s.convs := rfl
@[simp] theorem State.updArr_sens : (s.updArr k p f).sens = s.sens := rfl
@[simp] theorem State.updArr_flt : (s.updArr k p f).flt = s.flt := rfl
@[simp] theorem State.updArr_fab : (s.updArr k p f).fab = s.fab := rfl
@[simp] theorem State.updArr_chans : (s.updArr k p f).chans = s.chans := rfl
@[simp] theorem State.updArr_hif : (s.updArr k p f).hif = s.hif := rfl
@[simp] theorem State.updArr_sec : (s.updArr k p f).sec = s.sec := rfl
@[simp] theorem State.updArr_jtag : (s.updArr k p f).jtag = s.jtag := rfl
end

section
variable (s : State) (n : Nat)
@[simp] theorem State.unlatch_pending : (s.unlatch n).pending = s.pending := rfl
@[simp] theorem State.unlatch_time : (s.unlatch n).time = s.time := rfl
@[simp] theorem State.unlatch_freeCount : (s.unlatch n).freeCount = s.freeCount := rfl
@[simp] theorem State.unlatch_lock : (s.unlatch n).lock = s.lock := rfl
@[simp] theorem State.unlatch_clk : (s.unlatch n).clk = s.clk := rfl
@[simp] theorem State.unlatch_thm : (s.unlatch n).thm = s.thm := rfl
@[simp] theorem State.unlatch_pwr : (s.unlatch n).pwr = s.pwr := rfl
@[simp] theorem State.unlatch_cool : (s.unlatch n).cool = s.cool := rfl
@[simp] theorem State.unlatch_boot : (s.unlatch n).boot = s.boot := rfl
@[simp] theorem State.unlatch_nv : (s.unlatch n).nv = s.nv := rfl
@[simp] theorem State.unlatch_mem : (s.unlatch n).mem = s.mem := rfl
@[simp] theorem State.unlatch_host : (s.unlatch n).host = s.host := rfl
@[simp] theorem State.unlatch_poison : (s.unlatch n).poison = s.poison := rfl
@[simp] theorem State.unlatch_cells : (s.unlatch n).cells = s.cells := rfl
@[simp] theorem State.unlatch_acc24 : (s.unlatch n).acc24 = s.acc24 := rfl
@[simp] theorem State.unlatch_acc48 : (s.unlatch n).acc48 = s.acc48 := rfl
@[simp] theorem State.unlatch_shadow : (s.unlatch n).shadow = s.shadow := rfl
@[simp] theorem State.unlatch_arrs : (s.unlatch n).arrs = s.arrs := rfl
@[simp] theorem State.unlatch_sites : (s.unlatch n).sites = s.sites := rfl
@[simp] theorem State.unlatch_wgt : (s.unlatch n).wgt = s.wgt := rfl
@[simp] theorem State.unlatch_adps : (s.unlatch n).adps = s.adps := rfl
@[simp] theorem State.unlatch_vars : (s.unlatch n).vars = s.vars := rfl
@[simp] theorem State.unlatch_banks : (s.unlatch n).banks = s.banks := rfl
@[simp] theorem State.unlatch_eng : (s.unlatch n).eng = s.eng := rfl
@[simp] theorem State.unlatch_cur : (s.unlatch n).cur = s.cur := rfl
@[simp] theorem State.unlatch_nxt : (s.unlatch n).nxt = s.nxt := rfl
@[simp] theorem State.unlatch_mesh : (s.unlatch n).mesh = s.mesh := rfl
@[simp] theorem State.unlatch_sync : (s.unlatch n).sync = s.sync := rfl
@[simp] theorem State.unlatch_kvs : (s.unlatch n).kvs = s.kvs := rfl
@[simp] theorem State.unlatch_pfs : (s.unlatch n).pfs = s.pfs := rfl
@[simp] theorem State.unlatch_outl : (s.unlatch n).outl = s.outl := rfl
@[simp] theorem State.unlatch_frames : (s.unlatch n).frames = s.frames := rfl
@[simp] theorem State.unlatch_sweeps : (s.unlatch n).sweeps = s.sweeps := rfl
@[simp] theorem State.unlatch_seqs : (s.unlatch n).seqs = s.seqs := rfl
@[simp] theorem State.unlatch_parts : (s.unlatch n).parts = s.parts := rfl
@[simp] theorem State.unlatch_srv : (s.unlatch n).srv = s.srv := rfl
@[simp] theorem State.unlatch_convs : (s.unlatch n).convs = s.convs := rfl
@[simp] theorem State.unlatch_sens : (s.unlatch n).sens = s.sens := rfl
@[simp] theorem State.unlatch_flt : (s.unlatch n).flt = s.flt := rfl
@[simp] theorem State.unlatch_fab : (s.unlatch n).fab = s.fab := rfl
@[simp] theorem State.unlatch_chans : (s.unlatch n).chans = s.chans := rfl
@[simp] theorem State.unlatch_sec : (s.unlatch n).sec = s.sec := rfl
@[simp] theorem State.unlatch_jtag : (s.unlatch n).jtag = s.jtag := rfl
end

end Sys2Proof.Machine
end

