-- ==== Sys2Proof/Laws/Ops.lean ====
section
/-! SUPPORT. What each shared operation can do, said once: how a command acts, records read after they are written, memory. -/

namespace Sys2Proof.Machine

/-! ## How a command acts -/

variable {m : Foot} {f : State → State} {s t : State}

/-- What `act` answers: the state unchanged in OFF, else the effect within its footprint. -/
theorem act_eq (m : Foot) (f : State → State) (s : State) : act m f s = .next (if s.pwr.off then s else State.only m s (f s)) := by
  unfold act; split <;> rfl

/-- Powered, `act` is the effect within its footprint. -/
theorem act_on (h : s.pwr.off = false) : act m f s = .next (State.only m s (f s)) := by simp [act, h]

/-- In OFF nothing acts (R433). -/
theorem act_off (h : s.pwr.off = true) : act m f s = .next s := by simp [act, h]

/-- Every command acts to a next state. -/
theorem act_next (m : Foot) (f : State → State) (s : State) : ∃ t, act m f s = .next t := ⟨_, act_eq m f s⟩

/-- What `actAt` answers: the state unchanged in OFF, else the effect within its footprint at the new device time. -/
theorem actAt_eq (m : Foot) (now : State → W64) (f : State → State) (s : State) :
    actAt m now f s = .next (if s.pwr.off then s else { State.only m s (f s) with time := now s }) := by
  unfold actAt; split <;> rfl

/-- A component outside the footprint and other than the time is left. -/
theorem actAt_view {α : Type} {now : State → W64} (v : State → α)
    (hv : ∀ (a b : State) (w : W64), v { State.only m a b with time := w } = v a) (h : actAt m now f s = .next t) : v t = v s := by
  rw [actAt_eq] at h
  cases h
  split
  · rfl
  · exact hv _ _ _

/-- A component outside the footprint is left: for any view of the state that footprint restriction leaves. -/
theorem act_view {α : Type} (v : State → α) (hv : ∀ a b, v (State.only m a b) = v a) (h : act m f s = .next t) : v t = v s := by
  rw [act_eq] at h
  cases h
  split
  · rfl
  · exact hv _ _

/-- `act` leaves the queue. -/
theorem act_pending (h : act m f s = .next t) : t.pending = s.pending := act_view State.pending (fun _ _ => rfl) h

/-! ## Components outside a footprint -/

theorem act_time (hm : m.time = false) (h : act m f s = .next t) : t.time = s.time :=
  act_view State.time (fun _ _ => by simp [State.only, hm]) h
theorem act_freeCount (hm : m.freeCount = false) (h : act m f s = .next t) : t.freeCount = s.freeCount :=
  act_view State.freeCount (fun _ _ => by simp [State.only, hm]) h
theorem act_lock (hm : m.lock = false) (h : act m f s = .next t) : t.lock = s.lock :=
  act_view State.lock (fun _ _ => by simp [State.only, hm]) h
theorem act_clk (hm : m.clk = false) (h : act m f s = .next t) : t.clk = s.clk :=
  act_view State.clk (fun _ _ => by simp [State.only, hm]) h
theorem act_thm (hm : m.thm = false) (h : act m f s = .next t) : t.thm = s.thm :=
  act_view State.thm (fun _ _ => by simp [State.only, hm]) h
theorem act_pwr (hm : m.pwr = false) (h : act m f s = .next t) : t.pwr = s.pwr :=
  act_view State.pwr (fun _ _ => by simp [State.only, hm]) h
theorem act_cool (hm : m.cool = false) (h : act m f s = .next t) : t.cool = s.cool :=
  act_view State.cool (fun _ _ => by simp [State.only, hm]) h
theorem act_boot (hm : m.boot = false) (h : act m f s = .next t) : t.boot = s.boot :=
  act_view State.boot (fun _ _ => by simp [State.only, hm]) h
theorem act_nv (hm : m.nv = false) (h : act m f s = .next t) : t.nv = s.nv :=
  act_view State.nv (fun _ _ => by simp [State.only, hm]) h
theorem act_mem (hm : m.mem = false) (h : act m f s = .next t) : t.mem = s.mem :=
  act_view State.mem (fun _ _ => by simp [State.only, hm]) h
theorem act_host (hm : m.host = false) (h : act m f s = .next t) : t.host = s.host :=
  act_view State.host (fun _ _ => by simp [State.only, hm]) h
theorem act_poison (hm : m.poison = false) (h : act m f s = .next t) : t.poison = s.poison :=
  act_view State.poison (fun _ _ => by simp [State.only, hm]) h
theorem act_cells (hm : m.cells = false) (h : act m f s = .next t) : t.cells = s.cells :=
  act_view State.cells (fun _ _ => by simp [State.only, hm]) h
theorem act_acc24 (hm : m.acc24 = false) (h : act m f s = .next t) : t.acc24 = s.acc24 :=
  act_view State.acc24 (fun _ _ => by simp [State.only, hm]) h
theorem act_acc48 (hm : m.acc48 = false) (h : act m f s = .next t) : t.acc48 = s.acc48 :=
  act_view State.acc48 (fun _ _ => by simp [State.only, hm]) h
theorem act_shadow (hm : m.shadow = false) (h : act m f s = .next t) : t.shadow = s.shadow :=
  act_view State.shadow (fun _ _ => by simp [State.only, hm]) h
theorem act_arrs (hm : m.arrs = false) (h : act m f s = .next t) : t.arrs = s.arrs :=
  act_view State.arrs (fun _ _ => by simp [State.only, hm]) h
theorem act_sites (hm : m.sites = false) (h : act m f s = .next t) : t.sites = s.sites :=
  act_view State.sites (fun _ _ => by simp [State.only, hm]) h
theorem act_wgt (hm : m.wgt = false) (h : act m f s = .next t) : t.wgt = s.wgt :=
  act_view State.wgt (fun _ _ => by simp [State.only, hm]) h
theorem act_adps (hm : m.adps = false) (h : act m f s = .next t) : t.adps = s.adps :=
  act_view State.adps (fun _ _ => by simp [State.only, hm]) h
theorem act_vars (hm : m.vars = false) (h : act m f s = .next t) : t.vars = s.vars :=
  act_view State.vars (fun _ _ => by simp [State.only, hm]) h
theorem act_banks (hm : m.banks = false) (h : act m f s = .next t) : t.banks = s.banks :=
  act_view State.banks (fun _ _ => by simp [State.only, hm]) h
theorem act_eng (hm : m.eng = false) (h : act m f s = .next t) : t.eng = s.eng :=
  act_view State.eng (fun _ _ => by simp [State.only, hm]) h
theorem act_cur (hm : m.cur = false) (h : act m f s = .next t) : t.cur = s.cur :=
  act_view State.cur (fun _ _ => by simp [State.only, hm]) h
theorem act_nxt (hm : m.nxt = false) (h : act m f s = .next t) : t.nxt = s.nxt :=
  act_view State.nxt (fun _ _ => by simp [State.only, hm]) h
theorem act_mesh (hm : m.mesh = false) (h : act m f s = .next t) : t.mesh = s.mesh :=
  act_view State.mesh (fun _ _ => by simp [State.only, hm]) h
theorem act_sync (hm : m.sync = false) (h : act m f s = .next t) : t.sync = s.sync :=
  act_view State.sync (fun _ _ => by simp [State.only, hm]) h
theorem act_kvs (hm : m.kvs = false) (h : act m f s = .next t) : t.kvs = s.kvs :=
  act_view State.kvs (fun _ _ => by simp [State.only, hm]) h
theorem act_pfs (hm : m.pfs = false) (h : act m f s = .next t) : t.pfs = s.pfs :=
  act_view State.pfs (fun _ _ => by simp [State.only, hm]) h
theorem act_outl (hm : m.outl = false) (h : act m f s = .next t) : t.outl = s.outl :=
  act_view State.outl (fun _ _ => by simp [State.only, hm]) h
theorem act_frames (hm : m.frames = false) (h : act m f s = .next t) : t.frames = s.frames :=
  act_view State.frames (fun _ _ => by simp [State.only, hm]) h
theorem act_sweeps (hm : m.sweeps = false) (h : act m f s = .next t) : t.sweeps = s.sweeps :=
  act_view State.sweeps (fun _ _ => by simp [State.only, hm]) h
theorem act_seqs (hm : m.seqs = false) (h : act m f s = .next t) : t.seqs = s.seqs :=
  act_view State.seqs (fun _ _ => by simp [State.only, hm]) h
theorem act_parts (hm : m.parts = false) (h : act m f s = .next t) : t.parts = s.parts :=
  act_view State.parts (fun _ _ => by simp [State.only, hm]) h
theorem act_srv (hm : m.srv = false) (h : act m f s = .next t) : t.srv = s.srv :=
  act_view State.srv (fun _ _ => by simp [State.only, hm]) h
theorem act_convs (hm : m.convs = false) (h : act m f s = .next t) : t.convs = s.convs :=
  act_view State.convs (fun _ _ => by simp [State.only, hm]) h
theorem act_sens (hm : m.sens = false) (h : act m f s = .next t) : t.sens = s.sens :=
  act_view State.sens (fun _ _ => by simp [State.only, hm]) h
theorem act_flt (hm : m.flt = false) (h : act m f s = .next t) : t.flt = s.flt :=
  act_view State.flt (fun _ _ => by simp [State.only, hm]) h
theorem act_fab (hm : m.fab = false) (h : act m f s = .next t) : t.fab = s.fab :=
  act_view State.fab (fun _ _ => by simp [State.only, hm]) h
theorem act_chans (hm : m.chans = false) (h : act m f s = .next t) : t.chans = s.chans :=
  act_view State.chans (fun _ _ => by simp [State.only, hm]) h
theorem act_hif (hm : m.hif = false) (h : act m f s = .next t) : t.hif = s.hif :=
  act_view State.hif (fun _ _ => by simp [State.only, hm]) h
theorem act_sec (hm : m.sec = false) (h : act m f s = .next t) : t.sec = s.sec :=
  act_view State.sec (fun _ _ => by simp [State.only, hm]) h
theorem act_jtag (hm : m.jtag = false) (h : act m f s = .next t) : t.jtag = s.jtag :=
  act_view State.jtag (fun _ _ => by simp [State.only, hm]) h

/-- A conditional effect where its condition holds, and where it does not. -/
@[simp] theorem State.when_true (s : State) (f : State → State) : s.when true f = f s := rfl
@[simp] theorem State.when_false (s : State) (f : State → State) : s.when false f = s := rfl

/-! ## Records read after they are written -/

@[simp] theorem State.part_updPart (s : State) (p : Nat) (f : Part → Part) : (s.updPart p f).part p = f (s.part p) :=
  Sparse.get_upd_self _ _ _
@[simp] theorem State.site_updSite (s : State) (k : Nat) (f : SiteSt → SiteSt) : (s.updSite k f).site k = f (s.site k) :=
  Sparse.get_upd_self _ _ _
@[simp] theorem State.arr_updArr (s : State) (k p : Nat) (f : Arr → Arr) : (s.updArr k p f).arr k p = f (s.arr k p) :=
  Sparse.get_upd_self _ _ _
@[simp] theorem State.seq_updSeq (s : State) (n : Nat) (f : Seq → Seq) : (s.updSeq n f).seq n = f (s.seq n) := Sparse.get_upd_self _ _ _
@[simp] theorem State.var_updVar (s : State) (n : Nat) (f : VarSlot → VarSlot) : (s.updVar n f).var n = f (s.var n) :=
  Sparse.get_upd_self _ _ _
@[simp] theorem State.bank_updBank (s : State) (b : Nat) (f : Bank → Bank) : (s.updBank b f).bank b = f (s.bank b) :=
  Sparse.get_upd_self _ _ _
@[simp] theorem State.adp_updAdp (s : State) (n : Nat) (f : Adp → Adp) : (s.updAdp n f).adp n = f (s.adp n) := Sparse.get_upd_self _ _ _
@[simp] theorem State.chan_updChan (s : State) (c : Nat) (f : Chan → Chan) : (s.updChan c f).chan c = f (s.chan c) :=
  Sparse.get_upd_self _ _ _
@[simp] theorem State.port_updPort (s : State) (n : Nat) (f : Port → Port) : (s.updPort n f).port n = f (s.port n) :=
  Sparse.get_upd_self _ _ _
@[simp] theorem State.spdm_updSpdm (s : State) (c : Nat) (f : Spdm → Spdm) : (s.updSpdm c f).spdm c = f (s.spdm c) :=
  Sparse.get_upd_self _ _ _
@[simp] theorem State.conv_updConv (s : State) (c : Nat) (f : Conv → Conv) : (s.updConv c f).conv c = f (s.conv c) :=
  Sparse.get_upd_self _ _ _

/-- Another record is left. -/
theorem State.part_updPart_ne (s : State) {p q : Nat} (f : Part → Part) (h : q ≠ p) : (s.updPart p f).part q = s.part q := by
  unfold State.part State.updPart; rw [Sparse.get_upd, if_neg h]
theorem State.site_updSite_ne (s : State) {k j : Nat} (f : SiteSt → SiteSt) (h : j ≠ k) : (s.updSite k f).site j = s.site j := by
  unfold State.site State.updSite; rw [Sparse.get_upd, if_neg h]
theorem State.seq_updSeq_ne (s : State) {n m : Nat} (f : Seq → Seq) (h : m ≠ n) : (s.updSeq n f).seq m = s.seq m := by
  unfold State.seq State.updSeq; rw [Sparse.get_upd, if_neg h]
theorem State.chan_updChan_ne (s : State) {c d : Nat} (f : Chan → Chan) (h : d ≠ c) : (s.updChan c f).chan d = s.chan d := by
  unfold State.chan State.updChan; rw [Sparse.get_upd, if_neg h]
theorem State.port_updPort_ne (s : State) {n m : Nat} (f : Port → Port) (h : m ≠ n) : (s.updPort n f).port m = s.port m := by
  unfold State.port State.updPort; rw [Sparse.get_upd, if_neg h]
theorem State.bank_updBank_ne (s : State) {b c : Nat} (f : Bank → Bank) (h : c ≠ b) : (s.updBank b f).bank c = s.bank c := by
  unfold State.bank State.updBank; rw [Sparse.get_upd, if_neg h]
theorem State.var_updVar_ne (s : State) {n m : Nat} (f : VarSlot → VarSlot) (h : m ≠ n) : (s.updVar n f).var m = s.var m := by
  unfold State.var State.updVar; rw [Sparse.get_upd, if_neg h]

/-! ## Memory -/

/-- A write of device memory keeps the canonical form. -/
theorem State.wf_wrBytes (h : s.mem.wf = true) (a : Nat) (bs : List Byte) : (s.wrBytes a bs).mem.wf = true := by
  unfold State.wrBytes
  split
  · exact h
  · exact Memory.wf_writeBytes h a bs

theorem State.wf_zeroMem (h : s.mem.wf = true) (a n : Nat) : (s.zeroMem a n).mem.wf = true := Memory.wf_zero h a n

/-- Bytes outside a write of device memory are left. -/
theorem State.read_wrBytes_other (s : State) (a c : Nat) (bs : List Byte) (hc : ¬(a ≤ c ∧ c < a + bs.length)) :
    (s.wrBytes a bs).mem.read c = s.mem.read c := by
  unfold State.wrBytes
  split
  · rfl
  · show (s.mem.writeBytes a bs).read c = _
    rw [Memory.read_writeBytes, dif_neg hc]

/-- The memory right after reset is in canonical form. -/
theorem State.reset_wf : State.reset.mem.wf = true ∧ State.reset.host.wf = true ∧ State.reset.cells.wf = true := ⟨rfl, rfl, rfl⟩

end Sys2Proof.Machine
end

