-- ==== Sys2Proof/Laws/Frames.lean ====
section
/-! SUPPORT. What the shared operations leave: each changes no component of the state outside the footprint its law names. -/

namespace Sys2Proof.Machine

/-! ## Frames -/

variable {m k : Foot} {s t u : State}

/-- What a frame leaves, for any view of the state that does not look inside `m`. -/
theorem Within.view {α : Type} (h : Within m s t) (v : State → α) (hv : ∀ a b, v (State.only m a b) = v a) : v t = v s := by
  rw [h]; exact hv _ _

theorem Within.refl (m : Foot) (s : State) : Within m s s := by
  unfold Within State.only
  cases s
  simp

/-- Where a component is kept on one side and taken on the other, the inner choice does not matter. -/
theorem cond_idem {α : Type} (b : Bool) (x y : α) : (bif b then (bif b then x else y) else y) = bif b then x else y := by
  cases b <;> rfl

theorem only_only (m : Foot) (s t : State) : State.only m s (State.only m s t) = State.only m s t := by
  simp only [State.only, cond_idem]

/-- The effect of a footprint is within it. -/
theorem Within.only (m : Foot) (s t : State) : Within m s (State.only m s t) := (only_only m s t).symm

theorem cond_trans {α : Type} (b : Bool) (x y z : α) :
    (bif b then x else bif b then y else z) = bif b then (bif b then x else bif b then y else z) else z := by
  cases b <;> rfl

/-- Frames compose. -/
theorem Within.trans (h : Within m s t) (h' : Within m t u) : Within m s u := by
  have e : u = State.only m (State.only m s t) u := by rw [← h]; exact h'
  unfold Within
  rw [e]
  simp only [State.only]
  congr 1 <;> exact cond_trans _ _ _ _

/-- A frame is kept by a conditional, an option, and a fold. -/
theorem Within.ite {c : Prop} [Decidable c] (h : Within m s t) (h' : Within m s u) : Within m s (if c then t else u) := by
  split <;> assumption

theorem Within.foldl {α : Type} (f : State → α → State) (hf : ∀ s a, Within m s (f s a)) (l : List α) (s : State) :
    Within m s (l.foldl f s) := by
  induction l generalizing s with
  | nil => exact .refl _ _
  | cons a l ih => exact (hf s a).trans (ih _)

/-- What a command that acts answers: its effect, within its footprint. -/
theorem Answers.of_act {c : Instr} {f : State → State} {P : State → Prop} (hc : exec c s = act m f s) (hon : s.pwr.off = false)
    (hP : P (State.only m s (f s))) : Answers c s m P :=
  ⟨_, by rw [hc, act_on hon], .only _ _ _, hP⟩

/-! ## Words, events and results -/

/-- The footprint of a word on a channel: the channel, an interrupt, and for the fabric manager a frame on a port. -/
def saying : Foot := { fab := true, chans := true, hif := true }

theorem Within.updChan (s : State) (c : Nat) (f : Chan → Chan) (hm : m.chans = true := by rfl) : Within m s (s.updChan c f) := by
  unfold Within State.only; cases s; simp [State.updChan, hm]
theorem Within.irq (s : State) (a b : Nat) (hm : m.hif = true := by rfl) : Within m s (s.irq a b) := by
  unfold Within State.only; cases s; simp [State.irq, hm]
theorem Within.updPort (s : State) (n : Nat) (f : Port → Port) (hm : m.fab = true := by rfl) : Within m s (s.updPort n f) := by
  unfold Within State.only; cases s; simp [State.updPort, hm]

theorem State.msgIrq_within (s : State) (c : Nat) : Within saying s (s.msgIrq c) := by
  unfold State.msgIrq
  repeat' split
  all_goals first | exact .irq _ _ _ | exact .refl _ _

theorem State.sendFrame_within (s : State) (f : Frame) (hm : m.fab = true := by rfl) : Within m s (s.sendFrame f) := by
  unfold State.sendFrame
  split
  · exact .updPort _ _ _ hm
  · unfold Within State.only; cases s; simp [hm]

theorem State.fmWord_within (s : State) (c : Nat) (w : W64) : Within saying s (s.fmWord c w) :=
  (Within.updChan s c _).trans (State.sendFrame_within _ _)

theorem State.pump_within (s : State) (c : Nat) : Within saying s (s.pump c) := by
  unfold State.pump
  simp only
  repeat' split
  all_goals first
    | exact .refl _ _
    | exact (Within.updChan s c _).trans (State.fmWord_within _ _ _)
    | exact (Within.updChan s c _).trans (State.msgIrq_within _ _)

theorem State.sendWord_within (s : State) (c : Nat) (w : W64) : Within saying s (s.sendWord c w) := by
  unfold State.sendWord
  split
  · exact .updChan _ _ _
  · exact (Within.updChan s c _).trans (State.pump_within _ _)

theorem State.event_within (s : State) (rs : List Receiver) (code : Byte) (arg : Nat) : Within saying s (s.event rs code arg) :=
  .foldl _ (fun _ _ => State.sendWord_within _ _ _) _ _

theorem State.result_within (s : State) (b : CmdBlock) (code status : Byte) : Within saying s (s.result b code status) :=
  State.sendWord_within _ _ _

theorem State.opened_within (s : State) (b : CmdBlock) (code : Byte) : Within saying s (s.opened b code) :=
  (Within.updChan s _ _).trans (State.result_within _ _ _ _)

theorem State.complete_within (s : State) (c : Nat) (code : Byte) (cseq : BitVec 4) (status : Byte) (detail : BitVec 40) :
    Within saying s (s.complete c code cseq status detail) := by
  unfold State.complete
  split
  · exact (Within.updChan s _ _).trans (State.sendWord_within _ _ _)
  · exact .refl _ _

end Sys2Proof.Machine
end

