-- ==== Sys2Proof/Laws/Exec.lean ====
section
/-! SUPPORT. What a command can do, said once for every command: how it acts, and which commands can reach the locked configuration
and the device time. -/

namespace Sys2Proof.Machine

/-- The commands whose own rule says what they do in OFF (R432, R455, R473, R477). -/
def special (c : Instr) : Bool :=
  match c with
  | .powerOnReset _ | .vauxFalls | .thermalTrip _ _ | .overvoltageCut _ _ => true
  | _ => false

/-- The commands other than resets that can write the locked configuration: a register write and the three commits. -/
def locks (c : Instr) : Bool :=
  match c with
  | .registerWrite _ _ _ _ _ | .commitGlobal | .commitStep | .commitFabric => true
  | _ => false

set_option maxRecDepth 4000 in
/-- Every other command acts on a footprint, with or without a time of its own; only resets reach the device time through theirs, and
only resets, register writes and commits the locked configuration. -/
theorem exec_acts (c : Instr) (hc : special c = false) :
    (∃ m f, (∀ s, exec c s = act m f s) ∧ (c.isReset = false → m.time = false ∧ (locks c = false → m.lock = false)) ∧
      c.movesTime = false) ∨
    (∃ m now f, (∀ s, exec c s = actAt m now f s) ∧ m.time = false ∧ m.lock = false ∧ c.movesTime = true) := by
  cases c
  all_goals first
    | exact .inl ⟨_, _, fun _ => rfl, fun _ => ⟨rfl, fun _ => rfl⟩, rfl⟩
    | exact .inr ⟨_, _, _, fun _ => rfl, rfl, rfl, rfl⟩
    | exact .inl ⟨_, _, fun _ => rfl, fun _ => ⟨rfl, fun h => nomatch h⟩, rfl⟩
    | exact .inl ⟨_, _, fun _ => rfl, fun h => (nomatch h), rfl⟩
    | exact nomatch hc

end Sys2Proof.Machine
end

