-- ==== Sys2Proof/Tests/Slice0.lean ====
section
/-! SUPPORT. Tests: ill-formed commands are refused, small results taken from the spec, and for every statement states and operands
that meet its hypotheses. -/

namespace Sys2Proof.Tests

set_option Elab.async false

open Sys2Proof Sys2Proof.Machine

/-! ## Small states -/

/-- A tenant's record. -/
def tenant : PartCfg := {
  partition := 1, laneQuota := 8, seqBase := 0, seqCount := 16, kvQuota := 32, sweepQuota := 4, resCount := 2, queueLimit := 4, weight := 1,
  defaultTtl := 1000, adpBase := 4, adpCount := 4, adpArea := (0x260000000, 0x100000)
  reqArea := (0x30000000, 0x10000), parkArea := (0x20000000, 0x10000), spillBase := 0x40000000 }

/-- The operator's record. -/
def operator : PartCfg := {
  partition := 31, seqBase := 16, seqCount := 16, adpBase := 0, adpCount := 4, defaultTtl := 1000, queueLimit := 4
  adpArea := (0x240000000, 0x100000), reqArea := (0x50000000, 0x10000) }

/-- A powered, started device, held, nothing committed, one tenant configured. -/
def up : State := { State.reset with
  boot := { done := 0x3FF, ready := true, stacksOk := 0xFFFF }
  clk := { refLocked := true, refPresent := true, frefPresent := true }
  pwr := { ringUp := true, dramUp := true, interiors := BitVec.allOnes 84 }
  lock := { wBase := 9, wSize := 1, vBase := 4, vSize := 2 }
  parts := [(1, { cfg := some tenant }), (31, { cfg := some operator })]
  nv := { State.reset.nv with opKey := some [1, 2, 3] } }

/-- A command block without a tag that its channel reads from host memory. -/
def cmd (c : Nat) (code : Byte) (params : List Byte) : CmdBlock := {
  channel := c, cseq := 3, blkCode := code, blkCseq := 3, addr := 0x020000000000, readOk := true, length := 0x100, flags := 0
  counter := 0, tag := 0, reserved := 0, params := params }

/-- The environment of a start. -/
def env : BootEnv := { refclk := true, railsOk := true, forceRcvyLow := false, maddr := 3 }

/-! ## The whole machine -/

/-- The same device with two commands waiting, and with the module off. -/
def queued : State := { up with pending := [.holdoverEnter, .frefLoss] }

theorem met_StepRunsFrontCommand : queued.pending = Instr.holdoverEnter :: [.frefLoss] := by decide
theorem met_EmptyQueueCountsTime : up.pending = [] := by decide
theorem met_QueueFirstInFirstOut : (queued.goes) := ⟨_, rfl⟩
theorem met_RatedCommandsAnswer : Instr.frefLoss.rated = true ∧ (Instr.overvoltageCut 80000 10).rated = true := by decide
theorem met_OffActsOnNothing : ({ up with pwr := { up.pwr with off := true } } : State).pwr.off = true ∧ Instr.frefLoss.rated = true := by decide
theorem met_CommittedFieldsStayLocked :
    ({ queued with lock := { queued.lock with cGlobal := true, cStep := true, cFabric := true } } : State).pending =
      [Instr.holdoverEnter, .frefLoss] ∧ Instr.holdoverEnter.isReset = false := by decide
theorem met_LockedFieldsStayLegal : queued.lock.legal = true ∧ queued.goes := ⟨by decide, _, rfl⟩
theorem met_DeviceTimeRunsForward :
    queued.time.toNat < 2 ^ 64 - 2 ^ 20 ∧ Instr.holdoverEnter.isReset = false ∧ Instr.holdoverEnter.movesTime = false := by decide

/-! ## Start-up and resets -/

/-- A device in stage MESH, and one with recovery mode. -/
def starting : State := { State.reset with boot := { done := 0x00F } }
/-- Recovery mode. -/
def recovering : State := { up with boot := { up.boot with recovery := true, ready := false, recoveryUpdated := true } }

theorem met_PowerOn : up.mayStart = true ∧ ({ up with pwr := { up.pwr with off := true, offCause := .powerFail } } : State).mayStart = true := by
  decide
theorem met_StartUp_mesh : starting.pwr.off = false ∧ env.refclk = true ∧ starting.boot.recovery = false ∧ starting.stagesBelow 4 = true ∧
    starting.stageDone 4 = false ∧ starting.boot.stopped = false := by decide
/-- Stage COOLANT with 8 good ticks. -/
def coolant : State := { up with boot := { done := 0x01F }, cool := { up.cool with goodTicks := 8 } }
theorem met_StartUp_coolant : coolant.pwr.off = false ∧ coolant.stagesBelow 5 = true ∧ coolant.stageDone 5 = false ∧
    8 ≤ coolant.cool.goodTicks := by decide
/-- A stage from 8 on. -/
def stage (done : BitVec 10) : State := { up with boot := { done := done } }
theorem met_StartUp_stages : (stage 0x0FF).stagesBelow 8 = true ∧ (stage 0x0FF).stageDone 8 = false ∧ (stage 0x1FF).stageDone 5 = true ∧
    (stage 0x1FF).stageDone 9 = false ∧ (stage 0x3FF).stagesBelow 10 = true ∧ (stage 0x3FF).boot.ready = false ∧
    (stage 0x3FF).boot.recovery = false := by decide
/-- A committed weight region that holds the golden area of a RECOVERED generation. -/
def golden : State := { up with
  lock := { up.lock with cGlobal := true }
  wgt := { up.wgt with genA := { state := 6, number := 1, goldenBase := 0x240000000, goldenSize := 0x100000 } } }
theorem met_StartUp_golden : golden.boot.ready = true ∧ golden.lock.cGlobal = true ∧ golden.boot.goldenRebuilt = false ∧
    (∀ g ∈ [golden.wgt.genA, golden.wgt.genB], g.state = 6 ∨ g.state = 7 → golden.inWregion g.goldenBase g.goldenSize = true) := by decide
theorem met_DeviceResets : up.pwr.off = false ∧ 10000 ≤ 10000 ∧ recovering.pwr.off = false ∧ recovering.boot.recovery = true ∧
    recovering.boot.recoveryUpdated = true := by decide
/-- A step in progress. -/
def stepping : State := { up with eng := { up.eng with state := 2, hold := false } }
theorem met_LinkAndFunctionResets : recovering.boot.recovery = true ∧ up.boot.recovery = false ∧
    ({ up with hif := { up.hif with perst := false } } : State).hif.perst = false ∧
    stepping.held = false ∧ stepping.configured 1 = true ∧ (stepping.part 1).zeroing = none := by decide

/-- A command block signed under the operator's key of `up`. -/
def signed (b : CmdBlock) : CmdBlock :=
  let c := { b with flags := 1, counter := 1 }
  { c with tag := blockTag [1, 2, 3] b.channel c }

/-- A signed block of a critical command is accepted where the same block is accepted of a command that is not critical. -/
theorem accepts_signed_on (s : State) (i : CmdInfo) (sec fl : Bool) (b : CmdBlock) (hc : (sec || secureChan b.channel) = true)
    (hk : ((s.takeIn b.channel).cmdKey b.channel) = (some [1, 2, 3], 0)) (hf : b.flags = 0)
    (h : s.accepts { i with critical := false } sec false b) : s.accepts i sec fl (signed b) := by
  unfold State.accepts at h ⊢
  have ht : blockTag [1, 2, 3] b.channel (signed b) = (signed b).tag := rfl
  have hch : (signed b).channel = b.channel := rfl
  rw [hch]
  generalize s.takeIn b.channel = u at *
  have htc : u.tagCheck i.critical fl (signed b) = .pass := by
    unfold State.tagCheck
    rw [hch, hk]
    have f1 : (signed b).flags = 1 := rfl
    have f2 : (signed b).counter = 1 := rfl
    have h1 : (1 : BitVec 32).getLsbD 0 = true := by decide
    have h2 : ¬ ((1 : W64) ≤ 0) := by decide
    simp only [f1, f2, h1, if_true, ht, bne_self_eq_false, Bool.false_eq_true, if_false, h2]
  unfold State.rejectReason at h ⊢
  rw [htc]
  simp only [hch, hc, Bool.not_true, Bool.and_false] at h ⊢
  have e1 : (signed b).addr = b.addr := rfl
  have e2 : (signed b).readOk = b.readOk := rfl
  have e3 : (signed b).length = b.length := rfl
  have e4 : (signed b).blkCode = b.blkCode := rfl
  have e5 : (signed b).blkCseq = b.blkCseq := rfl
  have e6 : (signed b).cseq = b.cseq := rfl
  have e7 : (signed b).reserved = b.reserved := rfl
  have e8 : ((signed b).flags >>> 1 != 0) = (b.flags >>> 1 != 0) := by
    have f1 : (signed b).flags = 1 := rfl
    rw [hf, f1]; decide
  rw [e1, e2, e3, e4, e5, e6, e7, e8]
  revert h
  split <;> try simp
  split <;> try simp
  all_goals (repeat' split) <;> simp_all

/-- The same on a secure channel. -/
theorem accepts_signed (s : State) (i : CmdInfo) (b : CmdBlock) (hc : secureChan b.channel = true)
    (hk : ((s.takeIn b.channel).cmdKey b.channel) = (some [1, 2, 3], 0)) (hf : b.flags = 0)
    (h : s.accepts { i with critical := false } false false b) : s.accepts i false false (signed b) :=
  accepts_signed_on s i false false b (by simp [hc]) hk hf h

theorem met_DEV_RESET : up.accepts ⟨0x68, true, [0, 18]⟩ false false (signed (cmd 0 0x68 [1])) ∧ (signed (cmd 0 0x68 [1])).par 0 1 = 1 :=
  ⟨accepts_signed _ _ _ rfl rfl rfl (by decide), by decide⟩
/-! ## The tick, sensing, clocks, power and cooling -/

/-- A weight tile of vale 8, a KV core, a prefill core, a precision tile and a service site of vale 8. -/
def tile : Nat := siteAt 40 20
/-- The KV core. -/
def kvCore : Nat := siteAt 41 21
/-- The prefill core. -/
def prefill : Nat := siteAt 46 22
/-- The precision tile. -/
def precision : Nat := siteAt 42 22
/-- The service site. -/
def service : Nat := siteAt 45 22

theorem test_site_types : siteType tile = 1 ∧ siteType kvCore = 2 ∧ siteType prefill = 3 ∧ siteType precision = 4 ∧ siteType service = 5 := by
  decide

theorem met_MANAGEMENT_TICK : up.pwr.off = false ∧ up.stageDone 0 = true := by decide

/-- Converter 256 of vale 8 runs one temperature entry; a vale at t_throttle over the tick. -/
def sensing : State := { up with
  convs := [(256, { running := true, table := [0x80000000], tickSum := 580, tickCnt := 1 }), (288, {})]
  sens := { up.sens with windowDue := true } }
theorem met_MANAGEMENT_TICK_throttle : (8, 580, 1) ∈ sensing.tickVales ∧ valeInHalf .west 8 = true ∧
    atLeast (580, 1) sensing.thm.tThrottle.toNat = true := by decide +kernel
theorem met_CONVERSION_COMPLETE : (sensing.conv 256).running = true ∧ sensing.convUp 256 = true ∧ (sensing.conv 256).atSync = false ∧
    sePull ((sensing.conv 256).table.getD (sensing.conv 256).cur 0) = 0 ∧ seChannel ((sensing.conv 256).table.getD (sensing.conv 256).cur 0) ≠ 3 := by
  decide
theorem met_URGENT_and_TABLE : sensing.convUp 256 = true ∧ channelOk 256 4 = true ∧ (sensing.conv 256).trig = false ∧
    sensing.convUp 288 = true ∧ (sensing.conv 288).running = false ∧ [(0x80000000 : BitVec 32)].all (entryOk 288) = true := by decide
theorem met_SENSOR_WINDOW_END : sensing.sens.windowDue = true := by decide

/-- Every vale due for its first calibration; a pause under way in vale 8. -/
def calDue : State := { up with
  boot := { up.boot with done := 0x37F, ready := false }
  sens := { up.sens with due := BitVec.allOnes 84, statDone := BitVec.allOnes 84, statOver := 1 } }
/-- The pause. -/
def pausing : State := { up with
  boot := { up.boot with done := 0x37F, ready := false }
  eng := { up.eng with state := 3, resume := 0, pauseEnd := 34000 }
  pwr := { up.pwr with uncal := setVale 0 8 }
  sens := { up.sens with pausing := setVale 0 8, due := setVale 0 8 } }
theorem met_CalibrationAndScans_pauses : calDue.sens.statOver ≠ 0 ∧ calDue.pauseHere = true ∧ pausing.eng.state = 3 ∧
    pausing.eng.abortDue = none ∧ pausing.pwr.onDue = [] ∧ valeBit pausing.sens.pausing 8 = true ∧ pausing.stagesBelow 7 = true := by
  decide
/-- Array 16 of the tile at its last row group; the tile holds an array of a generation, as old as max_age. -/
def scanning : State := { up with
  arrs := [(arrKey tile 16, { scanRg := 15, scanWeak := 20, baseline := 4 })]
  sens := { up.sens with maxAge := 1 }, time := 0x300000
  wgt := { up.wgt with genA := { state := 4, number := 1, arrays := [{ site := tile, logical := 0, entry := 0, crc := 0, golden := 0x240000000 }] } } }
theorem met_MARGIN_SCAN : scanning.mayScan tile 0 = true ∧ (scanning.arr tile 0).scanRg = 0 ∧ scanning.mayScan tile 16 = true ∧
    (scanning.arr tile 16).scanRg = 15 ∧ scanning.sens.maxAge.toNat ≤ scanning.ageOf tile 16 ∧ scanning.holdsNothing tile = false := by
  decide +kernel

/-- Holdover. -/
def heldOver : State := { up with clk := { up.clk with holdover := true, refPresent := false } }
theorem met_References : up.stageDone 0 = true ∧ up.clk.holdover = false ∧ heldOver.clk.holdover = true ∧ up.clk.refLocked = true ∧
    up.clk.decoupledSet.contains 2687 = false := by decide

/-- Both halves in THROTTLE, 64 ticks below t_warn; vale 8 with a confirmed reading at the emergency code. -/
def hot : State := { up with
  thm := { up.thm with westState := 2, eastState := 2, belowW := 64, belowE := 64 }
  convs := [(256, { crossed := some (0, 640, true) })] }
/-- Vale 8 in emergency, 64 ticks cool. -/
def cooled : State := { up with thm := { up.thm with emerg := setVale 0 8, stopped := setVale 0 8, coolTicks := [(8, 64)] } }
theorem met_ThermalStates : hot.thm.westState = 2 ∧ 64 ≤ hot.thm.belowW ∧ hot.thm.eastState = 2 ∧ 64 ≤ hot.thm.belowE ∧
    (hot.conv (32 * 8 + 0)).crossed = some (0, 640, true) ∧ hot.interiorUp 8 = true ∧ valeBit hot.thm.emerg 8 = false ∧
    valeBit cooled.thm.emerg 8 = true ∧ 64 ≤ cooled.thm.coolTicks.get 0 8 ∧ cooled.interiorUp 8 = true ∧ cooled.flt.exchanging = [] ∧
    cooled.flt.move = none ∧ cooled.flt.respares = [] := by decide

/-- Eight ticks of a hot inlet, of low and of very low flow. -/
def warm : State := { up with cool := { up.cool with hotInletTicks := 8, lowFlowTicks := 8, veryLowTicks := 8 } }
/-- Both clear for 64 ticks. -/
def mild : State := { up with cool := { up.cool with causeInlet := true, inletClearTicks := 64, flowClearTicks := 64 } }
/-- Coolant fail for 810 ticks, clear for 64. -/
def dry : State := { up with cool := { up.cool with fail := true, failTicks := 810, failClearTicks := 64 } }
theorem met_Coolant : 8 ≤ warm.cool.hotInletTicks ∧ warm.cool.causeInlet = false ∧ 8 ≤ warm.cool.lowFlowTicks ∧ warm.cool.causeFlow = false ∧
    64 ≤ mild.cool.inletClearTicks ∧ mild.cool.causeFlow = false ∧ 64 ≤ up.cool.flowClearTicks + 64 ∧ warm.cool.fail = false ∧
    8 ≤ warm.cool.veryLowTicks ∧ dry.cool.fail = true ∧ 64 ≤ dry.cool.failClearTicks ∧ 810 ≤ dry.cool.failTicks ∧
    dry.pwr.state ≠ 0b011 := by decide
/-- The supply limit set, 810 ticks below 450 A. -/
def limited : State := { up with pwr := { up.pwr with limit := true, limitTicks := 810 } }
theorem met_Supply : up.pwr.limit = false ∧ limited.pwr.limit = true ∧ 810 ≤ limited.pwr.limitTicks ∧ up.interiorUp 83 = true := by decide

/-- VALE_POWER off and on of vale 8, PWR_STATE to STANDBY and to ACTIVE. -/
def powerOff : CmdBlock := cmd 0 0x60 [8, 0]
/-- The vale dark. -/
def darkened : State := { up with pwr := { up.pwr with dark := setVale 0 8, interiors := clrVale (BitVec.allOnes 84) 8 } }
/-- STANDBY, and its exit. -/
def standby : State := { up with pwr := { up.pwr with state := 0b011 } }
/-- The exit with every vale calibrated; a darkening that waits. -/
def leaving : State := { up with pwr := { up.pwr with state := 0b100, darkenDue := [(8, 0, 3)] } }
theorem met_VALE_POWER : stepping.accepts valePowerInfo false false powerOff ∧ powerOff.par 1 1 = 0 ∧ powerOff.par 0 1 < 84 ∧
    powerOff.par 0 1 % 7 ≠ 0 ∧ valeBit stepping.pwr.dark (powerOff.par 0 1) = false ∧ stepping.pwr.darkenDue = [] ∧
    (∀ n < 4, (stepping.bank n).state ≠ 0 → stepping.bankUses n (powerOff.par 0 1) = false) ∧
    stepping.interiorHolds (powerOff.par 0 1) = false ∧ stepping.held = false ∧ stepping.settled = false := by decide
theorem met_VALE_POWER_on : darkened.accepts valePowerInfo false false (cmd 0 0x60 [8, 1]) ∧ (cmd 0 0x60 [8, 1]).par 1 1 = 1 ∧
    valeBit darkened.pwr.dark 8 = true := by decide
theorem met_PWR_STATE_standby : up.accepts pwrStateInfo false false (signed (cmd 0 0x62 [1])) ∧ up.pwr.state ≠ 0b011 ∧
    up.pwr.state ≠ 0b100 ∧ up.held = true ∧ up.framesInUse = false ∧ up.busyForStandby = false :=
  ⟨accepts_signed _ _ _ rfl rfl rfl (by decide), by decide, by decide, by decide, by decide, by decide⟩
theorem met_PWR_STATE_active : standby.accepts pwrStateInfo false false (signed (cmd 0 0x62 [0])) ∧ standby.pwr.state = 0b011 :=
  ⟨accepts_signed _ _ _ rfl rfl rfl (by decide), by decide⟩
theorem met_STANDBY_EXIT : leaving.pwr.state = 0b100 ∧ leaving.pwr.uncal = 0 ∧ (∃ e ∈ leaving.pwr.darkenDue, e.1 = 8) ∧
    leaving.settled = true := by decide
/-- A generation with one array on the tile, its copy in DRAM checked. -/
def relocating : State := { up with
  wgt := { up.wgt with
    genA := { state := 4, number := 1
              arrays := [{ site := tile, logical := 0, entry := 0, crc := crc32c (up.rdBytes 0x240000000 imageBytes), golden := 0x240000000 }] } } }
/-- THM_RELOCATE of the tile's contents to another tile. -/
def relocate : CmdBlock := cmd 0 0x61 [1, 0, 0, 0, 0, 0, 0, 0, 40, 20, 44, 20]
theorem met_THM_RELOCATE : relocating.accepts ⟨0x61, false, [0, 1, 18]⟩ false false relocate ∧ relocating.relocatable relocate ∧
    relocating.heldArrays tile ≠ [] ∧ relocating.goldenOk
      { site := tile, logical := 0, entry := 0, crc := crc32c (up.rdBytes 0x240000000 imageBytes), golden := 0x240000000 } = true ∧
    (relocPairs relocate).all (fun e => relocating.chunksOk e.1) = true :=
  ⟨by decide, by decide, List.cons_ne_nil _ _, beq_self_eq_true _, by decide⟩


/-! ## A running variant -/

/-- A site's score with its stage role and address registers. -/
def score (k role stage : Nat) (addrs : List Nat) (kvm : W64) (heads : List W64) : ScoreRec := {
  site := k, role := role, stage := stage, rclass := 0, laneBound := true, addrs := addrs, tmode := 0, tafmt := 1, kvMode := kvm
  kvHeads := heads, xst := [] }

/-- KV_MODE of a decode core: one of one in its group, K and V MXFP8, 64 frames. -/
def kvMode : W64 := BitVec.ofNat 64 (1 * 2 ^ 30 + 7 * 2 ^ 25 + 1 * 2 ^ 20 + 64)

/-- A bundle without operations, of slot 0, that issues twice. -/
def bundle : BitVec 1024 := encodeBundle (2#1024 <<< (960 + 46))

/-- The running image: eight lanes, three stages, one site of every type; the tile's registers 0 to 3 name a fill word, a committed
word, a mirror word and no sync word. -/
def image : VariantImage := {
  magic := 0x56345749, containerVersion := 1, member := 0, variantId := 7, imageId := 0x11, lanes := 8, depth := 3, slotCode := 0
  clockPlan := 0, kOutlier := 4, notchWidth := 0, notchLog2 := 10, gapSets := 0, queryFmt := 9, reshardRate := 1, portPlan := 0
  mgmtBw := 0, quantPoints := 0, thermalReserve := 0, useMask := 0, sections := [], manifestDigest := 0x55, reservedZero := true, defectDigest := 0
  size := 0, west := [bundle], east := [bundle, bundle], quant := [], lanePlan := List.replicate 8 0x0800
  scores := [
    score tile 0 0 [0x100000000, 0x100008000, hostSyncPage + 0x800, 0x100010000] 0 [],
    score kvCore 0 1 [siteBase kvCore] kvMode [1], score prefill 0 1 [siteBase prefill] 0 [],
    score precision 0 1 [siteBase precision] 0 [], score service 0 2 [siteBase service] 0 []]
  gaps := [], crossMasks := [], reductions := [], divisions := [], windowBytes := [], windows := [], scoreWindow := 100
  expWindow := 100, prefillCover := 10000 }

/-- A number at a place of a bundle. -/
def field (lo x : Nat) : BitVec 1024 := BitVec.ofNat 1024 (x * 2 ^ lo)
/-- A state whose west half is in repetition 0 of a WORK bundle with these fields and no condition. -/
def acting (s : State) (f : BitVec 1024) : State := { s with
  eng := { s.eng with beatW := some { bundle := field 1020 1 ||| f, slot := s.eng.slot, fillLeft := s.eng.fillLeft, slotCount := s.eng.slotCount } } }

/-- The image resident in slot 0 and running from bank 0, with a live generation. -/
def serving : State := { up with
  vars := [(0, { state := 2, img := some image })]
  banks := [(0, { state := 3, variantId := 7, scores := image.scores, west := image.west, east := image.east })]
  eng := { up.eng with hold := false, running := true, state := 2, stepNumber := 5 }
  cur := { step := 5, empty := false }, nxt := { step := 6, empty := false }
  wgt := { up.wgt with
    genA := { state := 4, number := 1, imageId := 0x11, digest := 0x55, vocab := 1000, contract := 3 }
    ptrValid := true } }

/-- The same device held, with the descriptor of the step after the next fetched. -/
def mayStart : State := { serving with
  eng := { serving.eng with state := 0, running := false }, cur := {}, nxt := {}
  srv := { serving.srv with fetched := [{ step := 6, variant := 0, laneCount := 8, lanes := List.replicate 8 0 }] } }

/-- The step with its last slot issued; with a hold written; after an abort. -/
def ended (st : BitVec 4) (hold : Bool) : State := { serving with eng := { serving.eng with state := st, slot := 8, hold := hold } }
/-- The running step just opened, nothing of it issued. -/
def atStart : State := { serving with eng := { serving.eng with fresh := true, slot := 0 } }
theorem met_Boundaries : (ended 2 false).atBoundary = true ∧ (ended 5 false).atBoundary = true ∧ serving.atBoundary = false ∧
    (State.resolveBoundary { ended 2 false with time := maxTime (ended 2 false).time 9 } .run).holds false = false ∧
    ((State.resolveBoundary { ended 2 false with time := maxTime (ended 2 false).time 9 } .run).s.var
      (State.resolveBoundary { ended 2 false with time := maxTime (ended 2 false).time 9 } .run).opening.variant).img = some image ∧
    (State.resolveBoundary { ended 2 true with time := maxTime (ended 2 true).time 9 } .run).holds true = true := by decide +kernel
theorem met_Boundaries_restart :
    (State.resolveBoundary { ended 5 false with time := maxTime (ended 5 false).time 9 } .restart).holds false = false ∧
    ((State.resolveBoundary { ended 5 false with time := maxTime (ended 5 false).time 9 } .restart).s.var
      (State.resolveBoundary { ended 5 false with time := maxTime (ended 5 false).time 9 } .restart).opening.variant).img = some image ∧
    (State.resolveBoundary { ended 5 true with time := maxTime (ended 5 true).time 9 } .restart).holds true = true := by decide +kernel
theorem met_HOLD_END : mayStart.mayRun = true ∧ up.mayRun = false ∧ up.fab.member = false ∧
    (mayStart.resolveBoundary .exit).holds mayStart.eng.hold = false ∧
    ((mayStart.resolveBoundary .exit).s.var (mayStart.resolveBoundary .exit).opening.variant).img = some image := by decide +kernel
/-- A permanent fault of an array to classify, whose exchange holds the engine again. -/
def heldAgain : State := { mayStart with flt := { mayStart.flt with classified := [(tile, 3, 3)] } }
theorem met_HOLD_END_held : heldAgain.mayRun = true ∧ (heldAgain.resolveBoundary .exit).holds heldAgain.eng.hold = true := by decide +kernel

/-- In a clock quiesce with one beat of either half left. -/
def quiescing : State := { serving with eng := { serving.eng with state := 4, quietW := 1, quietE := 1 } }
theorem met_BUNDLE_ISSUE : serving.runImg = some image ∧ ((serving.bank serving.eng.bank).body .west)[(serving.issueAt .west).1]? = some bundle ∧
    ((serving.bank serving.eng.bank).body .east)[(serving.issueAt .east).1]? = some bundle ∧ serving.decodes = true ∧
    serving.eng.halfDue .west = true ∧ serving.eng.halfDue .east = true ∧ serving.eng.faultTimes = [] ∧ quiescing.eng.state = 4 ∧
    ({ serving with eng := { serving.eng with clkW := 1 } } : State).eng.halfDue .west = false := by decide +kernel
theorem met_BUNDLE_ISSUE_decodes : (decodeBundle (bundle ^^^ 0)).isSome = true ∧ (decodeBundle (bundle ^^^ 1)).map (·.2) = some true ∧
    (decodeBundle bundle).all (fun d => decide ((headerOf d.1).var = (serving.bank serving.eng.bank).slot ∧ 0 < (headerOf d.1).rep)) = true ∧
    decodeBundle (bundle ^^^ 3) = none := by decide +kernel

/-- Frames and pages: one to copy, one retired two steps ago, one in the step that runs. -/
def windowed : State := { serving with
  frames := [(0, { life := 1, copyFrom := some 1 }), (1, { life := 2, retiredAt := 3 }), (2, { life := 2, retiredAt := 5 })]
  sweeps := [(0, { life := 2, retiredAt := 3, kind := true }), (1, { life := 1, kind := true })] }
/-- One retired frame of the image's layout. -/
def zeroing : State := { serving with
  frames := [(1, { life := 2, retiredAt := 3 })], srv := { serving.srv with layouts := [image.layout] } }
theorem met_SERVICE_WINDOW : windowed.running = true ∧ windowed.sync.stalled = false ∧ (windowed.frame 1).life = 2 ∧
    (windowed.frame 1).retiredAt < windowed.eng.stepNumber ∧ (windowed.frame 0).life ≠ 2 ∧
    ¬((windowed.frame 2).retiredAt < windowed.eng.stepNumber) ∧ (windowed.sweepPage 1).life ≠ 2 ∧
    zeroing.frames.entries {} = [(1, zeroing.frame 1)] ∧ (zeroing.frame 1).life = 2 ∧
    (zeroing.frame 1).retiredAt < zeroing.eng.stepNumber ∧ (zeroing.frame 1).copyFrom = none ∧
    (layoutPlaces (zeroing.layoutOf (zeroing.frame 1)) 1).map (fun p => decide (p.len ≤ 0x20000)) = [true] ∧ up.running = false := by decide +kernel

/-- A WAIT of the tile that is late. -/
def waiting : State := { serving with sync := { serving.sync with waits := [(tile, 0x100000000, 1)] } }
/-- The stall it begins. -/
def stalled : State := { waiting with sync := { waiting.sync with stalled := true, x := 40, y := 20, waitTarget := some (tile, 0x100000000, 1) } }
/-- The word reached. -/
def reached : State := { stalled with mem := [(0x100000000, 1)] }
theorem met_Stalls : waiting.sync.waits.find? (fun w => decide (w.1 = tile) && waiting.unmet w) = some (tile, 0x100000000, 1) ∧
    waiting.sync.stalled = false ∧ waiting.held = false ∧ reached.sync.stalled = true ∧ reached.waitMet = true ∧
    stalled.isLate 0xFFFFFFFF = true ∧ stalled.eng.state = 2 ∧
    (∀ e ∈ stalled.sync.lateTimes, e.1 ≠ siteAt stalled.sync.x.toNat stalled.sync.y.toNat) ∧ 255 < 256 ∧ up.blockOpen = true := by decide
/-- A sync operation of every site on address register n, with the operand 1 under expectation 1. -/
def sync (n : BitVec 6) : SyncField := { areg := n, operand := 0x2001 }
/-- The running step in a beat that asks for it. -/
def syncing (op n : Nat) : State := acting serving (field 64 (op * 2 ^ 60 + n * 2 ^ 30 + 0x2001 * 2 ^ 14))
theorem met_SyncOperations : (∀ op ∈ [1, 2, 3], ∀ n ∈ [0, 1, 2, 3], (syncing op n).doesSync tile op (sync (BitVec.ofNat 6 n)) = true) ∧
    serving.sync.stalled = false ∧ serving.home (serving.aregOf tile 0) = .fill ∧ serving.home (serving.aregOf tile 1) = .committed ∧
    serving.home (serving.aregOf tile 2) = .mirror ∧ serving.home (serving.aregOf tile 3) = .other ∧ serving.eng.state = 2 := by
  decide +kernel

/-! ## Faults, sessions and repair -/

/-- The tile with a mark as old as it must be, a KV core SUSPECT and clean for 1,000 ticks, a TL action of vale 8, a fault hold. -/
def passing : State := { serving with
  time := 0x40000000
  sites := [(tile, { marks := [{ p := 3, time := 0x3C000000 }], fstate := 1 }), (kvCore, { fstate := 2, cleanTicks := 1000 })]
  flt := { serving.flt with tlVales := [(8, (1, 24))] }
  eng := { serving.eng with faultHold := true } }
theorem met_FaultStatesClear : (passing.site tile).marks.find? (fun m => decide (m.p = 3)) = some { p := 3, time := 0x3C000000 } ∧
    64 * 2 ^ 20 ≤ (passing.time - 0x3C000000).toNat ∧ (passing.site kvCore).fstate = 2 ∧ 1000 ≤ (passing.site kvCore).cleanTicks.toNat ∧
    (passing.flt.tlVales.get (0, 0) 8).1 ≠ 0 ∧ passing.lastMismatch 8 + 1000 ≤ passing.tick ∧ passing.eng.faultHold = true ∧
    passing.flt.exchanging = [] ∧ passing.flt.tlHoldUntil ≤ passing.tick ∧ passing.flt.move = none ∧ passing.flt.respares = [] := by
  decide +kernel

/-- R303: a second mismatch of the same lane and run leaves the mark as it is; one of another run is permanent. An arithmetic fault
counts no residue mismatch (R296). -/
theorem test_mark_run : let s1 := (serving.markFault tile 3 1 0).markFault tile 3 1 0
    let s2 := (s1.updSite tile (fun r => { r with runNow := 1 })).markFault tile 3 3 0
    s1.flt.classified = [] ∧ s1.flt.mismatches = 2 ∧ (s1.site tile).marks.length = 1 ∧ s2.flt.classified = [(tile, 3, 3)] ∧
    s2.flt.mismatches = 2 := by decide +kernel

theorem met_SCRUB_VISIT : isSite tile = true ∧ serving.powered tile = true ∧ ((1 : W64) = 1 ∨ (1 : W64) = 2 ∨ (1 : W64) = 2) ∧
    ¬((1 : W64) = 1 ∧ (1 : W64) = 2) ∧ (1 : W64) ≠ 2 ∧ (2 : W64) ≠ 3 ∧ (1 : W64) ≠ 3 := by decide
/-- A precision tile: a self-test that fails, and one that passes. -/
def badTest : SelfTestResult := { voteOk := true, sramOk := false, sweepOk := true }
/-- The one that passes. -/
def goodTest : SelfTestResult := { voteOk := true, sramOk := true, sweepOk := true }
theorem met_TILE_SELF_TEST : serving.selfTestable precision = true ∧ serving.selfTestOk precision badTest = false ∧
    serving.selfTestOk precision goodTest = true ∧ serving.selfTestable tile = true ∧ serving.selfTestOk tile badTest = false := by
  decide +kernel

/-- The generation's one array, on the tile; its copy in DRAM checked. -/
def arrayOf (crc : W32) : GenArray := { site := tile, logical := 2, entry := 0, crc := crc, golden := 0x240000000 }
/-- The CRC of its image. -/
def imageCrc : W32 := crc32c (serving.rdBytes 0x240000000 imageBytes)
/-- A refresh session of the tile's array 2 into its spare. -/
def programming (crc : W32) : State := { serving with
  wgt := { serving.wgt with
    genA := { serving.wgt.genA with arrays := [arrayOf crc] }
    sessions := [sessionOf tile 16 (.refresh 2) (arrayOf crc)] } }
/-- Array 2 due for refresh. -/
def due (crc : W32) : State := { programming crc with
  arrs := [(arrKey tile 2, { due := true })]
  wgt := { (programming crc).wgt with sessions := [] } }
/-- The next map of the tile valid, as a step opens; the same in a fault hold. -/
def switching : State := { atStart with
  sites := [(tile, { nextValid := true, next := { phys := (List.range 16).set 2 16, spare := 2 } })] }
/-- The fault hold. -/
def switchingHeld : State := { switching with eng := { up.eng with faultHold := true } }
theorem met_PROGRAM_SESSION_DONE : (programming imageCrc).wgt.sessions.find? (fun x => decide (x.site = tile ∧ x.p = 16) && !x.suspended) =
    some (sessionOf tile 16 (.refresh 2) (arrayOf imageCrc)) := rfl
theorem due_next : (due imageCrc).nextRefresh = some (tile, 2) := by decide +kernel
theorem met_REFRESH_START : (due imageCrc).nextRefresh = some (tile, 2) ∧
    ((due imageCrc).site tile).amap.phys.findIdx? (fun q => decide (q = 2)) = some 2 ∧
    (due imageCrc).goldenOf tile 2 = some (arrayOf imageCrc) ∧ (due imageCrc).goldenOk (arrayOf imageCrc) = true :=
  ⟨due_next, rfl, rfl, beq_self_eq_true _⟩
theorem met_MAP_SWITCH : switching.opening = true ∧ (switching.site tile).nextValid = true ∧ (switching.site kvCore).nextValid = false ∧
    switchingHeld.held = true ∧ switchingHeld.eng.faultHold = true ∧ switchingHeld.flt.exchanging = [] ∧ switchingHeld.flt.move = none ∧
    serving.held = false ∧ serving.opening = false := by decide +kernel

/-- Held, with the tile and the KV core dead; site (33, 15) of vale 8's last row is a RESERVE tile. -/
def dead : State := { up with sites := [(tile, { fstate := 3 }), (kvCore, { fstate := 3 })] }
/-- The RESERVE tile. -/
def spareTile : Nat := siteAt 33 31
/-- Another KV core. -/
def otherCore : Nat := siteAt 33 17
/-- FLT_REMAP of one site to another. -/
def remap (k n : Nat) : CmdBlock := cmd 0 0x38 [BitVec.ofNat 8 (siteX k), BitVec.ofNat 8 (siteY k), BitVec.ofNat 8 (siteX n), BitVec.ofNat 8 (siteY n)]
theorem met_FLT_REMAP : dead.held = true ∧ dead.faultBusy = false ∧ dead.accepts ⟨0x38, false, [0, 1]⟩ false false (remap tile spareTile) ∧
    siteArg (remap tile spareTile) 0 = some tile ∧ siteArg (remap tile spareTile) 2 = some spareTile ∧
    (dead.deadSite tile || dead.wornSite tile) = true ∧ dead.replaces tile spareTile = true ∧
    valeBit dead.pwr.dark (siteVale spareTile) = false ∧ dead.gensAt tile = [] := by decide +kernel
theorem met_FLT_REMAP_core : dead.accepts ⟨0x38, false, [0, 1]⟩ false false (remap kvCore otherCore) ∧
    siteArg (remap kvCore otherCore) 0 = some kvCore ∧ siteArg (remap kvCore otherCore) 2 = some otherCore ∧
    dead.deadSite kvCore = true ∧ dead.replaces kvCore otherCore = true ∧ dead.gensAt kvCore = [] := by decide +kernel
/-- FLT_MAPOUT of a site. -/
def mapout (k : Nat) : CmdBlock := cmd 1 0x39 [BitVec.ofNat 8 (siteX k), BitVec.ofNat 8 (siteY k)]
theorem met_FLT_MAPOUT : dead.accepts ⟨0x39, false, [0, 1]⟩ false false (mapout tile) ∧ siteArg (mapout tile) 0 = some tile ∧
    dead.deadSite tile = true ∧ dead.gensAt tile = [] ∧ siteArg (mapout spareTile) 0 = some spareTile ∧ dead.siteCode spareTile = 1 := by
  decide +kernel

/-! ## Requests, actions and sequences -/

/-- A request record of a kind. -/
def request (kind : Byte) (h : BitVec 32) : Request := {
  kind := kind, cls := 2, handle := h, requestId := 0xAB, count := 16, limit := 1000, promptAddr := 0x020000050000, temperature := 0x3F800000
  topP := 0x3F800000, repPenalty := 0x3F800000, adapter := 0xFFFF }
/-- The tenant's requests pending, at ring positions 0, 1, …. -/
def asking (s : State) (l : List Request) : State :=
  s.updRings 1 (fun q => { q with reqs := l.zipIdx.map (fun e => { pos := BitVec.ofNat 32 e.2, req := e.1, pending := true }) })
/-- An action of the tenant on position 0 of its ring. -/
def action (h : BitVec 32) : ActionEntry := { partition := 1, ringPos := 0, handle := h }
/-- A handle with tag 1. -/
def handle (i : Nat) : BitVec 32 := mkHandle 1 i

theorem met_actions_without_request : atStart.pendingReq (action 0).partition (action 0).ringPos = none ∧ atStart.opening = true ∧
    serving.opening = false := by decide

/-- Entry 3 a prefix of one page; entry 0 free. -/
def admitting (att : Bool) : State :=
  asking { atStart with
    seqs := [(3, { tag := 1, state := 7, partition := 1, isPrefix := true, handleHeld := true, length := 16, layout := 1, frames := [(0, 5)] })]
    frames := [(5, { life := 1, kind := true, owner := 3, partition := 1, gen := 1, contract := 3, refs := 1, layout := 0, fmt := 9 })] }
    [{ request 1 0 with flags := if att then 4 else 0, pfx := handle 3 }]
theorem met_ADMIT : ((admitting false).pendingReq 1 0).isSome = true ∧ ((admitting false).cfg 1).hasEntry (handleIdx (handle 0)) = true ∧
    (admitting false).canTake (handle 0) = true ∧
    (((admitting false).pendingReq 1 0).map (fun r => (((admitting false).consume 1 0).reclaim 0).admitCore 1 r 0 1 none |>.2)) =
      some (.done 0x01) ∧
    (admitting false).opening = true := by decide +kernel
theorem met_ATTACH : (admitting true).prefixNamed 1 (handle 3) = some 3 ∧
    (((admitting true).pendingReq 1 0).map (fun r => (((admitting true).consume 1 0).reclaim 0).admitCore 1 r 0 1 (some 3) |>.2)) =
      some (.done 0x01) ∧
    (admitting true).opening = true := by decide +kernel
/-- The same with no generation live: the request waits. -/
def noLive : State := { admitting false with wgt := { serving.wgt with ptrValid := false } }
theorem met_ADMIT_queued :
    ((noLive.pendingReq 1 0).map (fun r => ((noLive.consume 1 0).reclaim 0).admitCore 1 r 0 1 none |>.2)) = some .queue ∧
    (noLive.queueOf 1).length < (noLive.cfg 1).queueLimit ∧
    noLive.opening = true := by decide +kernel

/-- A sequence of the tenant in a state, with one frame. -/
def active (st : BitVec 4) (r : Request) : State :=
  asking { atStart with
    seqs := [(0, {
      tag := 1, state := st, partition := 1, gen := 1, contract := 3, length := 16, layout := 1, frames := [(0, 5)], req := request 1 (handle 0) })]
    frames := [(5, { life := 1, partition := 1, gen := 1, contract := 3, refs := 1, fmt := 9 })] } [r]
/-- The record that is pending there. -/
def pend (r : Request) : PendReq := { pos := 0, req := r, pending := true }
theorem met_CANCEL : (active 2 (request 2 (handle 0))).actsOn (action (handle 0)) 0x02 (pend (request 2 (handle 0))) 0 ∧
    (active 6 (request 2 (handle 0))).actsOn (action (handle 0)) 0x02 (pend (request 2 (handle 0))) 0 ∧
    (active 2 (request 2 (handle 0))).opening = true := by decide +kernel
/-- PARK with no time-to-live of its own, and with the least. -/
def parkReq (ttl : Nat) : Request := { request 3 (handle 0) with limit := ttl }
theorem met_PARK : (active 2 (parkReq 0)).actsOn (action (handle 0)) 0x03 (pend (parkReq 0)) 0 ∧
    (active 2 (parkReq 811)).actsOn (action (handle 0)) 0x03 (pend (parkReq 811)) 0 ∧
    (active 2 (parkReq 0)).parkTier ((active 2 (parkReq 0)).seq 0) ((parkReq 0).flags.getLsbD 0) 0 = some 1 ∧
    (active 2 (parkReq 0)).opening = true := by decide +kernel
theorem met_RESUME : (active 3 (request 4 (handle 0))).actsOn (action (handle 0)) 0x04 (pend (request 4 (handle 0))) 0 ∧
    (active 3 (request 4 (handle 0))).opening = true := by decide +kernel
/-- SET_MASK on and off. -/
def maskReq (on : Bool) : Request := { request 5 (handle 0) with flags := if on then 2 else 0, maskAddr := 0x020000060000 }
theorem met_SET_MASK : (active 5 (maskReq false)).actsOn (action (handle 0)) 0x05 (pend (maskReq false)) 0 ∧
    (active 1 (maskReq true)).actsOn (action (handle 0)) 0x05 (pend (maskReq true)) 0 ∧
    (maskReq true).flags.getLsbD 1 = true ∧ (maskReq false).flags.getLsbD 1 = false ∧
    (active 1 (maskReq true)).inReach 1 (maskReq true).maskAddr (maskBytes ((active 1 (maskReq true)).vocabOf 1)) = true ∧
    (active 5 (maskReq false)).opening = true := by decide +kernel
theorem met_PUBLISH : (active 2 (request 6 (handle 0))).pendingReq 1 0 = some (pend (request 6 (handle 0))) ∧
    (active 2 (request 6 (handle 0))).names (handle 0) = some 0 ∧ ((active 2 (request 6 (handle 0))).cfg 1).hasEntry 15 = true ∧
    ((active 2 (request 6 (handle 0))).seq 0).layout = 1 ∧ (active 2 (request 6 (handle 0))).resharding 0 = false ∧
    ((active 2 (request 6 (handle 0))).seq 0).pfxOf = none ∧ 16 ≤ ((active 2 (request 6 (handle 0))).seq 0).length ∧
    (active 2 (request 6 (handle 0))).canTake (handle 15) = true ∧ handleIdx (handle 15) ≠ 0 ∧
    (active 2 (request 6 (handle 0))).opening = true := by decide +kernel
/-- A prefix whose handle is held. -/
def published : State := { active 7 (request 7 (handle 0)) with
  seqs := [(0, { tag := 1, state := 7, partition := 1, isPrefix := true, handleHeld := true, length := 16, layout := 1, frames := [(0, 5)] })] }
theorem met_RELEASE : published.actsOn (action (handle 0)) 0x07 (pend (request 7 (handle 0))) 0 ∧ (published.seq 0).handleHeld = true ∧
    published.opening = true := by
  decide +kernel
/-- A sequence in the sweep layout. -/
def sweeping : State := { atStart with
  seqs := [(0, { tag := 1, state := 2, partition := 1, gen := 1, contract := 3, length := 16, layout := 2, sweep := [(0, 0, 0)], req := request 1 (handle 0) })]
  sweeps := [(0, { life := 1, partition := 1, kind := true })] }
theorem met_RESHARD : sweeping.names (handle 0) = some 0 ∧ (sweeping.cfg 1).hasEntry 0 = true ∧ (sweeping.seq 0).layout = 2 ∧
    (sweeping.seq 0).req.count ≤ (sweeping.seq 0).length ∧ sweeping.resharding 0 = false ∧
    (sweeping.allocFrames 0 (sortBy id ((sweeping.seq 0).sweep.map (·.1)).eraseDups)).isSome = true ∧
    sweeping.opening = true := by decide +kernel
/-- A sequence at its deadline; one parked at the end of its time-to-live. -/
def late : State := { atStart with
  time := 0x10000000
  seqs := [(0, { tag := 1, state := 1, partition := 1, req := { request 1 (handle 0) with deadline := 0x10000000 } }),
    (1, { tag := 1, state := 4, partition := 1, parkTick := 100, ttl := 156, tier := 1 })] }
theorem met_DEADLINES : (late.seq 0).req.deadline ≠ 0 ∧ (late.seq 0).req.deadline ≤ late.time ∧ ({ late with time := 0 } : State).time < (late.seq 0).req.deadline ∧
    (late.seq 1).state = 4 ∧ (late.seq 1).parkTick + (late.seq 1).ttl ≤ late.tick ∧ ({ late with time := 0 } : State).tick < (late.seq 1).parkTick + (late.seq 1).ttl ∧
    late.opening = true ∧ serving.opening = false := by
  decide +kernel

/-! ## The host interface -/

/-- A command message of WGT_QUERY-like shape: type 1, a known code, an aligned block address. -/
def word : W64 := BitVec.ofNat 64 (1 * 2 ^ 60 + 0x24 * 2 ^ 52 + 3 * 2 ^ 48 + 0x1000)
/-- Virtual functions enabled; a word waiting on channel 2; a message to read on channel 21. -/
def mail : State := { up with
  hif := { up.hif with vfEnable := true, descEntries := 4, descHead := 0xFFFFFFFF, descTail := 0xFFFFFFFF }
  chans := [(3, { inFull := true }), (21, { outFull := true, outWord := 7 })] }
theorem met_Mailbox : 21 < 22 ∧ mail.vfOpen (3 - 2) = true ∧ (mail.chan 21).inFull = false ∧ mail.wordReason 21 word = none ∧
    (mail.chan 3).inFull = true ∧ (mail.chan 21).queue = [] ∧ (mail.chan 0).inFull = false ∧ mail.wordReason 0 word = none := by decide +kernel

/-- The same with the engine running. -/
def ringing : State := { mail with eng := { mail.eng with state := 2 } }
theorem met_Doorbells : ringing.blockOpen = true ∧ ((3 : W32) - ringing.hif.descHead).toNat ≤ ringing.hif.descEntries.toNat ∧
    ((3 : W32) - ringing.hif.descTail).toNat ≤ ringing.hif.descEntries.toNat ∧ ringing.held = false ∧
    ¬(((4 : W32) - ringing.hif.descHead).toNat ≤ ringing.hif.descEntries.toNat) ∧ ringing.ownerOpen 1 = true ∧ ringing.ownerOpen 31 = true ∧
    (ringing.part 1).rings.outHostErr = false ∧ (ringing.part 1).rings.spill = [] := by decide +kernel
/-- Output disabled by an error. -/
def errored : State := { ringing with parts := [(1, { cfg := some tenant, rings := { outHostErr := true, spill := [[1]] } })] }
theorem met_OUT_HEAD_error : errored.ownerOpen 1 = true ∧ (errored.part 1).rings.outHostErr = true := by decide +kernel

/-- A weight region that is not populated; a plan that is illegal. -/
def badRegion : State := { up with lock := { up.lock with wBase := 767, wSize := 2 } }
/-- The plan. -/
def badPlan : State := { up with lock := { up.lock with plan := 0xFFFFFFFF } }
theorem met_Commits : up.blockOpen = true ∧ (up.lock.wSize = 0 ∨ up.okDram up.wRange.1 up.wRange.2 = true) ∧ badRegion.lock.wSize ≠ 0 ∧
    badRegion.okDram badRegion.wRange.1 badRegion.wRange.2 = false ∧ State.reset.vareaOk = true ∧ up.lock.cFabric = false ∧
    topoLegal up.lock.topo = true ∧ planLegal up.lock.plan up.lock.topo = true ∧ badPlan.lock.cFabric = false ∧
    planLegal badPlan.lock.plan badPlan.lock.topo = false := by decide +kernel

/-- Request rings of the tenant and the operator with one record each, the notice ring open; `kind` of the tenant's record. -/
def fetching (kind : Byte) : State := { serving with
  hif := { serving.hif with notEnable := true, notBase := 0x80000 }
  host := [(0x10000, kind)]
  parts := [(1, { cfg := some tenant, rings := { rqEnable := true, rqBase := 0x10000, rqTail := 1 } }), (31, { cfg := some operator })] }
/-- A fetched request whose prompt is being copied; a batch that was written. -/
def copying : State := { serving with
  hif := { serving.hif with notEnable := true }
  parts := [(1, { cfg := some tenant, rings := {
    reqs := [{ pos := 4, prompt := some (0x30000000, 8), req := { request 1 0 with count := 2 } }], lastBatch := [1, 2], outTail := 2 } })] }
theorem met_Requests : (fetching 2).noticeRoom = true ∧ (fetching 2).nextAuthor = some 1 ∧ ((fetching 2).headRequest 1).kind ≠ 1 ∧
    (fetching 1).nextAuthor = some 1 ∧
    (copying.part 1).rings.reqs.find? (fun r => !r.pending) =
      some { pos := 4, prompt := some (0x30000000, 8), req := { request 1 0 with count := 2 } } ∧
    (copying.part 1).rings.lastBatch ≠ [] := by decide +kernel

/-- HOST_COPY of 64 bytes from the host into the operator's request area. -/
def copyBlock : CmdBlock := cmd 0 0x40 (leBytes 8 0x020000000000 ++ leBytes 8 0x50000000 ++ leBytes 8 64)
/-- Copies in progress, one from the host and one to it. -/
def inFlight : State := { up with
  lock := { up.lock with cGlobal := true }
  hif := { up.hif with copies := [
    { channel := 0, cseq := 3, src := 0x020000000040, dst := 0x240000000, len := 64 },
    { channel := 1, cseq := 4, src := 0x240000000, dst := 0x020000000080, len := 64 }] } }
/-- PEER_LOST of device 9, in whose group the device is. -/
def peerBlock : CmdBlock := cmd 0 0x48 [9, 0]
/-- The group. -/
def grouped : State := { up with fab := { up.fab with member := true, aligned := true, peers := [9] } }
theorem met_Copies : inFlight.accepts ⟨0x40, false, [0, 1] ++ vfChans⟩ false false copyBlock ∧ copyBlock.channel < 2 ∧ copyBlock.par 16 8 = 64 ∧
    inHost (copyBlock.par 0 8) (copyBlock.par 16 8) = true ∧ inFlight.inDramReach 31 (copyBlock.par 8 8) (copyBlock.par 16 8) = true ∧
    (inFlight.hif.copies.find? (fun k => decide (k.channel = 0 ∧ k.cseq = 3))).map (·.src) = some 0x020000000040 ∧
    (inFlight.hif.copies.find? (fun k => decide (k.channel = 1 ∧ k.cseq = 4))).map (·.src) = some 0x240000000 ∧
    grouped.accepts ⟨0x48, false, [0, 20]⟩ false false peerBlock ∧ peerBlock.par 0 2 ≤ 1023 ∧ peerBlock.par 0 2 ≠ grouped.device := by
  decide +kernel

/-! ## Weights and generations -/

/-- The bytes of one BF16 element, 1.0. -/
def chunkBytes : List Byte := [0x80, 0x3F]
/-- A manifest entry of a DRAM chunk of every rank (Table 4.4). -/
def manifestBytes (kind : Byte) (chunk : List Byte) : List Byte :=
  [kind, 9, 0xFF, 0xFF, 0, 0, 1, 0] ++ List.replicate 16 0 ++ leBytes 8 chunk.length ++ List.replicate 32 0 ++ sha512 chunk
/-- The key the publisher signs with. -/
def publisher : List Byte := [4, 5]
/-- An image of that one chunk, below its chunk area (Tables 4.2 and 4.3). -/
def imageBytesOf (flags : Byte) (entry : List Byte) : List Byte :=
  leBytes 4 0x49475749 ++ [1, 0, 3, 0] ++ leBytes 8 0x22 ++ leBytes 4 1 ++ leBytes 4 3 ++ leBytes 4 1 ++ [1, 0, 1, 0] ++ leBytes 8 0x1000 ++
  leBytes 8 0x1000 ++ [flags, 0, 0, 0] ++ List.replicate 12 0 ++ sha512 publisher ++ List.replicate 128 0 ++ entry ++
  [1, 0] ++ List.replicate 142 0
/-- The chain of its signature, which ends at the root [1]. -/
def signature : ImageSig := { chainOk := true, root := [1], leaf := publisher, signatureOk := true }
/-- The image's bytes. -/
def weightBytes : List Byte := imageBytesOf 0 (manifestBytes 6 chunkBytes)
/-- The image. -/
def weights : WeightImage := parseImage weightBytes signature
/-- Its plan for slot A, in mode NEW or ROLL: the golden area, one entry placed in DRAM (Table 4.6). -/
def planBytes (mode : Byte) : List Byte :=
  leBytes 4 1 ++ [0, 0, 0, mode] ++ leBytes 8 0x250000000 ++ leBytes 8 0x100000 ++ List.replicate 8 0 ++
  leBytes 4 0 ++ [0xFF, 0xFF, 0xFF, 0] ++ leBytes 8 0x250000000
/-- The plan. -/
def plan (mode : Byte) : InstallPlan := parsePlan (planBytes mode)
/-- A device with a trusted root and an empty slot A; in slot B a generation where the mode is ROLL. -/
def installing (roll : Bool) : State := { up with
  nv := { up.nv with roots := [[1]], largestGen := 1 }
  wgt := { up.wgt with genB := if roll then { state := 4, number := 1 } else {} } }
/-- WGT_INSTALL into slot A of an image and a plan in host memory. -/
def installBlock (mode : Byte) : CmdBlock :=
  signed (cmd 0 0x20 ([0, mode, 0, 0, 0, 0, 0, 0] ++ leBytes 8 0x020000000000 ++ leBytes 8 0x2000 ++ leBytes 8 0x020000010000 ++ leBytes 8 48))

theorem met_WGT_INSTALL_NEW : (installing false).accepts ⟨0x20, true, [0, 18]⟩ false false (installBlock 0) ∧
    installParams (installBlock 0) 0 = true ∧ (installBlock 0).par 3 1 = 0 ∧ (installing false).wgt.install = none ∧
    (installing false).installSource (installBlock 0) = true ∧ (installing false).lock.wSize ≠ 0 ∧
    ((installing false).projected.gen false).state = 0 ∧ ((installing false).projected.gen false).fixed = false :=
  ⟨accepts_signed _ _ _ rfl rfl rfl (by decide +kernel), rfl, rfl, rfl, by decide +kernel, by decide, by decide +kernel, by decide +kernel⟩
theorem met_WGT_INSTALL_ROLL : (installing true).accepts ⟨0x20, true, [0, 18]⟩ false false (installBlock 1) ∧
    installParams (installBlock 1) 1 = true ∧ (installing true).installSource (installBlock 1) = true ∧
    ((installing true).projected.gen false).state = 0 ∧ ((installing true).projected.gen true).fixed = false ∧
    ((installing true).projected.gen true).state = 4 ∧ ((installing true).gen true).state ≠ 7 :=
  ⟨accepts_signed _ _ _ rfl rfl rfl (by decide +kernel), rfl, by decide +kernel, by decide +kernel, by decide +kernel, by decide +kernel,
   by decide +kernel⟩
theorem met_WGT_INSTALL_image : (installing false).imageStatus 0 false 0x2000 weights (plan 0) = 0 ∧
    (installing true).imageStatus 0 true 0x2000 weights (plan 1) = 0 ∧
    (installing false).imageStatus 0 false 0x2000 (parseImage [] signature) (plan 0) = 1 ∧
    (installing true).imageStatus 0 true 0x2000 (parseImage weightBytes { signature with root := [2] }) (plan 1) = 3 := by decide +kernel

/-- The install under way. -/
def installed (roll : Bool) (received : List Nat) : Install := {
  img := weights, plan := plan (if roll then 1 else 0), roll := roll, received := received, golden := [0x250000000] }
/-- The device in a phase of it. -/
def phase (n : BitVec 4) (roll : Bool) (received : List Nat) : State :=
  { installing roll with
    time := 0x40000000
    wgt := { (installing roll).wgt with
      install := some (installed roll received), phase := n
      genA := { state := if n = 4 then 2 else 1, goldenBase := 0x250000000, goldenSize := 0x100000 } } }
/-- The chunk's manifest entry. -/
def chunkEntry : ManifestEntry := manifestEntry (manifestBytes 6 chunkBytes)
theorem met_INSTALL_CHUNK_RECEIVED : (phase 1 false []).wgt.phase = 1 ∧ (installed false []).loader = false ∧
    (installed false []).img.manifest[0]? = some chunkEntry ∧ ((installed false []).plan.entries.map (·.entry)) = [0] ∧
    chunkStatus weights.imageId chunkEntry chunkBytes = 0 ∧ chunkStatus weights.imageId chunkEntry [0x80, 0x40] = 4 := by decide +kernel
/-- A rolling rewrite that waits to program, while a step runs and as the next one opens. -/
def rolling (fresh : Bool) : State := { phase 2 true [0] with
  banks := [(0, { state := 3 })]
  eng := { up.eng with state := 2, hold := false, running := true, fresh := fresh } }
theorem met_ChunksStage : (phase 1 false []).wgt.install = some (installed false []) ∧
    (installed false []).lastTick + 1024 ≤ (phase 1 false []).tick ∧
    ((installed false [0]).plan.entries.all (fun e => (installed false [0]).received.contains e.entry)) = true ∧
    (installed false [0]).arrays.all (fun x => ((phase 1 false [0]).site (siteAt x.2.1.x x.2.1.y)).fstate != 3) = true ∧
    (installed true [0]).arrays.all (fun x => ((rolling true).site (siteAt x.2.1.x x.2.1.y)).fstate != 3) = true ∧
    (rolling true).wgt.phase = 2 ∧ (rolling true).activePinned ((rolling true).gen true).number = 0 ∧ (rolling true).settled = true ∧
    (rolling true).wgt.retireDue = [] ∧ (rolling true).wgt.dueA = none ∧ (rolling true).wgt.dueB = none ∧
    ({ rolling false with wgt := { (rolling false).wgt with phase := 1 } } : State).held = false ∧ ((rolling false).gen true).state ≠ 7 ∧
    (rolling false).settled = false := by
  refine ⟨rfl, ?_⟩; decide +kernel
theorem met_GENERATION_COMMIT : (phase 4 false [0]).wgt.phase = 4 ∧ ((phase 4 false [0]).pgen false).number = 0 ∧
    (phase 4 false [0]).nv.largestGen.toNat + 1 < 2 ^ 32 ∧ ((phase 4 false [0]).pgen false).state = 2 ∧
    (phase 4 false [0]).retiring false = false ∧ (phase 4 true [0]).wgt.phase = 4 ∧ ((phase 4 true [0]).pgen false).number = 0 := by
  decide +kernel

/-- Slot A READY, slot B LIVE with a sequence pinned, as a step opens. -/
def twoGens : State := { up with
  banks := [(0, { state := 3 })]
  eng := { up.eng with state := 2, hold := false, running := true, fresh := true }
  wgt := { up.wgt with genA := { state := 3, number := 2 }, genB := { state := 4, number := 1 }, ptrValid := true, liveSlot := true
                       switchPending := [(0, 0, 3)] }
  seqs := [(0, { tag := 1, state := 2, partition := 1, gen := 1 })] }
/-- The same with nothing pending. -/
def quiet : State := { twoGens with wgt := { twoGens.wgt with switchPending := [] } }
/-- A command on a slot. -/
def slotBlock (code : Byte) (slot : Byte) : CmdBlock := signed (cmd 18 code [slot])
theorem accepts_slot (s : State) (code slot : Byte) (hk : ((s.takeIn 18).cmdKey 18) = (some [1, 2, 3], 0))
    (h : s.accepts ⟨code, false, [0, 18]⟩ false false (cmd 18 code [slot])) :
    s.accepts ⟨code, true, [0, 18]⟩ false false (slotBlock code slot) := accepts_signed _ _ _ rfl hk rfl h
theorem met_GenerationCommands : quiet.accepts ⟨0x21, true, [0, 18]⟩ false false (slotBlock 0x21 0) ∧
    quiet.accepts ⟨0x22, true, [0, 18]⟩ false false (slotBlock 0x22 0) ∧ quiet.accepts ⟨0x24, true, [0, 18]⟩ false false (slotBlock 0x24 1) ∧
    (phase 1 false []).accepts ⟨0x23, true, [0, 18]⟩ false false (slotBlock 0x23 0) ∧
    (phase 2 true []).accepts ⟨0x23, true, [0, 18]⟩ false false (slotBlock 0x23 0) :=
  ⟨accepts_slot _ _ _ rfl (by decide +kernel), accepts_slot _ _ _ rfl (by decide +kernel), accepts_slot _ _ _ rfl (by decide +kernel),
   accepts_slot _ _ _ rfl (by decide +kernel), accepts_slot _ _ _ rfl (by decide +kernel)⟩
theorem met_GenerationCommands_states : (slotBlock 0x21 0).par 0 1 = 0 ∧ (slotBlock 0x24 1).par 0 1 = 1 ∧ quiet.rollHolds = false ∧
    quiet.wgt.install = none ∧ (quiet.projected.gen false).state = 3 ∧ twoGens.wgt.switchPending = [(0, 0, 3)] ∧ twoGens.opening = true ∧
    serving.opening = false ∧ (twoGens.settleDues.settleCommits.gen false).state = 3 ∧ twoGens.wgt.ptrValid = true ∧
    twoGens.wgt.liveSlot = !false ∧ quiet.projected.pinned (quiet.projected.gen false).number = 0 ∧
    (quiet.projected.gen false).fixed = false ∧ (quiet.projected.gen true).state = 4 := by decide +kernel

/-! ## Adapters and variants -/

/-- A pair of rank 1 in BF16 for matrix 1: a 16-byte header and two elements. -/
def pairBytes : List Byte := [1, 0, 1, 0, 9] ++ List.replicate 11 0 ++ [0x80, 0x3F, 0x80, 0x3F]
/-- The bytes of an adapter image of that pair. -/
def adapterBytes : List Byte := imageBytesOf 1 (manifestBytes 7 pairBytes)
/-- Slots 0 LOADING, 1 LOADING with the image checked, 2 READY; the same as a step opens. -/
def adapting : State := { up with
  adps := [(0, { state := 1, cseq := 2, limit := 0x2000 }), (1, { state := 1, readyDue := true }), (2, { state := 2 })] }
/-- The opening. -/
def adaptingOpen : State := { atStart with adps := adapting.adps }
/-- ADP_LOAD of slot 3 from the host; ADP_RETIRE of slot 2. -/
def adpLoadBlock : CmdBlock := cmd 0 0x28 ([3, 0, 0, 0, 0, 0, 0, 0] ++ leBytes 8 0x020000000000 ++ leBytes 8 0x40000)
/-- ADP_RETIRE. -/
def adpRetireBlock : CmdBlock := cmd 1 0x29 [2, 0]
theorem met_ADP_LOAD : adapting.accepts ⟨0x28, false, [0, 1] ++ vfChans⟩ false false adpLoadBlock ∧
    (adapting.cfg 31).ownsSlot (adpLoadBlock.par 0 2) = true ∧ adapting.inReach 31 (adpLoadBlock.par 8 8) (adpLoadBlock.par 16 8) = true ∧
    adapting.lock.wSize ≠ 0 ∧ adpLoadBlock.par 16 8 ≤ ((adapting.cfg 31).adpPlace (adpLoadBlock.par 0 2)).2 ∧
    (adapting.adp (adpLoadBlock.par 0 2)).state = 0 := by decide +kernel
theorem met_ADP_LOAD_DONE : (adapting.adpCfg 0) = some operator ∧ (adapting.adp 0).state = 1 ∧ (adapting.adp 0).readyDue = false ∧
    adapting.adapterStatus operator (adapting.adp 0).limit (parseImage adapterBytes signature) [pairBytes] = 0 ∧
    (parseImage adapterBytes signature).chunkAreaSize ≤ (operator.adpPlace 0).2 ∧
    adapting.adapterStatus operator (adapting.adp 0).limit (parseImage adapterBytes signature) [] = 1 ∧ adaptingOpen.opening = true ∧
    (adaptingOpen.adp 1).state = 1 ∧ (adaptingOpen.adp 1).readyDue = true ∧ adapting.opening = false := by decide +kernel
theorem met_ADP_RETIRE : adapting.accepts ⟨0x29, false, [0, 1] ++ vfChans⟩ false false adpRetireBlock ∧
    (adapting.cfg 31).ownsSlot (adpRetireBlock.par 0 2) = true ∧ (adapting.adp (adpRetireBlock.par 0 2)).state = 2 := by decide +kernel

/-- A transfer variant for slot 1: one bundle that issues for all 64 beats of the slot, two port sites whose crossbars pass the
management window. -/
def transferBundle : BitVec 1024 := encodeBundle (BitVec.ofNat 1024 ((63 * 2 ^ 46 + 1 * 2 ^ 40) * 2 ^ 960 + 2 ^ 23 * 2 ^ 480))
/-- Its score of a port site: sixteen marked entries from the express port to the site. -/
def portScore (x : Nat) : ScoreRec := { score (siteAt x 6) 0 0 [] 0 [] with
  tafmt := 0, xst := (List.range 16).map (fun i => (i, BitVec.ofNat 32 (2 ^ 18 + 6 * 2 ^ 12))) }
/-- The image. -/
def transferImage : VariantImage := { image with
  magic := 0x52565749, member := 3, imageId := 0, manifestDigest := 0, depth := 1, kOutlier := 8, notchWidth := 1, mgmtBw := 64
  sections := [(512, 128), (640, 128), (0, 0), (768, 16)] ++ List.replicate 12 (0, 0), size := 1024, lanePlan := List.replicate 8 0xF800
  portPlan := 0x03333000, west := [transferBundle]
  east := [transferBundle], scores := [portScore 1, portScore 9], defectDigest := up.defectDigest }
/-- Slot 1 LOADING; slot 2 resident; bank 1 being armed with slot 2, bank 2 armed with slot 0. -/
def loading : State := { up with
  nv := { up.nv with profileShared := true }
  time := 0x40000000
  vars := [(1, { state := 1, limit := 0x10000 }), (2, { state := 2, img := some image })]
  banks := [(1, { state := 1, slot := 2 }), (2, { state := 2, slot := 0 })] }
/-- The same with the engine running. -/
def busyLoading : State := { loading with eng := { loading.eng with state := 2 } }
/-- The variant of the bank being armed gone STALE. -/
def staleArming : State := { loading with vars := [(2, { state := 3, img := some image })] }
/-- VAR_LOAD of slot 3, VAR_UNLOAD of slot 2 while it is not armed. -/
def varLoadBlock : CmdBlock := signed (cmd 0 0x30 ([3, 0, 0, 0, 0, 0, 0, 0] ++ leBytes 8 0x020000000000 ++ leBytes 8 0x10000))
/-- VAR_UNLOAD. -/
def varUnloadBlock : CmdBlock := signed (cmd 0 0x31 [2])
/-- Nothing armed. -/
def unarmed : State := { loading with banks := [] }
theorem met_VAR_LOAD : loading.accepts ⟨0x30, true, [0]⟩ false false varLoadBlock ∧ varLoadBlock.par 0 1 ≤ 63 ∧ varLoadBlock.par 1 1 ≤ 1 ∧
    loading.sourceOk varLoadBlock (varLoadBlock.par 1 1) (varLoadBlock.par 4 2) = true ∧ (loading.var (varLoadBlock.par 0 1)).state = 0 ∧
    loading.lock.vSize ≠ 0 ∧ 0x400000 + loading.storedBytes + varLoadBlock.par 16 8 ≤ loading.lock.vSize.toNat * 2 ^ 30 :=
  ⟨accepts_signed _ _ _ rfl rfl rfl (by decide +kernel), by decide, by decide, by decide +kernel, by decide +kernel, by decide, by decide +kernel⟩
theorem loadChecks_pass (s : State) (slot : Nat) (v : VariantImage) (hd : v.defectDigest = s.defectDigest)
    (h : (s.loadChecks slot v).all (fun e => e.1 == 0x03 || !e.2) = true) : s.loadReason slot v = 0 := by
  have hn : (s.loadChecks slot v).find? (·.2) = none := by
    refine List.find?_eq_none.2 (fun e he => ?_)
    rcases Bool.or_eq_true _ _ |>.mp (List.all_eq_true.1 h e he) with h3 | h2
    · unfold State.loadChecks at he
      simp only [List.mem_cons, List.not_mem_nil, or_false] at he
      rcases he with rfl | rfl | rfl | rfl | rfl | rfl | rfl | rfl | rfl | rfl | rfl | rfl | rfl | rfl | rfl | rfl | rfl | rfl | rfl <;>
        first
          | (simp at h3; done)
          | simp [hd]
    · simpa using h2
  unfold State.loadReason
  rw [hn]
  rfl
theorem met_VAR_LOAD_CHECKS_DONE : (loading.var 1).state = 1 ∧ badContainer transferImage (loading.var 1).limit = false ∧
    loading.loadReason 1 transferImage = 0 :=
  ⟨by decide, by decide +kernel, loadChecks_pass _ _ _ rfl (by decide +kernel)⟩
theorem met_VAR_LOAD_refused : loading.loadReason 1 { transferImage with depth := 0 } ≠ 0 ∧
    badContainer { transferImage with depth := 0 } (loading.var 1).limit = false ∧ (loading.var 1).startTick + 1024 ≤ loading.tick := by
  decide +kernel
theorem met_VAR_UNLOAD : unarmed.accepts ⟨0x31, true, [0]⟩ false false varUnloadBlock ∧ varUnloadBlock.par 0 1 ≤ 63 ∧
    (unarmed.var (varUnloadBlock.par 0 1)).state = 2 ∧ unarmed.slotArmed (varUnloadBlock.par 0 1) = false :=
  ⟨accepts_signed _ _ _ rfl rfl rfl (by decide +kernel), by decide, by decide +kernel, by decide +kernel⟩
/-- VAR_ARM of slot 2 into bank 3; VAR_DISARM of bank 2. -/
def varArmBlock : CmdBlock := cmd 1 0x32 [2, 3, 0]
/-- VAR_DISARM. -/
def varDisarmBlock : CmdBlock := cmd 1 0x33 [2]
theorem met_BANKS : loading.accepts ⟨0x32, false, [0, 1]⟩ false false varArmBlock ∧ varArmBlock.par 0 1 ≤ 63 ∧ varArmBlock.par 1 1 ≤ 3 ∧
    (loading.var (varArmBlock.par 0 1)).img = some image ∧ (loading.var (varArmBlock.par 0 1)).state = 2 ∧
    varArmBlock.par 2 1 ≤ image.gapSets ∧ loading.yielding image = false ∧ (loading.bank (varArmBlock.par 1 1)).state ≠ 1 ∧
    (loading.bank (varArmBlock.par 1 1)).state ≠ 3 ∧
    (loading.bank 1).state = 1 ∧ (loading.var (loading.bank 1).slot).img = some image ∧ (loading.var (loading.bank 1).slot).state = 2 ∧
    loading.held = true ∧ (∀ n < 4, (loading.bank n).state ≠ 3) ∧ busyLoading.held = false ∧
    (∃ n < 4, (serving.bank n).state = 3) ∧ (staleArming.bank 1).state = 1 ∧ (staleArming.var (staleArming.bank 1).slot).state ≠ 2 ∧
    loading.accepts ⟨0x33, false, [0, 1]⟩ false false varDisarmBlock ∧ varDisarmBlock.par 0 1 ≤ 3 ∧
    (loading.bank (varDisarmBlock.par 0 1)).state ≠ 1 ∧ (loading.bank (varDisarmBlock.par 0 1)).state ≠ 3 := by decide +kernel

/-! ## What waits for a boundary -/

/-- Two records of the tenant, a reset of partition 2, the zeroing of partition 3, a profile change and a key that wait. -/
def waitingChanges : State := { up with
  parts := [
    (1, { cfg := some tenant, cfgDue := [(tenant, 0, 3), ({ tenant with weight := 7 }, 1, 4)], egressDue := [[1], [2]] }),
    (2, { cfg := some { tenant with partition := 2, seqBase := 32 }, resetDue := some (true, 0, [(0, 5)]), cmdKey := some [1] }),
    (3, { zeroing := some (false, [(0, 6)]), zeroCfg := some { tenant with partition := 3 } }), (31, { cfg := some operator })]
  seqs := [(32, { tag := 1, state := 2, partition := 2 }), (33, { tag := 1, state := 7, partition := 2, isPrefix := true, handleHeld := true })]
  mem := [(0x30000000, 1), (0x50000000, 1)]
  sec := { up.sec with profilePending := [(true, 0, 7), (false, 0, 8)] } }
theorem met_PartitionChanges : (waitingChanges.part 1).cfgDue = [(tenant, 0, 3)] ++ [({ tenant with weight := 7 }, 1, 4)] ∧
    (waitingChanges.part 1).resetDue = none ∧ (waitingChanges.part 2).resetDue = some (true, 0, [(0, 5)]) ∧
    (waitingChanges.part 2).cfgDue = [] ∧ (waitingChanges.seq 33).partition = 2 ∧ (waitingChanges.part 3).zeroing = some (false, [(0, 6)]) ∧
    (waitingChanges.part 3).zeroCfg = some { tenant with partition := 3 } ∧
    waitingChanges.sec.profilePending = [(true, 0, 7)] ++ [(false, 0, 8)] ∧ waitingChanges.settled = true ∧ serving.settled = false ∧
    ({ atStart with parts := waitingChanges.parts } : State).opening = true ∧
    (({ atStart with parts := waitingChanges.parts } : State).part 1).egressDue = [[1]] ++ [[2]] ∧ serving.opening = false := by
  decide +kernel

/-! ## Weight tiles -/

/-- A lane that runs, of a kind. -/
def lane (kind : BitVec 3) : Lane := { handle := handle 0, kind := kind, ekind := 1, owner := 1, ran := true, outcome := 0 }
/-- Slot 4 of a step whose lanes are all of one kind; the tile's score as given. -/
def computing (kind : BitVec 3) (r : ScoreRec) : State := { serving with
  vars := [(0, { state := 2, img := some { image with scores := r :: image.scores.tail } })]
  cur := { step := 5, empty := false, lanes := List.replicate 8 (lane kind) }
  eng := { serving.eng with slot := 4 } }
/-- The tile in T2, or with stacks of two. -/
def tileScore (log : Nat) : ScoreRec := { score tile 0 0 [0x1000] 0 [] with tmode := BitVec.ofNat 64 log, tafmt := 0x12 }
/-- MAC of row group 0, quarter 0, plane 3, on logical array 0; a SWEEP of the same. -/
def arrayField (plane : BitVec 3) : ArrayField := {
  rg := 0, q := 0, plane := plane, accBank := 0, actBank := 0, actFmt := 5, sign := 0, aclk := 0, lmask := 1 }
/-- One cell of row 0 and its check column set, one activation of plane 3, in a beat that asks for an array operation (Table 5.6). -/
def multiplying (op : Nat) (plane : BitVec 3) : State := acting { computing 1 (tileScore 0) with
  cells := [(cellKey tile 0 0 0, 1), (cellKey tile 0 0 256, 1)], mem := [(siteBase tile, 0x08)] }
  (field 864 (op * 2 ^ 92 + plane.toNat * 2 ^ 59 + 5 * 2 ^ 50 + 2 ^ 28))

theorem count_le (s : State) (k p : Nat) (rows : List Nat) (c : Nat) : s.colCount k p rows c ≤ rows.length := List.countP_le_length
theorem rows_le (s : State) (k act m rg plane : Nat) : (s.activeRows k act m rg plane).length ≤ 64 := by
  refine le_trans (List.length_filter_le _ _) ?_
  simp
theorem gain_le (s : State) (k l : Nat) (f : ArrayField) (c : Nat) (cy : Nat × Nat × Nat) :
    -260000 ≤ s.cycleGain k l f c cy ∧ s.cycleGain k l f c cy ≤ 260000 := by
  unfold State.cycleGain
  simp only
  split
  · have hw : ∀ (i4 uns : Bool) (i : Nat), -128 ≤ (planeWeight i4 uns i).getD 0 ∧ (planeWeight i4 uns i).getD 0 ≤ 128 := by
      intro i4 uns i
      have e1 : ∀ n < 7, (0 : Int) ≤ ((2 ^ n : Nat) : Int) ∧ ((2 ^ n : Nat) : Int) ≤ 64 := by decide
      have e2 : ∀ n < 3, (0 : Int) ≤ ((2 ^ n : Nat) : Int) ∧ ((2 ^ n : Nat) : Int) ≤ 4 := by decide
      unfold planeWeight
      split
      · split
        · have h := e2 i (by assumption); simp only [Option.getD_some]; omega
        · split <;> simp
      · split
        · have h := e1 i (by assumption); simp only [Option.getD_some]; omega
        · split <;> simp
    have hp : ∀ (fmt : Nat) (S : Nat → Nat) (pop c : Nat), (∀ x, S x ≤ 64) → pop ≤ 64 →
        -2000 ≤ planePartial fmt S pop c ∧ planePartial fmt S pop c ≤ 2000 := by
      intro fmt S pop c hS hpop
      have h0 := hS c
      have h1 := hS (c + 1)
      have h2 := hS (c + 2)
      have h3 := hS (c + 3)
      unfold planePartial
      split <;> omega
    have a := hp (arrayFmt (s.scoreAt k).tafmt l) _ _ c
      (fun x => le_trans (count_le s k ((s.site k).physOf l) _ x) (rows_le s k (bankOf f.actBank (s.parity k)) (l % 2 ^ stackLog (s.scoreAt k).tmode) cy.1 cy.2.2))
      (rows_le s k (bankOf f.actBank (s.parity k)) (l % 2 ^ stackLog (s.scoreAt k).tmode) cy.1 cy.2.2)
    have b := hw (f.actFmt == 6) (decide (f.sign = 1) || (decide (f.sign = 2) && decide (s.kindAt k = 3))) cy.2.2
    constructor <;> nlinarith [a.1, a.2, b.1, b.2]
  · constructor <;> norm_num
theorem gains_le (s : State) (k l : Nat) (f : ArrayField) (c : Nat) : ∀ cs : List (Nat × Nat × Nat),
    -260000 * (cs.length : Int) ≤ (cs.map (s.cycleGain k l f c)).sum ∧ (cs.map (s.cycleGain k l f c)).sum ≤ 260000 * (cs.length : Int)
  | [] => by simp
  | cy :: cs => by
    have h := gains_le s k l f c cs
    have g := gain_le s k l f c cy
    simp only [List.map_cons, List.sum_cons, List.length_cons, Nat.cast_add, Nat.cast_one]
    constructor <;> linarith [h.1, h.2, g.1, g.2]
/-- On cleared registers no sum of at most eight cycles leaves 24 bits. -/
theorem fits_cleared (s : State) (k l b : Nat) (f : ArrayField) (c : Nat) (cs : List (Nat × Nat × Nat)) (h0 : s.acc24 = [])
    (hc : cs.length ≤ 8) (n : Nat) : fits 24 (s.a24 k l b c + ((cs.take n).map (s.cycleGain k l f c)).sum) := by
  have h := gains_le s k l f c (cs.take n)
  have e : ((cs.take n).length : Int) ≤ 8 := by
    have : (cs.take n).length ≤ cs.length := List.length_take_le' n cs
    omega
  have z : s.a24 k l b c = 0 := by unfold State.a24; rw [h0]; rfl
  rw [z]
  unfold fits
  constructor <;> simp only [zero_add] <;> linarith [h.1, h.2, show (2 : Int) ^ (24 - 1) = 8388608 from rfl]

theorem met_MAC : (multiplying 1 3).doesArray tile 1 (arrayField 3) = true ∧ arrayFieldOk 1 (arrayField 3) = true ∧
    (multiplying 1 3).poisoned (siteBase tile + 0x4000 * bankOf (arrayField 3).actBank ((multiplying 1 3).parity tile)) 0x4000 = false ∧
    (multiplying 1 3).cycleAgrees tile 0 (arrayField 3) (0, 0, 3) ∧ (multiplying 1 3).cycleGain tile 0 (arrayField 3) 0 (0, 0, 3) = 8 := by
  decide +kernel
theorem met_MAC_other_arrays : ∀ l < 16, (arrayField 3).lmask.getLsbD l = true → l = 0 := by decide
theorem met_MAC_fits (l j n b : Nat) : fits 24 ((multiplying 1 3).a24 tile l b j +
    (([(0, 0, 3)].take n).map ((multiplying 1 3).cycleGain tile l (arrayField 3) j)).sum) := fits_cleared _ _ _ _ _ _ _ rfl (by decide) n
theorem met_SWEEP : (multiplying 2 0).doesArray tile 2 (arrayField 0) = true ∧ arrayFieldOk 2 (arrayField 0) = true ∧
    (∀ cy ∈ sweepCycles (arrayField 0), (multiplying 2 0).cycleAgrees tile 0 (arrayField 0) cy) := by decide +kernel
theorem met_SWEEP_fits (l j n b : Nat) : fits 24 ((multiplying 2 0).a24 tile l b j +
    (((sweepCycles (arrayField 0)).take n).map ((multiplying 2 0).cycleGain tile l (arrayField 0) j)).sum) :=
  fits_cleared _ _ _ _ _ _ _ rfl (by decide) n

/-- ACC24 bank 0 of logical arrays 0 and 1, column 4, and their ACC48, in a lane of a kind, with stacks of two. -/
def summing (kind : BitVec 3) : State := { computing kind (tileScore 1) with
  acc24 := [(key24 tile 0 0 4, 10), (key24 tile 1 0 4, -3)], acc48 := [(key48 tile 0 4, 5), (key48 tile 1 4, 7)]
  shadow := [(2 * key48 tile 0 4 + 1, 5), (2 * key24 tile 0 0 4, 3), (2 * key24 tile 1 0 4, 4)] }
/-- PROMOTE with add. -/
def accField (mode : BitVec 2) (count : BitVec 15) (merge : Bool) : AccField := {
  bank := 0, mode := mode, shift8 := false, base := 2, count := count, mergeIn := merge, areg := 0, buf := 0 }
/-- A state in a beat that asks for an accumulator operation (Table 5.7). -/
def accBeat (s : State) (op : Nat) (f : AccField) : State := acting s (field 672 (op * 2 ^ 92 + f.bank.toNat * 2 ^ 66 +
  f.mode.toNat * 2 ^ 64 + f.shift8.toNat * 2 ^ 63 + f.base.toNat * 2 ^ 48 + f.count.toNat * 2 ^ 33 + f.mergeIn.toNat * 2 ^ 32 +
  f.areg.toNat * 2 ^ 26 + f.buf.toNat * 2 ^ 24))
theorem met_PROMOTE : (∀ op ∈ [1, 2, 3, 7], (accBeat (summing 1) op (accField 1 0 false)).doesAcc tile op (accField 1 0 false) = true) ∧
    promoteMode (accField 1 0 false) ((summing 1).kindAt tile) = some (false, true) ∧
    promoteMode (accField 3 0 false) ((summing 1).kindAt tile) = none ∧ heldBack ((summing 1).kindAt tile) = false ∧
    heldBack ((summing 2).kindAt tile) = true ∧ (accBeat (summing 2) 2 (accField 2 0 false)).doesAcc tile 2 (accField 2 0 false) = true ∧
    promoteMode (accField 2 0 false) ((summing 2).kindAt tile) = some (true, false) ∧
    2 ^ stackLog ((summing 1).scoreAt tile).tmode = 2 := by decide +kernel
theorem met_PROMOTE_registers (op : Nat) (f : AccField) : ∀ l j, (accBeat (summing 1) op f).true24 tile l 0 j ∧ (accBeat (summing 1) op f).true48 tile l j ∧
    fits 48 ((accBeat (summing 1) op f).a48 tile l j + (accBeat (summing 1) op f).a24 tile l 0 j * 1) := by
  intro l j
  have h24 : (accBeat (summing 1) op f).acc24 = [(key24 tile 0 0 4, 10), (key24 tile 1 0 4, -3)] := rfl
  have h48 : (accBeat (summing 1) op f).acc48 = [(key48 tile 0 4, 5), (key48 tile 1 4, 7)] := rfl
  have hs : (accBeat (summing 1) op f).shadow = [(2 * key48 tile 0 4 + 1, 5), (2 * key24 tile 0 0 4, 3), (2 * key24 tile 1 0 4, 4)] := rfl
  unfold State.true24 State.true48 State.a48 State.a24
  rw [h24, h48, hs]
  have e1 : key24 tile 0 0 4 = 296222724 := by decide
  have e2 : key24 tile 1 0 4 = 296226820 := by decide
  have e3 : key48 tile 0 4 = 148111364 := by decide
  have e4 : key48 tile 1 4 = 148113412 := by decide
  rw [e1, e2, e3, e4]
  refine ⟨?_, ?_, ?_⟩
  · simp only [Sparse.get]
    split_ifs <;> first | omega | rfl
  · simp only [Sparse.get]
    split_ifs <;> first | omega | rfl
  · simp only [Sparse.get]
    split_ifs <;> omega

/-- The channels' scales 1.0 and the token's 1.0, a partial buffer word that the route has delivered. -/
def converting : State := { summing 1 with
  sites := [(tile, { inbox := [4, 5] })]
  mem := Memory.writeLE (Memory.writeLE [] (siteBase tile + 0x8000 + 4) 4 0x3F803F80) (siteBase tile + 0x18000) 4 0x3F800000 }
theorem met_channel_operations :
    (∀ op ∈ [4, 5, 6], (accBeat converting op (accField 0 1 false)).doesAcc tile op (accField 0 1 false) = true) ∧
    (accBeat converting 6 (accField 0 1 true)).doesAcc tile 6 (accField 0 1 true) = true ∧ heldBack ((summing 2).kindAt tile) = true := by
  decide +kernel
theorem met_MERGE : ((accBeat converting 4 (accField 0 1 false)).site tile).poisonIn = false ∧ heldBack ((accBeat converting 4 (accField 0 1 false)).kindAt tile) = false ∧
    (((accBeat converting 4 (accField 0 1 false)).site tile).inbox.take ((accField 0 1 false).count.toNat + 1)).zipIdx.all (fun e =>
      match chanPlace ((accBeat converting 4 (accField 0 1 false)).scoreAt tile).tmode ((accBeat converting 4 (accField 0 1 false)).scoreAt tile).tafmt (2 + e.2) with
      | some p => (match partialValue e.1 with | some v => decide (fits 48 ((accBeat converting 4 (accField 0 1 false)).a48 tile p.1 p.2.1 + v)) | none => false)
      | none => false) = true := by decide +kernel
theorem met_EMIT_CONVERT : (channelsOf (accField 0 1 false)).all (fun o =>
      match chanPlace ((accBeat converting 6 (accField 0 1 false)).scoreAt tile).tmode ((accBeat converting 6 (accField 0 1 false)).scoreAt tile).tafmt o with
      | some p => decide ((accBeat converting 6 (accField 0 1 false)).true48 tile p.1 p.2.1) && bf16.finite ((accBeat converting 6 (accField 0 1 false)).mem.readLE (siteBase tile + 0x8000 + 2 * o) 2)
      | none => false) = true ∧
    fp32.finite ((accBeat converting 6 (accField 0 1 false)).mem.readLE (siteBase tile + 0x18000 + 8 * ((accBeat converting 6 (accField 0 1 false)).site tile).promoted) 4) = true := by decide +kernel
theorem met_CONVERT_merging : (channelsOf (accField 0 1 true)).all (fun o =>
      let u := (accBeat converting 6 (accField 0 1 true)).fillBuffer tile (bankOf (accField 0 1 true).buf ((accBeat converting 6 (accField 0 1 true)).parity tile)) (accField 0 1 true)
      let a := siteBase tile + 0x1000 + 8 * (o - 2)
      match chanPlace ((accBeat converting 6 (accField 0 1 true)).scoreAt tile).tmode ((accBeat converting 6 (accField 0 1 true)).scoreAt tile).tafmt o with
      | some p => !(u.poisoned a 8) && (match partialValue (BitVec.ofNat 64 (u.mem.readLE a 8)) with
        | some v => decide (fits 48 ((accBeat converting 6 (accField 0 1 true)).a48 tile p.1 p.2.1 + v))
        | none => false)
      | none => false) = true ∧ ((accBeat converting 6 (accField 0 1 true)).scoreAt tile).addrs.getD ((0 + bankOf 0 ((accBeat converting 6 (accField 0 1 true)).parity tile)) % 64) 0 = 0x1000 := by decide +kernel
/-- The same without a scale of channel 3. -/
def unscaled : State := accBeat { converting with
  mem := Memory.writeLE converting.mem (siteBase tile + 0x8000 + 6) 2 0x7F80 } 6 (accField 0 1 false)
theorem met_CONVERT_format : unscaled.doesAcc tile 6 (accField 0 1 false) = true ∧ heldBack (unscaled.kindAt tile) = false ∧
    (∃ l, unscaled.laneOf tile = some l) ∧ 3 ∈ channelsOf (accField 0 1 false) ∧
    (∃ d, chanPlace (unscaled.scoreAt tile).tmode (unscaled.scoreAt tile).tafmt 3 = some d) ∧
    bf16.finite (unscaled.mem.readLE (siteBase tile + 0x8000 + 2 * 3) 2) = false ∧
    (channelsOf (accField 0 1 false)).all (fun o =>
      match chanPlace (unscaled.scoreAt tile).tmode (unscaled.scoreAt tile).tafmt o with
      | some p => decide (unscaled.true48 tile p.1 p.2.1)
      | none => true) = true :=
  ⟨by decide +kernel, by decide +kernel, Option.isSome_iff_exists.1 (by decide +kernel), by decide +kernel,
   Option.isSome_iff_exists.1 (by decide +kernel), by decide +kernel, by decide +kernel⟩

/-! ## Attention -/

/-- A lane of sequence 0 at position 1, which page 0 in frame 5 of the decode core holds; a query of 1.0 in dimension 0, in the partition's
BF16, waits at the core, whose address register 0 is as given. -/
def attendingAt (a : Nat) : State := { computing 1 (tileScore 0) with
  cur := { step := 5, empty := false, lanes := List.replicate 8 { lane 1 with pos := 1 } }
  seqs := [(0, { tag := 1, state := 2, partition := 1, gen := 1, contract := 3, length := 1, layout := 1, frames := [(0, 5)], req := request 1 (handle 0) })]
  frames := [(5, { life := 1, partition := 1, gen := 1, contract := 3, refs := 1, fmt := 7 })]
  sites := [(kvCore, { inbox := 0x3F80 :: List.replicate 31 0 })]
  -- keys of positions 0 and 1: 1.0 and 2.0 in dimension 0; values 3.0 and 4.0; the score scale 1.0 at the core's address register 0
  mem := Memory.writeLE (Memory.writeLE (Memory.writeLE (Memory.writeLE (Memory.writeLE (Memory.writeLE []
    ((sliceAt kvCore kvMode 5 0).1 + (vecAt 7 false 0).1) 1 0x38) ((sliceAt kvCore kvMode 5 0).1 + (vecAt 7 false 1).1) 1 0x40)
    ((sliceAt kvCore kvMode 5 0).1 + (vecAt 7 true 0).1) 1 0x44) ((sliceAt kvCore kvMode 5 0).1 + (vecAt 7 true 1).1) 1 0x48)
    (sliceAt kvCore kvMode 5 0).2 2 0x0201) 0x50000000 4 0x3F800000
  vars := [(0, { state := 2, img := some { image with scores := [
    tileScore 0, score kvCore 0 1 [a] kvMode [1], score prefill 0 1 [0x50000000] 0 [],
    score precision 0 1 [siteBase precision, siteBase precision + 0x10000] 0 [],
    score service 0 2 [0x60000000, 0x60001000] 0 []] } })] }
/-- The register at the score scale. -/
def attending : State := attendingAt 0x50000000
/-- A state in a beat that asks for a KV operation of head slot 0 and address register 0 (Table 5.8). -/
def kvBeat (s : State) (op : Nat) : State := acting s (field 400 (op * 2 ^ 76))
/-- A KV field on head slot 0 and address register 0. -/
def kvField : KvField := { head := 0, areg := 0 }
/-- A key of 1.0 in dimension 0, in FP32. -/
def keyVec : List W32 := 0x3F800000 :: List.replicate 127 0
/-- The query loaded; then its scores; then its sums. -/
def queried (a : Nat) : State := kvBeat { attendingAt a with kvs := [(kvCore, { q := [[(0, 64 :: List.replicate 127 0)]] })] } 3
/-- With scores. -/
def scored : State := kvBeat { attending with kvs := [(kvCore, {
  q := [[(0, 64 :: List.replicate 127 0)]], scores := [[[(0, 256), (1, 512)]]], m := [[some 512]], e := [some 2] })] } 4
/-- With sums. -/
def summed : State := kvBeat { attending with kvs := [(kvCore, {
  q := [[(0, 64 :: List.replicate 127 0)]], e := [some 2], num := [[100 :: List.replicate 127 0]], den := [[16]] })] } 5
/-- A core at group index 1. -/
def follower : State := { serving with
  vars := [(0, { state := 2, img := some { image with scores := [score kvCore 0 1 [] (kvMode ||| 0x100000000) [1]] } })] }
theorem met_KvCores : (∀ op ∈ [1, 2, 9], (kvBeat attending op).doesKv kvCore op kvField = true) ∧ (attending.site kvCore).poisonIn = false ∧
    (attending.laneAt kvCore).map (fun l => (l.idx, l.pos)) = some (0, 1) ∧ (attending.scoreAt kvCore).kvMode = kvMode ∧
    attending.localFrame (attending.scoreAt kvCore) (attending.seq 0) (1 / 16) = some 5 ∧ 0 < kvHeads kvMode ∧ kvFmt kvMode = 0x07 ∧
    (5 * kvHeads kvMode + 0 + 1) * sliceBytes 0x07 ≤ 0x380000 ∧ keyVec.length = 128 ∧ keyVec.all finite32 = true := by decide +kernel
theorem met_QLOAD : fmtOf (attending.queryFmt (match attending.laneAt kvCore with | some l => l.owner | none => 31)) = some bf16 ∧
    ((kvBeat attending 1).takeVecs kvCore (kvG kvMode) bf16 2).1 = [0x3F80 :: List.replicate 127 0] ∧
    (0x3F80 :: List.replicate 127 0).all bf16.finite = true := by decide +kernel
theorem met_SCORE : (queried 0x50000000).doesKv kvCore 3 kvField = true ∧
    (queried 0x50000000).okUnit kvCore ((queried 0x50000000).operandAt kvCore 0) 4 = true ∧
    finite32 (BitVec.ofNat 32 ((queried 0x50000000).rdLE ((queried 0x50000000).operandAt kvCore 0) 4)) = true ∧
    (queried 0x50000000).poisonedKeys kvCore = false ∧
    (((queried 0x50000000).laneAt kvCore).map (fun l => ((queried 0x50000000).keySet ((queried 0x50000000).scoreAt kvCore) l))) =
      some [(0, 5, 0), (1, 5, 1)] ∧
    [(0, 5, 0), (1, 5, 1)].all (fun e => ((queried 0x50000000).readVec (sliceAt kvCore kvMode e.2.1 0).1 0x07 false e.2.2).2) = true ∧
    (queried (2 ^ 45)).doesKv kvCore 3 kvField = true ∧ ((queried (2 ^ 45)).laneAt kvCore).isSome = true ∧
    (queried (2 ^ 45)).okUnit kvCore ((queried (2 ^ 45)).operandAt kvCore 0) 4 = false := by decide +kernel
theorem met_EXPSUM_FINISH : scored.doesKv kvCore 4 kvField = true ∧ scored.poisonedKeys kvCore = false ∧
    (scored.laneAt kvCore).map (fun l => scored.ringWords kvCore l (2 * kvG kvMode)) = some [] ∧
    [(0, 5, 0), (1, 5, 1)].all (fun e => (scored.readVec (sliceAt kvCore kvMode e.2.1 0).1 0x07 true e.2.2).2) = true ∧
    ((scored.headGroup (scored.scoreAt kvCore)).map (fun x => ((scored.kv x.site).m.getD 0 []).getD 0 none)).foldl maxOpt
      (ringMax [] (kvG kvMode) 0).1 = some 512 ∧
    ((scored.headGroup (scored.scoreAt kvCore)).map (fun x => (scored.kv x.site).e.getD 0 none)).foldl maxOpt
      ((List.range (kvG kvMode)).foldl (fun a i => maxOpt a (ringMax [] (kvG kvMode) i).2) none) = some 2 ∧
    summed.doesKv kvCore 5 kvField = true ∧ kvGidx kvMode = 0 ∧ kvGidx (follower.scoreAt kvCore).kvMode ≠ 0 ∧ (summed.kv kvCore).e.getD 0 none = some 2 ∧
    (summed.laneAt kvCore).map (fun l => (summed.groupSums kvCore 0 0 l).2) = some 16 := by decide +kernel

/-! ## Pages and prefill -/

/-- The sequence resumes: page 0 is to be read from DRAM into frame 5. -/
def resuming : State := kvBeat { attending with
  seqs := [(0, { attending.seq 0 with state := 5, parkFmt := 7, pagesLeft := [(kvCore, 5)] })], mem := [(0x20000003, 9)] } 6
/-- The sequence parks: page 0 is to be written to its partition's park area. -/
def parking : State := kvBeat { attending with
  cur := { attending.cur with lanes := List.replicate 8 { lane 1 with handle := 0 } }
  seqs := [(0, { attending.seq 0 with state := 3, pagesLeft := [(kvCore, 5)] })] } 7
/-- The same resume from the cold tier; nothing valid lies at the address. -/
def coldResume : State := { resuming with seqs := [(0, { resuming.seq 0 with tier := 2 })] }
/-- The same park to the cold tier. -/
def coldPark : State := { parking with seqs := [(0, { parking.seq 0 with tier := 2 })] }
theorem met_PAGEIN : resuming.doesKv kvCore 6 kvField = true ∧ resuming.pageOwner 5 kvCore 5 = some 0 ∧
    (resuming.seq 0).parkFmt.toNat = kvFmt (resuming.scoreAt kvCore).kvMode ∧
    resuming.pageAt (resuming.scoreAt kvCore) (resuming.seq 0) 5 = some (0, 0) ∧ (resuming.seq 0).tier ≠ 2 ∧
    (resuming.scoreAt kvCore).site = kvCore ∧ (resuming.runImg.map (·.kvHeadCount)) = some 1 ∧
    coreHeads (resuming.scoreAt kvCore) = [(0, 0)] ∧ sliceBytes (kvFmt (resuming.scoreAt kvCore).kvMode) = 4096 ∧
    (5 + 1) * kvHeads kvMode * 4096 ≤ 0x380000 ∧ 16 * (5 + 1) * kvHeads kvMode ≤ 0xC000 ∧
    resuming.okDram 0x20000000 (1 * 4096) = true ∧ resuming.poisoned 0x20000000 (1 * 4096) = false ∧
    (resuming.seq 0).frames.find? (fun e => decide (e.1 = 0)) = some (0, 5) := by decide +kernel
theorem met_PAGEIN_cold : coldResume.doesKv kvCore 6 kvField = true ∧ coldResume.pageOwner 5 kvCore 5 = some 0 ∧
    coldResume.okDram 0x20000000 (32 + 1 * 4096 + 16) = true ∧ coldResume.poisoned 0x20000000 (32 + 1 * 4096 + 16) = false ∧
    coldResume.openCold 0 0 0 0x20000000 = none := by decide +kernel
theorem met_PAGEOUT : parking.doesKv kvCore 7 kvField = true ∧ parking.pageOwner 3 kvCore 5 = some 0 ∧
    parking.pageAt (parking.scoreAt kvCore) (parking.seq 0) 5 = some (0, 0) ∧ (parking.seq 0).tier ≠ 2 ∧
    (parking.cur.lanes ++ parking.nxt.lanes).all (fun l => decide (l.handle ≠ parking.handleOf 0)) = true ∧
    (parking.cfg (parking.seq 0).partition).parkArea = (0x20000000, 0x10000) ∧ parking.okDram 0x2000F000 (1 * 4096) = true ∧
    ((coreHeads (parking.scoreAt kvCore)).map (·.2)).Nodup ∧ coldPark.doesKv kvCore 7 kvField = true ∧
    coldPark.pageOwner 3 kvCore 5 = some 0 ∧ (coldPark.seq 0).tier = 2 := by decide +kernel
/-- KV_MODE of a sweep core of one head. -/
def sweepMode : W64 := BitVec.ofNat 64 (2 * 2 ^ 30 + 7 * 2 ^ 25 + 1 * 2 ^ 20 + 64)
/-- The image with it beside the decode core, and a prefill core whose register 0 is as given. -/
def withSweep (a : Nat) : VariantImage := { image with scores := [
  tileScore 0, score kvCore 0 1 [siteBase kvCore] kvMode [1], score otherCore 0 1 [siteBase otherCore] sweepMode [1],
  score prefill 0 1 [a] 0 []] }
/-- Page 0 of a re-shard lies in page 2 of the sweep core and goes to frame 5; the pages moved in this slot are as given. -/
def resharding (moved : List (Nat × Nat)) : State := kvBeat { attending with
  vars := [(0, { state := 2, img := some (withSweep 0) })]
  seqs := [(0, { attending.seq 0 with sweep := [(0, 0, 2)] })]
  frames := [(5, { life := 1, partition := 1, fmt := 7 })], sweeps := [(2, { life := 1, partition := 1 })]
  mem := [(siteBase otherCore + 2 * 4096 + 7, 3)]
  srv := { attending.srv with layouts := [(withSweep 0).layout], reshards := [{ idx := 0, left := [0] }], movePages := moved } } 8
theorem met_RESHARD_page : (resharding []).doesKv otherCore 8 kvField = true ∧ ((resharding []).scoreAt otherCore).site = otherCore ∧
    kvRole ((resharding []).scoreAt otherCore).kvMode = 2 ∧ (resharding []).runImg = some (withSweep 0) ∧
    (resharding []).srv.reshards.findSome? (fun x => ((resharding []).nextMove x).map (fun n => (x, n))) =
      some (({ idx := 0, left := [0] } : Reshard), 0) ∧
    (resharding []).pageAt ((resharding []).scoreAt otherCore) ((resharding []).seq 0) 2 = some (0, 0) ∧
    (resharding []).frameOf ((resharding []).seq 0) 0 = some 5 ∧ ((resharding []).movedIn otherCore).length < (withSweep 0).reshardRate ∧
    ((resharding []).frame 5).layout = ((resharding []).layoutId (withSweep 0)).1 ∧ ((withSweep 0).kvCores 1).map (·.site) = [kvCore] ∧
    ((withSweep 0).kvCores 1).all (fun d => decide (kvFmt d.kvMode = kvFmt sweepMode ∧ (5 / kvK d.kvMode + 1) * kvHeads d.kvMode * 4096 ≤ 0x380000 ∧
      16 * (5 / kvK d.kvMode + 1) * kvHeads d.kvMode ≤ 0xC000 ∧ isSite d.site = true)) = true ∧ (2 + 1) * 32 * 4096 ≤ 0x380000 := by decide +kernel
theorem met_RESHARD_rate : (resharding [(1, 9)]).movedIn otherCore = [(1, 9)] ∧ (withSweep 0).reshardRate ≤ [(1, 9)].length ∧
    (resharding [(1, 9)]).srv.reshards.findSome? (fun x => ((resharding [(1, 9)]).nextMove x).map (fun n => (x, n))) =
      some (({ idx := 0, left := [0] } : Reshard), 0) := by decide +kernel

/-- A prefill field of block 0 in E4M3, address register 0. -/
def pfField : PfField := { block := 0, opfmt := 7, areg := 0 }
/-- The prefill core with the scratch as given and a query of 1.0 in dimension 0 waiting, in a beat that asks for an operation (Table 5.9); its
register 0 is as given, where σ is 1.0. -/
def prefilling (a op : Nat) (x : PfScratch) : State := acting { attending with
  vars := [(0, { state := 2, img := some (withSweep a) })], sites := [(prefill, { inbox := 0x38 :: List.replicate 15 0 })]
  mem := Memory.writeLE [] 0x50000000 4 0x3F800000, pfs := [(prefill, x)] } (field 320 (op * 2 ^ 76 + 7 * 2 ^ 31))
/-- A unit vector with an exponent. -/
def unit (n : Int) : Int × List Int := (n, 64 :: List.replicate 127 0)
/-- One query, two keys and two values; then with the maxima of pass one; then with the sums of pass two. -/
def blocks : PfScratch := { q := [unit 0], k := [unit 0, unit 1], v := [unit (-3), unit (-2)] }
/-- With the maxima. -/
def blocksMax : PfScratch := { blocks with m := [some 512], e := some (-2) }
/-- With the sums. -/
def blocksSum : PfScratch := { blocksMax with num := [100 :: List.replicate 127 0], den := [16] }
/-- A page of the sweep core. -/
def sweepPage : Nat := siteBase otherCore + 2 * 4096
theorem met_PLOAD : (prefilling sweepPage 1 {}).doesPf prefill 1 pfField = true ∧ ((prefilling sweepPage 1 {}).site prefill).poisonIn = false ∧
    pfFmtOk pfField = true ∧ (prefilling sweepPage 1 {}).queryVecs prefill 7 1 = [0x38 :: List.replicate 127 0] ∧
    (operandVals 7 (0x38 :: List.replicate 127 0)).2 = true ∧
    (prefilling sweepPage 1 {}).sweepSlice ((prefilling sweepPage 1 {}).operandAt prefill 0) = some 7 ∧
    (prefilling sweepPage 1 {}).poisoned sweepPage (sliceBytes 7) = false ∧
    (∀ p < 16, ((prefilling sweepPage 1 {}).readVec sweepPage 7 false p).2 = true) ∧
    (∀ p < 16, ((prefilling sweepPage 1 {}).readVec sweepPage 7 true p).2 = true) ∧
    (prefilling 0x50000000 1 {}).doesPf prefill 1 pfField = true ∧
    (prefilling 0x50000000 1 {}).sweepSlice ((prefilling 0x50000000 1 {}).operandAt prefill 0) = none := by decide +kernel
theorem met_Prefill_passes : (prefilling 0x50000000 2 blocks).doesPf prefill 2 pfField = true ∧
    (prefilling 0x50000000 2 blocks).sigmaAt prefill 0 = some 0x3F800000 ∧ finite32 0x3F800000 = true ∧
    (prefilling 0x50000000 3 blocksMax).doesPf prefill 3 pfField = true ∧ (prefilling 0x50000000 3 blocksMax).pfGroup prefill = [prefill] ∧
    (([prefill]).map (fun j => ((prefilling 0x50000000 3 blocksMax).pf j).m.getD 0 none)).foldl maxOpt none = some 512 ∧
    (([prefill]).map (fun j => ((prefilling 0x50000000 3 blocksMax).pf j).e)).foldl maxOpt none = some (-2) ∧
    (prefilling (2 ^ 45) 2 blocks).doesPf prefill 2 pfField = true ∧ (prefilling (2 ^ 45) 3 blocks).doesPf prefill 3 pfField = true ∧
    (prefilling (2 ^ 45) 2 blocks).sigmaAt prefill 0 = none ∧ (prefilling (2 ^ 45) 3 blocks).sigmaAt prefill 0 = none := by decide +kernel
theorem met_Prefill_output : (prefilling 0x50000000 4 blocksSum).doesPf prefill 4 pfField = true ∧ pfOutOk 9 = true ∧ pfOutOk 0xB = true ∧
    (prefilling 0x50000000 4 blocksSum).pfGroup prefill = [prefill] ∧ blocksSum.e = some (-2) ∧ blocksSum.q.length = 1 ∧
    ([prefill].foldl (fun (b : List Int × Int) j =>
      ((b.1.zip (((prefilling 0x50000000 4 blocksSum).pf j).num.getD 0 (List.replicate 128 0))).map (fun y => y.1 + y.2),
        b.2 + ((prefilling 0x50000000 4 blocksSum).pf j).den.getD 0 0)) (List.replicate 128 0, 0)).2 = 16 ∧
    (prefilling 0x50000000 5 {}).doesPf prefill 5 pfField = true ∧
    (List.range 64).all (fun i => (prefilling 0x50000000 5 {}).okByte (0x50000000 + i)) = true ∧
    (prefilling 0x50000000 5 {}).poisoned 0x50000000 64 = false ∧ (prefilling 0x50000000 5 {}).okByte (2 ^ 45) = false ∧
    (prefilling 0x50000000 6 {}).doesPf prefill 6 pfField = true ∧ (operandVals 7 [0x38, 0x40]).2 = true := by decide +kernel

/-! ## Precision tiles and the sampler -/

/-- A precision field on point, pair or matrix 0, source register 0 and destination register 1, of an output format. -/
def precField (fmt : BitVec 5) : PrecField := { index := 0, outFmt := fmt, src := 0, dst := 1 }
/-- A quantisation point of four values whose threshold is 10.0, with channel 3 in its set or none, read by the tiles given. -/
def point (size : Nat) (readers : List (Nat × Nat × Nat)) : QuantDesc := {
  tau := 0x41200000, point := 0, setSize := size, setBase := 0x20000, actFmt := 5, outEn := true, n := 4, indices := [], readers := readers }
/-- The destination of the vector operations. -/
def outAt : Nat := siteBase precision + 0x10000
/-- Lanes of a kind, in a beat that asks for a precision operation (Table 5.10). At the source 2.0, 1.0, -1.0 and the FP32 value given;
BF16 3.0, 4.0 at the destination register; channel 3 in the set; the outlier rows at the source; a 2 by 2 BF16 matrix placed as matrix 0;
an adapter pair of rank 1 for it in slot 4. -/
def precise (dst op : Nat) (kind : BitVec 3) (q : QuantDesc) (x : W32) : State := acting { attending with
  cur := { attending.cur with lanes := List.replicate 8 { lane kind with pos := 1 } }
  vars := [(0, { state := 2, img := some { image with
    quant := [q], scores := [tileScore 0, score precision 0 1 [siteBase precision, dst] 0 []] } })]
  seqs := [(0, { attending.seq 0 with adpBound := true, adpSlot := 4 })]
  adps := [(4, { state := 2, refs := 1, pairs := [(0, 0x40)] })]
  wgt := { attending.wgt with genA := { attending.wgt.genA with chunks := [
    { entry := 0, kind := 5, format := 9, matrix := 0, dest := 0x10000000, length := 8, hash := 0, golden := 0 },
    { entry := 1, kind := 3, format := 5, matrix := 0, dest := siteBase precision, length := 4, hash := 0, golden := 0 }] } }
  mem := Memory.writeLE (Memory.writeLE (Memory.writeLE (Memory.writeLE (Memory.writeLE []
    (siteBase precision) 16 (x.toNat * 2 ^ 96 + 0xBF8000003F80000040000000)) outAt 4 0x40804040) 0x10000000 8 0x3F80000000003F80)
    0x260000040 24 (0x3F8040003F803F80 * 2 ^ 128 + 0x0900010000)) (siteBase precision + 0x20000) 4 3 }
  (field 192 (op * 2 ^ 124 + (if op = 8 then 0x0B else 9) * 2 ^ 79 + 2 ^ 67))
/-- Four values, the fourth above the threshold. -/
def quantising (kind : BitVec 3) (q : QuantDesc) (x : W32) : State := precise outAt 1 kind q x

/-- Without words of the route nothing lands. -/
theorem landWords_none (s : State) (k a n : Nat) (hi : (s.site k).inbox = []) (hp : (s.site k).poisonIn = false) : s.landWords k a n = s := by
  unfold State.landWords State.takePoison
  simp [hi, hp]
theorem met_QUANT : ([1, 2, 3, 4, 5, 7] : List (BitVec 3)).all (fun n => (quantising n (point 1 []) 0x42C80000).doesPrec precision 1 (precField 9)
      && decide ((quantising n (point 1 []) 0x42C80000).kindAt precision = n.toNat)) = true ∧
    ((quantising 1 (point 1 []) 0x42C80000).site precision).poisonIn = false ∧ precFmtOk (precField 9) = true ∧ quantInOk 0xB = true ∧
    (quantising 1 (point 1 []) 0x42C80000).runImg.bind (fun v => v.quant.find? (fun d => decide (d.point = 0))) = some (point 1 []) ∧
    (quantising 1 (point 1 []) 0x42C80000).okWrite precision (siteBase precision) (4 * elemBytes 0xB) = true ∧
    (quantising 1 (point 1 []) 0x42C80000).okWrite precision outAt 4 = true ∧
    (quantising 1 (point 1 []) 0x42C80000).scaleAddr outAt 4 = outAt + 8 ∧
    (quantising 1 (point 1 []) 0x42C80000).okWrite precision (outAt + 8) 4 = true ∧
    ((quantising 1 (point 1 []) 0x42C80000).readElems 0xB (siteBase precision) 4).2 = true ∧
    (quantising 1 (point 1 []) 0x42C80000).setOf precision (point 1 []) = [3] ∧
    (quantise { point 1 [] with indices := [3] } 4 true 127 ((quantising 1 (point 1 []) 0x42C80000).readElems 0xB (siteBase precision) 4).1).cause
      = 0 ∧
    (quantising 1 (point 1 []) 0x42C80000).landWords precision (siteBase precision) 16 = quantising 1 (point 1 []) 0x42C80000 :=
  ⟨by decide +kernel, by decide +kernel, by decide +kernel, by decide +kernel, by decide +kernel, by decide +kernel, by decide +kernel,
   by decide +kernel, by decide +kernel, by decide +kernel, by decide +kernel, by decide +kernel,
   landWords_none _ _ _ _ (by decide +kernel) (by decide +kernel)⟩
theorem met_QUANT_readers : (quantising 1 (point 1 [(tile, 0, 4)]) 0x42C80000).runImg.bind
      (fun v => v.quant.find? (fun d => decide (d.point = 0))) = some (point 1 [(tile, 0, 4)]) ∧
    ((point 1 [(tile, 0, 4)]).readers.map (·.1)).Nodup ∧
    (∀ e ∈ (point 1 [(tile, 0, 4)]).readers, siteType e.1 = 1 ∧ e.2.1 + e.2.2 ≤ 4 ∧ e.2.2 ≤ 0x4000) := by decide +kernel
theorem met_QUANT_overflow :
    (quantise { point 0 [] with indices := [] } 4 true 127
      ((quantising 1 (point 0 []) 0x42C80000).readElems 0xB (siteBase precision) 4).1).cause = 2 ∧
    (quantise { point 1 [] with indices := [3] } 4 true 127 ((quantising 1 (point 1 []) 0x4B189680).readElems 0xB (siteBase precision) 4).1).cause = 3 ∧
    (quantising 1 (point 0 []) 0x42C80000).laneOf precision = some (false, 5) ∧
    resultLane ((quantising 1 (point 0 []) 0x42C80000).stepLanes false) 5 = 5 := by decide +kernel
theorem met_OUTLIER : (precise outAt 2 1 (point 1 []) 0).doesPrec precision 2 (precField 9) = true ∧
    ((precise outAt 2 1 (point 1 []) 0).rowsChunk (siteBase precision)).map (fun c => (c.dest, c.length)) = some (siteBase precision, 4) ∧
    (precise outAt 2 1 (point 1 []) 0).poisoned (siteBase precision) 4 = false := by decide +kernel

/-- A vector operation in a lane without pairs. -/
def vector (op : Nat) : State := precise outAt op 1 (point 1 []) 0
theorem operandsOk_of (s : State) (k op : Nat) (f : PrecField) (inFmt n m : Nat) (hi : (s.site k).inbox = [])
    (h : s.doesPrec k op f = true ∧ precFmtOk f = true ∧ s.okUnit k (s.operandAt k f.src) (n * elemBytes inFmt) = true ∧
      s.okWrite k (s.operandAt k f.dst) (m * elemBytes f.outFmt.toNat) = true ∧ (s.site k).poisonIn = false ∧
      s.poisoned (s.operandAt k f.src) (n * elemBytes inFmt) = false ∧ (s.readElems inFmt (s.operandAt k f.src) n).2 = true) :
    s.operandsOk s k op f inFmt n m :=
  ⟨h.1, h.2.1, (landWords_none s k _ _ hi h.2.2.2.2.1).symm, h.2.2.1, h.2.2.2.1, Or.inl hi, h.2.2.2.2.1, h.2.2.2.2.2.1, h.2.2.2.2.2.2⟩
theorem met_VectorOperations : ∀ op ∈ [3, 4, 5, 6, 7], (vector op).operandsOk (vector op) precision op (precField 9) 9 2 2 :=
  fun op h => operandsOk_of _ _ _ _ _ _ _ rfl (by revert h; revert op; decide +kernel)
theorem met_LOGIT : (vector 8).operandsOk (vector 8) precision 8 (precField 0x0B) 0x0B 1 2 :=
  operandsOk_of _ _ _ _ _ _ _ rfl (by decide +kernel)
theorem met_VectorOperations_data : (vector 4).operandAt precision 0 = siteBase precision ∧ (vector 4).operandAt precision 1 = outAt ∧
    ((vector 4).readElems 9 outAt 2).2 = true ∧ precInOk 9 = true ∧ (vector 4).poisoned outAt 4 = false ∧
    ((vector 7).matrixChunk 0).map (fun x => (x.dest, x.length, x.format)) = some (0x10000000, 8, 9) ∧
    (vector 7).okUnit precision 0x10000000 8 = true ∧ (vector 7).poisoned 0x10000000 8 = false ∧
    ((vector 7).readElems 9 0x10000000 4).2 = true ∧ ((vector 6).laneAt precision).bind (fun l => (vector 6).pairAt l 0) = some 0x260000040 ∧
    ((vector 6).laneAt precision).bind (fun l => (vector 6).pairAt l 1) = none ∧ (vector 6).rdLE 0x260000042 2 = 1 ∧
    (vector 6).rdLE 0x260000044 1 = 9 ∧
    ((vector 6).adapterElems 9 0x260000050 2).2 = true ∧ ((vector 6).adapterElems 9 0x260000054 2).2 = true := by decide +kernel
/-- A NaN at the destination of RESID. -/
def notFinite : State := { vector 4 with mem := Memory.writeLE (vector 4).mem outAt 2 0x7FC0 }
theorem met_RESID_format : notFinite.operandsOk notFinite precision 4 (precField 9) 9 2 2 :=
  operandsOk_of _ _ _ _ _ _ _ rfl (by decide +kernel)
theorem met_RESID_format_data : (notFinite.readElems 9 outAt 2).2 = false ∧ notFinite.poisoned outAt 4 = false ∧
    (notFinite.laneOf precision).isSome = true := by decide +kernel
theorem met_vector_address : ∀ op ∈ [3, 4, 5], (precise (2 ^ 45) op 1 (point 1 []) 0).doesPrec precision op (precField 9) = true ∧
    (precise (2 ^ 45) op 1 (point 1 []) 0).okWrite precision ((precise (2 ^ 45) op 1 (point 1 []) 0).operandAt precision 1) 4 = false := by
  decide +kernel

/-- A last lane of sequence 0 at the service site, its mask at the address given or off, in a beat that asks for a sampler operation (R154);
the address register it names. -/
def sampling (op maskAddr : Nat) : State := acting { attending with
  cur := { attending.cur with lanes := List.replicate 8 { lane 1 with pos := 1, last := true } }
  mem := [(0x10000000, 3)]
  vars := [(0, { state := 2, img := some { image with scores := [score service 0 2 [0x60000000, 2 ^ 45] 0 []] } })]
  seqs := [(0, { attending.seq 0 with
    maskOn := decide (maskAddr ≠ 0), maskAddr := maskAddr, window := [1]
    req := { (attending.seq 0).req with temperature := 0 } })] }
  (field 128 (op * 2 ^ 60))
/-- Four logits, of which the mask at 0x10000000 allows the first two and that at 0x20000000 none. -/
def logits : List W32 := [0x3F800000, 0x40000000, 0x40400000, 0x3F000000]
theorem met_Sampler : (∀ op ∈ [1, 2, 3], (sampling op 0).doesSampler service op 0 = true) ∧
    ((sampling 1 0).laneAt service).map (fun l => (l.idx, l.last, l.pos)) = some (0, true, 1) ∧
    ((sampling 1 0).laneOf service).isSome = true ∧ ((sampling 1 0).site service).poisonIn = false ∧
    (sampling 3 0x10000000).doesSampler service 3 0 = true ∧ ((sampling 3 0x10000000).seq 0).maskOn = true ∧
    (sampling 3 0x10000000).poisoned 0x10000000 (maskBytes 4) = false ∧ ((sampling 3 0).seq 0).maskOn = false ∧ logits.all finite32 = true ∧
    sampleToken ((sampling 1 0).seq 0).req logits none [1] 2 = some 2 ∧ sampleToken ((sampling 1 0).seq 0).req logits (some [3]) [1] 2 = some 1 ∧
    (sampling 1 0x20000000).rdBytes 0x20000000 (maskBytes 4) = [0] ∧ allowed (some [0]) 4 = [] ∧
    (sampling 2 0).okWrite service ((sampling 2 0).operandAt service 0) 32 = true ∧
    (((sampling 1 0).laneAt service).map (fun l => ((sampling 1 0).seq l.idx).req.temperature.toNat % 2 ^ 31)) = some 0 := by decide +kernel
/-- RECORD through address register 1, which lies outside memory. -/
def misplaced : State := acting (sampling 2 0) (field 128 (2 * 2 ^ 60 + 2 ^ 30))
theorem met_Sampler_other : (attending.laneAt service).map (·.last) = some false ∧ misplaced.doesSampler service 2 1 = true ∧
    misplaced.okWrite service (misplaced.operandAt service 1) 32 = false := by decide +kernel

/-! ## Isolation and security -/

/-- The record of partition 2: four entries, no areas. -/
def recordBytes : List Byte :=
  leBytes 4 0x43505749 ++ leBytes 2 1 ++ [2, 0] ++ leBytes 2 8 ++ leBytes 2 0 ++ leBytes 2 100 ++ leBytes 2 4 ++ leBytes 4 8 ++ leBytes 4 0 ++
  leBytes 2 8 ++ leBytes 2 0 ++ leBytes 2 1 ++ leBytes 2 4 ++ [1, 9, 0, 0] ++ leBytes 4 1000
/-- PART_CONFIG of it, held and not. -/
def configure : CmdBlock := cmd 0 0x51 recordBytes
/-- The engine between steps of a run. -/
def runningUp : State := { up with eng := { up.eng with hold := false, state := 2 } }
theorem met_PART_CONFIG : up.accepts ⟨0x51, true, [0, 18]⟩ false false (signed configure) ∧ (parseRecord (signed configure)).partition = 2 ∧
    up.recordStatus (signed configure) = 0 ∧ up.held = true ∧ (up.part 2).cfgDue = [] ∧ (up.part 2).resetDue = none ∧
    runningUp.held = false :=
  ⟨accepts_signed _ _ _ rfl rfl rfl (by decide +kernel), by decide +kernel, by decide +kernel, by decide, by decide, by decide, by decide⟩
theorem met_PART_CONFIG_running : runningUp.accepts ⟨0x51, true, [0, 18]⟩ false false (signed configure) ∧
    runningUp.recordStatus (signed configure) = 0 :=
  ⟨accepts_signed _ _ _ rfl rfl rfl (by decide +kernel), by decide +kernel⟩
theorem met_PART_CONFIG_refused : up.accepts ⟨0x51, true, [0, 18]⟩ false false (signed (cmd 0 0x51 [])) ∧
    up.recordStatus (signed (cmd 0 0x51 [])) ≠ 0 :=
  ⟨accepts_signed _ _ _ rfl rfl rfl (by decide +kernel), by decide +kernel⟩
/-- PART_RESET of partition 1 and of the highest, 15, with decommission. -/
def resetOne : CmdBlock := cmd 0 0x52 [1, 0]
def resetLast : CmdBlock := cmd 0 0x52 [15, 1]
theorem met_PART_RESET : up.accepts ⟨0x52, true, [0, 18]⟩ false false (signed resetOne) ∧
    up.accepts ⟨0x52, true, [0, 18]⟩ false false (signed resetLast) ∧
    runningUp.accepts ⟨0x52, true, [0, 18]⟩ false false (signed resetOne) ∧ (signed resetOne).par 0 1 = 1 ∧ (signed resetLast).par 0 1 ≤ 15 ∧
    (signed resetLast).par 1 1 = 1 ∧ (up.part 1).zeroing = none ∧ (up.part 1).resetDue = none ∧ (up.part 1).cfgDue = [] :=
  ⟨accepts_signed _ _ _ rfl rfl rfl (by decide +kernel), accepts_signed _ _ _ rfl rfl rfl (by decide +kernel),
    accepts_signed _ _ _ rfl rfl rfl (by decide +kernel), by decide, by decide, by decide, by decide, by decide, by decide⟩
/-- The device without a tenant, and running. -/
def vacant : State := { up with parts := [(31, { cfg := some operator })] }
def vacantRunning : State := { vacant with eng := runningUp.eng }
theorem met_PROFILE_SET : vacant.accepts ⟨0x53, true, [0, 18]⟩ false false (signed (cmd 0 0x53 [1])) ∧
    vacantRunning.accepts ⟨0x53, true, [0, 18]⟩ false false (signed (cmd 0 0x53 [1])) ∧ (signed (cmd 0 0x53 [1])).par 0 1 ≤ 1 ∧
    vacant.hasTenants = false ∧ vacant.sec.lifecycle = 0 ∧ vacant.held = true ∧ vacantRunning.held = false ∧ vacant.sec.profilePending = [] ∧
    up.accepts ⟨0x53, true, [0, 18]⟩ false false (signed (cmd 0 0x53 [1])) ∧ up.hasTenants = true :=
  ⟨accepts_signed _ _ _ rfl rfl rfl (by decide +kernel), accepts_signed _ _ _ rfl rfl rfl (by decide +kernel), by decide, by decide,
    by decide, by decide, by decide, by decide, accepts_signed _ _ _ rfl rfl rfl (by decide +kernel), by decide⟩

/-- SPDM past the key exchange on channels 0 and 18, and a session open on channels 1 and 3. -/
def talking : State := { up with
  hif := { up.hif with vfEnable := true }
  sec := { up.sec with spdm := [
    (0, { versioned := true, capable := true, negotiated := true, keyed := true }), (1, { negotiated := true, isOpen := true }),
    (3, { negotiated := true, isOpen := true }), (18, { versioned := true, capable := true, negotiated := true, keyed := true })] } }
theorem met_SPDM : [0, 1, 3, 18].all talking.spdmServed = true ∧ talking.spdmServed 2 = false ∧
    [SpdmRequest.getVersion, .getCapabilities, .negotiateAlgorithms true, .getDigests, .getCertificate 0 4, .challenge 7, .getMeasurements 1 7,
      .keyExchange true, .finish true].all (fun r => r.allowed (talking.spdm 0) && r.allowed (talking.spdm 18)) = true ∧
    [SpdmRequest.heartbeat, .keyUpdate, .endSession].all (fun r => r.allowed (talking.spdm 1)) = true ∧
    SpdmRequest.heartbeat.allowed (talking.spdm 0) = false ∧ (SpdmRequest.finish false).allowed (talking.spdm 0) = false := by decide +kernel
/-- SEC_SPDM of one request byte, its response to 0x100 bytes of host memory; and of kind 0x01. -/
def spdmBlock (c kind : Nat) : CmdBlock := cmd c 0x50 (leBytes 2 1 ++ [BitVec.ofNat 8 kind] ++ List.replicate 5 0 ++ leBytes 8 0x020000001000 ++ leBytes 4 0x100)
/-- A key message of one byte inside a block. -/
def keyBlock (c : Nat) : CmdBlock := cmd c 0x54 (leBytes 2 1 ++ List.replicate 6 0 ++ [9])
/-- A key record of `n` bytes for an owner. -/
def keyOf (target : Byte) (n : Nat) : KeyRecord := { openedOk := true, target := target, reservedZero := true, material := List.replicate n 0 }
theorem met_SEC_SPDM : talking.accepts spdmInfo false false (spdmBlock 0 0) ∧ talking.spdmParams (spdmBlock 0 0) 0 = true ∧
    SpdmRequest.getVersion.allowed (talking.spdm 0) = true ∧ talking.accepts spdmInfo false false (spdmBlock 3 1) ∧
    talking.spdmParams (spdmBlock 3 1) 1 = true ∧ (talking.spdm 3).isOpen = true ∧
    ((talking.takeIn 3).recordCounter (spdmBlock 3 1)).rejectReason keyInfo true true
      (((talking.takeIn 3).recordCounter (spdmBlock 3 1)).firstLoad 2 3) (innerOf (spdmBlock 3 1) (keyBlock 3)) = none ∧
    keyParams (innerOf (spdmBlock 3 1) (keyBlock 3)) = true ∧
    ((talking.takeIn 3).recordCounter (spdmBlock 3 1)).keyRule 2 3 (keyOf 1 64) = true := by decide +kernel

/-- The device before the operator's first key, and with roots: the first load, then the others. -/
def firstKeys : State := { talking with
  nv := { talking.nv with opKey := none }
  sec := { talking.sec with spdm := [(0, { negotiated := true, isOpen := true }), (3, { negotiated := true, isOpen := true })] } }
def laterKeys : State := { firstKeys with
  parts := [(1, { cfg := some tenant, cmdKey := some [1, 2, 3] }), (31, { cfg := some operator })]
  nv := { up.nv with roots := List.replicate 7 (List.replicate 133 0) } }
theorem met_KEY_LOAD_first : firstKeys.accepts keyInfo true (firstKeys.firstLoad 1 0) (keyBlock 0) ∧ keyParams (keyBlock 0) = true ∧
    (firstKeys.spdm 0).isOpen = true ∧ firstKeys.keyRule 1 0 (keyOf 31 64) = true ∧
    firstKeys.accepts keyInfo true (firstKeys.firstLoad 2 3) (keyBlock 3) ∧ keyParams (keyBlock 3) = true ∧
    firstKeys.keyRule 2 3 (keyOf 1 64) = true ∧ up.accepts keyInfo true (up.firstLoad 2 3) (keyBlock 3) ∧ (up.spdm 3).isOpen = false := by
  decide +kernel
theorem met_KEY_LOAD : (∀ kind ∈ ([1, 4, 5] : List Byte), laterKeys.accepts keyInfo true (laterKeys.firstLoad kind 0) (signed (keyBlock 0))) ∧
    (∀ kind ∈ ([2, 3] : List Byte), laterKeys.accepts keyInfo true (laterKeys.firstLoad kind 3) (signed (keyBlock 3))) ∧
    laterKeys.keyRule 1 0 (keyOf 31 64) = true ∧ laterKeys.keyRule 2 3 (keyOf 1 64) = true ∧ laterKeys.keyRule 3 3 (keyOf 1 32) = true ∧
    laterKeys.keyRule 4 0 (keyOf 31 133) = true ∧ laterKeys.keyRule 5 0 { keyOf 31 1 with material := [6] } = true ∧
    keyParams (signed (keyBlock 0)) = true ∧ keyParams (signed (keyBlock 3)) = true :=
  ⟨fun _ _ => accepts_signed_on _ _ _ _ _ rfl rfl rfl (by decide +kernel),
    fun _ _ => accepts_signed_on _ _ _ _ _ rfl rfl rfl (by decide +kernel),
    by decide +kernel, by decide +kernel, by decide +kernel, by decide +kernel, by decide +kernel, by decide, by decide⟩

/-- DBG_UNLOCK of a scope, its token in host memory; RECORD_LOAD of a record there. -/
def unlocking (scope : Byte) : CmdBlock := cmd 0 0x56 ([scope] ++ List.replicate 7 0 ++ leBytes 8 0x020000001000)
def recordLoad : CmdBlock := cmd 0 0x57 (List.replicate 8 0 ++ leBytes 8 0x020000001000)
/-- A record bound to this device and nonce, of slot 1; one that is not. -/
def goodRecord : VendorRecord := { magicOk := true, slot := 1, ident := up.nv.ident, nonce := up.sec.nonce, signatureOk := true }
def badRecord : VendorRecord := { goodRecord with signatureOk := false }
/-- A generation in slot 1. -/
def withSlot : State := { up with wgt := { up.wgt with genB := { state := 4, number := 1 } } }
theorem met_DBG_UNLOCK : (∀ sc ∈ ([1, 2] : List Byte), vacant.accepts ⟨0x56, true, [0, 18]⟩ false false (signed (unlocking sc)) ∧
      up.accepts ⟨0x56, true, [0, 18]⟩ false false (signed (unlocking sc))) ∧ vacant.hasTenants = false ∧ up.hasTenants = true ∧
    (signed (unlocking 1)).par 0 1 = 1 ∧ (signed (unlocking 2)).par 0 1 = 2 ∧
    vacant.inReach 31 ((signed (unlocking 2)).par 8 8) vendorBytes = true ∧ vacant.recordHolds goodRecord = true ∧
    vacant.recordHolds badRecord = false := by
  refine ⟨?_, by decide, by decide, by decide, by decide, by decide +kernel, by decide +kernel, by decide +kernel⟩
  intro sc h
  simp only [List.mem_cons, List.not_mem_nil, or_false] at h
  rcases h with rfl | rfl <;>
    exact ⟨accepts_signed _ _ _ rfl rfl rfl (by decide +kernel), accepts_signed _ _ _ rfl rfl rfl (by decide +kernel)⟩
theorem met_RECORD_LOAD : withSlot.accepts ⟨0x57, true, [0, 18]⟩ false false (signed recordLoad) ∧
    withSlot.inReach 31 ((signed recordLoad).par 8 8) vendorBytes = true ∧ withSlot.recordHolds goodRecord = true ∧
    withSlot.slotHeld goodRecord = true ∧ withSlot.recordHolds badRecord = false :=
  ⟨accepts_signed _ _ _ rfl rfl rfl (by decide +kernel), by decide +kernel, by decide +kernel, by decide +kernel, by decide +kernel⟩
/-- FW_UPDATE of an image in host memory, and in an inbox at its highest number; an image that passes, one whose security version is low. -/
def fwHost : CmdBlock := cmd 0 0x55 ([0, 0] ++ List.replicate 6 0 ++ leBytes 8 0x020000001000 ++ leBytes 8 0x1000)
def fwInbox : CmdBlock := cmd 0 0x55 ([0, 1, 0, 0] ++ leBytes 2 255)
def fwImage : FwImage := { headerOk := true, chainOk := true, signatureOk := true, digestOk := true, version := 2, svn := 1 }
/-- A lowest security version of 1; a write under way. -/
def flashing : State := { up with nv := { up.nv with minSvn := 1 }, sec := { up.sec with fwWrite := [(fwImage, some (0, 3))] } }
theorem met_FW_UPDATE : (∀ b ∈ [fwHost, fwInbox], flashing.accepts ⟨0x55, true, [0, 18]⟩ false false (signed b)) ∧
    (signed fwHost).par 1 1 = 0 ∧ flashing.inReach 31 ((signed fwHost).par 8 8) ((signed fwHost).par 16 8) = true ∧
    (signed fwInbox).par 1 1 = 1 ∧ (signed fwInbox).par 4 2 ≤ 255 ∧ flashing.boot.recovery = false ∧ flashing.imageVerdict fwImage = 0 ∧
    flashing.imageVerdict { fwImage with svn := 0 } ≠ 0 ∧ flashing.sec.fwWrite = (fwImage, some (0, 3)) :: [] := by
  refine ⟨?_, by decide, by decide +kernel, by decide, by decide, by decide, by decide, by decide, by decide⟩
  intro b h
  simp only [List.mem_cons, List.not_mem_nil, or_false] at h
  rcases h with rfl | rfl <;> exact accepts_signed _ _ _ rfl rfl rfl (by decide +kernel)

/-! ## Management, JTAG and registers -/

/-- A COMMAND word with an address below 2^48 and a known code; the channel of the BMC with a word waiting and with an event only. -/
def commandWord : W64 := msgWord 1 0x20 3 0x20000000000
def wordsQueued : State := { talking with
  boot := { up.boot with ready := false }
  sec := { up.sec with spdm := [(18, { negotiated := true, isOpen := true })] }
  chans := [(18, { outFull := true, queue := [msgWord 4 1 0 0, msgWord 2 0x20 3 0] }), (19, { outFull := true, queue := [msgWord 4 1 0 0] })] }
/-- The device in recovery. -/
def inRecovery : State := { up with boot := { up.boot with recovery := true, ready := false } }
theorem met_Management : wordsQueued.stageDone 0 = true ∧ (wordsQueued.spdm 18).isOpen = true ∧ (wordsQueued.chan 18).inFull = false ∧
    (wordsQueued.chan 19).inFull = false ∧ wordsQueued.wordReason 18 commandWord = none ∧ wordsQueued.wordReason 19 commandWord = none ∧
    takeWord wordsQueued.boot.ready (wordsQueued.chan 18).queue = some (msgWord 2 0x20 3 0, [msgWord 4 1 0 0]) ∧
    takeWord wordsQueued.boot.ready (wordsQueued.chan 19).queue = none ∧ wordsQueued.boot.recovery = false ∧
    ([0, 1, 2, 3, 4, 5, 6, 16, 17, 18, 32, 55] : List Nat).all (fun n => (up.sensorReading n).isSome) = true ∧
    ([7, 15, 19, 31, 56, 65535] : List Nat).all (fun n => (up.sensorReading n).isNone) = true ∧ up.boot.ready = true ∧
    inRecovery.boot.recovery = true := by decide +kernel

/-- Debug access under each scope. -/
def board : State := { up with sec := { up.sec with scope := 1 } }
def internal : State := { up with sec := { up.sec with scope := 2 } }
theorem met_JTAG : board.sec.scope = 1 ∧ internal.sec.scope = 2 ∧ up.sec.scope = 0 := by decide

/-- The weight-region registers locked; partition 1 with its request ring enabled; latched halves. -/
def locked : State := { talking with
  lock := { up.lock with cGlobal := true }
  parts := [(1, { cfg := some tenant, rings := { rqEnable := true } }), (31, { cfg := some operator })]
  hif := { talking.hif with latches := [
    (Func.key .pf, some { bar := .bar0, offset := 0x10148, upper := 7 }), (Func.key (.vf 2), some { bar := .vfBar0, offset := 0x08, upper := 7 })] } }
theorem met_Registers : up.reach .pf .bar0 0x10300 = .pf 0x10300 ∧ up.reach .pf .bar0 0x10148 = .pf 0x10148 ∧ up.lock.cGlobal = false ∧
    locked.reach .pf .bar0 0x10148 = .pf 0x10148 ∧ locked.lock.cGlobal = true ∧ up.reach .pf .bar0 0x2FFFF8 = .unsupported ∧
    locked.reach (.vf 2) .vfBar0 0x08 = .vf 1 0x08 ∧ (locked.part 1).zeroing = none ∧ (locked.part 1).rings.rqEnable = true ∧
    (locked.reach (.vf 2) .vfBar0 0x08).isRc = false ∧ (locked.reach .pf .bar0 0x10148).isRc = false ∧ 0x10148 % 8 = 0 ∧ 0x08 % 8 = 0 ∧
    locked.hif.latches.get none (Func.key .pf) = some { bar := .bar0, offset := 0x10148, upper := 7 } ∧
    locked.hif.latches.get none (Func.key (.vf 2)) = some { bar := .vfBar0, offset := 0x08, upper := 7 } ∧
    up.isUnsupported .pf .bar0 0x10300 16 = true ∧ up.isUnsupported .pf .bar0 0x2FFFF8 8 = true ∧ up.isUnsupported .pf .bar0 0x10304 8 = true := by
  decide +kernel
/-- For 32-bit reads: a latched register of either function, an RC register with nothing latched, accesses of each kind. -/
theorem met_HalfReads : (locked.reach .pf .bar0 0x200008).isRc = true ∧ up.hif.latches.get none (Func.key .pf) = none ∧
    up.reach .pf .bar0 0x200008 = .pf 0x200008 ∧ (up.reach .pf .bar0 0x200008).isRc = true ∧
    locked.reach .pf .bar0 0x10148 ≠ .pf 0x10000 ∧ (Instr.descTail .whole 1).accessBy = some .pf ∧
    (Instr.mbxOutRead 3).accessBy = some (.vf 2) ∧ (Instr.rqTail 1 .whole 1).accessBy = some (.vf 2) ∧ 0x10149 % 8 ≠ 0 ∧
    locked.isUnsupported .pf .bar0 0x10300 16 = true ∧ (up.chan 0).queue = [] ∧ locked.vfOpen 1 = true ∧ (locked.chan 3).queue = [] := by
  decide +kernel
/-- Lengths of the fixed exponential's two cases. -/
theorem met_FixedExponential : 4863 < 4864 ∧ 4864 ≤ 4864 := by decide

/-! ## The Torren link -/

/-- Port 0 (direction +X) in a state, the fabric committed; port 3 (direction −X) UP. -/
def linked (p : Port) : State := { serving with
  lock := { serving.lock with cFabric := true }
  fab := { serving.fab with
    ports := [(0, p), (1, { state := 3, rate := 0 }), (3, { state := 3, rate := 0 })], parent := 0, children := 8 } }
/-- The HELLO of the +X neighbour, device 1. -/
def hello : Hello := { device := 1, port := 3, role := 2, plan := 0x03333000, nonce := 0, chainOk := true, keyDigest := 5 }
theorem met_Ports : ((linked { state := 1 }).port 0).state = 1 ∧ ((linked { state := 2 }).port 0).state = 2 ∧
    ((linked { state := 1, rate := 0, timeCount := 1 }).port 0).rate ≠ 3 ∧
    (linked { state := 2, rate := 0, hello := some hello }).admitReason 0 hello true = 0 ∧
    (linked { state := 2, rate := 0, hello := some hello }).admitReason 0 hello false ≠ 0 ∧
    8 ≤ ((linked { state := 1, rate := 0, admitTicks := 8 }).port 0).admitTicks ∧
    ((linked { state := 5, backoff := 2, admitTicks := 2 }).port 0).backoff ≤ ((linked { state := 5, backoff := 2, admitTicks := 2 }).port 0).admitTicks ∧
    ((linked { state := 5, backoff := 2, admitTicks := 1 }).port 0).admitTicks < ((linked { state := 5, backoff := 2, admitTicks := 1 }).port 0).backoff ∧
    (linked {}).blockOpen = true ∧ (linked {}).lock.cFabric = true ∧ portRole (linked {}).lock.plan 0 = 1 ∧
    ((linked { disable := true, state := 6 }).port 0).disable = true := by decide +kernel

/-- A frame with its CRC. -/
def sealedFrame (f : Frame) : Frame := { f with crc := f.crcOf }
/-- A message of class 2 or 3 from device 1 to inbox 4 of a device, of an operation's arg and flags; its payload at the last bytes that
fit an inbox of one page. -/
def messageTo (cls : BitVec 4) (flags : Byte) (dst : BitVec 16) (arg : W32) (lseq : W32) : Frame := sealedFrame {
  kind := 2, cls := cls, flags := flags, units := 1, src := 1, dst := dst, lseq := lseq, fmt := 0, hops := 0, tag := 4, offset := 4064
  arg := arg, payload := List.replicate 31 0 ++ [7], crc := 0 }
/-- Inbox 4, one page at 0x20000000, of a class; two commit tables for the maps. -/
def withInbox (cls : BitVec 2) : State := { linked { state := 3, rate := 0, expectLseq := 5, nextLseq := 9 } with
  fab := { (linked { state := 3, rate := 0, expectLseq := 5, nextLseq := 9 }).fab with
    member := true, inboxes := [(4, { base := 0x20000, pages := 1, owner := 1, cls := cls, enable := true, src := 1 })] } }
/-- The frame with its last payload byte changed on the way. -/
def broken (f : Frame) : Frame := { f with payload := List.replicate 31 0 ++ [8] }
theorem met_Messages : ((withInbox 2).port 0).state = 3 ∧ (withInbox 2).fmChannel 4 = none ∧ (withInbox 2).device = 0 ∧
    frameLegal (broken (messageTo 2 0 0 (msgArg 0 0 1) 5)) = false ∧ frameLegal (messageTo 2 0 0 (msgArg 0 0 1) 6) = true ∧
    frameLegal (messageTo 2 0 0 (msgArg 0 0 1) 5) = true ∧ argOk 1 (msgArg 0 0 1) = true ∧
    inboxTakes ((withInbox 2).fab.inboxes.get {} 4) (messageTo 2 0 0 (msgArg 0 0 1) 5) = true ∧
    frameLegal (messageTo 2 0 0 (msgArg 1 507 2) 5) = true ∧ argOk 2 (msgArg 1 507 2) = true ∧ argIndex (msgArg 1 507 2) = 507 ∧
    inboxTakes ((withInbox 2).fab.inboxes.get {} 4) (messageTo 2 0 0 (msgArg 1 507 2) 5) = true ∧
    frameLegal (messageTo 2 0 0 (msgArg 0xFFFF 511 3) 5) = true ∧ argOk 3 (msgArg 0xFFFF 511 3) = true ∧
    inboxTakes ((withInbox 2).fab.inboxes.get {} 4) (messageTo 2 0 0 (msgArg 0xFFFF 511 3) 5) = true ∧
    inboxTakes ((withInbox 1).fab.inboxes.get {} 4) (messageTo 2 0 0 (msgArg 0 0 1) 5) = false := by decide +kernel
theorem met_Messages_route : (withInbox 2).routeRole 2 = some 1 ∧ (withInbox 2).upPorts 1 = [0] ∧ frameLegal (messageTo 2 0 2 (msgArg 0 0 1) 5) = true := by
  decide +kernel
theorem met_Messages_hop : (List.range 24).filter (fun n => decide (portRole (withInbox 2).lock.plan n = 1) && ((withInbox 2).port n).state == 3) = [0] := by
  decide +kernel
theorem met_Messages_broadcast : frameLegal (messageTo 3 4 0xFFFF (msgArg 0 0 1) 5) = true ∧ (withInbox 3).fab.parent.toNat = 0 ∧
    (withInbox 3).fab.children.getLsbD 0 = false ∧ (withInbox 3).fab.children.getLsbD 3 = true ∧
    inboxTakes ((withInbox 3).fab.inboxes.get {} 4) (messageTo 3 4 0xFFFF (msgArg 0 0 1) 5) = true ∧
    frameLegal (messageTo 1 0 0 (msgArg 0 0 4) 5) = true ∧ argOk 4 (msgArg 0 0 4) = true ∧ (withInbox 3).fab.member = true := by decide +kernel

/-- Two sent frames kept, one frame of class 2 waiting with its credits. -/
def sending : State := linked {
  state := 3, rate := 0, nextLseq := 11, replay := [messageTo 2 0 1 1 9, messageTo 2 0 1 1 10], wait := [messageTo 2 0 1 1 0], credits := [0, 0, 0, 0] }
/-- A window of the running image for two sites, half of it received in slot 4; the same whole. -/
def windowFrameOf (offset : W64) : Frame := sealedFrame {
  kind := 1, cls := 0, flags := 0, units := 1, src := 1, dst := 0, lseq := 0, fmt := 0, hops := 0, tag := 3, offset := offset, arg := 4
  payload := List.replicate 32 1, crc := 0 }
def receiving (got : List (Nat × Nat × Nat × List Byte)) : State := { linked { state := 3, rate := 0 } with
  vars := [(0, { state := 2, img := some { image with windows := [(3, 64, [tile, kvCore])] } })]
  fab := { (linked { state := 3, rate := 0 }).fab with winGot := got, member := true } }
theorem met_Links : (sending.port 0).state = 3 ∧ (sending.port 0).replay = messageTo 2 0 1 1 9 :: [messageTo 2 0 1 1 10] ∧
    (sending.port 0).credits.length = 4 ∧ (sending.port 0).wait.all (fun f => decide (f.cls.toNat = 2)) = true :=
  ⟨by decide +kernel, rfl, by decide +kernel, by decide +kernel⟩
theorem met_Windows : frameLegal (windowFrameOf 0) = true ∧ portRole sending.lock.plan 0 ≠ 7 ∧ (sending.port 0).isLong = false ∧
    sending.device = 0 ∧ frameLegal (broken (windowFrameOf 0)) = false ∧
    ((receiving []).runImg.map (·.windows)) = some [(3, 64, [tile, kvCore])] ∧
    (receiving [(4, 3, 0, List.replicate 32 1)]).windowData 4 3 64 = none ∧
    (receiving [(4, 3, 0, List.replicate 32 1), (4, 3, 32, List.replicate 32 2)]).windowData 4 3 64 =
      some (List.replicate 32 1 ++ List.replicate 32 2) ∧
    [((3 : Nat), (64 : Nat), [tile, kvCore])].filter (fun x => x.2.2.contains kvCore) = [(3, 64, [tile, kvCore])] ∧ [tile, kvCore].Nodup ∧
    (receiving []).atPitch = true ∧ (receiving []).portBound tile = false ∧ (receiving []).sync.stalled = false := by decide +kernel
/-- A window frame for device 2, two hops in +X; a port attachment site of the west half, bound to an attachment, that receives a window. -/
def passingFrame : Frame := sealedFrame { windowFrameOf 0 with dst := 2 }
/-- The site. -/
def portSite : Nat := siteAt 1 6
/-- The state. -/
def bound : State := { receiving [] with
  vars := [(0, { state := 2, img := some { image with
    windows := [(3, 64, [portSite])], scores := [score portSite 0 0 (List.replicate 61 0 ++ [0x20]) 0 []] } })] }
/-- A port UP since before the boundary. -/
def relaying : State := linked { state := 3, rate := 0, wasUp := true }
theorem met_Windows_pass : frameLegal passingFrame = true ∧ passingFrame.dst.toNat ≠ relaying.device ∧
    passingFrame.dst.toNat / 64 = relaying.device / 64 ∧ passingFrame.hops.toNat < 3 ∧ relaying.routeRole 2 = some 1 ∧
    relaying.windowSet 1 = [0] ∧ (relaying.port 0).state = 3 ∧ bound.portBound portSite = true ∧ (bound.windowData 4 3 64) = none ∧
    (bound.runImg.map (·.windows)) = some [(3, 64, [portSite])] ∧ stalled.sync.stalled = true ∧
    ({ withInbox 1 with fab := { (withInbox 1).fab with master := 5 } } : State).fab.master.toNat ≠ (withInbox 1).device := by decide +kernel

/-! ## The spec's worked examples -/

/-- The worked site of chapter 01: (66, 34) a prefill core of vale (2, 2), (70, 34) a precision tile with its window; (101, 58) in vale
(3, 3) a port attachment site. -/
theorem test_worked_sites : siteType (siteAt 66 34) = 3 ∧ siteVale (siteAt 66 34) = 7 * 2 + 2 ∧ siteSx (siteAt 66 34) = 2 ∧
    siteSy (siteAt 66 34) = 2 ∧ siteType (siteAt 70 34) = 4 ∧ siteBase (siteAt 70 34) = 0x011123000000 ∧ siteType (siteAt 101 58) = 6 ∧
    siteSx (siteAt 101 58) = 5 ∧ siteSy (siteAt 101 58) = 10 := by decide
/-- Table 2.3: one T2 weight column pair, four rows: the plane partials weighted sum to −120. -/
def table23 : State := { computing 1 (tileScore 0) with
  cells := [(cellKey tile 0 0 0, 1), (cellKey tile 0 1 0, 2), (cellKey tile 0 3 0, 1)]
  mem := Memory.writeLE [] (siteBase tile) 4 0x807FFD05 }
theorem test_SWEEP_table_2_3 : (sweepCycles (arrayField 0)).map (table23.cycleGain tile 0 (arrayField 0) 0) =
    [0, 0, 0, -8, -16, -32, -64, 0] := by decide +kernel
/-- The point of Table 3.7 over its six channels, numbered 0 to 5; the outliers are the last two. -/
def table37 : QuantDesc := { tau := 0x40C00000, point := 0, setSize := 2, actFmt := 5, outEn := true, n := 6, indices := [4, 5] }
def table37Values : List Dy := [0x3F000000, 0x3C000000, 0x3CC00000, 0xBFFE0000, 0x42200000, 0xC3FFFE00].map fp32.val
theorem test_QUANT_table_3_7 : (quantise table37 32 true 127 table37Values).q = [32, 0, 2, -127, 0, 0] ∧
    (quantise table37 32 true 127 table37Values).st = 0x3C800000 ∧
    (quantise table37 32 true 127 table37Values).outliers = [(4, 2560), (5, -32767)] ∧
    (quantise table37 32 true 127 table37Values).cause = 0 := by decide +kernel
/-- One more outlier than K, an outlier outside the set (Table 3.8). -/
theorem test_QUANT_causes : (quantise table37 1 true 127 table37Values).cause = 1 ∧
    (quantise { table37 with indices := [4] } 32 true 127 table37Values).cause = 2 := by decide +kernel
/-- The partial word of the outlier example. -/
theorem test_OUTLIER_example : outlierSums [(2048, 2560), (9990, -32767)] [(2048, [-1]), (9990, [1])] = [-35327] := by decide
/-- Table 7.6: numerator, denominator and output of the exact-sum example. -/
theorem test_EXPSUM_table_7_6 : [(1000, -1, [96]), (744, 1, [-96]), (1256, 0, [96])].foldl (attendTerm 1256 1) ([0], 0) = ([9437184], 458752) ∧
    attendOut 1 458752 9437184 = 0x3F249249 := by decide +kernel
/-- The words of chapter 12's example: VAR_ARM of cseq 3 in MBX_IN, its RESULT and its COMPLETE. -/
theorem test_message_words : msgWord 1 0x32 3 0x020000100040 = 0x1323020000100040 ∧ msgWord 2 0x32 3 0 = 0x2323000000000000 ∧
    msgWord 3 0x32 3 0 = 0x3323000000000000 := by decide
/-- The default plan's +X ports of Table 11.7, and the pitch of a step of 294,912 counts with a guard of 1,600. -/
theorem test_plan_roles : (List.range 24).filter (fun n => portRole 0x03333000 n == 1) = [0, 6, 18] ∧
    planLegal 0x03333000 0x004210000 = true := by decide +kernel
/-- The check value of CRC-32C. -/
theorem test_crc32c : crc32c [0x31, 0x32, 0x33, 0x34, 0x35, 0x36, 0x37, 0x38, 0x39] = 0xE3069283 := by decide +kernel
/-- Rounding to nearest, ties to even, in the spec's formats. -/
theorem test_rounding : bf16.round false 0x101 1 (-8) = 0x3F80 ∧ bf16.round false 0x103 1 (-8) = 0x3F82 ∧ e4m3.round false 1000 1 0 = 0x7E ∧
    fmul 0x80000001 0x3F000000 = 0x80000000 ∧ encodeOut 9 (product false [bf16.val 0x8001] [e4m3.val 1]) = [0x00, 0x80] := by
  decide +kernel
/-- Chapter 16's example: a partition's decode-frame quota read by its own function and by the physical function at its window. -/
theorem test_partition_registers : (locked.readAt (locked.reach .pf .bar0 (0x100000 + 0x10000 + 0x0A00))).toNat % 2 ^ 16 =
    (locked.readAt (locked.reach (.vf 2) .vfBar0 0x0A00)).toNat % 2 ^ 16 := by decide +kernel
theorem test_IDCODE : (Sys2Proof.Machine.execIdcode up |> fun o => match o with | .next t => decide (t.jtag.data = 0x10B8474F) | _ => false) = true := by
  decide
/-- The step of 576 lanes and slots of 512 counts, and its pitch with a guard of 1,600 counts (Table 11.7). -/
theorem test_step_counts : stepCounts { image with lanes := 576 } = 294912 ∧ 294912 + 1600 = 296512 := by decide +kernel

/-! ## Well-formed commands: each check refuses a number past its bound and passes the last one -/

theorem test_ill_block : (Instr.wgtSwitch { cmd 0 0x22 [1] with length := 64 }).ill = some .block ∧
    (Instr.wgtSwitch { cmd 0 0x22 [1] with length := 65 }).wf = true := by decide
theorem test_ill_channel : (Instr.heartbeat 22).ill = some .channel ∧ (Instr.heartbeat 21).wf = true ∧
    (Instr.wgtSwitch (cmd 22 0x22 [])).ill = some .channel := by decide
theorem test_ill_owner : (Instr.requestPending 16).ill = some .owner ∧ (Instr.requestPending 30).ill = some .owner ∧
    (Instr.requestPending 15).wf = true ∧ (Instr.requestPending 31).wf = true := by decide
theorem test_ill_partition : (Instr.vfFlr 16).ill = some .partition ∧ (Instr.vfFlr 15).wf = true := by decide
theorem test_ill_site : (Instr.syncStallBegin 43008).ill = some .site ∧ (Instr.syncStallBegin 43007).wf = true := by decide
theorem test_ill_array : (Instr.markClear tile 17).ill = some .array ∧ (Instr.markClear tile 16).wf = true := by decide
theorem test_ill_rowGroup : (Instr.marginScan tile 0 16 0).ill = some .rowGroup ∧ (Instr.marginScan tile 0 15 0).wf = true := by decide
theorem test_ill_vale : (Instr.emergencyEnter 84).ill = some .vale ∧ (Instr.emergencyEnter 83).wf = true := by decide
theorem test_ill_cluster : (Instr.nodeDecouple 2688).ill = some .cluster ∧ (Instr.nodeDecouple 2687).wf = true := by decide
theorem test_ill_converter : (Instr.sequenceTableWrite 3024 []).ill = some .converter ∧ (Instr.sequenceTableWrite 3023 []).wf = true := by decide
theorem test_ill_port : (Instr.portRetry 24).ill = some .port ∧ (Instr.portRetry 23).wf = true := by decide
theorem test_ill_msgClass : (Instr.linkCredit 0 4 1).ill = some .msgClass ∧ (Instr.linkCredit 0 3 1).wf = true := by decide
theorem test_ill_bank : (Instr.armComplete 4).ill = some .bank ∧ (Instr.armComplete 3).wf = true := by decide
theorem test_ill_entry : (Instr.parkTtlExpiry 32768).ill = some .entry ∧ (Instr.parkTtlExpiry 32767).wf = true := by decide
theorem test_ill_slot : (Instr.varLoadSourceTimeout 64).ill = some .slot ∧ (Instr.varLoadSourceTimeout 63).wf = true := by decide
theorem test_ill_word : (Instr.syncHsig 256 .whole 1).ill = some .word ∧ (Instr.syncHsig 255 .whole 1).wf = true := by decide
theorem test_ill_function : (Instr.halfReadLatch .pf .vfBar0 0).ill = some .function ∧ (Instr.halfReadLatch (.vf 17) .vfBar0 0).ill = some .function ∧
    (Instr.halfReadLatch (.vf 16) .vfBar0 0).wf = true := by decide
theorem test_ill_frame : (Instr.msgPut 0 { messageTo 2 0 0 1 0 with units := 2 }).ill = some .frame ∧
    (Instr.msgPut 0 { messageTo 2 0 0 1 0 with units := 1 }).wf = true := by decide +kernel
/-- FIPS 197, appendix C.3. -/
theorem test_aes256 : aesBlock (aesKeys ((List.range 32).map (BitVec.ofNat 8))) ((List.range 16).map (fun i => BitVec.ofNat 8 (0x11 * i))) =
    [0x8E, 0xA2, 0xB7, 0xCA, 0x51, 0x67, 0x45, 0xBF, 0xEA, 0xFC, 0x49, 0x90, 0x4B, 0x49, 0x60, 0x89] := by decide +kernel
/-- The empty message under a zero key and a zero nonce. -/
theorem test_gcm_empty : gcmTag (aesKeys (List.replicate 32 0)) (List.replicate 12 0) [] [] =
    [0x53, 0x0F, 0x8A, 0xFB, 0xC7, 0x45, 0x36, 0xB9, 0xA9, 0x63, 0xB4, 0xF1, 0xC4, 0xCB, 0x73, 0x8B] := by decide +kernel
/-- FIPS 180-4's example "abc". -/
theorem test_sha512_abc : (sha512 [0x61, 0x62, 0x63]).take 8 = [0xDD, 0xAF, 0x35, 0xA1, 0x93, 0x61, 0x7A, 0xBA] := by decide +kernel
/-- A frame with its poison mark leaves its payload poisoned (R173), and a unit that reads it counts the word (FLT_SRAM). -/
theorem test_poisoned_payload :
    ((up.putPayload 0x100000000 { messageTo 2 0 0 1 0 with flags := 1, payload := [1, 2] }).poison = [0x100000000, 0x100000001]) ∧
    ((up.putPayload 0x100000000 { messageTo 2 0 0 1 0 with flags := 1, payload := [1, 2] }).readPoison tile 0x100000000 8).flt.sramPois = 1 ∧
    (up.putPayload 0x100000000 { messageTo 2 0 0 1 0 with payload := [1, 2] }).poison = [] := by decide +kernel

end Sys2Proof.Tests
end

section
/-! SUPPORT. The step by its queue, the commands that reach the device time, and that it runs forward. -/

namespace Sys2Proof.Machine

/-! ## The queue (R7, R31) -/

/-- With no command waiting a step is one idle count. -/
theorem step_of_empty {s : State} (h : s.pending = []) : step s = .next s.idle := by
  unfold step
  rw [h]

/-- With a command waiting a step is that command on the state with the queue's rest. -/
theorem step_of_cons {s : State} {c : Instr} {rest : List Instr} (h : s.pending = c :: rest) :
    step s = exec c { s with pending := rest } := by
  unfold step
  rw [h]

/-- An idle count counts exactly where the injection node has locked and the module is not OFF. -/
theorem State.idle_eq (s : State) :
    s.idle = if s.pwr.off = false ∧ s.stageDone 0 = true then { s with time := s.time + 1 } else s := by
  unfold State.idle State.stageDone
  cases s.pwr.off <;> cases s.boot.done.getLsbD 0 <;> rfl

/-- An idle count leaves the locked configuration. -/
@[simp] theorem State.idle_lock (s : State) : s.idle.lock = s.lock := by
  unfold State.idle
  split <;> rfl

/-- An idle count that does not wrap the counter does not lower it. -/
theorem State.time_le_idle {s : State} (h : s.time.toNat + 1 < 2 ^ 64) : s.time.toNat ≤ s.idle.time.toNat := by
  unfold State.idle
  split
  · exact le_rfl
  · show s.time.toNat ≤ (s.time + 1).toNat
    rw [BitVec.toNat_add_of_lt (by simpa using h)]
    omega

/-! ## Which commands reach the device time and the locked configuration -/

/-- The resets, one by one. -/
theorem isReset_cases {c : Instr} (h : c.isReset = true) :
    (∃ env, c = .powerOnReset env) ∨ (∃ env, c = .meshLock env) ∨ (∃ ns env, c = .sysRstNReset ns env) ∨
    (∃ b env, c = .devReset b env) ∨ (∃ env, c = .bootWatchdogExpiry env) ∨ (∃ env, c = .recoveryUpdateRestart env) := by
  unfold Instr.isReset at h
  split at h <;> simp_all

/-- The commands that OFF does not stop and that are no resets change neither the device time nor the locked configuration. -/
theorem exec_special_keeps {c : Instr} {s t : State} (hc : special c = true) (hr : c.isReset = false) (h : exec c s = .next t) :
    t.time = s.time ∧ t.lock = s.lock := by
  unfold special at hc
  split at hc
  · exact nomatch hr
  · cases h
    exact ⟨rfl, rfl⟩
  · next k code =>
    change execThermalTrip k code s = .next t at h
    unfold execThermalTrip at h
    split at h
    · cases h; exact ⟨rfl, rfl⟩
    · split at h <;> cases h <;> exact ⟨rfl, rfl⟩
  · next mv us =>
    change execOvervoltageCut mv us s = .next t at h
    unfold execOvervoltageCut at h
    split at h
    · exact nomatch h
    · exact ⟨act_time rfl h, act_lock rfl h⟩
  · exact nomatch hc

/-- No command but a reset or a timed one moves the device time. -/
theorem exec_time_of_untimed {c : Instr} {s t : State} (hr : c.isReset = false) (hm : c.movesTime = false) (h : exec c s = .next t) :
    t.time = s.time := by
  cases hs : special c with
  | true => exact (exec_special_keeps hs hr h).1
  | false =>
    obtain ⟨m, f, he, hf, -⟩ | ⟨_, _, _, -, -, -, hm'⟩ := exec_acts c hs
    · exact act_time (hf hr).1 (he s ▸ h)
    · exact nomatch hm.symm.trans hm'

/-! ## A timed command moves the device time forward -/

/-- A device time is not after the later of it and another. -/
theorem le_maxTime (a b : W64) : a ≤ maxTime a b := by
  unfold maxTime
  split
  · assumption
  · exact BitVec.le_refl _

/-- A time that is kept, or moved to the later of it and another, is not lowered. -/
theorem le_ite_maxTime (p : Prop) [Decidable p] (a b : W64) : a ≤ if p then maxTime a b else a := by
  split
  · exact le_maxTime a b
  · exact BitVec.le_refl _

/-- A command with a time of its own does not lower the device time where that time is not before it. -/
theorem actAt_time_le {m : Foot} {now : State → W64} {f : State → State} {s t : State} (hn : s.time ≤ now s)
    (h : actAt m now f s = .next t) : s.time ≤ t.time := by
  rw [actAt_eq] at h
  cases h
  split
  · exact BitVec.le_refl _
  · exact hn

/-- The end of the management tick is not before the device time, where it does not wrap the counter. -/
theorem State.time_le_tickEnd {s : State} (h : s.time.toNat < 2 ^ 64 - 2 ^ 20) :
    s.time ≤ BitVec.ofNat 64 ((s.tick + 1) * 2 ^ 20) := by
  rw [BitVec.le_def, BitVec.toNat_ofNat, State.tick]
  omega

/-- A timed command does not lower the device time, where the end of the tick does not wrap it. -/
theorem exec_time_le_of_timed {c : Instr} {s t : State} (hs : s.time.toNat < 2 ^ 64 - 2 ^ 20) (hm : c.movesTime = true)
    (h : exec c s = .next t) : s.time ≤ t.time := by
  cases c
  case managementTick =>
    refine actAt_time_le ?_ (show execManagementTick s = .next t from h)
    split
    · exact State.time_le_tickEnd hs
    · exact BitVec.le_refl _
  case stepBoundary now => exact actAt_time_le (le_ite_maxTime _ _ _) (show execStepBoundary now s = .next t from h)
  case calibrationPauseEnd => exact actAt_time_le (le_ite_maxTime _ _ _) (show execCalibrationPauseEnd s = .next t from h)
  case syncStallEnd now => exact actAt_time_le (le_ite_maxTime _ _ _) (show execSyncStallEnd now s = .next t from h)
  case syncWatchdog now => exact actAt_time_le (le_ite_maxTime _ _ _) (show execSyncWatchdog now s = .next t from h)
  case pitchPoint late => exact actAt_time_le (le_ite_maxTime _ _ _) (show execPitchPoint late s = .next t from h)
  all_goals exact nomatch hm

/-- No command but a reset lowers the device time. -/
theorem exec_time_le {c : Instr} {s t : State} (hs : s.time.toNat < 2 ^ 64 - 2 ^ 20) (hr : c.isReset = false)
    (h : exec c s = .next t) : s.time ≤ t.time := by
  cases hm : c.movesTime with
  | true => exact exec_time_le_of_timed hs hm h
  | false => exact exec_time_of_untimed hr hm h ▸ BitVec.le_refl _

end Sys2Proof.Machine
end

section
/-! SUPPORT. Frames of the shared operations that start-up, a command's acceptance and register writes are built from. -/

namespace Sys2Proof.Machine

/-! ## Frames of records and memory -/

variable {m : Foot} {s t : State}

theorem Within.updPart (s : State) (p : Nat) (f : Part → Part) (hm : m.parts = true := by rfl) : Within m s (s.updPart p f) := by
  unfold Within State.only; cases s; simp [State.updPart, hm]

theorem Within.wrBytes (s : State) (a : Nat) (bs : List Byte) (hmem : m.mem = true := by rfl) (hhost : m.host = true := by rfl)
    (hpois : m.poison = true := by rfl) : Within m s (s.wrBytes a bs) := by
  unfold Within State.only State.wrBytes; cases s; split <;> simp [hmem, hhost, hpois]

/-- What is within a footprint leaves the locked configuration where that footprint does. -/
theorem Within.lock (h : Within m s t) (hm : m.lock = false := by rfl) : t.lock = s.lock :=
  h.view State.lock (fun _ _ => by simp [State.only, hm])

/-! ## A command as it arrives (R371–R376, R405–R407) -/

/-- The footprint of a command's arrival: its channel, the sending inbox's signal word, and what a tag's counter or its rejection records. -/
def arriving : Foot :=
  { nv := true, mem := true, host := true, poison := true, parts := true, fab := true, chans := true, hif := true, sec := true }

/-- Words on channels are part of an arrival. -/
theorem Within.arriving (h : Within saying s t) : Within arriving s t := by
  rw [h]; rfl

theorem State.takeIn_within (s : State) (c : Nat) : Within arriving s (s.takeIn c) := by
  unfold State.takeIn
  have hin := Within.updChan (m := Machine.arriving) s c (fun h => { h with inFull := false, inCnt := h.inCnt + 1 })
  dsimp only
  split
  · exact hin.trans (.wrBytes _ _ _)
  · split
    · exact hin.trans (.wrBytes _ _ _)
    · exact hin

theorem State.recordCounter_within (s : State) (b : CmdBlock) : Within arriving s (s.recordCounter b) := by
  unfold State.recordCounter
  split
  · split
    · exact .updPart _ _ _
    · rfl
  · exact .refl _ _

theorem State.tagRejected_within (s : State) (k : TagCheck) (c : Nat) : Within arriving s (s.tagRejected k c) := by
  refine Within.trans ?_ (State.event_within _ _ _ _).arriving
  rfl

/-- A command that arrives is rejected within the footprint of its arrival, or its own checks run on a state that its arrival alone
has changed. -/
theorem State.accept_cases (s : State) (i : CmdInfo) (sec firstLoad : Bool) (b : CmdBlock) (k : State → State) :
    Within arriving s (s.accept i sec firstLoad b k) ∨ ∃ u, Within arriving s u ∧ s.accept i sec firstLoad b k = k u := by
  have ht := s.takeIn_within b.channel
  unfold State.accept State.acceptBlock
  split
  · left
    dsimp only
    split
    · exact (ht.trans (State.sendWord_within _ _ _).arriving).trans (State.tagRejected_within _ _ _)
    · exact ht.trans (State.sendWord_within _ _ _).arriving
  · exact .inr ⟨_, ht.trans (State.recordCounter_within _ b), rfl⟩

end Sys2Proof.Machine
end

section
/-! SUPPORT. The legal values of the locked configuration, and that register writes, commits and resets keep them. -/

namespace Sys2Proof.Machine

/-! ## Legal values (R13, Table 11.9) -/

/-- A dimension of a basin (Table 11.9). -/
abbrev dimLegal (x : Nat) : Prop := 1 ≤ x ∧ x ≤ 16

theorem shapeLegal_iff (t : BitVec 33) :
    shapeLegal t = true ↔ dimLegal (topoDims t).1 ∧ dimLegal (topoDims t).2.1 ∧ dimLegal (topoDims t).2.2 := by
  simp [shapeLegal, dimLegal]

theorem Locked.legal_iff (l : Locked) :
    l.legal = true ↔ l.wSize.toNat ≤ 768 ∧ shapeLegal l.topo = true ∧ shapeLegal l.recTopo = true := by
  simp [Locked.legal, and_assoc]

/-- A legal shape may be stored in FAB_TOPO. -/
theorem Locked.legal_withTopo {l : Locked} (h : l.legal = true) {t : BitVec 33} (ht : shapeLegal t = true) :
    ({ l with topo := t } : Locked).legal = true := by
  obtain ⟨hw, -, hr⟩ := l.legal_iff.1 h
  exact (Locked.legal_iff _).2 ⟨hw, ht, hr⟩

/-- A field that holds a legal value holds one after any write. -/
theorem put_legal {f : Option Nat} {old : Nat} {ok : Nat → Bool} (h : ok old = true) : ok (put f old ok) = true := by
  unfold put
  split
  · split <;> assumption
  · exact h

/-- A field of a shape is no wider after a write. -/
theorem put_topoField_lt (t : BitVec 33) (part : Sys2Proof.Part) (v : W64) (hi lo : Nat) (ok : Nat → Bool) :
    put (field part v hi lo) (topoField t hi lo) ok < 2 ^ (hi - lo + 1) := by
  have hcut : ∀ x ∈ field part v hi lo, x < 2 ^ (hi - lo + 1) := by
    intro x hx
    have hmod : ∀ y, y % 2 ^ (hi - lo + 1) < 2 ^ (hi - lo + 1) := fun y => Nat.mod_lt _ (Nat.two_pow_pos _)
    cases part with
    | whole => cases hx; exact hmod _
    | lower =>
      obtain ⟨-, rfl⟩ : hi < 32 ∧ _ := by simpa [field] using hx
      exact hmod _
    | upper =>
      obtain ⟨-, rfl⟩ : 32 ≤ lo ∧ _ := by simpa [field] using hx
      exact hmod _
  have hold : topoField t hi lo < 2 ^ (hi - lo + 1) := Nat.mod_lt _ (Nat.two_pow_pos _)
  unfold put
  split
  · split
    · exact hcut _ (by assumption)
    · exact hold
  · exact hold

/-- The dimensions of a shape packed from its fields. -/
theorem topoDims_pack {b x y z p q r : Nat} (hx : x < 2 ^ 5) (hy : y < 2 ^ 5) (hz : z < 2 ^ 5) (hp : p < 2 ^ 4) (hq : q < 2 ^ 4)
    (hr : r < 2 ^ 4) :
    topoDims (BitVec.ofNat 33 (b * 2 ^ 29 + x * 2 ^ 24 + y * 2 ^ 19 + z * 2 ^ 14 + p * 2 ^ 10 + q * 2 ^ 6 + r * 2 ^ 2)) = (x, y, z) := by
  simp only [topoDims, topoField, BitVec.toNat_ofNat, Prod.mk.injEq]
  omega

/-- A dimension field of a shape after a write. -/
def dimAfter (t : BitVec 33) (part : Sys2Proof.Part) (v : W64) (hi lo : Nat) : Nat :=
  put (field part v hi lo) (topoField t hi lo) (fun x => decide (dimLegal x))

theorem dimLegal_dimAfter {t : BitVec 33} {hi lo : Nat} (h : dimLegal (topoField t hi lo)) (part : Sys2Proof.Part) (v : W64) :
    dimLegal (dimAfter t part v hi lo) :=
  of_decide_eq_true (put_legal (ok := fun x => decide (dimLegal x)) (decide_eq_true h))

theorem topoDims_topoWrite (t : BitVec 33) (part : Sys2Proof.Part) (v : W64) :
    topoDims (topoWrite t part v) = (dimAfter t part v 38 34, dimAfter t part v 33 29, dimAfter t part v 28 24) :=
  topoDims_pack (put_topoField_lt t part v 38 34 _) (put_topoField_lt t part v 33 29 _) (put_topoField_lt t part v 28 24 _)
    (put_topoField_lt t part v 23 20 _) (put_topoField_lt t part v 19 16 _) (put_topoField_lt t part v 15 12 _)

/-- FAB_TOPO keeps a legal shape: a dimension out of 1 to 16 is not stored. -/
theorem shapeLegal_topoWrite {t : BitVec 33} (h : shapeLegal t = true) (part : Sys2Proof.Part) (v : W64) :
    shapeLegal (topoWrite t part v) = true := by
  obtain ⟨hx, hy, hz⟩ := (shapeLegal_iff t).1 h
  rw [shapeLegal_iff, topoDims_topoWrite]
  exact ⟨dimLegal_dimAfter hx part v, dimLegal_dimAfter hy part v, dimLegal_dimAfter hz part v⟩

/-- A GCTL_WREGION.size of at most 768 is at most 768 after a write. -/
theorem wSize_le_after_put {w : BitVec 10} (h : w.toNat ≤ 768) (f : Option Nat) :
    (BitVec.ofNat 10 (put f w.toNat (fun x => decide (x ≤ 768)))).toNat ≤ 768 := by
  have hp := of_decide_eq_true (put_legal (f := f) (ok := fun x => decide (x ≤ 768)) (decide_eq_true h))
  rw [BitVec.toNat_ofNat]
  exact (Nat.mod_le _ _).trans hp

/-! ## Register writes outside the locked configuration (R466) -/

variable {s : State} (part : Sys2Proof.Part) (v : W64)

theorem State.wrBytes_lock (s : State) (a : Nat) (bs : List Byte) : (s.wrBytes a bs).lock = s.lock :=
  (Within.wrBytes (m := arriving) s a bs).lock

theorem State.fetchDescs_lock (n : W64) (fuel : Nat) (s : State) : (s.fetchDescs n fuel).lock = s.lock := by
  induction fuel generalizing s with
  | zero => rfl
  | succ fuel ih =>
    unfold State.fetchDescs
    split
    · rfl
    · exact ih _

theorem State.writeDescCfg_lock (s : State) : (s.writeDescCfg part v).lock = s.lock := by
  unfold State.writeDescCfg
  dsimp only
  split
  · rfl
  · split
    · exact State.fetchDescs_lock _ _ _
    · rfl

theorem State.writeMbx_lock (s : State) (o : Nat) : (s.writeMbx o part v).lock = s.lock := by
  simp only [State.writeMbx, apply_ite State.lock, State.updChan_lock, ite_self]

theorem State.writeSync_lock (s : State) (o : Nat) : (s.writeSync o part v).lock = s.lock := by
  simp only [State.writeSync, apply_ite State.lock, State.writeDescCfg_lock, State.updRings_lock, ite_self]

theorem State.writeSens_lock (s : State) (o : Nat) : (s.writeSens o part v).lock = s.lock := by
  simp only [State.writeSens, apply_ite State.lock, ite_self]

theorem State.writeSec_lock (s : State) (o : Nat) : (s.writeSec o part v).lock = s.lock := by
  simp only [State.writeSec, apply_ite State.lock, ite_self]

theorem State.writeVf_lock (s : State) (p o : Nat) : (s.writeVf p o part v).lock = s.lock := by
  simp only [State.writeVf, apply_ite State.lock, State.updChan_lock, State.updRings_lock, ite_self]

theorem State.writeWindow_lock (s : State) (a : Nat) : (s.writeWindow a part v).lock = s.lock := by
  simp only [State.writeWindow, apply_ite State.lock, State.wrBytes_lock, ite_self]

theorem State.align_lock (s : State) : s.align.lock = s.lock := by
  unfold State.align
  dsimp only
  repeat' split
  all_goals rfl

/-! ## Register writes of the locked configuration (R13, R452) -/

theorem State.writeGctl_legal (h : s.lock.legal = true) (o : Nat) : (s.writeGctl o part v).lock.legal = true := by
  obtain ⟨hw, ht, hr⟩ := s.lock.legal_iff.1 h
  unfold State.writeGctl
  split
  · split
    · exact h
    · exact (Locked.legal_iff _).2 ⟨wSize_le_after_put hw _, ht, hr⟩
  · split
    · exact h
    · dsimp only
      split <;> exact h

theorem State.writeStep_legal (h : s.lock.legal = true) (o : Nat) : (s.writeStep o part v).lock.legal = true := by
  unfold State.writeStep
  split <;> exact h

theorem State.writeFabOne_legal (h : s.lock.legal = true) (o : Nat) : (s.writeFabOne o part v).lock.legal = true := by
  obtain ⟨-, ht, -⟩ := s.lock.legal_iff.1 h
  unfold State.writeFabOne
  dsimp only
  split
  · split <;> exact h
  split
  · split
    · exact h
    · exact Locked.legal_withTopo h (shapeLegal_topoWrite ht part v)
  split
  · rw [State.align_lock]
    exact h
  split <;> exact h

theorem State.writeFab_legal (h : s.lock.legal = true) (o : Nat) : (s.writeFab o part v).lock.legal = true := by
  unfold State.writeFab
  split
  · exact h
  · exact h
  · exact h
  · exact h
  · exact State.writeFabOne_legal part v h o

theorem State.writePf_legal (h : s.lock.legal = true) (o : Nat) : (s.writePf o part v).lock.legal = true := by
  unfold State.writePf
  split
  · exact h
  split
  · exact State.writeGctl_legal part v h _
  split
  · exact State.writeStep_legal part v h _
  split
  · rwa [State.writeMbx_lock]
  split
  · rwa [State.writeSync_lock]
  split
  · rwa [State.writeSens_lock]
  split
  · exact State.writeFab_legal part v h _
  split
  · rwa [State.writeSec_lock]
  · exact h

end Sys2Proof.Machine
end

section
/-! SUPPORT. Commits and resets keep the locked configuration legal, and so does every step. -/

namespace Sys2Proof.Machine

variable {s t : State}

/-- What acts keeps the locked configuration legal where its effect does. -/
theorem act_legal {m : Foot} {f : State → State} (hf : (f s).lock.legal = true) (hs : s.lock.legal = true) (h : act m f s = .next t) :
    t.lock.legal = true := by
  rw [act_eq] at h
  cases h
  split
  · exact hs
  · show (bif m.lock then (f s).lock else s.lock).legal = true
    cases m.lock <;> assumption

/-! ## Register writes and commits -/

theorem execRegisterWrite_legal {fn : Func} {bar : Bar} {o : Nat} {part : Sys2Proof.Part} {v : W64} (hs : s.lock.legal = true)
    (h : execRegisterWrite fn bar o part v s = .next t) : t.lock.legal = true := by
  refine act_legal ?_ hs h
  dsimp only
  have hu : (s.unlatch (Func.key fn)).lock.legal = true := hs
  split
  · exact State.writePf_legal part v hu _
  · rwa [State.writeVf_lock]
  · rwa [State.writeWindow_lock]
  · exact hu
  · exact hu

/-- COMMIT_GLOBAL and COMMIT_STEP lock values, and change none. -/
theorem execCommitGlobal_legal (hs : s.lock.legal = true) (h : execCommitGlobal s = .next t) : t.lock.legal = true := by
  refine act_legal ?_ hs h
  dsimp only
  split <;> exact hs

theorem execCommitStep_legal (hs : s.lock.legal = true) (h : execCommitStep s = .next t) : t.lock.legal = true := by
  refine act_legal ?_ hs h
  dsimp only
  split <;> exact hs

/-- A fold of updates that leave the locked configuration leaves it. -/
theorem foldl_lock {α : Type} (g : State → α → State) (hg : ∀ s a, (g s a).lock = s.lock) (l : List α) (s : State) :
    (l.foldl g s).lock = s.lock := by
  induction l generalizing s with
  | nil => rfl
  | cons a l ih => exact (ih _).trans (hg _ _)

theorem State.trainPorts_lock (s : State) : s.trainPorts.lock = s.lock :=
  foldl_lock _ (fun _ _ => by split <;> rfl) _ _

theorem foldl_updPort_lock (g : Port → Port) (l : List Nat) (s : State) : (l.foldl (fun t n => t.updPort n g) s).lock = s.lock :=
  foldl_lock (fun t n => t.updPort n g) (fun _ _ => rfl) l s

/-- COMMIT_FABRIC records the shape of FAB_TOPO, which is legal. -/
theorem execCommitFabric_legal (hs : s.lock.legal = true) (h : execCommitFabric s = .next t) : t.lock.legal = true := by
  obtain ⟨hw, ht, -⟩ := s.lock.legal_iff.1 hs
  refine act_legal ?_ hs h
  dsimp only
  split
  · exact hs
  · split
    · rw [State.trainPorts_lock]
      exact (Locked.legal_iff _).2 ⟨hw, ht, ht⟩
    · rw [foldl_updPort_lock]
      exact (Locked.legal_iff _).2 ⟨hw, ht, ht⟩

/-! ## Resets (Table 15.4) -/

/-- A reset clears GCTL_WREGION, and FAB_TOPO takes the recorded shape. -/
theorem State.wipe_legal (hs : s.lock.legal = true) (power : Bool) (kind : BitVec 4) : (s.wipe power kind).lock.legal = true := by
  obtain ⟨-, -, hr⟩ := s.lock.legal_iff.1 hs
  exact (Locked.legal_iff _).2 ⟨Nat.zero_le _, hr, hr⟩

theorem State.loadRecords_lock (s : State) : s.loadRecords.lock = s.lock :=
  foldl_lock _ (fun t p => by split <;> [rfl; split <;> rfl]) _ _

theorem State.event_lock (s : State) (rs : List Receiver) (code : Byte) (arg : Nat) : (s.event rs code arg).lock = s.lock :=
  (State.event_within s rs code arg).lock

theorem State.bootFirmware_lock (s : State) (env : BootEnv) (hang : Bool) : (s.bootFirmware env hang).lock = s.lock := by
  simp only [State.bootFirmware, State.recover, State.finish, apply_ite State.lock, State.event_lock, State.loadRecords_lock, ite_self]

theorem State.deviceReset_legal (hs : s.lock.legal = true) (kind : BitVec 4) (env : BootEnv) (hang : Bool) :
    (s.deviceReset kind env hang).lock.legal = true := by
  rw [State.deviceReset, State.bootFirmware_lock]
  exact State.wipe_legal hs false kind

theorem State.bootRestart_legal (hs : s.lock.legal = true) (env : BootEnv) : (s.bootRestart env).lock.legal = true := by
  unfold State.bootRestart
  refine State.deviceReset_legal ?_ _ _ _
  exact hs

theorem State.romLock_lock (s : State) (env : BootEnv) : (s.romLock env).lock = s.lock :=
  State.bootFirmware_lock _ _ _

theorem execPowerOnReset_legal {env : BootEnv} (hs : s.lock.legal = true) (h : execPowerOnReset env s = .next t) :
    t.lock.legal = true := by
  unfold execPowerOnReset at h
  split at h
  · cases h
    show (if env.refclk then (s.wipe true 0).romLock env else s.wipe true 0).lock.legal = true
    split
    · rw [State.romLock_lock]
      exact State.wipe_legal hs true 0
    · exact State.wipe_legal hs true 0
  · cases h
    exact hs

theorem execMeshLock_legal {env : BootEnv} (hs : s.lock.legal = true) (h : execMeshLock env s = .next t) : t.lock.legal = true := by
  refine act_legal ?_ hs h
  dsimp only
  split
  · exact hs
  split
  · rwa [State.romLock_lock]
  split <;> exact hs

theorem execDevReset_legal {b : CmdBlock} {env : BootEnv} (hs : s.lock.legal = true) (h : execDevReset b env s = .next t) :
    t.lock.legal = true := by
  refine act_legal ?_ hs h
  obtain hw | ⟨u, hu, he⟩ := s.accept_cases ⟨0x68, true, [0, 18]⟩ false false b (fun t =>
    if b.par 0 1 = 1 then (t.result b 0x68 0).deviceReset 2 env false else t.result b 0x68 1)
  · rwa [hw.lock]
  · have hr : ∀ code, (u.result b 0x68 code).lock.legal = true := fun code => by rwa [(State.result_within u b _ code).lock, hu.lock]
    rw [he]
    split
    · exact State.deviceReset_legal (hr 0) _ _ _
    · exact hr 1

/-- Every reset keeps the locked configuration legal. -/
theorem exec_reset_legal {c : Instr} (hc : c.isReset = true) (hs : s.lock.legal = true) (h : exec c s = .next t) :
    t.lock.legal = true := by
  obtain ⟨env, rfl⟩ | ⟨env, rfl⟩ | ⟨ns, env, rfl⟩ | ⟨b, env, rfl⟩ | ⟨env, rfl⟩ | ⟨env, rfl⟩ := isReset_cases hc
  · exact execPowerOnReset_legal hs h
  · exact execMeshLock_legal hs h
  · refine act_legal ?_ hs (show execSysRstNReset ns env s = .next t from h)
    unfold State.when
    split
    · exact State.deviceReset_legal hs _ _ _
    · exact hs
  · exact execDevReset_legal hs h
  · refine act_legal ?_ hs (show execBootWatchdogExpiry env s = .next t from h)
    exact State.bootRestart_legal hs env
  · refine act_legal ?_ hs (show execRecoveryUpdateRestart env s = .next t from h)
    unfold State.when
    split
    · exact State.bootRestart_legal hs env
    · exact hs

/-- A register write and the three commits keep the locked configuration legal. -/
theorem exec_locks_legal {c : Instr} (hc : locks c = true) (hs : s.lock.legal = true) (h : exec c s = .next t) :
    t.lock.legal = true := by
  unfold locks at hc
  split at hc
  · exact execRegisterWrite_legal hs h
  · exact execCommitGlobal_legal hs h
  · exact execCommitStep_legal hs h
  · exact execCommitFabric_legal hs h
  · exact nomatch hc

/-- No other command changes the locked configuration. -/
theorem exec_lock_of_not_locks {c : Instr} (hr : c.isReset = false) (hl : locks c = false) (h : exec c s = .next t) :
    t.lock = s.lock := by
  cases hc : special c with
  | true => exact (exec_special_keeps hc hr h).2
  | false =>
    obtain ⟨m, f, he, hf, -⟩ | ⟨m, now, f, he, -, hm, -⟩ := exec_acts c hc
    · exact act_lock ((hf hr).2 hl) (he s ▸ h)
    · exact actAt_view State.lock (fun _ _ _ => by simp [State.only, hm]) (he s ▸ h)

theorem exec_legal {c : Instr} (hs : s.lock.legal = true) (h : exec c s = .next t) : t.lock.legal = true := by
  cases hr : c.isReset with
  | true => exact exec_reset_legal hr hs h
  | false =>
    cases hl : locks c with
    | true => exact exec_locks_legal hl hs h
    | false => rwa [exec_lock_of_not_locks hr hl h]

end Sys2Proof.Machine
end

section
/-! The statements of the scope settled: the empty queue, the device time, the locked configuration. -/

namespace Sys2Proof.Machine

/-- Settles O2: the step on an empty queue is `State.idle`, whose two cases are those of the statement. -/
theorem emptyQueueCountsTime : Obligations.EmptyQueueCountsTime := by
  intro s h
  rw [step_of_empty h, State.idle_eq]

/-- Settles O9: an idle count and a timed command move the time forward, and every other command but a reset leaves it. -/
theorem deviceTimeRunsForward : Obligations.DeviceTimeRunsForward := by
  refine ⟨fun s t hs hq h => ?_, fun c s t hr hm h => exec_time_of_untimed hr hm h⟩
  cases hp : s.pending with
  | nil =>
    cases (step_of_empty hp).symm.trans h
    exact State.time_le_idle (by omega)
  | cons c rest =>
    rw [step_of_cons hp] at h
    exact exec_time_le (s := { s with pending := rest }) hs (hq c rest hp) h

/-- Settles O7: an idle count leaves the locked configuration, and every command keeps it legal. -/
theorem lockedFieldsStayLegal : Obligations.LockedFieldsStayLegal := by
  intro s t hs h
  cases hp : s.pending with
  | nil =>
    cases (step_of_empty hp).symm.trans h
    rwa [State.idle_lock]
  | cons c rest =>
    rw [step_of_cons hp] at h
    exact exec_legal (s := { s with pending := rest }) hs h

end Sys2Proof.Machine
end

section
/-! The queue's front command. -/

namespace Sys2Proof.Machine

/-- Settles O1: the one queue of commands is the model's choice (log entry 1), and `step` takes its front. -/
theorem stepRunsFrontCommand : Obligations.StepRunsFrontCommand :=
  fun _ _ _ h => step_of_cons h

end Sys2Proof.Machine
end

section
/-! SUPPORT. An effect that stays within a smaller footprint than its command's, and the record of a site changed. -/

namespace Sys2Proof.Machine

variable {m M : Foot} {s t : State}

/-- A footprint that holds another keeps what that one kept. -/
theorem Within.mono (h : Within m s t)
    (hM : ∀ a b, State.only M a (State.only m a b) = State.only m a b := by intros; rfl) : Within M s t := by
  unfold Within at *
  rw [h, hM]

/-- A command whose effect stays within a footprint inside its own answers that effect, within that footprint. -/
theorem Answers.of_act_within {c : Instr} {f : State → State} {P : State → Prop} (hc : exec c s = act M f s) (hon : s.pwr.off = false)
    (hw : Within m s (f s)) (hP : P (f s))
    (hM : ∀ a b, State.only M a (State.only m a b) = State.only m a b := by intros; rfl) : Answers c s m P :=
  ⟨f s, by rw [hc, act_on hon]; exact congrArg _ (hw.mono hM).symm, hw, hP⟩

/-- The same with the effect named. -/
theorem Answers.of_act_eq {c : Instr} {f : State → State} {P : State → Prop} (hc : exec c s = act M f s) (hon : s.pwr.off = false)
    (hf : f s = t) (hw : Within m s t) (hP : P t)
    (hM : ∀ a b, State.only M a (State.only m a b) = State.only m a b := by intros; rfl) : Answers c s m P :=
  .of_act_within hc hon (hf.symm ▸ hw) (hf.symm ▸ hP) hM

/-- What is answered may be said more weakly. -/
theorem Answers.imp {c : Instr} {P Q : State → Prop} (h : Answers c s m P) (hPQ : ∀ t, P t → Q t) : Answers c s m Q := by
  obtain ⟨t, he, hw, hP⟩ := h
  exact ⟨t, he, hw, hPQ t hP⟩

/-- An effect that changes nothing answers the state itself, in OFF and out of it. -/
theorem act_of_eq_self {f : State → State} (h : f s = s) : act m f s = .next s := by
  rw [act_eq, h, ← Within.refl m s, ite_self]

theorem Within.updSite (s : State) (k : Nat) (f : SiteSt → SiteSt) (hm : m.sites = true := by rfl) : Within m s (s.updSite k f) := by
  unfold Within State.only; cases s; simp [State.updSite, hm]

end Sys2Proof.Machine
end

section
/-! SUPPORT. Array cycles: what one addition, one cycle and one operation add to the ACC24 registers of a bank, and that they keep
the shadows (R42, R47, R295). -/

namespace Sys2Proof.Machine

variable {s t u : State} {k b l : Nat}

/-! ## Residues (R295) -/

theorem mod7_add (x y : Int) : mod7 (x + y) = (mod7 x + mod7 y) % 7 := by
  unfold mod7; omega

theorem mod7_mul (x y : Int) : mod7 (x * y) = mod7 x * mod7 y % 7 := by
  unfold mod7
  have hx : ((x % 7).toNat : Int) = x % 7 := Int.toNat_of_nonneg (by omega)
  have hy : ((y % 7).toNat : Int) = y % 7 := Int.toNat_of_nonneg (by omega)
  zify [Int.emod_nonneg (x * y) (show (7 : Int) ≠ 0 by decide)]
  rw [Int.toNat_of_nonneg (by omega), hx, hy]
  exact Int.mul_emod x y 7

@[simp] theorem mod7_mod (x : Int) : mod7 x % 7 = mod7 x := by
  unfold mod7; omega

/-! ## Register keys -/

theorem key24_inj {l' c c' : Nat} (hc : c < 2048) (hc' : c' < 2048) : key24 k l b c = key24 k l' b c' ↔ l = l' ∧ c = c' := by
  unfold key24; omega

/-! ## What is added to a bank -/

/-- The registers an array cycle may change. -/
def regs24 : Foot := { acc24 := true, shadow := true }

/-- `t` is `s` with `g` added to the ACC24 registers of bank `b` of a tile, and the shadows that agreed still agreeing. -/
structure State.Gains (s t : State) (k b : Nat) (g : Nat → Nat → Int) : Prop where
  within : Within regs24 s t
  value : ∀ l < 16, ∀ j < 2048, t.a24 k l b j = s.a24 k l b j + g l j
  agree : ∀ l < 16, ∀ j < 2048, s.true24 k l b j → t.true24 k l b j
  rest : ∀ a, (∀ l < 16, ∀ j < 2048, a ≠ key24 k l b j) → t.acc24.get 0 a = s.acc24.get 0 a

theorem State.Gains.refl (s : State) (k b : Nat) : s.Gains s k b (fun _ _ => 0) :=
  ⟨.refl _ _, by simp, fun _ _ _ _ h => h, fun _ _ => rfl⟩

theorem State.Gains.trans {g h : Nat → Nat → Int} (hg : s.Gains t k b g) (hh : t.Gains u k b h) :
    s.Gains u k b (fun l j => g l j + h l j) where
  within := hg.within.trans hh.within
  value l hl j hj := by rw [hh.value l hl j hj, hg.value l hl j hj, add_assoc]
  agree l hl j hj ht := hh.agree l hl j hj (hg.agree l hl j hj ht)
  rest a ha := (hh.rest a ha).trans (hg.rest a ha)

theorem State.Gains.congr {g h : Nat → Nat → Int} (hg : s.Gains t k b g) (he : ∀ l < 16, ∀ j < 2048, g l j = h l j) : s.Gains t k b h :=
  { hg with value := fun l hl j hj => by rw [hg.value l hl j hj, he l hl j hj] }

/-- Gains of logical arrays one after the other, each of its own registers only. -/
theorem State.Gains.foldl {f : State → Nat → State} {g : Nat → Nat → Int} : ∀ {ls : List Nat} {s : State}, ls.Nodup →
    (∀ u, Within regs24 s u → ∀ l ∈ ls, (∀ j < 2048, u.a24 k l b j = s.a24 k l b j) →
      u.Gains (f u l) k b (fun l' j => if l' = l then g l j else 0)) → (∀ l ∈ ls, l < 16) →
    s.Gains (ls.foldl f s) k b (fun l j => if l ∈ ls then g l j else 0)
  | [], s, _, _, _ => by simpa using State.Gains.refl s k b
  | l :: ls, s, hn, hf, hl => by
    obtain ⟨hnot, hn⟩ := List.nodup_cons.1 hn
    have h1 := hf s (.refl _ _) l (by simp) (fun _ _ => rfl)
    have h2 := State.Gains.foldl (s := f s l) (f := f) (g := g) hn (fun u hu l' hl' hv => hf u (h1.within.trans hu) l' (by simp [hl'])
      (fun j hj => by
        have : l' ≠ l := fun e => hnot (e ▸ hl')
        rw [hv j hj, h1.value l' (hl l' (by simp [hl'])) j hj, if_neg this, add_zero]))
      (fun l' hl' => hl l' (by simp [hl']))
    refine (h1.trans h2).congr (fun l' _ j _ => ?_)
    by_cases e : l' = l
    · subst e; simp [hnot]
    · simp [e]

/-! ## One addition -/

/-- A sum within 24 bits is stored with its shadow, and no overflow is reported. -/
theorem State.add24_of_fits {key sh : Nat} {x : Int} (h : fits 24 (s.acc24.get 0 key + x)) :
    s.add24 key x sh = ({ s with
      acc24 := s.acc24.set 0 key (s.acc24.get 0 key + x)
      shadow := s.shadow.set 0 (2 * key) ((s.shadow.get 0 (2 * key) + sh) % 7) }, false) := by
  unfold State.add24
  exact if_pos h

/-- A sum within 24 bits, added with the residue of its term, is a gain of its one register. -/
theorem State.add24_gains {c sh : Nat} {x : Int} (hl : l < 16) (hc : c < 2048) (hx : sh = mod7 x)
    (h : fits 24 (s.a24 k l b c + x)) :
    (s.add24 (key24 k l b c) x sh).2 = false ∧
      s.Gains (s.add24 (key24 k l b c) x sh).1 k b (fun l' j => if l' = l ∧ j = c then x else 0) := by
  rw [State.add24_of_fits h]
  refine ⟨rfl, rfl, fun l' _ j hj => ?_, fun l' _ j hj ht => ?_, fun a ha => ?_⟩
  · show Sparse.get _ _ _ = _
    rw [Sparse.get_set]
    by_cases e : l' = l ∧ j = c
    · obtain ⟨rfl, rfl⟩ := e; simp [State.a24]
    · rw [if_neg (fun h => e ((key24_inj hj hc).1 h)), if_neg e, add_zero]; rfl
  · show mod7 (Sparse.get _ _ _) = Sparse.get _ _ _
    rw [Sparse.get_set, Sparse.get_set]
    by_cases e : l' = l ∧ j = c
    · obtain ⟨rfl, rfl⟩ := e
      rw [if_pos rfl, if_pos rfl, mod7_add, hx, ← ht]; rfl
    · have hne : key24 k l' b j ≠ key24 k l b c := fun h => e ((key24_inj hj hc).1 h)
      rw [if_neg hne, if_neg (by omega)]; exact ht
  · show Sparse.get _ _ _ = _
    rw [Sparse.get_set, if_neg (ha l hl c hc)]

/-! ## One cycle -/

/-- The step of a cycle's sum over the weights of a quarter: the partial of one column, times the plane weight, where it is not 0. -/
def addPartial (k l b : Nat) (w : Int) (u : Nat → Int) (a : State × Bool) (c : Nat) : State × Bool :=
  if u c = 0 then a
  else ((a.1.add24 (key24 k l b c) (u c * w) ((mod7 (u c) * mod7 w) % 7)).1,
    a.2 || (a.1.add24 (key24 k l b c) (u c * w) ((mod7 (u c) * mod7 w) % 7)).2)

/-- Partials summed over columns, each once and within 24 bits, are gains of these columns, without an overflow. -/
theorem State.addPartials_gains {w : Int} {u : Nat → Int} (hl : l < 16) : ∀ {cs : List Nat} {s : State}, cs.Nodup → (∀ c ∈ cs, c < 2048) →
    (∀ c ∈ cs, fits 24 (s.a24 k l b c + u c * w)) →
    ∃ t, cs.foldl (addPartial k l b w u) (s, false) = (t, false) ∧
      s.Gains t k b (fun l' j => if l' = l ∧ j ∈ cs then u j * w else 0)
  | [], s, _, _, _ => ⟨s, rfl, by simpa using State.Gains.refl s k b⟩
  | c :: cs, s, hn, hc, hf => by
    obtain ⟨hnot, hn⟩ := List.nodup_cons.1 hn
    obtain ⟨s1, e1, h1⟩ : ∃ s1, addPartial k l b w u (s, false) c = (s1, false) ∧
        s.Gains s1 k b (fun l' j => if l' = l ∧ j = c then u c * w else 0) := by
      unfold addPartial
      split
      · next h0 => exact ⟨s, rfl, by simpa [h0] using State.Gains.refl s k b⟩
      · have ⟨h2, hg⟩ := State.add24_gains hl (hc c (by simp)) (mod7_mul (u c) w).symm (hf c (by simp))
        exact ⟨_, by rw [h2]; rfl, hg⟩
    have hsum : ∀ c' ∈ cs, fits 24 (s1.a24 k l b c' + u c' * w) := fun c' hc' => by
      have hne : c' ≠ c := fun e => hnot (e ▸ hc')
      have hv := h1.value l hl c' (hc c' (by simp [hc']))
      simp only [hne, and_false, if_false, add_zero] at hv
      rw [hv]; exact hf c' (by simp [hc'])
    obtain ⟨t, e2, h2⟩ := State.addPartials_gains hl hn (fun c' hc' => hc c' (by simp [hc'])) hsum
    refine ⟨t, by rw [List.foldl_cons, e1, e2], (h1.trans h2).congr (fun l' _ j _ => ?_)⟩
    by_cases e : j = c
    · subst e; simp [hnot]
    · simp [e]

/-- The columns of a quarter at which a weight of `n` columns begins. -/
def quarterColumns (q n : Nat) : List Nat := (List.range (512 / n)).map (fun j => 512 * q + n * j)

theorem mem_quarterColumns {q fmt j : Nat} :
    j ∈ quarterColumns q (fmtCols fmt) ↔ 512 * q ≤ j ∧ j < 512 * (q + 1) ∧ j % fmtCols fmt = 0 := by
  have hn : fmtCols fmt = 1 ∨ fmtCols fmt = 2 ∨ fmtCols fmt = 4 := by unfold fmtCols; split_ifs <;> simp
  simp only [quarterColumns, List.mem_map, List.mem_range]
  constructor
  · rintro ⟨i, hi, rfl⟩
    rcases hn with h | h | h <;> rw [h] at hi ⊢ <;> omega
  · rintro ⟨h1, h2, h3⟩
    refine ⟨(j - 512 * q) / fmtCols fmt, ?_, ?_⟩ <;> rcases hn with h | h | h <;> rw [h] at h3 ⊢ <;> omega

theorem nodup_quarterColumns {q n : Nat} (hn : 0 < n) : (quarterColumns q n).Nodup :=
  List.nodup_range.map (fun a c h => by simpa [hn.ne'] using h)

/-- Without an active row every plane partial is 0. -/
theorem planePartial_no_rows (fmt k p c : Nat) : planePartial fmt (s.colCount k p []) 0 c = 0 := by
  unfold planePartial State.colCount
  split <;> simp

/-- A cycle whose counts agree with their check columns and whose sums stay within 24 bits adds to each weight of its quarter the plane
partial times the plane weight, and to no other register. -/
theorem State.arrayCycle_gains {fmt m rg q plane act : Nat} {w : Int} (hl : l < 16) (hq : q < 4) {g : Nat → Int}
    (hg : ∀ j, g j = if 512 * q ≤ j ∧ j < 512 * (q + 1) ∧ j % fmtCols fmt = 0 then
      planePartial fmt (s.colCount k ((s.site k).physOf l) (s.activeRows k act m rg plane)) (s.activeRows k act m rg plane).length j * w
      else 0)
    (ha : cycleMismatch (s.colCount k ((s.site k).physOf l) (s.activeRows k act m rg plane)) q = none)
    (hf : ∀ j < 2048, fits 24 (s.a24 k l b j + g j)) :
    s.Gains (s.arrayCycle k l fmt m rg q plane b act w) k b (fun l' j => if l' = l then g j else 0) := by
  cases hr : (s.activeRows k act m rg plane).isEmpty with
  | true =>
    have hrows := List.isEmpty_iff.1 hr
    have e : s.arrayCycle k l fmt m rg q plane b act w = s := by simp [State.arrayCycle, hrows]
    rw [e]
    refine (State.Gains.refl s k b).congr (fun l' _ j _ => ?_)
    rw [hg j, hrows]
    simp [planePartial_no_rows]
  | false =>
    have hcol : ∀ c ∈ quarterColumns q (fmtCols fmt), c < 2048 := fun c hc => by
      have := mem_quarterColumns.1 hc; omega
    obtain ⟨t, e, h⟩ := State.addPartials_gains (s := s) (k := k) (b := b) (w := w) hl
      (u := planePartial fmt (s.colCount k ((s.site k).physOf l) (s.activeRows k act m rg plane)) (s.activeRows k act m rg plane).length)
      (nodup_quarterColumns (q := q) (n := fmtCols fmt) (by unfold fmtCols; split_ifs <;> simp)) hcol
      (fun c hc => by
        have := hf c (hcol c hc)
        rwa [hg c, if_pos (mem_quarterColumns.1 hc)] at this)
    have e' : s.arrayCycle k l fmt m rg q plane b act w = t := by
      rw [quarterColumns, List.foldl_map] at e
      unfold State.arrayCycle
      simp only [hr, Bool.false_eq_true, if_false]
      erw [e, ha]
      rfl
    rw [e']
    refine h.congr (fun l' _ j _ => ?_)
    rw [hg j]
    by_cases hl' : l' = l <;> simp [hl', mem_quarterColumns]

end Sys2Proof.Machine
end

section
/-! SUPPORT. Array operations: what MAC and SWEEP add over their cycles and logical arrays (R42, R46, R47). -/

namespace Sys2Proof.Machine

variable {s t : State} {k b l : Nat} {f : ArrayField}

/-! ## The cycles of one logical array -/

/-- One cycle of an operation at a logical array, with the format, planes and banks as the state `s` before the operation gives them. -/
def State.cycleStep (s : State) (k l : Nat) (f : ArrayField) (t : State) (cy : Nat × Nat × Nat) : State :=
  match planeWeight (f.actFmt == 6) (decide (f.sign = 1) || (decide (f.sign = 2) && decide (s.kindAt k = 3))) cy.2.2 with
  | some w => t.arrayCycle k l (arrayFmt (s.scoreAt k).tafmt l) (l % 2 ^ stackLog (s.scoreAt k).tmode) cy.1 cy.2.1 cy.2.2
      (bankOf f.accBank (s.parity k)) (bankOf f.actBank (s.parity k)) w
  | none => t

theorem State.arrayCycles_eq (s : State) (k l : Nat) (f : ArrayField) (cs : List (Nat × Nat × Nat)) :
    s.arrayCycles k l f cs =
      if arrayFmt (s.scoreAt k).tafmt l = 0 ∨ !(f.lmask.getLsbD l) then s else cs.foldl (s.cycleStep k l f) s := rfl

/-- A logical array that the operation does not name, or that is disabled, gains nothing. -/
theorem State.cycleGain_of_off (h : arrayFmt (s.scoreAt k).tafmt l = 0 ∨ !(f.lmask.getLsbD l)) (c : Nat) (cy : Nat × Nat × Nat) :
    s.cycleGain k l f c cy = 0 := by
  unfold State.cycleGain
  exact if_neg (fun ⟨hm, hfmt, _⟩ => by rcases h with h | h <;> simp_all)

theorem State.cycleStep_gains {cy : Nat × Nat × Nat} (ht : Within regs24 s t) (hl : l < 16) (hb : b = bankOf f.accBank (s.parity k))
    (hon : ¬(arrayFmt (s.scoreAt k).tafmt l = 0 ∨ !(f.lmask.getLsbD l))) (hq : cy.2.1 < 4) (ha : s.cycleAgrees k l f cy)
    (hf : ∀ j < 2048, fits 24 (t.a24 k l b j + s.cycleGain k l f j cy)) :
    t.Gains (s.cycleStep k l f t cy) k b (fun l' j => if l' = l then s.cycleGain k l f j cy else 0) := by
  obtain ⟨hfmt, hm⟩ : arrayFmt (s.scoreAt k).tafmt l ≠ 0 ∧ f.lmask.getLsbD l = true := by simpa [not_or] using hon
  obtain ⟨t', rfl⟩ : ∃ t', t = State.only regs24 s t' := ⟨t, ht⟩
  unfold State.cycleStep
  split
  · next w hw =>
    rw [← hb]
    refine State.arrayCycle_gains hl hq (fun j => ?_) ha hf
    simp only [State.cycleGain, hm, hfmt, hw, ne_eq, not_false_eq_true, true_and, Option.getD_some]
    rfl
  · next hw =>
    refine (State.Gains.refl _ k b).congr (fun l' _ j _ => ?_)
    simp only [State.cycleGain, hw, Option.getD_none, mul_zero, ite_self]

/-- The cycles of a logical array add their gains in turn, where no sum on the way leaves 24 bits. -/
theorem State.cycleSteps_gains (hl : l < 16) (hb : b = bankOf f.accBank (s.parity k))
    (hon : ¬(arrayFmt (s.scoreAt k).tafmt l = 0 ∨ !(f.lmask.getLsbD l))) :
    ∀ {cs : List (Nat × Nat × Nat)} {t : State}, Within regs24 s t → (∀ cy ∈ cs, cy.2.1 < 4 ∧ s.cycleAgrees k l f cy) →
      (∀ j < 2048, ∀ n ≤ cs.length, fits 24 (t.a24 k l b j + ((cs.take n).map (s.cycleGain k l f j)).sum)) →
      t.Gains (cs.foldl (s.cycleStep k l f) t) k b (fun l' j => if l' = l then (cs.map (s.cycleGain k l f j)).sum else 0)
  | [], t, _, _, _ => by simpa using State.Gains.refl t k b
  | cy :: cs, t, ht, hc, hf => by
    obtain ⟨hq, ha⟩ := hc cy (by simp)
    have h1 := State.cycleStep_gains ht hl hb hon hq ha (fun j hj => by simpa using hf j hj 1 (by simp))
    have h2 := State.cycleSteps_gains hl hb hon (ht.trans h1.within) (fun c h => hc c (List.mem_cons_of_mem _ h)) (fun j hj n hn => by
      have hs := hf j hj (n + 1) (by simpa using hn)
      rw [h1.value l hl j hj, if_pos rfl, add_assoc]
      simpa using hs)
    refine (h1.trans h2).congr (fun l' _ j _ => ?_)
    by_cases e : l' = l <;> simp [e]

/-! ## A whole operation -/

/-- The state in which the cycles of an operation run: the run and its activation bank noted at the site. -/
theorem State.arrayOp_gains {cs : List (Nat × Nat × Nat)} (hb : b = bankOf f.accBank (s.parity k)) (hc : ∀ cy ∈ cs, cy.2.1 < 4)
    (hs : s.cyclesSound k f b cs) :
    ∃ g : SiteSt → SiteSt, (s.updSite k g).Gains (s.arrayOp k f cs) k b (fun l j => (cs.map (s.cycleGain k l f j)).sum) := by
  obtain ⟨hp, ha, hf⟩ := hs
  let act := bankOf f.actBank (s.parity k)
  let g : SiteSt → SiteSt := fun r =>
    { r with run0 := if b = 0 then act else r.run0, run1 := if b = 0 then r.run1 else act, runNow := r.runTag b }
  have hphys : ((s.updSite k g).site k).amap = (s.site k).amap := by rw [State.site_updSite]
  have hgain : ∀ l j cy, (s.updSite k g).cycleGain k l f j cy = s.cycleGain k l f j cy := fun l j cy => by
    unfold State.cycleGain SiteSt.physOf
    rw [hphys]; rfl
  have hagree : ∀ l cy, (s.updSite k g).cycleAgrees k l f cy ↔ s.cycleAgrees k l f cy := fun l cy => by
    unfold State.cycleAgrees SiteSt.physOf
    rw [hphys]; rfl
  refine ⟨g, ?_⟩
  have e : s.arrayOp k f cs = (List.range 16).foldl (fun t l => t.arrayCycles k l f cs) (s.updSite k g) := by
    unfold State.arrayOp State.readPoison
    simp only [hp, Bool.false_eq_true, if_false, ← hb]
    rfl
  rw [e]
  refine (State.Gains.foldl (g := fun l j => (cs.map (s.cycleGain k l f j)).sum) List.nodup_range (fun u hu l hl hv => ?_)
    (fun l hl => List.mem_range.1 hl)).congr (fun l hl j _ => by simp [hl])
  have hl := List.mem_range.1 hl
  have hsame : ∀ j, u.cycleGain k l f j = s.cycleGain k l f j := fun j =>
    funext fun cy => (hu.view (fun v => v.cycleGain k l f j cy) (fun _ _ => rfl)).trans (hgain l j cy)
  have hscore : u.scoreAt k = s.scoreAt k := hu.view (fun v => v.scoreAt k) (fun _ _ => rfl)
  rw [State.arrayCycles_eq]
  split
  · next hoff =>
    refine (State.Gains.refl u k b).congr (fun l' _ j _ => ?_)
    have hz : s.cycleGain k l f j = fun _ => 0 := funext (State.cycleGain_of_off (hscore ▸ hoff) j)
    simp [hz]
  · next hon =>
    have hm : f.lmask.getLsbD l = true := by simpa using (not_or.1 hon).2
    have h := State.cycleSteps_gains (s := u) (b := b) (cs := cs) hl
      (hb.trans (congrArg _ (hu.view (fun v => v.parity k) (fun _ _ => rfl)).symm)) hon (.refl _ _)
      (fun cy hcy => ⟨hc cy hcy, (hu.view (fun v => v.cycleAgrees k l f cy) (fun _ _ => rfl)).mpr ((hagree l cy).2 (ha l hl hm cy hcy))⟩)
      (fun j hj n hn => by rw [hv j hj, hsame]; exact hf l hl j hj n hn)
    exact h.congr (fun l' _ j _ => by rw [hsame])

/-- The quarters that a SWEEP's cycles name are those of the tile. -/
theorem sweepCycles_quarter (hok : arrayFieldOk 2 f = true) : ∀ cy ∈ sweepCycles f, cy.2.1 < 4 := by
  have hq : f.q.toNat < 4 := f.q.isLt
  have hpair : f.actFmt = 6 → f.q.toNat + 1 < 4 := fun h6 => by
    have hq2 : f.q = 0 ∨ f.q = 2 := by
      unfold arrayFieldOk at hok
      simp [h6] at hok
      exact hok.2.2
    rcases hq2 with h | h <;> rw [h] <;> decide
  intro cy hcy
  unfold sweepCycles at hcy
  split at hcy
  · next h6 =>
    rcases List.mem_append.1 hcy with h | h <;> obtain ⟨i, _, rfl⟩ := List.mem_map.1 h
    · exact hq
    · exact hpair h6
  · obtain ⟨i, _, rfl⟩ := List.mem_map.1 hcy
    exact hq

/-- An operation whose cycles are sound does them, and stays within the accumulators and its site. -/
theorem State.arrayOp_cyclesDone {cs : List (Nat × Nat × Nat)} (hb : b = bankOf f.accBank (s.parity k)) (hc : ∀ cy ∈ cs, cy.2.1 < 4)
    (hs : s.cyclesSound k f b cs) :
    Within { acc24 := true, shadow := true, sites := true } s (s.arrayOp k f cs) ∧ s.cyclesDone (s.arrayOp k f cs) k f b cs := by
  obtain ⟨g, h⟩ := State.arrayOp_gains hb hc hs
  have hsites : ∀ j, (s.arrayOp k f cs).site j = (s.updSite k g).site j := fun j =>
    h.within.view (fun v => v.site j) (fun _ _ => rfl)
  exact ⟨(Within.updSite s k g).trans h.within.mono, h.value, h.rest, h.agree,
    fun j hj => (hsites j).trans (State.site_updSite_ne s g hj)⟩

end Sys2Proof.Machine
end

section
/-! The statement of the array cycles settled. -/

namespace Sys2Proof.Machine

/-- Settles O41: a MAC is an array operation of one cycle, a SWEEP one of all its planes, and each adds the gains of its cycles. -/
theorem arrayCyclesAccumulate : Obligations.ArrayCyclesAccumulate := by
  intro s k b f hon hb
  refine ⟨fun hd hok hs => ?_, fun hd hok hs => ?_⟩
  · obtain ⟨hw, hP⟩ := State.arrayOp_cyclesDone hb (by simpa using f.q.isLt) hs
    exact Answers.of_act_within rfl hon (by simpa [hd, hok] using hw) (by simpa [hd, hok] using hP)
  · obtain ⟨hw, hP⟩ := State.arrayOp_cyclesDone hb (sweepCycles_quarter hok) hs
    exact Answers.of_act_within rfl hon (by simpa [hd, hok] using hw) (by simpa [hd, hok] using hP)

end Sys2Proof.Machine
end

section
/-! SUPPORT. The keys a store lists, and the accumulators of a tile: additions without an overflow, checks that agree (R54, R295, R296). -/

namespace Sys2Proof

variable {α : Type}

/-- A store lists a key. -/
def Sparse.HasKey (m : Sparse α) (a : Nat) : Prop := ∃ e ∈ m, e.1 = a

/-- An unlisted key reads as the default. -/
theorem Sparse.get_of_not_hasKey {d : α} {m : Sparse α} {a : Nat} (h : ¬m.HasKey a) : Sparse.get d m a = d :=
  by_contra fun hne => h (Sparse.listed m a hne)

/-- A dropped key reads as the default, every other key as before. -/
theorem Sparse.get_drop {d : α} (p : Nat → Bool) (m : Sparse α) (a : Nat) :
    Sparse.get d (Sparse.drop p m) a = if p a then d else Sparse.get d m a := by
  unfold Sparse.drop
  rw [Sparse.get_filter (fun b => !p b)]
  cases p a <;> rfl

theorem Sparse.mem_put {a : Nat} {v : α} {e : Nat × α} : ∀ {m : Sparse α}, e ∈ Sparse.put m a v ↔ e = (a, v) ∨ e ∈ m
  | [] => by simp [Sparse.put]
  | (k, w) :: m => by
    unfold Sparse.put
    split
    · simp
    · simp only [List.mem_cons, Sparse.mem_put (m := m)]
      exact or_left_comm

/-- A write lists or unlists its own key alone. -/
theorem Sparse.hasKey_set_of_ne [DecidableEq α] {d v : α} {m : Sparse α} {a b : Nat} (h : b ≠ a) :
    Sparse.HasKey (Sparse.set d m a v) b ↔ Sparse.HasKey m b := by
  have her : Sparse.HasKey (Sparse.erase m a) b ↔ Sparse.HasKey m b := by
    simp only [Sparse.HasKey, Sparse.erase, List.mem_filter]
    constructor
    · rintro ⟨e, ⟨he, _⟩, rfl⟩; exact ⟨e, he, rfl⟩
    · rintro ⟨e, he, rfl⟩; exact ⟨e, ⟨he, by simpa using h⟩, rfl⟩
  unfold Sparse.set
  split
  · exact her
  · rw [← her]
    simp only [Sparse.HasKey, Sparse.mem_put]
    constructor
    · rintro ⟨e, rfl | he, rfl⟩
      · exact absurd rfl h
      · exact ⟨e, he, rfl⟩
    · rintro ⟨e, he, rfl⟩; exact ⟨e, .inr he, rfl⟩

end Sys2Proof

namespace Sys2Proof.Machine

variable {s t u : State} {k b l c : Nat}

/-- No element stands twice in a list without its repetitions. -/
theorem nodup_eraseDups : ∀ cs : List Nat, cs.eraseDups.Nodup
  | [] => List.nodup_nil
  | c :: cs => by
    rw [List.eraseDups_cons]
    exact List.nodup_cons.2 ⟨by simp [List.mem_eraseDups], nodup_eraseDups _⟩
termination_by cs => cs.length
decreasing_by exact Nat.lt_succ_of_le (List.length_filter_le _ _)

/-- The columns of a block that a store lists are those whose key it has. -/
theorem mem_listed {lo : Nat} {m : Sparse Int} : c ∈ listed lo m ↔ c < 2048 ∧ m.HasKey (lo + c) := by
  simp only [listed, List.mem_map, List.mem_filter, decide_eq_true_eq, Sparse.HasKey]
  constructor
  · rintro ⟨e, ⟨he, h1, h2⟩, rfl⟩
    exact ⟨by omega, e, he, by omega⟩
  · rintro ⟨hc, e, he, h⟩
    exact ⟨e, ⟨he, by omega, by omega⟩, by omega⟩

/-! ## The registers -/

theorem key24_zero_add : key24 k l b 0 + c = key24 k l b c := by unfold key24; omega
theorem key48_zero_add : key48 k l 0 + c = key48 k l c := by unfold key48; omega

theorem key48_inj {l' c' : Nat} (hc : c < 2048) (hc' : c' < 2048) : key48 k l c = key48 k l' c' ↔ l = l' ∧ c = c' := by
  unfold key48; omega

/-- The registers that promotion, reduction and merges may change. -/
def accRegs : Foot := { acc24 := true, acc48 := true, shadow := true }

/-- The ACC48 registers with their shadows. -/
def regs48 : Foot := { acc48 := true, shadow := true }

/-- A register that agrees with its shadow passes its check (R296). -/
theorem State.checkShadow_of_agree {v : Int} {sh : Nat} (h : mod7 v = sh) : s.checkShadow k l v sh = s := if_pos h

/-- A value within 48 bits is stored with its shadow, and no overflow is reported. -/
theorem State.set48_of_fits {key sh : Nat} {v : Int} (h : fits 48 v) :
    s.set48 key v sh = ({ s with acc48 := s.acc48.set 0 key v, shadow := s.shadow.set 0 (2 * key + 1) (sh % 7) }, false) := by
  unfold State.set48
  exact if_pos h

/-- A sum within 48 bits is stored with its shadow, and no overflow is reported. -/
theorem State.add48_of_fits {key sh : Nat} {x : Int} (h : fits 48 (s.acc48.get 0 key + x)) :
    s.add48 key x sh = ({ s with
      acc48 := s.acc48.set 0 key (s.acc48.get 0 key + x)
      shadow := s.shadow.set 0 (2 * key + 1) ((s.shadow.get 0 (2 * key + 1) + sh) % 7) }, false) :=
  State.set48_of_fits h

end Sys2Proof.Machine
end

section
/-! SUPPORT. Promotion: what it makes of the registers of one column, and of those of a whole tile (R49, R52). -/

namespace Sys2Proof.Machine

variable {s t u : State} {k b l : Nat} {shift add : Bool}

/-! ## The registers of a column -/

/-- The ACC24 register of a bank and the ACC48 register of a column, each with its shadow. -/
def State.column (s : State) (k b l c : Nat) : (Int × Nat) × Int × Nat :=
  ((s.a24 k l b c, s.shadow.get 0 (2 * key24 k l b c)), s.a48 k l c, s.shadow.get 0 (2 * key48 k l c + 1))

/-- A column promoted: its ACC24, shifted where asked for, set or added into its ACC48, and cleared. -/
def promoted (shift add : Bool) (r : (Int × Nat) × Int × Nat) : (Int × Nat) × Int × Nat :=
  ((0, 0), (if add then r.2.1 else 0) + r.1.1 * (if shift then 256 else 1),
    ((if add then r.2.2 else 0) + r.1.2 * (if shift then 4 else 1)) % 7)

/-- A column that is promoted without a fault: its ACC24 agrees with its shadow, and the sum fits its ACC48. -/
def promotable (shift add : Bool) (r : (Int × Nat) × Int × Nat) : Prop :=
  mod7 r.1.1 = r.1.2 ∧ fits 48 (promoted shift add r).2.1

/-- A promoted ACC48 agrees with its shadow, where it is set, or agreed before. -/
theorem promoted_agrees {r : (Int × Nat) × Int × Nat} (h24 : mod7 r.1.1 = r.1.2) (h48 : add = true → mod7 r.2.1 = r.2.2) :
    mod7 (promoted shift add r).2.1 = (promoted shift add r).2.2 := by
  have hx : mod7 (r.1.1 * (if shift then 256 else 1)) = r.1.2 * (if shift then 4 else 1) % 7 := by
    cases shift
    · simpa [h24] using (mod7_mod r.1.1).symm.trans (by rw [h24])
    · rw [mod7_mul, h24]; rfl
  unfold promoted
  simp only
  rw [mod7_add, hx, Nat.add_mod_mod]
  cases add
  · rfl
  · simp [h48 rfl]

/-! ## What is promoted -/

/-- `t` is `s` with the columns of `D` promoted, and nothing else. -/
structure State.Promotes (s t : State) (k b : Nat) (shift add : Bool) (D : Nat → Nat → Prop) : Prop where
  within : Within accRegs s t
  moved : ∀ l < 16, ∀ c < 2048, D l c → t.column k b l c = promoted shift add (s.column k b l c)
  left : ∀ l < 16, ∀ c < 2048, ¬D l c → t.column k b l c = s.column k b l c
  keys : ∀ l < 16, ∀ c < 2048, ¬D l c → (t.acc48.HasKey (key48 k l c) ↔ s.acc48.HasKey (key48 k l c))
  rest48 : ∀ a, (∀ l < 16, ∀ c < 2048, a ≠ key48 k l c) → t.acc48.get 0 a = s.acc48.get 0 a
  rest24 : ∀ a, (∀ l < 16, ∀ c < 2048, a ≠ key24 k l b c) → t.acc24.get 0 a = s.acc24.get 0 a

theorem State.Promotes.refl (s : State) (k b : Nat) (shift add : Bool) : s.Promotes s k b shift add (fun _ _ => False) :=
  ⟨.refl _ _, fun _ _ _ _ h => h.elim, fun _ _ _ _ _ => rfl, fun _ _ _ _ _ => Iff.rfl, fun _ _ => rfl, fun _ _ => rfl⟩

/-- Columns promoted, and then others. -/
theorem State.Promotes.trans {D E : Nat → Nat → Prop} (h : s.Promotes t k b shift add D) (h' : t.Promotes u k b shift add E)
    (hd : ∀ l c, D l c → ¬E l c) : s.Promotes u k b shift add (fun l c => D l c ∨ E l c) where
  within := h.within.trans h'.within
  moved l hl c hc hde := by
    by_cases e : E l c
    · rw [h'.moved l hl c hc e, h.left l hl c hc (fun d => hd l c d e)]
    · rw [h'.left l hl c hc e, h.moved l hl c hc (hde.resolve_right e)]
  left l hl c hc hde := by
    rw [h'.left l hl c hc (fun e => hde (.inr e)), h.left l hl c hc (fun d => hde (.inl d))]
  keys l hl c hc hde := (h'.keys l hl c hc (fun e => hde (.inr e))).trans (h.keys l hl c hc (fun d => hde (.inl d)))
  rest48 a ha := (h'.rest48 a ha).trans (h.rest48 a ha)
  rest24 a ha := (h'.rest24 a ha).trans (h.rest24 a ha)

theorem State.Promotes.congr {D E : Nat → Nat → Prop} (h : s.Promotes t k b shift add D) (he : ∀ l c, D l c ↔ E l c) :
    s.Promotes t k b shift add E := by
  rwa [show E = D from funext fun l => funext fun c => propext (he l c).symm]

/-! ## One column -/

/-- One column promoted without a fault: its ACC48 written and its ACC24 cleared, with their shadows. -/
theorem State.promoteCol_eq {c : Nat} (h : promotable shift add (s.column k b l c)) :
    s.promoteCol k l b shift add c = { s with
      acc24 := s.acc24.set 0 (key24 k l b c) 0
      acc48 := s.acc48.set 0 (key48 k l c) (promoted shift add (s.column k b l c)).2.1
      shadow := (s.shadow.set 0 (2 * key48 k l c + 1) (promoted shift add (s.column k b l c)).2.2).set 0 (2 * key24 k l b c) 0 } := by
  obtain ⟨hsh, hfit⟩ := h
  have hcheck : s.checkShadow k l (s.acc24.get 0 (key24 k l b c)) (s.shadow.get 0 (2 * key24 k l b c)) = s :=
    State.checkShadow_of_agree hsh
  unfold State.promoteCol
  simp only [hcheck]
  cases add
  · have hfit' : fits 48 (if shift = true then s.acc24.get 0 (key24 k l b c) * 256 else s.acc24.get 0 (key24 k l b c)) := by
      cases shift <;> simpa [promoted, State.column, State.a24] using hfit
    rw [if_neg (by decide), State.set48_of_fits hfit']
    cases shift <;> simp [State.orFault, promoted, State.column, State.a24]
  · have hfit' : fits 48 (s.acc48.get 0 (key48 k l c) +
        if shift = true then s.acc24.get 0 (key24 k l b c) * 256 else s.acc24.get 0 (key24 k l b c)) := by
      cases shift <;> simpa [promoted, State.column, State.a24, State.a48] using hfit
    rw [if_pos rfl, State.add48_of_fits hfit']
    cases shift <;> simp [State.orFault, promoted, State.column, State.a24, State.a48]

theorem State.promoteCol_promotes {c : Nat} (hl : l < 16) (hc : c < 2048) (h : promotable shift add (s.column k b l c)) :
    s.Promotes (s.promoteCol k l b shift add c) k b shift add (fun l' c' => l' = l ∧ c' = c) := by
  rw [State.promoteCol_eq h]
  have hshadow : ∀ a, 2 * key24 k l b c ≠ 2 * a + 1 := fun a => by omega
  refine ⟨rfl, ?_, fun l' _ c' hc' hne => ?_, fun l' _ c' hc' hne => ?_, fun a ha => ?_, fun a ha => ?_⟩
  · rintro l' - c' - ⟨rfl, rfl⟩
    simp only [State.column, State.a24, State.a48, Sparse.get_set_self]
    rw [Sparse.get_set, if_neg (hshadow _).symm, Sparse.get_set_self]
    rfl
  · have h24 : key24 k l' b c' ≠ key24 k l b c := fun e => hne ((key24_inj hc' hc).1 e)
    have h48 : key48 k l' c' ≠ key48 k l c := fun e => hne ((key48_inj hc' hc).1 e)
    simp only [State.column, State.a24, State.a48, Sparse.get_set]
    rw [if_neg h24, if_neg h48, if_neg (by omega), if_neg (by omega), if_neg (by omega), if_neg (by omega)]
  · exact Sparse.hasKey_set_of_ne (α := Int) (fun e => hne ((key48_inj hc' hc).1 e))
  · exact (Sparse.get_set s.acc48 _ _ _).trans (if_neg (ha l hl c hc))
  · show Sparse.get 0 (Sparse.set 0 s.acc24 (key24 k l b c) 0) a = _
    rw [Sparse.get_set, if_neg (ha l hl c hc)]

/-! ## One logical array, and the tile -/

/-- Columns of one logical array promoted one after the other, each once. -/
theorem State.promoteCols_promotes (hl : l < 16) : ∀ {cs : List Nat} {s : State}, cs.Nodup → (∀ c ∈ cs, c < 2048) →
    (∀ c ∈ cs, promotable shift add (s.column k b l c)) →
    s.Promotes (cs.foldl (fun u c => u.promoteCol k l b shift add c) s) k b shift add (fun l' c => l' = l ∧ c ∈ cs)
  | [], s, _, _, _ => (State.Promotes.refl s k b shift add).congr (by simp)
  | c :: cs, s, hn, hc, hp => by
    obtain ⟨hnot, hn⟩ := List.nodup_cons.1 hn
    have h1 := State.promoteCol_promotes hl (hc c (by simp)) (hp c (by simp))
    have h2 := State.promoteCols_promotes hl hn (fun c' hc' => hc c' (by simp [hc'])) (fun c' hc' => by
      rw [h1.left l hl c' (hc c' (by simp [hc'])) (fun e => hnot (e.2 ▸ hc'))]
      exact hp c' (by simp [hc']))
    refine (h1.trans h2 (fun l' c' e => ?_)).congr (fun l' c' => by simp [and_or_left])
    rintro ⟨-, h⟩
    exact hnot (e.2 ▸ h)

/-- A column that holds nothing: its ACC24 reads 0 and its ACC48 is not listed. -/
def State.void (s : State) (k b l c : Nat) : Prop := s.a24 k l b c = 0 ∧ ¬s.acc48.HasKey (key48 k l c)

/-- The promotion of one logical array. -/
def State.promoteArray (s : State) (k b : Nat) (shift add : Bool) (l : Nat) : State :=
  ((listed (key24 k l b 0) s.acc24 ++ listed (key48 k l 0) s.acc48).eraseDups).foldl (fun u c => u.promoteCol k l b shift add c) s

/-- It promotes every column of its array but those that hold nothing. -/
theorem State.promoteArray_promotes (hl : l < 16) (hp : ∀ c < 2048, promotable shift add (s.column k b l c)) :
    ∃ D : Nat → Prop, s.Promotes (s.promoteArray k b shift add l) k b shift add (fun l' c => l' = l ∧ D c) ∧
      ∀ c < 2048, ¬D c → s.void k b l c := by
  have hmem : ∀ c, c ∈ (listed (key24 k l b 0) s.acc24 ++ listed (key48 k l 0) s.acc48).eraseDups ↔
      c < 2048 ∧ (s.acc24.HasKey (key24 k l b c) ∨ s.acc48.HasKey (key48 k l c)) := fun c => by
    rw [List.mem_eraseDups, List.mem_append, mem_listed, mem_listed, key24_zero_add, key48_zero_add, and_or_left]
  refine ⟨_, State.promoteCols_promotes hl (nodup_eraseDups _) (fun c hc => ((hmem c).1 hc).1)
    (fun c hc => hp c ((hmem c).1 hc).1), fun c hc hn => ?_⟩
  have hno := not_or.1 (fun h => hn ((hmem c).2 ⟨hc, h⟩))
  exact ⟨Sparse.get_of_not_hasKey hno.1, hno.2⟩

/-- The promotion of logical arrays one after the other. -/
theorem State.promoteArrays_promotes : ∀ {ls : List Nat} {s : State}, ls.Nodup → (∀ l ∈ ls, l < 16) →
    (∀ l ∈ ls, ∀ c < 2048, promotable shift add (s.column k b l c)) →
    ∃ D : Nat → Nat → Prop, s.Promotes (ls.foldl (fun t l => t.promoteArray k b shift add l) s) k b shift add D ∧
      (∀ l c, D l c → l ∈ ls) ∧ (∀ l ∈ ls, ∀ c < 2048, ¬D l c → s.void k b l c)
  | [], s, _, _, _ => ⟨_, State.Promotes.refl s k b shift add, by simp, by simp⟩
  | l :: ls, s, hn, hls, hp => by
    obtain ⟨hnot, hn⟩ := List.nodup_cons.1 hn
    have hl := hls l (by simp)
    obtain ⟨D, h1, hD⟩ := State.promoteArray_promotes hl (hp l (by simp))
    have hother : ∀ l' ∈ ls, ∀ c, ¬(l' = l ∧ D c) := fun l' hl' c e => hnot (e.1 ▸ hl')
    obtain ⟨E, h2, hE, hvoid⟩ := State.promoteArrays_promotes (s := s.promoteArray k b shift add l) hn
      (fun l' hl' => hls l' (by simp [hl'])) (fun l' hl' c hc => by
        rw [h1.left l' (hls l' (by simp [hl'])) c hc (hother l' hl' c)]
        exact hp l' (by simp [hl']) c hc)
    refine ⟨_, h1.trans h2 (fun l' c d e => hother l' (hE l' c e) c d), ?_, fun l' hl' c hc hne => ?_⟩
    · rintro l' c (⟨rfl, -⟩ | e)
      · simp
      · simp [hE l' c e]
    · obtain ⟨hd, he⟩ := not_or.1 hne
      rcases List.mem_cons.1 hl' with rfl | hl'
      · exact hD c hc (fun d => hd ⟨rfl, d⟩)
      · obtain ⟨h24, h48⟩ := hvoid l' hl' c hc he
        have hl16 := hls l' (by simp [hl'])
        have hcol : (State.promoteArray s k b shift add l).a24 k l' b c = s.a24 k l' b c :=
          congrArg (fun r => r.1.1) (h1.left l' hl16 c hc hd)
        exact ⟨hcol ▸ h24, fun hk => h48 ((h1.keys l' hl16 c hc hd).2 hk)⟩

end Sys2Proof.Machine
end

section
/-! SUPPORT. PROMOTE over a tile (R49, R52). -/

namespace Sys2Proof.Machine

variable {s t u : State} {k b : Nat} {shift add : Bool}

/-- `t` is `s` with every column of a tile promoted from bank `b`; an ACC48 that `t` lists agrees with its shadow, where it was set or
agreed before. -/
structure State.TilePromoted (s t : State) (k b : Nat) (shift add : Bool) : Prop where
  within : Within { acc24 := true, acc48 := true, shadow := true, sites := true } s t
  value48 : ∀ l < 16, ∀ c < 2048, t.a48 k l c = (promoted shift add (s.column k b l c)).2.1
  value24 : ∀ l < 16, ∀ c < 2048, t.a24 k l b c = 0
  agree : ∀ l < 16, ∀ c < 2048, s.true48 k l c → t.true48 k l c
  listed : ∀ l < 16, ∀ c < 2048, (add = true → s.true48 k l c) → t.acc48.HasKey (key48 k l c) → t.true48 k l c
  rest48 : ∀ a, (∀ l < 16, ∀ c < 2048, a ≠ key48 k l c) → t.acc48.get 0 a = s.acc48.get 0 a
  rest24 : ∀ a, (∀ l < 16, ∀ c < 2048, a ≠ key24 k l b c) → t.acc24.get 0 a = s.acc24.get 0 a
  sites : ∀ j, j ≠ k → t.site j = s.site j

/-- The columns of a tile promoted, all but those that hold nothing, and its site's record changed, are the tile promoted. -/
theorem State.Promotes.tile {D : Nat → Nat → Prop} {g h : SiteSt → SiteSt} (hu : (s.updSite k g).Promotes u k b shift add D)
    (hp : ∀ l < 16, ∀ c < 2048, promotable shift add (s.column k b l c)) (hvoid : ∀ l < 16, ∀ c < 2048, ¬D l c → s.void k b l c) :
    s.TilePromoted (u.updSite k h) k b shift add := by
  have hzero : ∀ l < 16, ∀ c < 2048, ¬D l c → s.a24 k l b c = 0 ∧ s.a48 k l c = 0 := fun l hl c hc hd =>
    ⟨(hvoid l hl c hc hd).1, Sparse.get_of_not_hasKey (hvoid l hl c hc hd).2⟩
  have hmoved : ∀ l < 16, ∀ c < 2048, D l c → u.column k b l c = promoted shift add (s.column k b l c) := hu.moved
  have hleft : ∀ l < 16, ∀ c < 2048, ¬D l c → u.column k b l c = s.column k b l c := hu.left
  have htrue : ∀ l < 16, ∀ c < 2048, D l c → (add = true → s.true48 k l c) → u.true48 k l c := fun l hl c hc hd h48 => by
    show mod7 (u.column k b l c).2.1 = (u.column k b l c).2.2
    rw [hmoved l hl c hc hd]
    exact promoted_agrees (hp l hl c hc).1 h48
  refine ⟨(Within.updSite s k g).trans (hu.within.mono.trans (.updSite u k h)), fun l hl c hc => ?_, fun l hl c hc => ?_,
    fun l hl c hc h48 => ?_, fun l hl c hc h48 hk => ?_, hu.rest48, hu.rest24, fun j hj => ?_⟩
  · by_cases hd : D l c
    · exact congrArg (fun r => r.2.1) (hmoved l hl c hc hd)
    · obtain ⟨h24, h48⟩ := hzero l hl c hc hd
      refine (congrArg (fun r => r.2.1) (hleft l hl c hc hd)).trans ?_
      simp [promoted, State.column, h24, h48]
  · by_cases hd : D l c
    · exact congrArg (fun r => r.1.1) (hmoved l hl c hc hd)
    · exact (congrArg (fun r => r.1.1) (hleft l hl c hc hd)).trans (hzero l hl c hc hd).1
  · by_cases hd : D l c
    · exact htrue l hl c hc hd (fun _ => h48)
    · show mod7 (u.column k b l c).2.1 = (u.column k b l c).2.2
      rw [hleft l hl c hc hd]; exact h48
  · by_cases hd : D l c
    · exact htrue l hl c hc hd h48
    · exact absurd ((hu.keys l hl c hc hd).1 hk) (hvoid l hl c hc hd).2
  · rw [State.site_updSite_ne _ _ hj]
    exact (hu.within.view (fun v => v.site j) (fun _ _ => rfl)).trans (State.site_updSite_ne s g hj)

theorem State.promoteTile_promoted (hp : ∀ l < 16, ∀ c < 2048, promotable shift add (s.column k b l c)) :
    s.TilePromoted (s.promoteTile k b shift add) k b shift add := by
  obtain ⟨D, h, -, hvoid⟩ := State.promoteArrays_promotes (s := s.updSite k (fun r => { r with runNow := r.runTag b })) (k := k) (b := b)
    (shift := shift) (add := add) (ls := List.range 16) List.nodup_range (fun l hl => List.mem_range.1 hl)
    (fun l hl => hp l (List.mem_range.1 hl))
  exact h.tile hp (fun l hl => hvoid l (List.mem_range.2 hl))

end Sys2Proof.Machine
end

section
/-! SUPPORT. Reduction: the members of a stack group added into its first (R59, R92). -/

namespace Sys2Proof.Machine

variable {s t u : State} {k n : Nat}

/-! ## What is added to the first members -/

/-- A logical array is the first of a stack group of `n`. -/
def isFirst (n l : Nat) : Prop := ∃ g < 16 / n, l = g * n

theorem member_lt {g m : Nat} (hg : g < 16 / n) (hm : m < n) : g * n + m < 16 := by
  have h1 : (g + 1) * n ≤ 16 / n * n := Nat.mul_le_mul_right n hg
  have h2 : 16 / n * n ≤ 16 := Nat.div_mul_le_self 16 n
  rw [Nat.succ_mul] at h1
  omega

theorem not_isFirst_of_mod {l : Nat} (h : l % n ≠ 0) : ¬isFirst n l := by
  rintro ⟨g, -, rfl⟩
  exact h (Nat.mul_mod_left g n)

theorem not_isFirst_member {g m : Nat} (hm : m + 1 < n) : ¬isFirst n (g * n + m + 1) :=
  not_isFirst_of_mod (by rw [add_assoc, Nat.mul_add_mod', Nat.mod_eq_of_lt hm]; omega)

/-- `t` is `s` with `g` added to the ACC48 of the first members of a tile's stack groups, and no other register changed. -/
structure State.Reduces (s t : State) (k n : Nat) (g : Nat → Nat → Int) : Prop where
  within : Within regs48 s t
  value : ∀ l < 16, ∀ c < 2048, t.a48 k l c = s.a48 k l c + g l c
  rest : ∀ a, (∀ l, isFirst n l → ∀ c < 2048, a ≠ key48 k l c) → t.acc48.get 0 a = s.acc48.get 0 a ∧
    t.shadow.get 0 (2 * a + 1) = s.shadow.get 0 (2 * a + 1) ∧ (t.acc48.HasKey a ↔ s.acc48.HasKey a)

theorem State.Reduces.refl (s : State) (k n : Nat) : s.Reduces s k n (fun _ _ => 0) :=
  ⟨.refl _ _, by simp, fun _ _ => ⟨rfl, rfl, Iff.rfl⟩⟩

theorem State.Reduces.trans {g h : Nat → Nat → Int} (hg : s.Reduces t k n g) (hh : t.Reduces u k n h) :
    s.Reduces u k n (fun l c => g l c + h l c) where
  within := hg.within.trans hh.within
  value l hl c hc := by rw [hh.value l hl c hc, hg.value l hl c hc, add_assoc]
  rest a ha := by
    obtain ⟨h1, h2, h3⟩ := hg.rest a ha
    obtain ⟨h1', h2', h3'⟩ := hh.rest a ha
    exact ⟨h1'.trans h1, h2'.trans h2, h3'.trans h3⟩

theorem State.Reduces.congr {g h : Nat → Nat → Int} (hg : s.Reduces t k n g) (he : ∀ l < 16, ∀ c < 2048, g l c = h l c) :
    s.Reduces t k n h :=
  { hg with value := fun l hl c hc => by rw [hg.value l hl c hc, he l hl c hc] }

/-- A register of a later member is left. -/
theorem State.Reduces.member {g : Nat → Nat → Int} {l c : Nat} (h : s.Reduces t k n g) (hl : ¬isFirst n l) (hc : c < 2048) :
    t.a48 k l c = s.a48 k l c ∧ (t.true48 k l c ↔ s.true48 k l c) ∧ (t.acc48.HasKey (key48 k l c) ↔ s.acc48.HasKey (key48 k l c)) := by
  obtain ⟨h1, h2, h3⟩ := h.rest (key48 k l c) (fun l' hl' c' hc' e => hl (((key48_inj hc hc').1 e).1 ▸ hl'))
  refine ⟨h1, ?_, h3⟩
  unfold State.true48 State.a48
  rw [h1, h2]

/-! ## One member -/

/-- One register of a member added into that of the first. -/
def addMember (k l dst : Nat) (s : State) (c : Nat) : State :=
  State.orFault ((s.checkShadow k l (s.acc48.get 0 (key48 k l c)) (s.shadow.get 0 (2 * key48 k l c + 1))).add48 (key48 k dst c)
    (s.acc48.get 0 (key48 k l c)) (s.shadow.get 0 (2 * key48 k l c + 1))) k dst

theorem addMember_reduces {l dst c : Nat} (hd : isFirst n dst) (hc : c < 2048) (ht : s.true48 k l c)
    (hf : fits 48 (s.a48 k dst c + s.a48 k l c)) :
    s.Reduces (addMember k l dst s c) k n (fun l' c' => if l' = dst ∧ c' = c then s.a48 k l c else 0) := by
  have e : addMember k l dst s c = { s with
      acc48 := s.acc48.set 0 (key48 k dst c) (s.a48 k dst c + s.a48 k l c)
      shadow := s.shadow.set 0 (2 * key48 k dst c + 1)
        ((s.shadow.get 0 (2 * key48 k dst c + 1) + s.shadow.get 0 (2 * key48 k l c + 1)) % 7) } := by
    have hcheck : s.checkShadow k l (s.acc48.get 0 (key48 k l c)) (s.shadow.get 0 (2 * key48 k l c + 1)) = s :=
      State.checkShadow_of_agree ht
    unfold addMember
    rw [hcheck, State.add48_of_fits (x := s.acc48.get 0 (key48 k l c)) hf]
    rfl
  rw [e]
  refine ⟨rfl, fun l' _ c' hc' => ?_, fun a ha => ?_⟩
  · show Sparse.get _ _ _ = _
    rw [Sparse.get_set]
    by_cases h : l' = dst ∧ c' = c
    · obtain ⟨rfl, rfl⟩ := h; simp
    · rw [if_neg (fun e => h ((key48_inj hc' hc).1 e)), if_neg h, add_zero]; rfl
  · have hne := ha dst hd c hc
    refine ⟨?_, ?_, Sparse.hasKey_set_of_ne (α := Int) hne⟩
    · show Sparse.get _ _ _ = _
      rw [Sparse.get_set, if_neg hne]
    · show Sparse.get _ _ _ = _
      rw [Sparse.get_set, if_neg (by omega)]

/-- Registers of a later member added into the first one after the other, each once. -/
theorem addMembers_reduces {l dst : Nat} (hl : l < 16) (hd16 : dst < 16) (hd : isFirst n dst) (hn : ¬isFirst n l) :
    ∀ {cs : List Nat} {s : State}, cs.Nodup → (∀ c ∈ cs, c < 2048) → (∀ c ∈ cs, s.true48 k l c) →
      (∀ c ∈ cs, fits 48 (s.a48 k dst c + s.a48 k l c)) →
      s.Reduces (cs.foldl (addMember k l dst) s) k n (fun l' c => if l' = dst ∧ c ∈ cs then s.a48 k l c else 0)
  | [], s, _, _, _, _ => (State.Reduces.refl s k n).congr (by simp)
  | c :: cs, s, hnd, hc, ht, hf => by
    obtain ⟨hnot, hnd⟩ := List.nodup_cons.1 hnd
    have h1 := addMember_reduces (k := k) hd (hc c (by simp)) (ht c (by simp)) (hf c (by simp))
    have hsrc : ∀ c' < 2048, _ := fun c' hc' => h1.member hn hc'
    have h2 := addMembers_reduces (s := addMember k l dst s c) hl hd16 hd hn hnd (fun c' h => hc c' (by simp [h]))
      (fun c' h => (hsrc c' (hc c' (by simp [h]))).2.1.2 (ht c' (by simp [h])))
      (fun c' h => by
        have hne : c' ≠ c := fun e => hnot (e ▸ h)
        rw [h1.value dst hd16 c' (hc c' (by simp [h])), (hsrc c' (hc c' (by simp [h]))).1]
        simpa [hne] using hf c' (by simp [h]))
    refine (h1.trans h2).congr (fun l' _ c' hc' => ?_)
    by_cases e : c' = c
    · subst e; simp [hnot]
    · simp [e, (hsrc c' hc').1]

/-- One later member of a stack group added into the first. -/
def State.addArray (s : State) (k l dst : Nat) : State := (listed (key48 k l 0) s.acc48).eraseDups.foldl (addMember k l dst) s

/-- A member whose listed registers agree with their shadows is added whole, where no sum leaves 48 bits. -/
theorem State.addArray_reduces {l dst : Nat} (hl : l < 16) (hd16 : dst < 16) (hd : isFirst n dst) (hn : ¬isFirst n l)
    (ht : ∀ c < 2048, s.acc48.HasKey (key48 k l c) → s.true48 k l c) (hf : ∀ c < 2048, fits 48 (s.a48 k dst c + s.a48 k l c)) :
    s.Reduces (s.addArray k l dst) k n (fun l' c => if l' = dst then s.a48 k l c else 0) := by
  have hmem : ∀ c, c ∈ (listed (key48 k l 0) s.acc48).eraseDups ↔ c < 2048 ∧ s.acc48.HasKey (key48 k l c) := fun c => by
    rw [List.mem_eraseDups, mem_listed, key48_zero_add]
  refine (addMembers_reduces (k := k) (s := s) hl hd16 hd hn (nodup_eraseDups _) (fun c h => ((hmem c).1 h).1)
    (fun c h => ht c ((hmem c).1 h).1 ((hmem c).1 h).2) (fun c h => hf c ((hmem c).1 h).1)).congr (fun l' _ c hc => ?_)
  by_cases hk : c ∈ (listed (key48 k l 0) s.acc48).eraseDups
  · simp [hk]
  · have hz : s.a48 k l c = 0 := Sparse.get_of_not_hasKey (fun h => hk ((hmem c).2 ⟨hc, h⟩))
    simp [hz]

/-! ## A stack group, and the tile -/

/-- The later members of stack group `g` added into the first. -/
def State.reduceGroup (s : State) (k n g : Nat) : State :=
  (List.range (n - 1)).foldl (fun u m => u.addArray k (g * n + m + 1) (g * n)) s

/-- The sum of the ACC48 of the first `i` members of a stack group. -/
def State.memberSum (s : State) (k n g i c : Nat) : Int := ((List.range i).map (fun m => s.a48 k (g * n + m) c)).sum

theorem State.memberSum_succ (g i c : Nat) : s.memberSum k n g (i + 1) c = s.memberSum k n g i c + s.a48 k (g * n + i) c := by
  simp [State.memberSum, List.range_succ]

/-- A stack group is fit to be reduced: what its later members list agrees with the shadows, and no sum on the way leaves 48 bits. -/
structure State.Reducible (s : State) (k n g : Nat) : Prop where
  agree : ∀ m, m + 1 < n → ∀ c < 2048, s.acc48.HasKey (key48 k (g * n + m + 1) c) → s.true48 k (g * n + m + 1) c
  sums : ∀ c < 2048, ∀ i ≤ n, fits 48 (s.memberSum k n g i c)

/-- The first `m` later members added. -/
theorem State.addArrays_reduces {g : Nat} (hs : s.Reducible k n g) (hg : g < 16 / n) : ∀ m < n,
    s.Reduces ((List.range m).foldl (fun u m => u.addArray k (g * n + m + 1) (g * n)) s) k n
      (fun l c => if l = g * n then s.memberSum k n g (m + 1) c - s.a48 k (g * n) c else 0)
  | 0, _ => (State.Reduces.refl s k n).congr (by simp [State.memberSum])
  | m + 1, hm => by
    have ih := State.addArrays_reduces hs hg m (by omega)
    have hl : g * n + m + 1 < 16 := member_lt hg hm
    have hd16 : g * n < 16 := by omega
    have hn : ¬isFirst n (g * n + m + 1) := not_isFirst_member hm
    have hsrc : ∀ c < 2048, _ := fun c hc => ih.member hn hc
    have h := State.addArray_reduces (k := k) hl hd16 ⟨g, hg, rfl⟩ hn
      (fun c hc hk => (hsrc c hc).2.1.2 (hs.agree m hm c hc ((hsrc c hc).2.2.1 hk)))
      (fun c hc => by
        have hsum := hs.sums c hc (m + 1 + 1) (by omega)
        rw [State.memberSum_succ, ← add_assoc (g * n) m 1] at hsum
        rwa [ih.value _ hd16 c hc, (hsrc c hc).1, if_pos rfl, add_sub_cancel])
    rw [List.range_succ, List.foldl_append]
    refine (ih.trans h).congr (fun l _ c hc => ?_)
    by_cases e : l = g * n
    · simp only [e, if_true, (hsrc c hc).1, State.memberSum_succ g (m + 1) c, ← add_assoc (g * n) m 1]; ring
    · simp [e]

/-- A whole stack group reduced. -/
theorem State.reduceGroup_reduces {g : Nat} (hs : s.Reducible k n g) (hg : g < 16 / n) (hn : 0 < n) :
    s.Reduces (s.reduceGroup k n g) k n (fun l c => if l = g * n then s.memberSum k n g n c - s.a48 k (g * n) c else 0) := by
  have h := State.addArrays_reduces hs hg (n - 1) (by omega)
  rwa [Nat.sub_add_cancel hn] at h

/-- The first `i` stack groups reduced. -/
theorem State.reduceGroups_reduces (hs : ∀ g < 16 / n, s.Reducible k n g) (hn : 0 < n) : ∀ i ≤ 16 / n,
    s.Reduces ((List.range i).foldl (fun u g => u.reduceGroup k n g) s) k n
      (fun l c => if l % n = 0 ∧ l / n < i then s.memberSum k n (l / n) n c - s.a48 k l c else 0)
  | 0, _ => (State.Reduces.refl s k n).congr (by simp)
  | i + 1, hi => by
    have ih := State.reduceGroups_reduces hs hn i (by omega)
    rw [List.range_succ, List.foldl_append]
    generalize (List.range i).foldl (fun u g => u.reduceGroup k n g) s = t at ih
    have hdiv : ∀ m < n, (i * n + m) / n = i := fun m hm => by
      rw [Nat.mul_comm, Nat.mul_add_div hn, Nat.div_eq_of_lt hm, add_zero]
    have hval : ∀ m < n, ∀ c < 2048, t.a48 k (i * n + m) c = s.a48 k (i * n + m) c := fun m hm c hc => by
      rw [ih.value _ (member_lt hi hm) c hc, hdiv m hm, if_neg (fun h => lt_irrefl i h.2), add_zero]
    have hsum : ∀ j ≤ n, ∀ c < 2048, t.memberSum k n i j c = s.memberSum k n i j c := fun j hj c hc =>
      congrArg List.sum (List.map_congr_left (fun m hm => hval m (lt_of_lt_of_le (List.mem_range.1 hm) hj) c hc))
    have hfit : t.Reducible k n i := by
      refine ⟨fun m hm c hc hk => ?_, fun c hc j hj => hsum j hj c hc ▸ (hs i hi).sums c hc j hj⟩
      obtain ⟨-, htrue, hkey⟩ := ih.member (not_isFirst_member (g := i) hm) hc
      exact htrue.2 ((hs i hi).agree m hm c hc (hkey.1 hk))
    refine (ih.trans (State.reduceGroup_reduces hfit hi hn)).congr (fun l _ c hc => ?_)
    by_cases e : l = i * n
    · subst e
      have h0 := hval 0 hn c hc
      rw [add_zero] at h0
      simp [Nat.mul_div_cancel i hn, hsum n le_rfl c hc, h0]
    · have hlt : l % n = 0 ∧ l / n < i ↔ l % n = 0 ∧ l / n < i + 1 := by
        refine and_congr_right (fun h => ⟨fun h' => by omega, fun h' => ?_⟩)
        have : l / n ≠ i := fun h' => e (by rw [← h', Nat.div_mul_cancel (Nat.dvd_of_mod_eq_zero h)])
        omega
      simp [e, hlt]

theorem State.reduceTile_eq (s : State) (k : Nat) : s.reduceTile k =
    (List.range (16 / 2 ^ stackLog (s.scoreAt k).tmode)).foldl (fun u g => u.reduceGroup k (2 ^ stackLog (s.scoreAt k).tmode) g) s := rfl

/-- REDUCE leaves in the first member of each stack group the sum of its members, and every other register as it was. -/
theorem State.reduceTile_sums (hn : n = 2 ^ stackLog (s.scoreAt k).tmode) (hs : ∀ g < 16 / n, s.Reducible k n g) :
    Within regs48 s (s.reduceTile k) ∧
    (∀ g < 16 / n, ∀ c < 2048, (s.reduceTile k).a48 k (g * n) c = s.memberSum k n g n c) ∧
    (∀ a, (∀ g < 16 / n, ∀ c < 2048, a ≠ key48 k (g * n) c) → (s.reduceTile k).acc48.get 0 a = s.acc48.get 0 a) := by
  have hpos : 0 < n := hn ▸ Nat.two_pow_pos _
  rw [State.reduceTile_eq, ← hn]
  have h := State.reduceGroups_reduces hs hpos (16 / n) le_rfl
  refine ⟨h.within, fun g hg c hc => ?_, fun a ha => (h.rest a ?_).1⟩
  · have hl : g * n < 16 := member_lt hg hpos
    rw [h.value _ hl c hc, Nat.mul_mod_left, Nat.mul_div_cancel g hpos, if_pos ⟨rfl, hg⟩, add_sub_cancel]
  · rintro l ⟨g, hg, rfl⟩ c hc
    exact ha g hg c hc

end Sys2Proof.Machine
end

section
/-! SUPPORT. CLEAR, and which effect each accumulator command has (R49, R59, R149). -/

namespace Sys2Proof.Machine

variable {s : State} {k b : Nat} {f : AccField} {shift add : Bool}

/-! ## The effects -/

theorem exec_promote (k : Nat) (f : AccField) (s : State) : exec (.promote k f) s = execPromote k f s := rfl
theorem exec_promoteReduce (k : Nat) (f : AccField) (s : State) : exec (.promoteReduce k f) s = execPromoteReduce k f s := rfl
theorem exec_reduce (k : Nat) (f : AccField) (s : State) : exec (.reduce k f) s = execReduce k f s := rfl
theorem exec_clear (k : Nat) (f : AccField) (s : State) : exec (.clear k f) s = execClear k f s := rfl

/-- A reserved mode promotes nothing. -/
theorem promote_reserved (hm : promoteMode f (s.kindAt k) = none) :
    exec (.promote k f) s = .next s ∧ exec (.promoteReduce k f) s = .next s := by
  rw [exec_promote, exec_promoteReduce]
  exact ⟨act_of_eq_self (by simp [hm]), act_of_eq_self (by simp [hm])⟩

/-! ## REDUCE of a promoted tile -/

/-- A promoted tile is reducible, where what was added to agreed and no sum of promoted members leaves 48 bits. -/
theorem State.TilePromoted.reducible {t : State} {n : Nat} {x : Nat → Nat → Int} (h : s.TilePromoted t k b shift add)
    (hx : ∀ l < 16, ∀ c < 2048, t.a48 k l c = x l c) (h48 : add = true → ∀ l < 16, ∀ c < 2048, s.true48 k l c)
    (hsum : ∀ g < 16 / n, ∀ c < 2048, ∀ i ≤ n, fits 48 (((List.range i).map (fun m => x (g * n + m) c)).sum)) {g : Nat}
    (hg : g < 16 / n) : t.Reducible k n g ∧ ∀ c < 2048, t.memberSum k n g n c = ((List.range n).map (fun m => x (g * n + m) c)).sum := by
  have hs : ∀ c < 2048, ∀ i ≤ n, t.memberSum k n g i c = ((List.range i).map (fun m => x (g * n + m) c)).sum := fun c hc i hi =>
    congrArg List.sum (List.map_congr_left (fun m hm => hx _ (member_lt hg (lt_of_lt_of_le (List.mem_range.1 hm) hi)) c hc))
  exact ⟨⟨fun m hm c hc hk => h.listed _ (member_lt hg hm) c hc (fun ha => h48 ha _ (member_lt hg hm) c hc) hk,
    fun c hc i hi => hs c hc i hi ▸ hsum g hg c hc i hi⟩, fun c hc => hs c hc n le_rfl⟩

/-! ## CLEAR -/

/-- Whether a number is the key of an ACC48 register of a tile. -/
def isKey48 (k a : Nat) : Bool := decide (key48 k 0 0 ≤ a ∧ a < key48 k 0 0 + 16 * 2048)

theorem isKey48_iff {a : Nat} : isKey48 k a = true ↔ ∃ l < 16, ∃ c < 2048, a = key48 k l c := by
  unfold isKey48 key48
  rw [decide_eq_true_eq]
  constructor
  · rintro ⟨h1, h2⟩
    exact ⟨(a - k * 16 * 2048) / 2048, by omega, a % 2048, by omega, by omega⟩
  · rintro ⟨l, hl, c, hc, rfl⟩
    omega

/-- The ACC48 of a tile cleared with their shadows. -/
def State.clearTile (s : State) (k : Nat) : State :=
  { s with
    acc48 := s.acc48.drop (isKey48 k)
    shadow := s.shadow.drop (fun a => decide (a % 2 = 1) && isKey48 k (a / 2)) }

theorem State.clearTile_registers {l c : Nat} (hl : l < 16) (hc : c < 2048) :
    (s.clearTile k).a48 k l c = 0 ∧ (s.clearTile k).true48 k l c := by
  have hk : isKey48 k (key48 k l c) = true := isKey48_iff.2 ⟨l, hl, c, hc, rfl⟩
  have h0 : (s.clearTile k).a48 k l c = 0 := (Sparse.get_drop _ _ _).trans (if_pos hk)
  have hdiv : (2 * key48 k l c + 1) / 2 = key48 k l c := by omega
  have hodd : (2 * key48 k l c + 1) % 2 = 1 := by omega
  have hs : (s.clearTile k).shadow.get 0 (2 * key48 k l c + 1) = 0 :=
    (Sparse.get_drop (fun a => decide (a % 2 = 1) && isKey48 k (a / 2)) s.shadow _).trans
      (if_pos (by simp only [hdiv, hodd, hk, decide_true, Bool.and_self]))
  exact ⟨h0, by unfold State.true48; rw [h0, hs]; rfl⟩

theorem State.clearTile_rest {a : Nat} (ha : ∀ l < 16, ∀ c < 2048, a ≠ key48 k l c) :
    (s.clearTile k).acc48.get 0 a = s.acc48.get 0 a := by
  refine (Sparse.get_drop _ _ _).trans (if_neg (fun h => ?_))
  obtain ⟨l, hl, c, hc, e⟩ := isKey48_iff.1 h
  exact ha l hl c hc e

end Sys2Proof.Machine
end

section
/-! The statement of promotion, reduction and clearing settled. -/

namespace Sys2Proof.Machine

/-- Settles O42: a promotion is that of every column, a reduction the sums of the stack groups' members, and PROMOTE_REDUCE the one on what
the other leaves. -/
theorem promotionsAndReductions : Obligations.PromotionsAndReductions := by
  intro s k b f shift add x n hon hb hn hx
  have hcol : ∀ l c, (promoted shift add (s.column k b l c)).2.1 = x l c := fun l c => (hx l c).symm
  refine ⟨fun hd hm hs => ?_, fun hd hm hs hsum => ?_, promote_reserved, fun hd hk hs hsum => ?_, fun hk => ?_, fun hd => ?_⟩
  · have h := State.promoteTile_promoted (s := s) (k := k) (b := b) (shift := shift) (add := add)
      (fun l hl c hc => ⟨(hs l hl c hc).1, (hcol l c).symm ▸ (hs l hl c hc).2⟩)
    subst hb
    exact Answers.of_act_eq (exec_promote k f s) hon (by simp [hd, hm]) h.within
      ⟨fun l hl c hc => ⟨(h.value48 l hl c hc).trans (hcol l c), h.value24 l hl c hc, h.agree l hl c hc⟩, h.rest48, h.rest24, h.sites⟩
  · subst hb
    have h := State.promoteTile_promoted (s := s) (k := k) (shift := shift) (add := add)
      (fun l hl c hc => ⟨(hs l hl c hc).1, (hcol l c).symm ▸ (hs l hl c hc).2.2⟩)
    have hx' : ∀ l < 16, ∀ c < 2048, (s.promoteTile k (bankOf f.bank (s.parity k)) shift add).a48 k l c = x l c := fun l hl c hc =>
      (h.value48 l hl c hc).trans (hcol l c)
    cases hk : heldBack (s.kindAt k) with
    | true =>
      exact Answers.of_act_eq (exec_promoteReduce k f s) hon (by simp [hd, hm, hk]) h.within
        ⟨fun l hl c hc => ⟨h.value24 l hl c hc, fun _ => hx' l hl c hc⟩, fun h => (nomatch h), h.rest48, h.rest24, h.sites⟩
    | false =>
      have hred := fun g hg => h.reducible (n := n) (g := g) hx' (fun ha l hl c hc => (hs l hl c hc).2.1 ha) hsum hg
      obtain ⟨hw, hsums, hrest⟩ := State.reduceTile_sums (k := k)
        (hn.trans (congrArg (fun r : ScoreRec => 2 ^ stackLog r.tmode) (h.within.view (fun v => v.scoreAt k) (fun _ _ => rfl)).symm))
        (fun g hg => (hred g hg).1)
      refine Answers.of_act_eq (exec_promoteReduce k f s) hon (by simp [hd, hm, hk]) (h.within.trans hw.mono)
        ⟨fun l hl c hc => ⟨?_, fun hl' => ?_⟩, fun _ g hg c hc => (hsums g hg c hc).trans ((hred g hg).2 c hc), fun a ha => ?_,
          fun a ha => ?_, fun j hj => ?_⟩
      · exact (hw.view (fun v => v.a24 k l _ c) (fun _ _ => rfl)).trans (h.value24 l hl c hc)
      · have hl' : l % n ≠ 0 := by simpa using hl'
        refine (hrest _ (fun g hg c' hc' e => hl' ?_)).trans (hx' l hl c hc)
        rw [((key48_inj hc hc').1 e).1, Nat.mul_mod_left]
      · exact (hrest a (fun g hg c hc => ha _ (member_lt hg (hn ▸ Nat.two_pow_pos _) : g * n + 0 < 16) c hc)).trans (h.rest48 a ha)
      · exact (hw.view (fun v => v.acc24.get 0 a) (fun _ _ => rfl)).trans (h.rest24 a ha)
      · exact (hw.view (fun v => v.site j) (fun _ _ => rfl)).trans (h.sites j hj)
  · obtain ⟨hw, hsums, hrest⟩ := State.reduceTile_sums (k := k) hn (fun g hg =>
      ⟨fun m hm c hc _ => hs _ (member_lt hg hm) c hc, hsum g hg⟩)
    exact Answers.of_act_eq (exec_reduce k f s) hon (by simp [hd, hk]) hw ⟨hsums, hrest⟩
  · rw [exec_reduce]
    exact act_of_eq_self (by simp [hk])
  · exact Answers.of_act_eq (t := s.clearTile k) (exec_clear k f s) hon (by rw [if_pos hd]; rfl) rfl
      ⟨fun l hl c hc => State.clearTile_registers hl hc, fun a ha => State.clearTile_rest ha⟩

end Sys2Proof.Machine
end

section
/-! SUPPORT. Channels and partial words: where a channel lies, and what merging a word into it does (R49, R55, R59). -/

namespace Sys2Proof.Machine

variable {s t u : State} {k : Nat}

/-! ## Where a channel lies -/

/-- A channel that has a home lies in the range of a stack group, at the group's first member. -/
theorem chanPlace_eq_some {mode afmt : W64} {o l c fmt : Nat} (h : chanPlace mode afmt o = some (l, c, fmt)) :
    ∃ g < 16 / 2 ^ stackLog mode, l = g * 2 ^ stackLog mode ∧ fmt = groupFmt mode afmt g ∧
      g * (2048 / fmtCols fmt) ≤ o ∧ o < (g + 1) * (2048 / fmtCols fmt) ∧ c = fmtCols fmt * (o - g * (2048 / fmtCols fmt)) := by
  obtain ⟨g, hg, hf⟩ := List.exists_of_findSome?_eq_some h
  simp only [Option.ite_none_right_eq_some, Option.some.injEq, Prod.mk.injEq] at hf
  obtain ⟨⟨-, h1, h2⟩, rfl, rfl, rfl⟩ := hf
  exact ⟨g, List.mem_range.1 hg, rfl, rfl, h1, h2, rfl⟩

theorem fmtCols_cases (fmt : Nat) : fmtCols fmt = 1 ∨ fmtCols fmt = 2 ∨ fmtCols fmt = 4 := by
  unfold fmtCols
  split_ifs <;> simp

/-- A channel's home is a register of the tile. -/
theorem chanPlace_lt {mode afmt : W64} {o l c fmt : Nat} (h : chanPlace mode afmt o = some (l, c, fmt)) : l < 16 ∧ c < 2048 := by
  obtain ⟨g, hg, rfl, -, h1, h2, rfl⟩ := chanPlace_eq_some h
  refine ⟨(member_lt hg (Nat.two_pow_pos _) : g * _ + 0 < 16), ?_⟩
  rw [Nat.succ_mul] at h2
  rcases fmtCols_cases fmt with e | e | e <;> rw [e] at h1 h2 ⊢ <;> omega

/-- No two channels share a home. -/
theorem chanPlace_inj {mode afmt : W64} {o o' l c fmt fmt' : Nat} (h : chanPlace mode afmt o = some (l, c, fmt))
    (h' : chanPlace mode afmt o' = some (l, c, fmt')) : o = o' := by
  obtain ⟨g, hg, e1, rfl, h1, h2, e2⟩ := chanPlace_eq_some h
  obtain ⟨g', hg', e1', rfl, h1', h2', e2'⟩ := chanPlace_eq_some h'
  obtain rfl : g = g' := Nat.eq_of_mul_eq_mul_right (Nat.two_pow_pos _) (e1.symm.trans e1')
  have hc : 0 < fmtCols (groupFmt mode afmt g) := by rcases fmtCols_cases (groupFmt mode afmt g) with e | e | e <;> omega
  have := Nat.eq_of_mul_eq_mul_left hc (e2.symm.trans e2')
  omega

/-- The home of a channel of the tile at a site. -/
def State.placeAt (s : State) (k o : Nat) : Option (Nat × Nat × Nat) := chanPlace (s.scoreAt k).tmode (s.scoreAt k).tafmt o

/-- What leaves the running variant leaves the channels' homes. -/
theorem Within.placeAt {m : Foot} (h : Within m s t) (hv : ∀ a b, (State.only m a b).scoreAt k = a.scoreAt k := by intros; rfl) (o : Nat) :
    t.placeAt k o = s.placeAt k o := by
  have e : t.scoreAt k = s.scoreAt k := h.view (fun v => v.scoreAt k) hv
  unfold State.placeAt
  rw [e]

/-- The keys of the registers of two channels differ. -/
theorem key48_placeAt_ne {o o' l c fmt l' c' fmt' : Nat} (h : s.placeAt k o = some (l, c, fmt)) (h' : s.placeAt k o' = some (l', c', fmt'))
    (hne : o ≠ o') : key48 k l c ≠ key48 k l' c' := fun e => by
  obtain ⟨rfl, rfl⟩ := (key48_inj (chanPlace_lt h).2 (chanPlace_lt h').2).1 e
  exact hne (chanPlace_inj h h')

/-! ## One word -/

/-- A word for a channel without a home is dropped. -/
theorem State.mergeWord_none {o : Nat} {w : W64} (h : s.placeAt k o = none) : s.mergeWord k o w = s := by
  unfold State.placeAt at h
  unfold State.mergeWord
  simp only [h]

/-- A proper partial word is added into its channel's register, where the sum fits it. -/
theorem State.mergeWord_some {o l c fmt : Nat} {w : W64} {v : Int} (h : s.placeAt k o = some (l, c, fmt)) (hv : partialValue w = some v)
    (hf : fits 48 (s.a48 k l c + v)) :
    s.mergeWord k o w = { s with
      acc48 := s.acc48.set 0 (key48 k l c) (s.a48 k l c + v)
      shadow := s.shadow.set 0 (2 * key48 k l c + 1) ((s.shadow.get 0 (2 * key48 k l c + 1) + mod7 v) % 7) } := by
  unfold State.placeAt at h
  unfold State.mergeWord
  simp only [h, hv]
  rw [State.add48_of_fits hf]
  rfl

/-- A proper partial word within 48 bits: the state it leaves. -/
structure State.Merges (s t : State) (k l c : Nat) (v : Int) : Prop where
  within : Within regs48 s t
  value : t.a48 k l c = s.a48 k l c + v
  agree : s.true48 k l c → t.true48 k l c
  rest : ∀ a, a ≠ key48 k l c → t.acc48.get 0 a = s.acc48.get 0 a ∧ t.shadow.get 0 (2 * a + 1) = s.shadow.get 0 (2 * a + 1)

theorem State.mergeWord_merges {o l c fmt : Nat} {w : W64} {v : Int} (h : s.placeAt k o = some (l, c, fmt)) (hv : partialValue w = some v)
    (hf : fits 48 (s.a48 k l c + v)) : s.Merges (s.mergeWord k o w) k l c v := by
  rw [State.mergeWord_some h hv hf]
  have h48 : ∀ a, Sparse.get 0 (s.acc48.set 0 (key48 k l c) (s.a48 k l c + v)) a =
      if a = key48 k l c then s.a48 k l c + v else s.acc48.get 0 a := fun a => Sparse.get_set _ _ _ _
  have hsh : ∀ a, Sparse.get 0 (s.shadow.set 0 (2 * key48 k l c + 1) ((s.shadow.get 0 (2 * key48 k l c + 1) + mod7 v) % 7)) a =
      if a = 2 * key48 k l c + 1 then (s.shadow.get 0 (2 * key48 k l c + 1) + mod7 v) % 7 else s.shadow.get 0 a := fun a =>
    Sparse.get_set _ _ _ _
  refine ⟨rfl, (h48 _).trans (if_pos rfl), fun ht => ?_, fun a ha => ⟨(h48 a).trans (if_neg ha), (hsh _).trans (if_neg (by omega))⟩⟩
  show mod7 (Sparse.get 0 (s.acc48.set 0 (key48 k l c) (s.a48 k l c + v)) (key48 k l c)) = Sparse.get 0 (Sparse.set 0 _ _ _) _
  rw [h48, hsh, if_pos rfl, if_pos rfl, mod7_add, ht]

/-! ## A list of words -/

/-- Words merged into channels one after the other. -/
def State.mergeWords (s : State) (k : Nat) (ws : List (Nat × W64)) : State := ws.foldl (fun t e => t.mergeWord k e.1 e.2) s

/-- Every word whose channel has a home is a proper partial word, and its sum fits the register. -/
def State.mergeable (s : State) (k : Nat) (ws : List (Nat × W64)) : Prop :=
  ∀ e ∈ ws, ∀ l c fmt, s.placeAt k e.1 = some (l, c, fmt) → ∃ v, partialValue e.2 = some v ∧ fits 48 (s.a48 k l c + v)

/-- One mergeable word leaves the others mergeable: those of other channels. -/
theorem State.Merges.mergeable {ws : List (Nat × W64)} {o l c fmt : Nat} {v : Int} (h : s.Merges t k l c v)
    (hp : s.placeAt k o = some (l, c, fmt)) (ho : o ∉ ws.map (·.1)) (hm : s.mergeable k ws) : t.mergeable k ws := by
  intro e he l' c' fmt' hp'
  rw [h.within.placeAt] at hp'
  obtain ⟨v', hv', hf⟩ := hm e he l' c' fmt' hp'
  have hne : e.1 ≠ o := ne_of_mem_of_not_mem (List.mem_map_of_mem he) ho
  have hval : t.a48 k l' c' = s.a48 k l' c' := (h.rest _ (key48_placeAt_ne hp' hp hne)).1
  exact ⟨v', hv', hval ▸ hf⟩

/-- Words of different channels are each added into their register, and no other register changes. -/
theorem State.mergeWords_values : ∀ {ws : List (Nat × W64)} {s : State}, (ws.map (·.1)).Nodup → s.mergeable k ws →
    Within regs48 s (s.mergeWords k ws) ∧
    (∀ e ∈ ws, ∀ l c fmt v, s.placeAt k e.1 = some (l, c, fmt) → partialValue e.2 = some v →
      (s.mergeWords k ws).a48 k l c = s.a48 k l c + v) ∧
    (∀ a, (∀ e ∈ ws, ∀ l c fmt, s.placeAt k e.1 = some (l, c, fmt) → a ≠ key48 k l c) → (s.mergeWords k ws).acc48.get 0 a = s.acc48.get 0 a)
  | [], s, _, _ => ⟨.refl _ _, by simp, fun _ _ => rfl⟩
  | e :: ws, s, hn, hm => by
    obtain ⟨hnot, hn⟩ := List.nodup_cons.1 hn
    have hmw : s.mergeable k ws := fun e' he' => hm e' (by simp [he'])
    have hcons : s.mergeWords k (e :: ws) = (s.mergeWord k e.1 e.2).mergeWords k ws := rfl
    cases hp : s.placeAt k e.1 with
    | none =>
      obtain ⟨hw, hv, hr⟩ := State.mergeWords_values hn hmw
      rw [hcons, State.mergeWord_none hp]
      refine ⟨hw, fun e' he' l c fmt v hp' hv' => ?_, fun a ha => hr a (fun e' he' => ha e' (by simp [he']))⟩
      rcases List.mem_cons.1 he' with rfl | he'
      · exact absurd (hp'.symm.trans hp) (by simp)
      · exact hv e' he' l c fmt v hp' hv'
    | some p =>
      obtain ⟨l, c, fmt⟩ := p
      obtain ⟨v, hv, hf⟩ := hm e (by simp) l c fmt hp
      have h1 := State.mergeWord_merges hp hv hf
      obtain ⟨hw, hval, hr⟩ := State.mergeWords_values hn (h1.mergeable hp hnot hmw)
      have hplace : ∀ o, (s.mergeWord k e.1 e.2).placeAt k o = s.placeAt k o := h1.within.placeAt
      rw [hcons]
      refine ⟨h1.within.trans hw, fun e' he' l' c' fmt' v' hp' hv' => ?_, fun a ha => ?_⟩
      · rcases List.mem_cons.1 he' with rfl | he'
        · obtain ⟨rfl, rfl, rfl⟩ : l = l' ∧ c = c' ∧ fmt = fmt' := by simpa using hp.symm.trans hp'
          obtain rfl : v = v' := by simpa using hv.symm.trans hv'
          refine (hr _ (fun e'' he'' l'' c'' fmt'' hp'' => ?_)).trans h1.value
          exact key48_placeAt_ne hp (hplace _ ▸ hp'') (ne_of_mem_of_not_mem (List.mem_map_of_mem he'') hnot).symm
        · have hne : e'.1 ≠ e.1 := ne_of_mem_of_not_mem (List.mem_map_of_mem he') hnot
          have hkeep : (s.mergeWord k e.1 e.2).a48 k l' c' = s.a48 k l' c' := (h1.rest _ (key48_placeAt_ne hp' hp hne)).1
          rw [hval e' he' l' c' fmt' v' ((hplace _).trans hp') hv', hkeep]
      · exact (hr a (fun e' he' l' c' fmt' hp' => ha e' (by simp [he']) l' c' fmt' (hplace _ ▸ hp'))).trans
          (h1.rest a (ha e (by simp) l c fmt hp)).1

end Sys2Proof.Machine
end

section
/-! SUPPORT. Words handed to the router, and EMIT (R55, R170). -/

namespace Sys2Proof.Machine

variable {s t u : State} {k : Nat}

/-- `t` is `s` with words handed to the router of a site, and nothing else. -/
structure State.Sends (s t : State) (k : Nat) (ws : List W64) : Prop where
  within : Within { sites := true } s t
  here : t.site k = { s.site k with outbox := (s.site k).outbox ++ ws }
  others : ∀ j, j ≠ k → t.site j = s.site j

theorem State.Sends.refl (s : State) (k : Nat) : s.Sends s k [] := ⟨.refl _ _, by simp, fun _ _ => rfl⟩

theorem State.Sends.trans {ws ws' : List W64} (h : s.Sends t k ws) (h' : t.Sends u k ws') : s.Sends u k (ws ++ ws') :=
  ⟨h.within.trans h'.within, by rw [h'.here, h.here, List.append_assoc], fun j hj => (h'.others j hj).trans (h.others j hj)⟩

theorem State.toRouter_sends (s : State) (k : Nat) (ws : List W64) : s.Sends (s.toRouter k ws) k ws :=
  ⟨.updSite _ _ _, State.site_updSite _ _ _, fun _ hj => State.site_updSite_ne _ _ hj⟩

/-- A channel whose register agrees with its shadow is sent as it is; one without a home is not sent. -/
theorem State.emitChan_sends {o : Nat} (ht : ∀ l c fmt, s.placeAt k o = some (l, c, fmt) → s.true48 k l c) :
    s.Sends (s.emitChan k o) k ((s.placeAt k o).map (fun e => BitVec.ofInt 64 (s.a48 k e.1 e.2.1))).toList := by
  cases hp : s.placeAt k o with
  | none =>
    have e : s.emitChan k o = s := by
      unfold State.placeAt at hp
      unfold State.emitChan
      simp only [hp]
    rw [e]
    exact .refl s k
  | some p =>
    obtain ⟨l, c, fmt⟩ := p
    have hcheck : s.checkShadow k l (s.acc48.get 0 (key48 k l c)) (s.shadow.get 0 (2 * key48 k l c + 1)) = s :=
      State.checkShadow_of_agree (ht l c fmt hp)
    have e : s.emitChan k o = s.toRouter k [BitVec.ofInt 64 (s.a48 k l c)] := by
      unfold State.placeAt at hp
      unfold State.emitChan
      simp only [hp, hcheck]
      rfl
    rw [e]
    exact State.toRouter_sends _ _ _

/-- Channels are sent in order. -/
theorem State.emitChans_sends : ∀ {cs : List Nat} {s : State}, (∀ o ∈ cs, ∀ l c fmt, s.placeAt k o = some (l, c, fmt) → s.true48 k l c) →
    s.Sends (cs.foldl (fun t o => t.emitChan k o) s) k
      (cs.filterMap (fun o => (s.placeAt k o).map (fun e => BitVec.ofInt 64 (s.a48 k e.1 e.2.1))))
  | [], s, _ => .refl s k
  | o :: cs, s, ht => by
    have h1 := State.emitChan_sends (k := k) (ht o (by simp))
    have hplace : ∀ o', (s.emitChan k o).placeAt k o' = s.placeAt k o' := fun o' => h1.within.placeAt (k := k) (o := o')
    have h2 := State.emitChans_sends (cs := cs) (s := s.emitChan k o) (fun o' ho' l c fmt hp =>
      (h1.within.view (fun v => v.true48 k l c) (fun _ _ => rfl)).mpr (ht o' (by simp [ho']) l c fmt ((hplace o').symm.trans hp)))
    have hval : ∀ l c, (s.emitChan k o).a48 k l c = s.a48 k l c := fun l c => h1.within.view (fun v => v.a48 k l c) (fun _ _ => rfl)
    have hlist : (o :: cs).filterMap (fun o => (s.placeAt k o).map (fun e => BitVec.ofInt 64 (s.a48 k e.1 e.2.1))) =
        ((s.placeAt k o).map (fun e => BitVec.ofInt 64 (s.a48 k e.1 e.2.1))).toList ++
          cs.filterMap (fun o => (s.placeAt k o).map (fun e => BitVec.ofInt 64 (s.a48 k e.1 e.2.1))) := by
      rw [List.filterMap_cons]
      cases s.placeAt k o <;> rfl
    simp only [hplace, hval] at h2
    rw [hlist]
    exact h1.trans h2

end Sys2Proof.Machine
end

section
/-! SUPPORT. The conversion point: one channel, and a list of channels whose scales are finite (R56, R150). -/

namespace Sys2Proof.Machine

variable {s t u : State} {k buf : Nat} {f : AccField}

/-! ## What a conversion reads -/

/-- The scale of a channel (R56). -/
def State.scaleAt (s : State) (k o : Nat) : Nat := s.mem.readLE (siteBase k + 0x8000 + 2 * o) 2

/-- The token's scale, of the activation bank of the run promoted last (R56). -/
def State.tokenScale (s : State) (k : Nat) : Nat := s.mem.readLE (siteBase k + 0x18000 + 8 * (s.site k).promoted) 4

/-- Where a channel's word lies in the partial buffer (R150). -/
def State.wordAddr (s : State) (k buf : Nat) (f : AccField) (o : Nat) : Nat :=
  siteBase k + (s.scoreAt k).addrs.getD ((f.areg.toNat + buf) % 64) 0 + 8 * (o - f.base.toNat)

/-- A channel's word in the partial buffer. -/
def State.bufferWord (s : State) (k buf : Nat) (f : AccField) (o : Nat) : W64 := BitVec.ofNat 64 (s.mem.readLE (s.wordAddr k buf f o) 8)

/-- Both scales of a channel are finite. -/
def State.scalesFinite (s : State) (k o : Nat) : Bool := bf16.finite (s.scaleAt k o) && fp32.finite (s.tokenScale k)

/-- The converted value of a sum in a channel. -/
def State.converted (s : State) (k o : Nat) (v : Int) (fmt : Nat) : Nat :=
  convertValue (outFmt (s.scoreAt k).tmode) v (s.scaleAt k o) (s.tokenScale k) fmt

/-- The bytes of a value in the tile's output format. -/
def State.outBytes (s : State) (k y : Nat) : List Byte := leBytes (outFmt (s.scoreAt k).tmode).bytes y

/-! ## One channel -/

/-- A register, checked, converted: a value of its scales, or with a format fault a free one. -/
def State.convertReg (s : State) (k o l c fmt : Nat) : State × List Byte :=
  if s.scalesFinite k o then (s, s.outBytes k (s.converted k o (s.a48 k l c) fmt))
  else ((s.formatFault k).free.2, s.outBytes k ((outFmt (s.scoreAt k).tmode).anyFinite (s.formatFault k).free.1))

theorem State.convertChan_none {o : Nat} (h : s.placeAt k o = none) : s.convertChan k buf f o = (s, []) := by
  unfold State.placeAt at h
  unfold State.convertChan
  simp only [h]

theorem State.convertChan_plain {o l c fmt : Nat} (hm : f.mergeIn = false) (h : s.placeAt k o = some (l, c, fmt)) (ht : s.true48 k l c) :
    s.convertChan k buf f o = s.convertReg k o l c fmt := by
  have hcheck : s.checkShadow k l (s.acc48.get 0 (key48 k l c)) (s.shadow.get 0 (2 * key48 k l c + 1)) = s :=
    State.checkShadow_of_agree ht
  unfold State.placeAt at h
  unfold State.convertChan
  simp only [h, hm, Bool.false_eq_true, if_false, hcheck]
  rfl

theorem State.convertChan_merging {o l c fmt : Nat} {v : Int} (hm : f.mergeIn = true) (h : s.placeAt k o = some (l, c, fmt))
    (ht : s.true48 k l c) (hp : s.poisoned (s.wordAddr k buf f o) 8 = false) (hv : partialValue (s.bufferWord k buf f o) = some v)
    (hf : fits 48 (s.a48 k l c + v)) :
    s.convertChan k buf f o = (s.mergeWord k o (s.bufferWord k buf f o)).convertReg k o l c fmt := by
  have hmerge := State.mergeWord_merges h hv hf
  have hread : s.readPoison k (s.wordAddr k buf f o) 8 = s := if_neg (by simp [hp])
  have hscore : (s.mergeWord k o (s.bufferWord k buf f o)).scoreAt k = s.scoreAt k :=
    hmerge.within.view (fun v => v.scoreAt k) (fun _ _ => rfl)
  have hreg : (s.readPoison k (s.wordAddr k buf f o) 8).mergeWord k o (s.bufferWord k buf f o) =
      s.mergeWord k o (s.bufferWord k buf f o) := by rw [hread]
  generalize s.mergeWord k o (s.bufferWord k buf f o) = t at hmerge hscore hreg ⊢
  have hcheck : t.checkShadow k l (t.acc48.get 0 (key48 k l c)) (t.shadow.get 0 (2 * key48 k l c + 1)) = t :=
    State.checkShadow_of_agree (hmerge.agree ht)
  unfold State.placeAt at h
  unfold State.bufferWord State.wordAddr at hreg
  unfold State.convertChan
  simp only [h, hm, if_true, hreg, hcheck, State.convertReg, State.outBytes, State.converted, hscore]
  rfl

/-! ## A list of channels -/

/-- Channels converted one after the other, with the bytes they make. -/
def State.convertChans (s : State) (k buf : Nat) (f : AccField) (cs : List Nat) : State × List Byte :=
  cs.foldl (fun a o => ((a.1.convertChan k buf f o).1, a.2 ++ (a.1.convertChan k buf f o).2)) (s, [])

theorem State.convertChans_cons (o : Nat) (cs : List Nat) : s.convertChans k buf f (o :: cs) =
    (((s.convertChan k buf f o).1.convertChans k buf f cs).1,
      (s.convertChan k buf f o).2 ++ ((s.convertChan k buf f o).1.convertChans k buf f cs).2) := by
  have h : ∀ (cs : List Nat) (t : State) (bs : List Byte),
      cs.foldl (fun (a : State × List Byte) o => ((a.1.convertChan k buf f o).1, a.2 ++ (a.1.convertChan k buf f o).2)) (t, bs) =
        ((t.convertChans k buf f cs).1, bs ++ (t.convertChans k buf f cs).2) := by
    intro cs
    induction cs with
    | nil => intro t bs; simp [State.convertChans]
    | cons o cs ih =>
      intro t bs
      unfold State.convertChans
      rw [List.foldl_cons, List.foldl_cons, ih, ih]
      simp
  exact h cs _ _

/-- The bytes that channels make of a value each. -/
def State.channelBytes (s : State) (k : Nat) (y : Nat → Nat × Nat × Nat → Nat) (cs : List Nat) : List Byte :=
  cs.flatMap (fun o => (s.placeAt k o).elim [] (fun e => s.outBytes k (y o e)))

theorem State.channelBytes_cons (y : Nat → Nat × Nat × Nat → Nat) (o : Nat) (cs : List Nat) :
    s.channelBytes k y (o :: cs) = (s.placeAt k o).elim [] (fun e => s.outBytes k (y o e)) ++ s.channelBytes k y cs := List.flatMap_cons ..

theorem State.channelBytes_congr {y z : Nat → Nat × Nat × Nat → Nat} {cs : List Nat} (hp : ∀ o, t.placeAt k o = s.placeAt k o)
    (ho : ∀ v, t.outBytes k v = s.outBytes k v) (h : ∀ o ∈ cs, ∀ e, s.placeAt k o = some e → y o e = z o e) :
    t.channelBytes k y cs = s.channelBytes k z cs := by
  unfold State.channelBytes
  refine List.flatMap_congr (fun o hmem => ?_)
  rw [hp]
  cases he : s.placeAt k o with
  | none => rfl
  | some e => exact (ho _).trans (congrArg _ (h o hmem e he))

/-- Channels without a merge whose scales are finite leave the state as it is, and make their converted values. -/
theorem State.convertChans_plain (hm : f.mergeIn = false) : ∀ {cs : List Nat},
    (∀ o ∈ cs, ∀ l c fmt, s.placeAt k o = some (l, c, fmt) → s.true48 k l c ∧ s.scalesFinite k o = true) →
    s.convertChans k buf f cs = (s, s.channelBytes k (fun o e => s.converted k o (s.a48 k e.1 e.2.1) e.2.2) cs)
  | [], _ => rfl
  | o :: cs, h => by
    have ih := State.convertChans_plain hm (fun o' (ho' : o' ∈ cs) => h o' (by simp [ho']))
    rw [State.convertChans_cons, State.channelBytes_cons]
    cases hp : s.placeAt k o with
    | none => rw [State.convertChan_none hp, ih]; rfl
    | some p =>
      obtain ⟨l, c, fmt⟩ := p
      obtain ⟨ht, hs⟩ := h o (by simp) l c fmt hp
      rw [State.convertChan_plain hm hp ht, State.convertReg, if_pos hs, ih]
      rfl

/-- A channel is fit to be merged with its word of the partial buffer, of value `v`, and converted. -/
structure State.MergeFit (s : State) (k buf : Nat) (f : AccField) (o l c : Nat) (v : Int) : Prop where
  agree : s.true48 k l c
  scales : s.scalesFinite k o = true
  word : partialValue (s.bufferWord k buf f o) = some v
  sum : fits 48 (s.a48 k l c + v)
  clean : s.poisoned (s.wordAddr k buf f o) 8 = false

/-- A merge into one register leaves what is read of the others. -/
theorem State.Merges.mergeFit {o l c l' c' : Nat} {v v' : Int} (h : s.Merges t k l' c' v') (hne : key48 k l c ≠ key48 k l' c')
    (hf : s.MergeFit k buf f o l c v) : t.MergeFit k buf f o l c v := by
  obtain ⟨h1, h2⟩ := h.rest _ hne
  have hval : t.a48 k l c = s.a48 k l c := h1
  refine ⟨?_, ?_, ?_, hval ▸ hf.sum, ?_⟩
  · unfold State.true48; rw [hval, h2]; exact hf.agree
  · exact (h.within.view (fun v => v.scalesFinite k o) (fun _ _ => rfl)).trans hf.scales
  · exact (congrArg partialValue (h.within.view (fun v => v.bufferWord k buf f o) (fun _ _ => rfl))).trans hf.word
  · exact (h.within.view (fun v => v.poisoned (v.wordAddr k buf f o) 8) (fun _ _ => rfl)).trans hf.clean

/-- Channels that are merged and converted: their words merged, and the values of the sums made. -/
theorem State.convertChans_merging (hm : f.mergeIn = true) {val : Nat → Int} : ∀ {cs : List Nat} {s : State}, cs.Nodup →
    (∀ o ∈ cs, ∀ l c fmt, s.placeAt k o = some (l, c, fmt) → s.MergeFit k buf f o l c (val o)) →
    s.convertChans k buf f cs = (s.mergeWords k (cs.map (fun o => (o, s.bufferWord k buf f o))),
      s.channelBytes k (fun o e => s.converted k o (s.a48 k e.1 e.2.1 + val o) e.2.2) cs)
  | [], _, _, _ => rfl
  | o :: cs, s, hn, h => by
    obtain ⟨hnot, hn⟩ := List.nodup_cons.1 hn
    have hcs := fun o' (ho' : o' ∈ cs) => h o' (List.mem_cons_of_mem _ ho')
    rw [State.convertChans_cons, State.channelBytes_cons, List.map_cons]
    have hcons : ∀ ws, s.mergeWords k ((o, s.bufferWord k buf f o) :: ws) =
      (s.mergeWord k o (s.bufferWord k buf f o)).mergeWords k ws := fun _ => rfl
    rw [hcons]
    cases hp : s.placeAt k o with
    | none => rw [State.convertChan_none hp, State.mergeWord_none hp, State.convertChans_merging hm hn hcs]; rfl
    | some p =>
      obtain ⟨l, c, fmt⟩ := p
      have hf := h o (by simp) l c fmt hp
      have h1 := State.mergeWord_merges hp hf.word hf.sum
      rw [State.convertChan_merging hm hp hf.agree hf.clean hf.word hf.sum]
      generalize s.mergeWord k o (s.bufferWord k buf f o) = t at h1 ⊢
      have hplace : ∀ o, t.placeAt k o = s.placeAt k o := fun o => h1.within.placeAt (k := k) (o := o)
      have hout : ∀ v, t.outBytes k v = s.outBytes k v := fun v => h1.within.view (fun u => u.outBytes k v) (fun _ _ => rfl)
      have hconv : ∀ o v fmt, t.converted k o v fmt = s.converted k o v fmt := fun o v fmt =>
        h1.within.view (fun u => u.converted k o v fmt) (fun _ _ => rfl)
      have hword : ∀ o, t.bufferWord k buf f o = s.bufferWord k buf f o := fun o =>
        h1.within.view (fun u => u.bufferWord k buf f o) (fun _ _ => rfl)
      have hkey : ∀ o' ∈ cs, ∀ l' c' fmt', s.placeAt k o' = some (l', c', fmt') → key48 k l' c' ≠ key48 k l c :=
        fun o' ho' l' c' fmt' hp' => key48_placeAt_ne hp' hp (ne_of_mem_of_not_mem ho' hnot)
      have ih := State.convertChans_merging (s := t) hm hn (fun o' ho' l' c' fmt' hp' =>
        have hp' := (hplace o').symm.trans hp'
        h1.mergeFit (hkey o' ho' l' c' fmt' hp') (hcs o' ho' l' c' fmt' hp'))
      have hfin : t.scalesFinite k o = true := (h1.within.view (fun v => v.scalesFinite k o) (fun _ _ => rfl)).trans hf.scales
      rw [State.convertReg, if_pos hfin]
      simp only [ih, hword, hout, hconv, h1.value, Option.elim_some]
      congr 2
      refine State.channelBytes_congr hplace hout (fun o' ho' e he => ?_)
      obtain ⟨l', c', fmt'⟩ := e
      have hval : t.a48 k l' c' = s.a48 k l' c' := (h1.rest _ (hkey o' ho' l' c' fmt' he)).1
      rw [hval]

end Sys2Proof.Machine
end

section
/-! SUPPORT. The format fault of a conversion: the lane marked once, and a finite value all the same (R77, R78). -/

namespace Sys2Proof.Machine

variable {s t u : State} {k buf : Nat} {f : AccField} {nx : Bool} {j : Nat}

/-! ## The lane marked -/

/-- The lanes of a step with the one that keeps the result of lane `j` marked with a format fault. -/
def formatFaultedLanes (ls : List Lane) (j : Nat) : List Lane := ls.modify (resultLane ls j) Lane.formatFaulted

theorem Lane.formatFaulted_twice (l : Lane) : l.formatFaulted.formatFaulted = l.formatFaulted := by
  unfold Lane.formatFaulted
  split
  · exact if_neg (by simp)
  · rfl

@[simp] theorem Lane.formatFaulted_kind (l : Lane) : l.formatFaulted.kind = l.kind := by
  unfold Lane.formatFaulted; split <;> rfl
@[simp] theorem Lane.formatFaulted_wide (l : Lane) : l.formatFaulted.wide = l.wide := by
  unfold Lane.formatFaulted; split <;> rfl

/-- The mark leaves which lane keeps the result. -/
theorem resultLane_modify (ls : List Lane) (i j : Nat) : resultLane (ls.modify i Lane.formatFaulted) j = resultLane ls j := by
  have h : ((ls.modify i Lane.formatFaulted).getD j {}).kind = (ls.getD j {}).kind ∧
      ((ls.modify i Lane.formatFaulted).getD j {}).wide = (ls.getD j {}).wide := by
    simp only [List.getD_eq_getElem?_getD, List.getElem?_modify]
    cases ls[j]? with
    | none => simp
    | some l => by_cases e : i = j <;> simp [e]
  unfold resultLane
  rw [h.1, h.2]

/-- A lane marked again stays as it is. -/
theorem formatFaultedLanes_twice (ls : List Lane) (j : Nat) : formatFaultedLanes (formatFaultedLanes ls j) j = formatFaultedLanes ls j := by
  unfold formatFaultedLanes
  rw [resultLane_modify, List.modify_modify_eq]
  exact congrArg (ls.modify _) (funext Lane.formatFaulted_twice)

/-- The footprint of format faults with the free values taken for them. -/
def faultRegs : Foot := { freeCount := true, cur := true, nxt := true }

/-- `t` is `s` but for free values taken and, where `b` says so, a format fault of the lane `(nx, j)`. -/
structure State.FormatFaults (s t : State) (nx : Bool) (j : Nat) (b : Bool) : Prop where
  within : Within faultRegs s t
  lanes : t.stepLanes nx = if b then formatFaultedLanes (s.stepLanes nx) j else s.stepLanes nx
  others : t.stepLanes (!nx) = s.stepLanes (!nx)

theorem State.FormatFaults.refl (s : State) (nx : Bool) (j : Nat) : s.FormatFaults s nx j false := ⟨.refl _ _, rfl, rfl⟩

theorem State.FormatFaults.trans {b c : Bool} (h : s.FormatFaults t nx j b) (h' : t.FormatFaults u nx j c) :
    s.FormatFaults u nx j (b || c) := by
  refine ⟨h.within.trans h'.within, ?_, h'.others.trans h.others⟩
  rw [h'.lanes, h.lanes]
  cases b <;> cases c <;> simp [formatFaultedLanes_twice]

theorem State.formatFault_faults (h : s.laneOf k = some (nx, j)) : s.FormatFaults (s.formatFault k).free.2 nx j true := by
  unfold State.formatFault State.updLaneAt
  rw [h]
  cases nx <;> exact ⟨rfl, rfl, rfl⟩

/-! ## The value made -/

/-- A free finite encoding is finite (R77). -/
theorem FFmt.finite_anyFinite (o : FFmt) (w : W64) : o.finite (o.anyFinite w) = true := by
  have hx : w.toNat % 2 ^ 63 % (o.maxFin + 1) ≤ o.maxFin := Nat.le_of_lt_succ (Nat.mod_lt _ (Nat.succ_pos _))
  have hm := Nat.mod_le (w.toNat % 2 ^ 63 % (o.maxFin + 1)) (2 ^ (o.eb + o.mb))
  unfold FFmt.finite FFmt.anyFinite
  rw [decide_eq_true_eq]
  split
  · rw [Nat.add_mod_left]; omega
  · rw [zero_add]; omega

/-- What a channel's value may be: its converted value where its scales are finite, else a finite one. -/
def State.valueOk (s : State) (k o : Nat) (e : Nat × Nat × Nat) (y : Nat) : Prop :=
  (outFmt (s.scoreAt k).tmode).finite y = true ∨ y = s.converted k o (s.a48 k e.1 e.2.1) e.2.2 ∧ s.scalesFinite k o = true

/-- A register that agrees with its shadow, converted: an allowed value, and a format fault exactly where a scale is not finite. -/
theorem State.convertReg_faults {o l c fmt : Nat} (h : s.laneOf k = some (nx, j)) :
    ∃ t y, s.convertReg k o l c fmt = (t, s.outBytes k y) ∧ s.FormatFaults t nx j (!s.scalesFinite k o) ∧ s.valueOk k o (l, c, fmt) y := by
  unfold State.convertReg
  cases hs : s.scalesFinite k o with
  | true => exact ⟨_, _, rfl, .refl s nx j, .inr ⟨rfl, hs⟩⟩
  | false => exact ⟨_, _, rfl, State.formatFault_faults h, .inl (FFmt.finite_anyFinite _ _)⟩

/-- Channels without a merge make an allowed value each, and mark their lane where a scale of one of them is not finite. -/
theorem State.convertChans_faults (hm : f.mergeIn = false) : ∀ {cs : List Nat} {s : State}, cs.Nodup → s.laneOf k = some (nx, j) →
    (∀ o ∈ cs, ∀ l c fmt, s.placeAt k o = some (l, c, fmt) → s.true48 k l c) →
    ∃ (t : State) (y : Nat → Nat) (b : Bool), s.convertChans k buf f cs = (t, s.channelBytes k (fun o _ => y o) cs) ∧ s.FormatFaults t nx j b ∧
      (∀ o ∈ cs, ∀ e, s.placeAt k o = some e → s.scalesFinite k o = false → b = true) ∧
      (∀ o ∈ cs, ∀ e, s.placeAt k o = some e → s.valueOk k o e (y o))
  | [], s, _, _, _ => ⟨s, fun _ => 0, false, rfl, .refl s nx j, by simp, by simp⟩
  | o :: cs, s, hn, hl, ht => by
    obtain ⟨hnot, hn⟩ := List.nodup_cons.1 hn
    have htcs := fun o' (ho' : o' ∈ cs) => ht o' (List.mem_cons_of_mem _ ho')
    rw [State.convertChans_cons]
    cases hp : s.placeAt k o with
    | none =>
      obtain ⟨t, y, b, e, hf, hb, hy⟩ := State.convertChans_faults (s := s) hm hn hl htcs
      refine ⟨t, y, b, ?_, hf, fun o' ho' e' he' => ?_, fun o' ho' e' he' => ?_⟩
      · rw [State.convertChan_none hp, e, State.channelBytes_cons, hp]; rfl
      · rcases List.mem_cons.1 ho' with rfl | ho'
        · exact absurd (he'.symm.trans hp) (by simp)
        · exact hb o' ho' e' he'
      · rcases List.mem_cons.1 ho' with rfl | ho'
        · exact absurd (he'.symm.trans hp) (by simp)
        · exact hy o' ho' e' he'
    | some p =>
      obtain ⟨l, c, fmt⟩ := p
      obtain ⟨s1, y1, e1, hf1, hy1⟩ := State.convertReg_faults (s := s) (o := o) (l := l) (c := c) (fmt := fmt) hl
      have hplace : ∀ o, s1.placeAt k o = s.placeAt k o := fun o => hf1.within.placeAt (k := k) (o := o)
      obtain ⟨t, y, b, e, hf, hb, hy⟩ := State.convertChans_faults (s := s1) hm hn
        ((hf1.within.view (fun v => v.laneOf k) (fun _ _ => rfl)).trans hl) (fun o' ho' l' c' fmt' hp' =>
          (hf1.within.view (fun v => v.true48 k l' c') (fun _ _ => rfl)).mpr (htcs o' ho' l' c' fmt' ((hplace o').symm.trans hp')))
      have hout : ∀ v, s1.outBytes k v = s.outBytes k v := fun v => hf1.within.view (fun u => u.outBytes k v) (fun _ _ => rfl)
      have hupd : ∀ o' ∈ cs, Function.update y o y1 o' = y o' := fun o' ho' => Function.update_of_ne (ne_of_mem_of_not_mem ho' hnot) _ _
      refine ⟨t, Function.update y o y1, _, ?_, hf1.trans hf, fun o' ho' e' he' hs' => ?_, fun o' ho' e' he' => ?_⟩
      · rw [State.convertChan_plain hm hp (ht o (by simp) l c fmt hp), e1, State.channelBytes_cons, hp]
        simp only [e, Option.elim_some, Function.update_self]
        rw [State.channelBytes_congr (y := fun o _ => y o) (z := fun o' _ => Function.update y o y1 o') hplace hout
          (fun o' ho' _ _ => (hupd o' ho').symm)]
      · rcases List.mem_cons.1 ho' with rfl | ho'
        · rw [hs']; rfl
        · rw [hb o' ho' e' ((hplace o').trans he') ((hf1.within.view (fun v => v.scalesFinite k o') (fun _ _ => rfl)).trans hs')]
          exact Bool.or_true _
      · rcases List.mem_cons.1 ho' with rfl | ho'
        · obtain rfl : (l, c, fmt) = e' := by simpa using hp.symm.trans he'
          rw [Function.update_self]; exact hy1
        · rw [hupd o' ho']
          exact (hf1.within.view (fun v => v.valueOk k o' e' (y o')) (fun _ _ => rfl)).mp (hy o' ho' e' ((hplace o').trans he'))

end Sys2Proof.Machine
end

section
/-! SUPPORT. MERGE, EMIT and CONVERT whole (R49, R55, R56, R150). -/

namespace Sys2Proof.Machine

variable {s t u : State} {k buf : Nat} {f : AccField}

theorem exec_merge (k : Nat) (f : AccField) (s : State) : exec (.merge k f) s = execMerge k f s := rfl
theorem exec_emit (k : Nat) (f : AccField) (s : State) : exec (.emit k f) s = execEmit k f s := rfl
theorem exec_convert (k : Nat) (f : AccField) (s : State) : exec (.convert k f) s = execConvert k f s := rfl

/-- In a lane that holds the first of two runs none of them acts (R149). -/
theorem words_heldBack (h : heldBack (s.kindAt k) = true) :
    exec (.merge k f) s = .next s ∧ exec (.emit k f) s = .next s ∧ exec (.convert k f) s = .next s := by
  rw [exec_merge, exec_emit, exec_convert]
  exact ⟨act_of_eq_self (by simp [h]), act_of_eq_self (by simp [h]), act_of_eq_self (by simp [h])⟩

/-! ## Words taken from the route -/

/-- The first `n` words of the route taken at a site. -/
def State.takeWords (s : State) (k n : Nat) : State := s.updSite k (fun r => { r with inbox := r.inbox.drop n })

/-- Clean words taken leave no poison to consume. -/
theorem State.takePoison_takeWords {n : Nat} (hp : (s.site k).poisonIn = false) : (s.takeWords k n).takePoison k = s.takeWords k n := by
  unfold State.takePoison State.takeWords
  rw [State.site_updSite]
  exact if_neg (by simp [hp])

/-- The words taken by a MERGE, each with its channel. -/
def State.mergeList (s : State) (k : Nat) (f : AccField) : List (Nat × W64) :=
  ((s.site k).inbox.take (f.count.toNat + 1)).zipIdx.map (fun w => (f.base.toNat + w.2, w.1))

theorem State.mem_mergeList {e : Nat × W64} : e ∈ s.mergeList k f ↔
    ∃ i, ((s.site k).inbox.take (f.count.toNat + 1))[i]? = some e.2 ∧ e.1 = f.base.toNat + i := by
  obtain ⟨o, w⟩ := e
  simp only [State.mergeList, List.mem_map, Prod.mk.injEq, Prod.exists, List.mem_zipIdx_iff_getElem?]
  constructor
  · rintro ⟨w', i, h, rfl, rfl⟩; exact ⟨i, h, rfl⟩
  · rintro ⟨i, h, rfl⟩; exact ⟨w, i, h, rfl, rfl⟩

theorem State.nodup_mergeList : ((s.mergeList k f).map (·.1)).Nodup := by
  have h : (s.mergeList k f).map (·.1) = (List.range' 0 ((s.site k).inbox.take (f.count.toNat + 1)).length).map (f.base.toNat + ·) := by
    rw [State.mergeList, List.map_map, ← List.zipIdx_map_snd, List.map_map]
    rfl
  rw [h]
  exact (List.nodup_range' ..).map (fun _ _ e => Nat.add_left_cancel e)

/-- The words taken by a MERGE merged, each into its channel. -/
theorem State.mergeWords_mergeList (t : State) : t.mergeWords k (s.mergeList k f) =
    ((s.site k).inbox.take (f.count.toNat + 1)).zipIdx.foldl (fun t w => t.mergeWord k (f.base.toNat + w.2) w.1) t := by
  rw [State.mergeWords, State.mergeList, List.foldl_map]

/-- MERGE, where every word that has a channel is a proper partial word and its sum fits: each is added into its register, and the words
are taken from the site's inbox. -/
theorem merge_adds (hon : s.pwr.off = false) (hp : (s.site k).poisonIn = false) (hd : s.doesAcc k 4 f = true)
    (hk : heldBack (s.kindAt k) = false) (hm : s.mergeable k (s.mergeList k f)) :
    Answers (.merge k f) s { acc48 := true, shadow := true, sites := true } (fun t =>
      (∀ e ∈ s.mergeList k f, ∀ l c fmt v, s.placeAt k e.1 = some (l, c, fmt) → partialValue e.2 = some v → t.a48 k l c = s.a48 k l c + v) ∧
      (∀ a, (∀ e ∈ s.mergeList k f, ∀ l c fmt, s.placeAt k e.1 = some (l, c, fmt) → a ≠ key48 k l c) →
        t.acc48.get 0 a = s.acc48.get 0 a) ∧
      t.site k = { s.site k with inbox := (s.site k).inbox.drop (f.count.toNat + 1) } ∧ (∀ j, j ≠ k → t.site j = s.site j)) := by
  obtain ⟨hw, hval, hrest⟩ := State.mergeWords_values (s := s.takeWords k (f.count.toNat + 1)) (k := k) State.nodup_mergeList hm
  have hsite : ∀ j, ((s.takeWords k (f.count.toNat + 1)).mergeWords k (s.mergeList k f)).site j =
    (s.takeWords k (f.count.toNat + 1)).site j := fun j => hw.view (fun v => v.site j) (fun _ _ => rfl)
  refine Answers.of_act_eq (exec_merge k f s) hon ?_ ((Within.updSite s k _).trans hw.mono)
    ⟨hval, hrest, (hsite k).trans (State.site_updSite _ _ _), fun j hj => (hsite j).trans (State.site_updSite_ne _ _ hj)⟩
  rw [if_pos (by simp [hd, hk]), State.mergeWords_mergeList, ← State.takePoison_takeWords hp]
  rfl

/-! ## The partial buffer (R150) -/

/-- What CONVERT lands in its partial buffer: memory written, and the words taken from the site's inbox. -/
structure State.Landed (s u : State) (k : Nat) : Prop where
  within : Within { mem := true, host := true, poison := true, sites := true } s u
  here : ∃ n, u.site k = { s.site k with inbox := (s.site k).inbox.drop n }
  others : ∀ j, j ≠ k → u.site j = s.site j

theorem State.fillBuffer_landed (hp : (s.site k).poisonIn = false) : s.Landed (s.fillBuffer k buf f) k := by
  unfold State.fillBuffer
  dsimp only
  split
  · exact ⟨.refl _ _, ⟨0, rfl⟩, fun _ _ => rfl⟩
  · change s.Landed (((s.takeWords k (f.count.toNat + 1)).takePoison k).wrBytes _ _) k
    rw [State.takePoison_takeWords hp]
    have hw := Within.wrBytes (m := { mem := true, host := true, poison := true }) (s.takeWords k (f.count.toNat + 1))
    have hs : ∀ a bs j, ((s.takeWords k (f.count.toNat + 1)).wrBytes a bs).site j = (s.takeWords k (f.count.toNat + 1)).site j := fun a bs j =>
      (hw a bs).view (fun v => v.site j) (fun _ _ => rfl)
    refine ⟨(Within.updSite s k _).trans (hw _ _).mono, ⟨f.count.toNat + 1, ?_⟩, fun j hj => ?_⟩
    · rw [hs, State.takeWords, State.site_updSite]
    · rw [hs, State.takeWords, State.site_updSite_ne _ _ hj]

theorem State.fillBuffer_plain (hm : f.mergeIn = false) : s.fillBuffer k buf f = s := by
  unfold State.fillBuffer
  simp [hm]

theorem nodup_channelsOf (f : AccField) : (channelsOf f).Nodup := List.nodup_range.map (fun _ _ e => Nat.add_right_cancel e)

/-! ## CONVERT -/

/-- The effect of CONVERT: the partial buffer filled, the channels converted, and their words handed to the router. -/
def State.convertAll (s : State) (k : Nat) (f : AccField) : State :=
  let r := (s.fillBuffer k (bankOf f.buf (s.parity k)) f).convertChans k (bankOf f.buf (s.parity k)) f (channelsOf f)
  r.1.toRouter k (wordsOf r.2)

/-- The footprint of CONVERT. -/
def convertRegs : Foot := {
  freeCount := true, mem := true, host := true, poison := true, acc48 := true, shadow := true, sites := true, cur := true, nxt := true,
  flt := true }

/-- CONVERT, where it acts. -/
theorem convert_answers {m : Foot} (hon : s.pwr.off = false) (hd : s.doesAcc k 6 f = true) (hk : heldBack (s.kindAt k) = false)
    {P : State → Prop} (hw : Within m s (s.convertAll k f)) (hP : P (s.convertAll k f))
    (hM : ∀ a b, State.only convertRegs a (State.only m a b) = State.only m a b := by intros; rfl) :
    Answers (.convert k f) s m P :=
  Answers.of_act_eq (exec_convert k f s) hon (if_pos (by simp [hd, hk])) hw hP hM

/-- CONVERT without a merge, the scales finite: the converted values are sent. -/
theorem convert_sends (hon : s.pwr.off = false) (hd : s.doesAcc k 6 f = true) (hk : heldBack (s.kindAt k) = false) (hm : f.mergeIn = false)
    (hc : ∀ o ∈ channelsOf f, ∀ l c fmt, s.placeAt k o = some (l, c, fmt) → s.true48 k l c ∧ s.scalesFinite k o = true) :
    Answers (.convert k f) s { sites := true } (fun t =>
      t.site k = { s.site k with
        outbox := (s.site k).outbox ++ wordsOf (s.channelBytes k (fun o e => s.converted k o (s.a48 k e.1 e.2.1) e.2.2) (channelsOf f)) } ∧
      (∀ j, j ≠ k → t.site j = s.site j)) := by
  have hall : s.convertAll k f = s.toRouter k (wordsOf
      (s.channelBytes k (fun o e => s.converted k o (s.a48 k e.1 e.2.1) e.2.2) (channelsOf f))) := by
    unfold State.convertAll
    rw [State.fillBuffer_plain hm, State.convertChans_plain hm hc]
  have h := hall ▸ State.toRouter_sends s k _
  exact convert_answers hon hd hk h.within ⟨h.here, h.others⟩

/-- CONVERT with a merge, `u` the state with the partial buffer filled: its words are added, and the values of the sums sent. -/
theorem convert_merges {val : Nat → Int} (hon : s.pwr.off = false) (hp : (s.site k).poisonIn = false) (hd : s.doesAcc k 6 f = true)
    (hk : heldBack (s.kindAt k) = false) (hm : f.mergeIn = true) (hb : buf = bankOf f.buf (s.parity k)) (hu : u = s.fillBuffer k buf f)
    (hc : ∀ o ∈ channelsOf f, ∀ l c fmt, u.placeAt k o = some (l, c, fmt) → u.MergeFit k buf f o l c (val o)) :
    Answers (.convert k f) s { mem := true, host := true, poison := true, acc48 := true, shadow := true, sites := true } (fun t =>
      t.mem = u.mem ∧ t.host = u.host ∧
      (∀ o ∈ channelsOf f, ∀ l c fmt, u.placeAt k o = some (l, c, fmt) → t.a48 k l c = u.a48 k l c + val o) ∧
      (∀ a, (∀ o ∈ channelsOf f, ∀ l c fmt, u.placeAt k o = some (l, c, fmt) → a ≠ key48 k l c) → t.acc48.get 0 a = u.acc48.get 0 a) ∧
      t.site k = { u.site k with
        outbox := (u.site k).outbox ++ wordsOf (u.channelBytes k (fun o e => u.converted k o (u.a48 k e.1 e.2.1 + val o) e.2.2) (channelsOf f)) } ∧
      (∀ j, j ≠ k → t.site j = u.site j)) := by
  have hconv := State.convertChans_merging (s := u) hm (nodup_channelsOf f) hc
  have hmem : ∀ e, e ∈ (channelsOf f).map (fun o => (o, u.bufferWord k buf f o)) ↔
      e.1 ∈ channelsOf f ∧ e.2 = u.bufferWord k buf f e.1 := fun e => by
    rw [List.mem_map]
    exact ⟨by rintro ⟨o, ho, rfl⟩; exact ⟨ho, rfl⟩, fun ⟨h1, h2⟩ => ⟨e.1, h1, by rw [← h2]⟩⟩
  obtain ⟨hw, hval, hrest⟩ := State.mergeWords_values (s := u) (k := k) (ws := (channelsOf f).map (fun o => (o, u.bufferWord k buf f o)))
    (by rw [List.map_map]; exact (List.map_id (channelsOf f)).symm ▸ nodup_channelsOf f)
    (fun e he l c fmt hpl => by
      obtain ⟨ho, hwe⟩ := (hmem e).1 he
      have hfit := hc e.1 ho l c fmt hpl
      exact ⟨val e.1, hwe ▸ hfit.word, hfit.sum⟩)
  generalize u.mergeWords k ((channelsOf f).map (fun o => (o, u.bufferWord k buf f o))) = t at hconv hw hval hrest
  have hall : s.convertAll k f = t.toRouter k (wordsOf
      (u.channelBytes k (fun o e => u.converted k o (u.a48 k e.1 e.2.1 + val o) e.2.2) (channelsOf f))) := by
    unfold State.convertAll
    rw [← hb, ← hu, hconv]
  have hsend := hall ▸ State.toRouter_sends t k _
  have hsite : ∀ j, t.site j = u.site j := fun j => hw.view (fun v => v.site j) (fun _ _ => rfl)
  have hacc : ∀ a, (s.convertAll k f).acc48.get 0 a = t.acc48.get 0 a := fun a =>
    hsend.within.view (fun v => v.acc48.get 0 a) (fun _ _ => rfl)
  have hland : s.Landed u k := hu ▸ State.fillBuffer_landed hp
  refine convert_answers hon hd hk (hland.within.mono.trans (hw.mono.trans hsend.within.mono))
    ⟨?_, ?_, fun o ho l c fmt hpl => ?_, fun a ha => ?_, ?_, fun j hj => (hsend.others j hj).trans (hsite j)⟩
  · exact (hsend.within.view State.mem (fun _ _ => rfl)).trans (hw.view State.mem (fun _ _ => rfl))
  · exact (hsend.within.view State.host (fun _ _ => rfl)).trans (hw.view State.host (fun _ _ => rfl))
  · exact (hacc _).trans (hval (o, u.bufferWord k buf f o) ((hmem _).2 ⟨ho, rfl⟩) l c fmt (val o) hpl (hc o ho l c fmt hpl).word)
  · exact (hacc a).trans (hrest a (fun e he l c fmt hpl => ha e.1 ((hmem e).1 he).1 l c fmt hpl))
  · rw [hsend.here, hsite]

/-- CONVERT without a merge, a scale not finite: the lane is marked, and every channel sends an allowed value. -/
theorem convert_faults {nx : Bool} {j o : Nat} {d : Nat × Nat × Nat} (hon : s.pwr.off = false) (hd : s.doesAcc k 6 f = true)
    (hk : heldBack (s.kindAt k) = false) (hm : f.mergeIn = false) (hl : s.laneOf k = some (nx, j))
    (ht : ∀ o ∈ channelsOf f, ∀ l c fmt, s.placeAt k o = some (l, c, fmt) → s.true48 k l c) (ho : o ∈ channelsOf f)
    (hpl : s.placeAt k o = some d) (hbad : s.scalesFinite k o = false) :
    Answers (.convert k f) s { freeCount := true, sites := true, cur := true, nxt := true } (fun t =>
      t.stepLanes (!nx) = s.stepLanes (!nx) ∧ t.stepLanes nx = formatFaultedLanes (s.stepLanes nx) j ∧
      ∃ y : Nat → Nat, (∀ o ∈ channelsOf f, ∀ e, s.placeAt k o = some e → s.valueOk k o e (y o)) ∧
        (t.site k).outbox = (s.site k).outbox ++ wordsOf (s.channelBytes k (fun o _ => y o) (channelsOf f))) := by
  obtain ⟨t, y, b, hconv, hf, hb, hy⟩ := State.convertChans_faults (buf := bankOf f.buf (s.parity k)) hm (nodup_channelsOf f) hl ht
  obtain rfl : b = true := hb o ho d hpl hbad
  have hall : s.convertAll k f = t.toRouter k (wordsOf (s.channelBytes k (fun o _ => y o) (channelsOf f))) := by
    unfold State.convertAll
    rw [State.fillBuffer_plain hm, hconv]
  have hsend := hall ▸ State.toRouter_sends t k _
  have hlanes : ∀ x, (s.convertAll k f).stepLanes x = t.stepLanes x := fun x =>
    hsend.within.view (fun v => v.stepLanes x) (fun _ _ => rfl)
  have hsite : t.site k = s.site k := hf.within.view (fun v => v.site k) (fun _ _ => rfl)
  exact convert_answers hon hd hk (hf.within.mono.trans hsend.within.mono)
    ⟨(hlanes _).trans hf.others, (hlanes _).trans hf.lanes, y, hy, by rw [hsend.here, hsite]⟩

end Sys2Proof.Machine
end

section
/-! The statement of partial words and conversion settled. -/

namespace Sys2Proof.Machine

/-- Settles O43: words are merged channel by channel, no two channels sharing a register; what is converted is what the registers then hold. -/
theorem partialWordsAndConversion : Obligations.PartialWordsAndConversion := by
  intro s u k f place word sc st o hon hp hu hplace ho hword hsc hst
  obtain rfl : place = s.placeAt k := funext hplace
  obtain rfl : sc = u.scaleAt k := funext hsc
  subst ho
  refine ⟨fun ws hd hws hk hm => ?_, fun hd hk ht => ?_, fun hd hk hm hfin ht => ?_, fun val hd hk hm hfin ht => ?_,
    fun nx j c d hd hk hm hl ht hc hcd hbad => ?_, words_heldBack⟩
  · subst hws
    refine (merge_adds hon hp hd hk (fun e he l c fmt hpl => ?_)).imp (fun t ⟨hval, hrest, hsite⟩ =>
      ⟨fun i w l c fmt v hi hpl hv => ?_, fun a ha => hrest a (fun e he l c fmt hpl => ?_), hsite⟩)
    · obtain ⟨i, hi, ho⟩ := State.mem_mergeList.1 he
      exact hm i e.2 l c fmt hi (ho ▸ hpl)
    · exact hval (f.base.toNat + i, w) (State.mem_mergeList.2 ⟨i, hi, rfl⟩) l c fmt v hpl hv
    · obtain ⟨i, hi, ho⟩ := State.mem_mergeList.1 he
      exact ha i l c fmt (List.getElem?_eq_some_iff.1 hi).1 (ho ▸ hpl)
  · have h := State.emitChans_sends (k := k) ht
    exact Answers.of_act_eq (exec_emit k f s) hon (if_pos (by simp [hd, hk])) h.within ⟨h.here, h.others⟩
  · rw [State.fillBuffer_plain hm] at hu
    subst hu hst
    exact convert_sends hon hd hk hm (fun c hc l i fmt hpl =>
      ⟨(ht c hc l i fmt hpl).1, Bool.and_eq_true_iff.2 ⟨(ht c hc l i fmt hpl).2, hfin⟩⟩)
  · have hland := State.fillBuffer_landed (buf := bankOf f.buf (s.parity k)) (f := f) hp
    rw [← hu] at hland
    obtain ⟨n, hhere⟩ := hland.here
    have hscore : u.scoreAt k = s.scoreAt k := hland.within.view (fun v => v.scoreAt k) (fun _ _ => rfl)
    have huplace : ∀ o, u.placeAt k o = s.placeAt k o := fun o => hland.within.placeAt (k := k) (o := o)
    have ha48 : ∀ l c, u.a48 k l c = s.a48 k l c := fun l c => hland.within.view (fun v => v.a48 k l c) (fun _ _ => rfl)
    have htoken : u.tokenScale k = st := by rw [hst, State.tokenScale, hhere]
    refine (convert_merges (val := val) hon hp hd hk hm rfl hu (fun c hc l i fmt hpl => ?_)).imp
      (fun t ⟨hmem, hhost, hval, hrest, hsite, hothers⟩ => ⟨hmem, hhost, fun c hc l i fmt hpl => ?_, fun a ha => ?_, ?_, fun j hj => ?_⟩)
    · obtain ⟨htrue, hscale, hvalue, hsum, hclean⟩ := ht c hc l i fmt ((huplace c).symm.trans hpl)
      exact ⟨(hland.within.view (fun v => v.true48 k l i) (fun _ _ => rfl)).mpr htrue,
        Bool.and_eq_true_iff.2 ⟨hscale, htoken.symm ▸ hfin⟩, by rw [State.bufferWord, State.wordAddr, hscore, ← hword]; exact hvalue,
        (ha48 l i).symm ▸ hsum, by rw [State.wordAddr, hscore]; exact hclean⟩
    · rw [← ha48]
      exact hval c hc l i fmt ((huplace c).trans hpl)
    · exact (hrest a (fun c hc l i fmt hpl => ha c hc l i fmt ((huplace c).symm.trans hpl))).trans
        (hland.within.view (fun v => v.acc48.get 0 a) (fun _ _ => rfl))
    · rw [hsite, hhere]
      simp only [State.channelBytes, State.outBytes, State.converted, huplace, htoken, hscore, ha48]
    · exact (hothers j hj).trans (hland.others j hj)
  · rw [State.fillBuffer_plain hm] at hu
    subst hu hst
    refine (convert_faults hon hd hk hm hl ht hc hcd ?_).imp (fun t ⟨hothers, hlanes, y, hy, hout⟩ =>
      ⟨hothers, hlanes, y, fun c e hc hce => (hy c hc e hce).imp id (fun ⟨h, hs⟩ => ⟨h, (Bool.and_eq_true_iff.1 hs).symm⟩), hout⟩)
    exact Bool.and_eq_false_iff.2 hbad.symm

end Sys2Proof.Machine
end

section
/-! SUPPORT. What repairs leave (R113, R286, R304): the cells, age and offsets of every array, the maps in force and their switches, and
that no map becomes valid by them. -/

namespace Sys2Proof.Machine

variable {s t u : State}

/-! ## The arrays, and the maps -/

/-- `t` has the array cells of `s`, and every array the age and the offsets it has in `s`. -/
structure State.KeepsArrays (s t : State) : Prop where
  cells : t.cells = s.cells
  progTick : ∀ k p, (t.arr k p).progTick = (s.arr k p).progTick
  trimOffs : ∀ k p, (t.arr k p).trimOffs = (s.arr k p).trimOffs

theorem State.KeepsArrays.trans (h : s.KeepsArrays t) (h' : t.KeepsArrays u) : s.KeepsArrays u :=
  ⟨h'.cells.trans h.cells, fun k p => (h'.progTick k p).trans (h.progTick k p), fun k p => (h'.trimOffs k p).trans (h.trimOffs k p)⟩

theorem State.KeepsArrays.of_same (hc : t.cells = s.cells := by rfl) (ha : t.arrs = s.arrs := by rfl) : s.KeepsArrays t := by
  have he : ∀ k p, t.arr k p = s.arr k p := fun k p => by unfold State.arr; rw [ha]
  exact ⟨hc, fun k p => by rw [he], fun k p => by rw [he]⟩

theorem State.KeepsArrays.foldl {α : Type} {f : State → α → State} (hf : ∀ (s : State) a, s.KeepsArrays (f s a)) (l : List α) (s : State) :
    s.KeepsArrays (l.foldl f s) := by
  induction l generalizing s with
  | nil => exact .of_same
  | cons a l ih => exact (hf s a).trans (ih _)

/-- `t` keeps the arrays of `s`, the maps in force and their switches; a map is valid in `t` only where it was in `s`. -/
structure State.Tends (s t : State) : Prop where
  arrays : s.KeepsArrays t
  amap : ∀ k, (t.site k).amap = (s.site k).amap
  switches : ∀ k, (t.site k).switches = (s.site k).switches
  nextValid : ∀ k, (s.site k).nextValid = false → (t.site k).nextValid = false

theorem State.Tends.trans (h : s.Tends t) (h' : t.Tends u) : s.Tends u :=
  ⟨h.arrays.trans h'.arrays, fun k => (h'.amap k).trans (h.amap k), fun k => (h'.switches k).trans (h.switches k),
    fun k hk => h'.nextValid k (h.nextValid k hk)⟩

theorem State.Tends.of_same (hc : t.cells = s.cells := by rfl) (ha : t.arrs = s.arrs := by rfl) (hs : t.sites = s.sites := by rfl) :
    s.Tends t := by
  have he : ∀ k, t.site k = s.site k := fun k => by unfold State.site; rw [hs]
  exact ⟨.of_same hc ha, fun k => by rw [he], fun k => by rw [he], fun k hk => by rw [he]; exact hk⟩

theorem State.Tends.refl (s : State) : s.Tends s := .of_same

theorem State.Tends.of_within {m : Foot} (h : Within m s t) (hc : m.cells = false := by rfl) (ha : m.arrs = false := by rfl)
    (hs : m.sites = false := by rfl) : s.Tends t :=
  .of_same (h.view State.cells fun _ _ => by simp [State.only, hc]) (h.view State.arrs fun _ _ => by simp [State.only, ha])
    (h.view State.sites fun _ _ => by simp [State.only, hs])

theorem State.Tends.ite {c : Prop} [Decidable c] (h : s.Tends t) (h' : s.Tends u) : s.Tends (if c then t else u) := by
  split <;> assumption

theorem State.Tends.foldl {α : Type} {f : State → α → State} (hf : ∀ (s : State) a, s.Tends (f s a)) (l : List α) (s : State) :
    s.Tends (l.foldl f s) := by
  induction l generalizing s with
  | nil => exact .refl _
  | cons a l ih => exact (hf s a).trans (ih _)

theorem State.Tends.updArr (s : State) (k p : Nat) (f : Arr → Arr) (hp : ∀ a, (f a).progTick = a.progTick := by intro _; rfl)
    (ht : ∀ a, (f a).trimOffs = a.trimOffs := by intro _; rfl) : s.Tends (s.updArr k p f) := by
  have he : ∀ j q, (s.updArr k p f).arr j q = if arrKey j q = arrKey k p then f (s.arrs.get {} (arrKey k p)) else s.arr j q :=
    fun _ _ => Sparse.get_upd _ _ _ _
  refine ⟨⟨rfl, fun j q => ?_, fun j q => ?_⟩, fun _ => rfl, fun _ => rfl, fun _ h => h⟩
  · rw [he]
    split
    · next e => rw [← e]; exact hp _
    · rfl
  · rw [he]
    split
    · next e => rw [← e]; exact ht _
    · rfl

/-- A site's record after one of them is changed. -/
theorem State.site_updSite_if (s : State) (k : Nat) (f : SiteSt → SiteSt) (j : Nat) :
    (s.updSite k f).site j = if j = k then f (s.site j) else s.site j := by
  by_cases e : j = k
  · rw [if_pos e, e, State.site_updSite]
  · rw [if_neg e, State.site_updSite_ne _ _ e]

theorem State.Tends.updSite (s : State) (k : Nat) (f : SiteSt → SiteSt) (ha : ∀ r, (f r).amap = r.amap := by intro _; rfl)
    (hw : ∀ r, (f r).switches = r.switches := by intro _; rfl)
    (hn : ∀ r, r.nextValid = false → (f r).nextValid = false := by intro _ h; exact h) : s.Tends (s.updSite k f) := by
  refine ⟨.of_same, fun j => ?_, fun j => ?_, fun j hj => ?_⟩ <;> rw [State.site_updSite_if] <;> split
  · exact ha _
  · rfl
  · exact hw _
  · rfl
  · exact hn _ hj
  · exact hj

theorem State.Tends.wrBytes (s : State) (a : Nat) (bs : List Byte) : s.Tends (s.wrBytes a bs) := by
  unfold State.wrBytes
  split <;> exact .of_same

theorem State.Tends.complete (s : State) (c : Nat) (code : Byte) (cseq : BitVec 4) (status : Byte) (detail : BitVec 40) :
    s.Tends (s.complete c code cseq status detail) := .of_within (State.complete_within _ _ _ _ _ _)

/-! ## Sessions -/

theorem State.Tends.cutSessions (s : State) (p : Session → Bool) : s.Tends (s.cutSessions p) :=
  State.Tends.trans .of_same (.foldl (fun _ _ => .updArr _ _ _ _) _ _)

theorem State.Tends.openSession (s : State) (x : Session) : s.Tends (s.openSession x) :=
  (State.Tends.updArr s x.site x.p (fun a => { a with cycles := a.cycles + 1 })).trans .of_same

theorem State.Tends.stopInstall (s : State) (entry k p : Nat) : s.Tends (s.stopInstall entry k p) := by
  unfold State.stopInstall
  split
  · exact .refl _
  · exact (State.Tends.trans .of_same (.cutSessions _ _)).trans (.complete _ _ _ _ _ _)

/-! ## The death of a site (R307) -/

theorem State.Tends.loseCore (s : State) (k : Nat) : s.Tends (s.loseCore k) := .foldl (fun _ _ => .of_same) _ _

theorem State.Tends.abortNow (s : State) (hold : Bool) : s.Tends (s.abortNow hold) := by
  have h0 : s.Tends (if hold then s.stopHeld else s) := .ite .of_same (.refl _)
  have h1 := h0.trans (.foldl (f := fun (t : State) i => t.updSeq i (fun q => { q with replay := true })) (fun _ _ => .of_same) s.inFlight _)
  cases hold
  · exact h1.trans .of_same
  · exact h1.trans .of_same

theorem State.Tends.abortStep (s : State) (hold : Bool) : s.Tends (s.abortStep hold) := by
  unfold State.abortStep
  exact .ite .of_same (.ite .of_same (.ite .of_same (.abortNow _ _)))

theorem State.Tends.installDeath (s : State) (k p : Nat) : s.Tends (s.installDeath k p) := by
  unfold State.installDeath
  split
  · exact .refl _
  · split
    · split
      · exact .stopInstall _ _ _ _
      · exact .refl _
    · exact .refl _

theorem State.Tends.siteDie (s : State) (k : Nat) (cls : Byte) (p : Nat) : s.Tends (s.siteDie k cls p) := by
  unfold State.siteDie
  split
  · exact .refl _
  · extract_lets x y running s1 s2 open_ src s3 s4 s5
    have h1 : s.Tends s1 := .updSite s k _ (hn := fun _ _ => rfl)
    have h2 : s1.Tends s2 := State.Tends.trans .of_same (.of_within (State.event_within _ _ _ _))
    have h3 : s2.Tends s3 := .of_same
    have h4 : s3.Tends s4 := (State.Tends.ite (.loseCore s3 k) (.refl s3)).trans .of_same
    have h5 : s4.Tends s5 := .ite (.abortStep s4 true) (.refl s4)
    exact h1.trans (h2.trans (h3.trans (h4.trans (h5.trans (.installDeath s5 k p)))))

end Sys2Proof.Machine
end

section
/-! SUPPORT. What the repairs, the installs and the ends of program sessions leave of the arrays and the maps (R113, R286, R309). -/

namespace Sys2Proof.Machine

variable {s t u : State}

/-! ## Repairs -/

theorem State.Tends.verifiedGolden (s : State) (k l p : Nat) : s.Tends (s.verifiedGolden k l p).1 := by
  unfold State.verifiedGolden
  split
  · exact .refl _
  · split
    · exact .refl _
    · split
      · exact .wrBytes _ _ _
      · exact .refl _

theorem State.Tends.pumpExchange (s : State) (e : Nat × Nat × Nat) : s.Tends (s.pumpExchange e) := by
  unfold State.pumpExchange
  extract_lets k r
  split
  · exact .refl _
  · have hr : s.Tends r.1 := .verifiedGolden _ _ _ _
    split
    · exact hr.trans (.openSession _ _)
    · exact hr.trans (State.Tends.trans .of_same (.siteDie _ _ _ _))

theorem State.Tends.pumpRespare (s : State) (e : Nat × Nat) : s.Tends (s.pumpRespare e) := by
  unfold State.pumpRespare
  split
  · exact .refl _
  · extract_lets src s1
    have h1 : s.Tends s1 := .of_same
    split
    · exact h1
    · split
      · exact .refl _
      · extract_lets r
        have hr : s.Tends r.1 := h1.trans (.verifiedGolden s1 e.1 _ e.2)
        split
        · exact (hr.trans (.openSession _ _)).trans (.updSite _ _ _)
        · exact hr.trans (.siteDie _ _ _ _)

theorem State.Tends.moveFail (s : State) (st : Byte) (detail : Nat) : s.Tends (s.moveFail st detail) := by
  unfold State.moveFail
  split
  · exact .refl _
  · exact (State.Tends.trans .of_same (.cutSessions _ _)).trans (.complete _ _ _ _ _ _)

theorem State.Tends.pumpMove (s : State) (m : MoveCmd) (e : Nat × GenArray) : s.Tends (s.pumpMove m e) := by
  unfold State.pumpMove
  exact .ite (.refl _) (.ite (.openSession _ _) (.moveFail _ _ _))

theorem State.Tends.pumpRepairs (s : State) : s.Tends s.pumpRepairs := by
  unfold State.pumpRepairs
  extract_lets s1 s2
  have h1 : s.Tends s1 := .foldl State.Tends.pumpExchange _ _
  have h2 : s1.Tends s2 := by
    unfold s2
    split
    · exact .foldl (fun t e => .pumpMove t _ e) _ _
    · exact .refl _
  exact h1.trans (h2.trans (.foldl State.Tends.pumpRespare _ _))

/-! ## Installs and their aborts -/

theorem State.Tends.tryInstall (s : State) (x : Nat × PlanEntry × ManifestEntry × Nat) : s.Tends (s.tryInstall x) := by
  unfold State.tryInstall
  split
  · exact .refl _
  · exact .ite (.refl _) (.ite (State.Tends.trans .of_same (.updArr _ _ _ _)) (.ite ((State.Tends.openSession _ _).trans .of_same) (.refl _)))

theorem State.Tends.updGen (s : State) (b : Bool) (f : Gen → Gen) : s.Tends (s.updGen b f) := .ite .of_same .of_same
theorem State.Tends.setDue (s : State) (b : Bool) (d : Option Gen) : s.Tends (s.setDue b d) := .ite .of_same .of_same

theorem State.Tends.noteGroups (s : State) : s.Tends s.noteGroups := by
  unfold State.noteGroups
  split
  · exact .refl _
  · exact State.Tends.trans .of_same (.ite (.setDue _ _ _) (.updGen _ _ _))

theorem State.Tends.pumpInstall (s : State) : s.Tends s.pumpInstall := by
  unfold State.pumpInstall
  split
  · exact .refl _
  · split
    · exact .refl _
    · split
      · exact .stopInstall _ _ _ _
      · extract_lets t t1 all
        have ht : s.Tends t := .foldl State.Tends.tryInstall _ _
        have h1 : t.Tends t1 := .noteGroups t
        exact ht.trans (h1.trans (.ite .of_same (.refl _)))

theorem State.Tends.placeGolden (s : State) (c : GenChunk) : s.Tends (s.placeGolden c) := by
  unfold State.placeGolden
  split
  · exact .ite (.wrBytes _ _ _) (.refl _)
  · exact .refl _

theorem State.Tends.placeChunks (s : State) (g : Gen) : s.Tends (s.placeChunks g) := .foldl State.Tends.placeGolden _ _

theorem State.Tends.abortDone (s : State) : s.Tends s.abortDone := by
  unfold State.abortDone
  split
  · split
    · extract_lets b was s0 s1 src s2 s3
      have h0 : s.Tends s0 := (State.Tends.setDue _ _ _).trans (.setDue _ _ _)
      have h1 : s0.Tends s1 := ((State.Tends.updGen _ _ _).trans (.placeChunks _ _)).trans (.updGen _ _ _)
      have h2 : s1.Tends s2 := .of_same
      have h3 : s2.Tends s3 := .complete _ _ _ _ _ _
      have h := h0.trans (h1.trans (h2.trans h3))
      split
      · exact h.trans (.complete _ _ _ _ _ _)
      · exact h
    · exact .refl _
  · exact .refl _

theorem State.Tends.pumpAbort (s : State) : s.Tends s.pumpAbort := by
  unfold State.pumpAbort
  split
  · exact .refl _
  · split
    · exact .refl _
    · refine State.Tends.trans (.foldl (fun t g => ?_) _ _) (.abortDone _)
      exact .ite (.refl _) (.ite .of_same (.ite (.openSession _ _) (.refl _)))

/-! ## Contents moved, and the ends of sessions -/

theorem State.KeepsArrays.updSite (s : State) (k : Nat) (f : SiteSt → SiteSt) : s.KeepsArrays (s.updSite k f) := .of_same

theorem State.KeepsArrays.movePair (s : State) (e : Nat × Nat) : s.KeepsArrays (s.movePair e) := by
  unfold State.movePair
  extract_lets s1 src s2
  have h1 : s.KeepsArrays s1 := .foldl (fun t c => (State.Tends.ite (.wrBytes _ _ _) (.refl _)).arrays) _ _
  have h2 : s1.KeepsArrays s2 := .of_same
  split
  · exact (h1.trans h2).trans .of_same
  · exact h1.trans h2

theorem State.KeepsArrays.moveDone (s : State) : s.KeepsArrays s.moveDone := by
  unfold State.moveDone
  split
  · exact .of_same
  · split
    · exact .of_same
    · extract_lets stale s1 src s2
      have h1 : s.KeepsArrays s1 := (State.KeepsArrays.foldl State.KeepsArrays.movePair _ _).trans .of_same
      have h2 : s1.KeepsArrays s2 := .of_same
      exact (h1.trans h2).trans ((State.Tends.complete _ _ _ _ _ _).trans (.pumpRepairs _)).arrays

/-- What a verified session makes of its array leaves the arrays. -/
theorem State.KeepsArrays.sessionOk (s : State) (x : Session) : s.KeepsArrays (s.sessionOk x) := by
  unfold State.sessionOk
  extract_lets k
  split
  · exact (State.Tends.trans .of_same (.pumpInstall _)).arrays
  · exact (State.Tends.trans .of_same (.pumpAbort _)).arrays
  · split
    · split <;> exact .updSite _ _ _
    · exact .of_same
  · split
    · exact .of_same
    · exact .of_same
  · exact State.KeepsArrays.trans .of_same (.moveDone _)
  · exact State.KeepsArrays.trans .of_same (.moveDone _)

/-- So does the fault path of a session whose second read-back differs. -/
theorem State.KeepsArrays.sessionBad (s : State) (x : Session) : s.KeepsArrays (s.sessionBad x) := by
  unfold State.sessionBad
  extract_lets k
  split
  · exact ((State.Tends.stopInstall _ _ _ _).trans (.siteDie _ _ _ _)).arrays
  · exact ((State.Tends.trans .of_same (.siteDie _ _ _ _)).trans (.pumpAbort _)).arrays
  · exact (State.KeepsArrays.updSite _ _ _).trans (State.Tends.siteDie _ _ _ _).arrays
  · exact (State.Tends.trans .of_same (.siteDie _ _ _ _)).arrays
  · exact ((State.Tends.moveFail _ _ _).trans (.siteDie _ _ _ _)).arrays
  · exact ((State.Tends.moveFail _ _ _).trans (.siteDie _ _ _ _)).arrays

end Sys2Proof.Machine
end

section
/-! SUPPORT. A program session's end, the start of a refresh, and the switch of the maps (R60, R113, R286, R287). -/

namespace Sys2Proof.Machine

variable {s t : State} {k p : Nat}

theorem exec_programSessionDone (k p : Nat) (flips : List (Nat × Byte)) (weak : Nat) (offs : List Int) (s : State) :
    exec (.programSessionDone k p flips weak offs) s = execProgramSessionDone k p flips weak offs s := rfl
theorem exec_refreshStart (s : State) : exec .refreshStart s = execRefreshStart s := rfl
theorem exec_mapSwitch (s : State) : exec .mapSwitch s = execMapSwitch s := rfl

/-- A command's answer with its effect named, within its own footprint. -/
theorem Answers.of_act_named {m : Foot} {c : Instr} {f : State → State} {u : State} {P : State → Prop} (hc : exec c s = act m f s)
    (hon : s.pwr.off = false) (hf : f s = u) (hP : P (State.only m s u)) : Answers c s m P :=
  .of_act hc hon (hf.symm ▸ hP)

/-! ## The cells of an array programmed -/

/-- An array programmed without a bit left different holds its image, and no other cell changes. -/
theorem State.programCells_read (source a : Nat) : (s.programCells k p source []).cells.read a =
    if cellKey k p 0 0 ≤ a ∧ a < cellKey k p 0 0 + imageBytes then s.mem.read (a - cellKey k p 0 0 + source) else s.cells.read a :=
  Sparse.get_copyRange _ _ _ _ _ _

/-- An array read back: its record as the session's end leaves it before the CRC is judged. -/
def State.readBack (s : State) (k p source weak : Nat) (offs : List Int) : State :=
  (s.programCells k p source []).updArr k p (fun a => { a with
    acrc := (s.programCells k p source []).crcOf k p, cut := false, progTick := s.poweredTicks, weak := BitVec.ofNat 16 weak
    baseline := BitVec.ofNat 16 weak, trimOffs := offs, due := false, scanRg := 0, scanWeak := 0 })

theorem State.readBack_arr (source weak : Nat) (offs : List Int) :
    ((s.readBack k p source weak offs).arr k p).progTick = s.poweredTicks ∧ ((s.readBack k p source weak offs).arr k p).trimOffs = offs := by
  unfold State.readBack
  rw [State.arr_updArr]
  exact ⟨rfl, rfl⟩

/-- What follows the read-back: the session closed and its purpose served, the session retried, or the fault path. -/
def State.judged (s : State) (k p : Nat) (x : Session) (crc : W32) : State :=
  if crc = x.crc then
    ((((s.closeSession k p).updArr k p (fun a => { a with unverified := false, recCrc := crc })).sessionOk x).pumpRepairs).pumpInstall
  else if !x.retried then
    { s.updArr k p (fun a => { a with cycles := a.cycles + 1 }) with
      wgt := { s.wgt with sessions := s.wgt.sessions.map (fun (y : Session) => if y.site = k ∧ y.p = p then { y with retried := true } else y) } }
  else ((s.closeSession k p).sessionBad x).pumpRepairs.pumpInstall

/-- It leaves the cells and the record's age and offsets. -/
theorem State.KeepsArrays.judged (s : State) (k p : Nat) (x : Session) (crc : W32) : s.KeepsArrays (s.judged k p x crc) := by
  have hpump : ∀ u : State, u.KeepsArrays u.pumpRepairs.pumpInstall := fun u => ((State.Tends.pumpRepairs u).trans (.pumpInstall _)).arrays
  have hclose : s.KeepsArrays (s.closeSession k p) := .of_same
  unfold State.judged
  split
  · exact (hclose.trans (State.Tends.updArr _ k p (fun a => { a with unverified := false, recCrc := crc })).arrays).trans
      ((State.KeepsArrays.sessionOk _ x).trans (hpump _))
  · split
    · exact (State.Tends.updArr s k p (fun a => { a with cycles := a.cycles + 1 })).arrays.trans .of_same
    · exact hclose.trans ((State.KeepsArrays.sessionBad _ x).trans (hpump _))

/-- A program session's end reads the array back, and judges it. -/
theorem programSessionDone_answers {x : Session} {weak : Nat} {offs : List Int} (hon : s.pwr.off = false)
    (hx : s.wgt.sessions.find? (fun x => decide (x.site = k ∧ x.p = p) && !x.suspended) = some x) {P : State → Prop}
    (hP : ∀ t, (s.readBack k p x.source weak offs).KeepsArrays t → P t) :
    Answers (.programSessionDone k p [] weak offs) s .sessions P := by
  have honly : ∀ u : State, u.KeepsArrays (State.only .sessions s u) := fun _ => .of_same
  refine Answers.of_act_named (exec_programSessionDone k p [] weak offs s) hon
    (u := (s.readBack k p x.source weak offs).judged k p x ((s.programCells k p x.source []).crcOf k p)) ?_
    (hP _ ((State.KeepsArrays.judged _ k p x _).trans (honly _)))
  simp only [hx]
  unfold State.judged State.readBack
  generalize (s.programCells k p x.source []).crcOf k p = crc
  generalize State.updArr (s.programCells k p x.source []) k p _ = back
  rfl

/-! ## A refresh opened -/

/-- A golden copy that passes its check is taken as it is (R125). -/
theorem State.verifiedGolden_of_ok {s : State} {k p l : Nat} {g : GenArray} (hg : s.goldenOf k l = some g) (hok : s.goldenOk g = true) :
    s.verifiedGolden k l p = (s, some g) := by
  unfold State.verifiedGolden
  simp only [hg, hok, if_true]

/-- A session opened is the last, its array is charged a cycle, and no other array changes. -/
theorem State.openSession_spec (s : State) (x : Session) :
    Within { arrs := true, wgt := true } s (s.openSession x) ∧
    (s.openSession x).wgt = { s.wgt with sessions := s.wgt.sessions ++ [x] } ∧
    ((s.openSession x).arr x.site x.p).cycles = (s.arr x.site x.p).cycles + 1 ∧
    (∀ n, n ≠ arrKey x.site x.p → (s.openSession x).arrs.get {} n = s.arrs.get {} n) := by
  refine ⟨rfl, rfl, ?_, fun n hn => ?_⟩
  · have h : (s.openSession x).arr x.site x.p = { s.arr x.site x.p with cycles := (s.arr x.site x.p).cycles + 1 } :=
      State.arr_updArr s x.site x.p (fun a => { a with cycles := a.cycles + 1 })
    rw [h]
  · exact (Sparse.get_upd s.arrs _ _ (fun a => { a with cycles := a.cycles + 1 })).trans (if_neg hn)

/-! ## The maps switched -/

/-- A site's record with its next map in force. -/
def SiteSt.switched (r : SiteSt) : SiteSt :=
  { r with amap := r.next, nextValid := false, switches := satInc r.switches, spareOf := (movedIndex r.amap r.next).or r.spareOf }

/-- A switch at one site: its record, the array that waits as its spare, and nothing else. -/
theorem State.mapSwitchAt_spec (s : State) (k : Nat) :
    Within { sites := true, flt := true } s (s.mapSwitchAt k) ∧
    (∀ j, (s.mapSwitchAt k).site j = if j = k ∧ (s.site j).nextValid = true then (s.site j).switched else s.site j) ∧
    (s.mapSwitchAt k).flt = { s.flt with
      respares := s.flt.respares ++ if (s.site k).nextValid then [(k, (s.site k).next.spare)] else [] } := by
  unfold State.mapSwitchAt
  dsimp only
  cases hk : (s.site k).nextValid with
  | false =>
    refine ⟨.refl _ _, fun j => (if_neg ?_).symm, by simp⟩
    rintro ⟨rfl, h⟩
    exact absurd (hk.symm.trans h) (by decide)
  | true =>
    refine ⟨rfl, fun j => ?_, rfl⟩
    refine (s.site_updSite_if k SiteSt.switched j).trans ?_
    by_cases e : j = k
    · rw [if_pos e, if_pos ⟨e, e ▸ hk⟩]
    · rw [if_neg e, if_neg (fun h => e h.1)]

/-- Switches at a list of sites. -/
theorem State.mapSwitches_spec : ∀ (ks : List Nat) (s : State),
    Within { sites := true, flt := true } s (ks.foldl State.mapSwitchAt s) ∧
    (∀ j, (ks.foldl State.mapSwitchAt s).site j = if j ∈ ks ∧ (s.site j).nextValid = true then (s.site j).switched else s.site j) ∧
    (∃ l, (ks.foldl State.mapSwitchAt s).flt = { s.flt with respares := s.flt.respares ++ l } ∧
      ∀ j ∈ ks, (s.site j).nextValid = true → (j, (s.site j).next.spare) ∈ l)
  | [], s => ⟨.refl _ _, fun j => by simp, [], by simp, by simp⟩
  | k :: ks, s => by
    obtain ⟨hw1, hs1, hf1⟩ := s.mapSwitchAt_spec k
    obtain ⟨hw, hs, l, hf, hl⟩ := State.mapSwitches_spec ks (s.mapSwitchAt k)
    have hoff : ∀ r : SiteSt, r.switched.nextValid = false := fun _ => rfl
    refine ⟨hw1.trans hw, fun j => ?_, (if (s.site k).nextValid then [(k, (s.site k).next.spare)] else []) ++ l, ?_, fun j hj hv => ?_⟩
    · rw [List.foldl_cons, hs j, hs1 j]
      by_cases hv : (s.site j).nextValid = true
      · by_cases e : j = k
        · have hmem : j ∈ k :: ks := e ▸ List.mem_cons_self
          have hdone : (if j = k ∧ (s.site j).nextValid = true then (s.site j).switched else s.site j) = (s.site j).switched :=
            if_pos ⟨e, hv⟩
          rw [hdone, hoff, if_neg (fun h => absurd h.2 Bool.false_ne_true), if_pos ⟨hmem, hv⟩]
        · simp [e, hv]
      · simp [hv]
    · rw [List.foldl_cons, hf, hf1, List.append_assoc]
    · by_cases e : j = k
      · subst e; simp [hv]
      · have hj : j ∈ ks := (List.mem_cons.1 hj).resolve_left e
        have hsame : (s.mapSwitchAt k).site j = s.site j := (hs1 j).trans (if_neg (fun h => e h.1))
        exact List.mem_append_right _ (hsame ▸ hl j hj (hsame.symm ▸ hv))

/-- Every tile's valid next map in force, the arrays that the maps leave waiting as spares. -/
theorem State.mapSwitchAll_spec (s : State) :
    Within { sites := true, flt := true } s s.mapSwitchAll ∧
    (∀ j, s.mapSwitchAll.site j = if (s.site j).nextValid = true then (s.site j).switched else s.site j) ∧
    (∃ l, s.mapSwitchAll.flt = { s.flt with respares := s.flt.respares ++ l } ∧
      ∀ j, (s.site j).nextValid = true → (j, (s.site j).next.spare) ∈ l) := by
  have hmem : ∀ j, (s.site j).nextValid = true →
      j ∈ (s.sites.entries {}).filterMap (fun e => if e.2.nextValid then some e.1 else none) := fun j hj => by
    refine List.mem_filterMap.2 ⟨(j, s.site j), Sparse.mem_entries.2 ⟨rfl, fun h => ?_⟩, if_pos hj⟩
    have hoff : (s.site j).nextValid = false := congrArg SiteSt.nextValid h
    exact absurd (hoff.symm.trans hj) (by decide)
  obtain ⟨hw, hs, l, hf, hl⟩ := State.mapSwitches_spec ((s.sites.entries {}).filterMap (fun e => if e.2.nextValid then some e.1 else none)) s
  refine ⟨hw, fun j => ?_, l, hf, fun j hj => hl j (hmem j hj) hj⟩
  refine (hs j).trans ?_
  by_cases hv : (s.site j).nextValid = true
  · rw [if_pos ⟨hmem j hv, hv⟩, if_pos hv]
  · rw [if_neg (fun h => hv h.2), if_neg hv]

/-- In a fault hold with no exchange and no move under way no repair starts. -/
theorem State.pumpRepairs_of_hold (hh : s.eng.faultHold = true) (he : s.flt.exchanging = []) (hm : s.flt.move = none) : s.pumpRepairs = s := by
  have hr : ∀ e, s.pumpRespare e = s := fun e => if_pos (by simp [hh])
  unfold State.pumpRepairs
  simp only [he, List.foldl_nil, hm]
  exact List.foldl_fixed' hr _

end Sys2Proof.Machine
end

section
/-! The statement of sessions, refreshes and map switches settled. -/

namespace Sys2Proof.Machine

/-- Settles O26: what follows a session's read-back leaves the cells and the age, and what follows the switch of the maps leaves the maps. -/
theorem sessionsProgramTheirArray : Obligations.SessionsProgramTheirArray := by
  intro s hon
  refine ⟨fun k p weak offs x hx => ?_, fun k p l g hnext hl hg hok => ?_, fun hset => ?_, fun hheld hhold he hm => ?_, fun hnot hopen => ?_⟩
  · refine programSessionDone_answers hon hx (fun t ht => ?_)
    obtain ⟨hprog, hoffs⟩ := State.readBack_arr (s := s) (k := k) (p := p) x.source weak offs
    have hread : ∀ a, t.cells.read a = _ := fun a => (congrArg (Memory.read · a) ht.cells).trans (State.programCells_read x.source a)
    refine ⟨fun i hi => ?_, fun a ha => ?_, (ht.progTick k p).trans hprog, (ht.trimOffs k p).trans hoffs⟩
    · rw [hread, if_pos ⟨by omega, by omega⟩, Nat.add_sub_cancel_left, Nat.add_comm]
    · rw [hread, if_neg ha]
  · obtain ⟨hw, hwgt, hcycles, hothers⟩ := (s.updSite k (fun q => { q with copyActive := true })).openSession_spec
      (sessionOf k (s.site k).amap.spare (.refresh 2) g)
    refine Answers.of_act_eq (exec_refreshStart s) hon ?_ ((Within.updSite s k _).trans hw.mono) ⟨?_, hwgt, hcycles, hothers⟩
    · simp only [hnext, hl, State.verifiedGolden_of_ok hg hok]
    · exact (hw.view (fun v => v.site k) (fun _ _ => rfl)).trans (State.site_updSite _ _ _)
  · obtain ⟨-, hsite, -⟩ := s.mapSwitchAll_spec
    obtain ⟨-, hamap, hswitches, hvalid⟩ := State.Tends.pumpRepairs s.mapSwitchAll
    have hnow : ((s.held && s.eng.faultHold) || s.opening) = true := by
      rcases hset with ⟨hh, hf⟩ | ho
      · simp [hh, hf]
      · simp [ho]
    refine Answers.of_act_named (exec_mapSwitch s) hon (u := s.mapSwitchAll.pumpRepairs) (by rw [hnow]; rfl)
      ⟨fun k => hvalid k ?_, fun k hk => ⟨(hamap k).trans ?_, (hswitches k).trans ?_⟩,
        fun k hk => ⟨(hamap k).trans ?_, (hswitches k).trans ?_⟩⟩
    · rw [hsite]
      split
      · rfl
      · next h => exact Bool.eq_false_iff.2 h
    · rw [hsite, if_pos hk]; rfl
    · rw [hsite, if_pos hk]; rfl
    · rw [hsite, if_neg (Bool.eq_false_iff.1 hk)]
    · rw [hsite, if_neg (Bool.eq_false_iff.1 hk)]
  · obtain ⟨hw, hsite, l, hflt, hl⟩ := s.mapSwitchAll_spec
    have hrep : s.mapSwitchAll.pumpRepairs = s.mapSwitchAll :=
      State.pumpRepairs_of_hold ((congrArg Eng.faultHold (hw.view State.eng (fun _ _ => rfl))).trans hhold) (by rw [hflt]; exact he)
        (by rw [hflt]; exact hm)
    refine Answers.of_act_eq (exec_mapSwitch s) hon ?_ hw ⟨fun k hk => ?_, fun k hk => ?_⟩
    · simp [hheld, hhold, hrep]
    · rw [hflt]; exact List.mem_append_right _ (hl k hk)
    · rw [hsite, hk]; rfl
  · have hno : ((s.held && s.eng.faultHold) || s.opening) = false := by
      rw [hopen, Bool.or_false, Bool.eq_false_iff]
      exact fun h => hnot (Bool.and_eq_true_iff.1 h)
    rw [exec_mapSwitch]
    exact act_of_eq_self (by rw [hno]; rfl)

end Sys2Proof.Machine
end

section
/-! SUPPORT. A command of the operator accepted: its arrival changes the operator's counter and the channels, and its own checks follow
(R375, R406). -/

namespace Sys2Proof.Machine

variable {s t u : State} {m M : Foot} {b : CmdBlock} {i : CmdInfo} {sec fl : Bool}

/-- `u` is `s` but for the operator's command counter and the channels. -/
def State.Arrives (s u : State) : Prop := ∃ ctr chs, u = { s with nv := { s.nv with oprCtr := ctr }, chans := chs }

theorem State.Arrives.within (h : s.Arrives u) (hn : m.nv = true := by rfl) (hc : m.chans = true := by rfl) : Within m s u := by
  obtain ⟨ctr, chs, rfl⟩ := h
  unfold Within State.only
  simp [hn, hc]

/-- What does not look at the counter or the channels is as it was. -/
theorem State.Arrives.view {α : Type} (h : s.Arrives u) (v : State → α)
    (hv : ∀ ctr chs, v { s with nv := { s.nv with oprCtr := ctr }, chans := chs } = v s) : v u = v s := by
  obtain ⟨ctr, chs, rfl⟩ := h
  exact hv ctr chs

/-- An accepted command came on a channel of its row. -/
theorem State.accepts_channel (h : s.accepts i sec fl b) : b.channel ∈ i.chans := by
  unfold State.accepts State.rejectReason at h
  by_contra hn
  have hc : (!(i.chans.contains b.channel) || !((s.takeIn b.channel).serves b.channel i.code)) = true := by simp [hn]
  rw [if_pos hc] at h
  repeat' split at h
  all_goals exact nomatch h

/-- The operator and the BMC send in no partition's name. -/
theorem chanOwner_eq_operator {c : Nat} (h : c ∈ [0, 1, 18]) : chanOwner c = 31 := by
  have h' : c = 0 ∨ c = 1 ∨ c = 18 := by simpa using h
  rcases h' with rfl | rfl | rfl <;> rfl

/-- An accepted command of the operator runs its own checks on a state that its arrival has changed. -/
theorem State.accept_arrives (h : s.accepts i sec fl b) (hch : b.channel ∈ [0, 1, 18]) (k : State → State) :
    ∃ u, s.Arrives u ∧ s.accept i sec fl b k = k u := by
  have htake : ∃ chs, s.takeIn b.channel = { s with chans := chs } := by
    have h20 : b.channel ≠ 20 := fun e => absurd (e ▸ hch) (by decide)
    have h21 : b.channel ≠ 21 := fun e => absurd (e ▸ hch) (by decide)
    unfold State.takeIn
    rw [if_neg h20, if_neg h21]
    exact ⟨_, rfl⟩
  obtain ⟨chs, htake⟩ := htake
  unfold State.accepts at h
  unfold State.accept State.acceptBlock
  rw [h, htake]
  refine ⟨_, ?_, rfl⟩
  unfold State.recordCounter
  rw [chanOwner_eq_operator hch]
  split
  · exact ⟨_, _, rfl⟩
  · exact ⟨s.nv.oprCtr, chs, rfl⟩

/-- What an accepted command of the operator answers, by what its own checks and effect make of the state that has taken it. -/
theorem Answers.of_accepted {c : Instr} {k : State → State} {P : State → Prop}
    (hc : exec c s = act M (fun s => s.accept i sec fl b k) s) (hon : s.pwr.off = false) (hacc : s.accepts i sec fl b)
    (hch : b.channel ∈ [0, 1, 18]) (h : ∀ u, s.Arrives u → Within m u (k u) ∧ P (k u))
    (hn : m.nv = true := by rfl) (hcs : m.chans = true := by rfl)
    (hM : ∀ a b, State.only M a (State.only m a b) = State.only m a b := by intros; rfl) : Answers c s m P := by
  obtain ⟨u, hu, he⟩ := State.accept_arrives hacc hch k
  obtain ⟨hw, hP⟩ := h u hu
  exact .of_act_eq hc hon he ((hu.within hn hcs).trans hw) hP hM

/-! ## What waits for a boundary -/

/-- What waits for a boundary does nothing elsewhere. -/
theorem State.atOpening_of_not (h : s.opening = false) (f : State → State) : s.atOpening f = s := by
  unfold State.atOpening; rw [h]; rfl

theorem State.atOpening_of_opening (h : s.opening = true) (f : State → State) : s.atOpening f = f s := by
  unfold State.atOpening; rw [h]; rfl

/-! ## What words on channels leave -/

@[simp] theorem State.complete_wgt (s : State) (c : Nat) (code : Byte) (q : BitVec 4) (st : Byte) (d : BitVec 40) :
    (s.complete c code q st d).wgt = s.wgt := (s.complete_within c code q st d).view State.wgt (fun _ _ => rfl)
@[simp] theorem State.opened_wgt (s : State) (b : CmdBlock) (code : Byte) : (s.opened b code).wgt = s.wgt :=
  (s.opened_within b code).view State.wgt (fun _ _ => rfl)
@[simp] theorem State.complete_adp (s : State) (c : Nat) (code : Byte) (q : BitVec 4) (st : Byte) (d : BitVec 40) (n : Nat) :
    (s.complete c code q st d).adp n = s.adp n := (s.complete_within c code q st d).view (State.adp · n) (fun _ _ => rfl)
@[simp] theorem State.opened_adp (s : State) (b : CmdBlock) (code : Byte) (n : Nat) : (s.opened b code).adp n = s.adp n :=
  (s.opened_within b code).view (State.adp · n) (fun _ _ => rfl)

end Sys2Proof.Machine
end

section
/-! SUPPORT. Adapter slots: what ADP_LOAD, the end of a load, the boundary and ADP_RETIRE make of a slot (R127–R129). -/

namespace Sys2Proof.Machine

variable {s t u : State} {m : Foot} {b : CmdBlock} {n : Nat} {c : PartCfg} {head : List Byte} {sig : ImageSig} {chunks : List (List Byte)}

theorem exec_adpLoad (b : CmdBlock) (s : State) : exec (.adpLoad b) s = execAdpLoad b s := rfl
theorem exec_adpLoadDone (n : Nat) (head : List Byte) (sig : ImageSig) (chunks : List (List Byte)) (s : State) :
    exec (.adpLoadDone n head sig chunks) s = execAdpLoadDone n head sig chunks s := rfl
theorem exec_adapterSlotReady (n : Nat) (s : State) : exec (.adapterSlotReady n) s = execAdapterSlotReady n s := rfl
theorem exec_adpRetire (b : CmdBlock) (s : State) : exec (.adpRetire b) s = execAdpRetire b s := rfl

theorem State.adp_updAdp_ne (s : State) {n k : Nat} (f : Adp → Adp) (h : k ≠ n) : (s.updAdp n f).adp k = s.adp k := by
  unfold State.adp State.updAdp; rw [Sparse.get_upd, if_neg h]

theorem Within.updAdp (s : State) (n : Nat) (f : Adp → Adp) (hm : m.adps = true := by rfl) : Within m s (s.updAdp n f) := by
  unfold Within State.only; cases s; simp [State.updAdp, hm]

theorem Within.zeroMem (s : State) (a n : Nat) (hmem : m.mem = true := by rfl) (hp : m.poison = true := by rfl) :
    Within m s (s.zeroMem a n) := by
  unfold Within State.only; cases s; simp [State.zeroMem, hmem, hp]

/-- The slot changed alone: it reads `a`, and every other one as before. -/
structure State.SetsAdp (s t : State) (n : Nat) (a : Adp) : Prop where
  here : t.adp n = a
  others : ∀ k, k ≠ n → t.adp k = s.adp k

/-- A slot changed in a state with the slots of `s`. -/
theorem State.SetsAdp.updAdp (hu : ∀ k, u.adp k = s.adp k) (f : Adp → Adp) : s.SetsAdp (u.updAdp n f) n (f (s.adp n)) :=
  ⟨by rw [State.adp_updAdp, hu], fun k hk => (u.adp_updAdp_ne f hk).trans (hu k)⟩

theorem State.SetsAdp.trans_same {a : Adp} (h : s.SetsAdp t n a) (hu : ∀ k, u.adp k = t.adp k) : s.SetsAdp u n a :=
  ⟨(hu n).trans h.here, fun k hk => (hu k).trans (h.others k hk)⟩

/-! ## ADP_LOAD and ADP_RETIRE -/

/-- A FREE slot of the issuer, its image in reach and no larger than its DRAM: the DRAM zeroed, the slot LOADING (R128, R129). -/
theorem State.adpLoad_free (ho : chanOwner b.channel = 31) (hown : (s.cfg 31).ownsSlot (b.par 0 2) = true)
    (hin : s.inReach 31 (b.par 8 8) (b.par 16 8) = true) (hw : s.lock.wSize ≠ 0)
    (hfit : b.par 16 8 ≤ ((s.cfg 31).adpPlace (b.par 0 2)).2) (hfree : (s.adp (b.par 0 2)).state = 0) :
    s.adpLoad b = ((s.opened b 0x28).zeroMem ((s.cfg 31).adpPlace (b.par 0 2)).1 ((s.cfg 31).adpPlace (b.par 0 2)).2).updAdp (b.par 0 2)
      (fun _ => { state := 1, channel := b.channel, cseq := b.cseq, limit := b.par 16 8 }) := by
  unfold State.adpLoad
  dsimp only
  rw [ho, if_neg (by simp [hown, hin]), if_neg (not_or.2 ⟨hw, Nat.not_lt.2 hfit⟩), if_neg (by simp [hfree])]

/-- A READY slot of the issuer retires (R128). -/
theorem State.adpRetire_ready (ho : chanOwner b.channel = 31) (hown : (s.cfg 31).ownsSlot (b.par 0 2) = true) (hr : (s.adp (b.par 0 2)).state = 2) :
    s.adpRetire b = ((s.opened b 0x29).updAdp (b.par 0 2) (fun a => { a with state := 3 })).complete b.channel 0x29 b.cseq 0 0 := by
  unfold State.adpRetire
  dsimp only
  rw [ho, if_neg (by simp [hown]), if_neg (by simp [hr])]

/-- ADP_LOAD of a FREE slot of the operator (R128, R129). -/
theorem adpLoad_answers (hon : s.pwr.off = false) (hacc : s.accepts ⟨0x28, false, [0, 1] ++ vfChans⟩ false false b)
    (hch : b.channel ∈ [0, 1, 18]) (hown : (s.cfg 31).ownsSlot (b.par 0 2) = true) (hin : s.inReach 31 (b.par 8 8) (b.par 16 8) = true)
    (hw : s.lock.wSize ≠ 0) (hfit : b.par 16 8 ≤ ((s.cfg 31).adpPlace (b.par 0 2)).2) (hfree : (s.adp (b.par 0 2)).state = 0) :
    Answers (.adpLoad b) s { nv := true, mem := true, poison := true, adps := true, fab := true, chans := true, hif := true } (fun t =>
      s.SetsAdp t (b.par 0 2) { state := 1, channel := b.channel, cseq := b.cseq, limit := b.par 16 8 } ∧
      (∀ a, t.mem.read a = if ((s.cfg 31).adpPlace (b.par 0 2)).1 ≤ a ∧
        a < ((s.cfg 31).adpPlace (b.par 0 2)).1 + ((s.cfg 31).adpPlace (b.par 0 2)).2 then 0 else s.mem.read a)) := by
  refine .of_accepted (exec_adpLoad b s) hon hacc hch (fun u hu => ?_)
  have hcfg : u.cfg 31 = s.cfg 31 := hu.view (State.cfg · 31) (fun _ _ => rfl)
  have hslot : ∀ n, u.adp n = s.adp n := fun n => hu.view (State.adp · n) (fun _ _ => rfl)
  rw [State.adpLoad_free (chanOwner_eq_operator hch) (hcfg ▸ hown) ((hu.view (State.inReach · 31 _ _) (fun _ _ => rfl)).trans hin)
    (hu.view (fun v => v.lock.wSize) (fun _ _ => rfl) ▸ hw) (hcfg ▸ hfit) (hslot _ ▸ hfree), hcfg]
  have hopen : Within { fab := true, chans := true, hif := true } u (u.opened b 0x28) := u.opened_within b 0x28
  have hmem : (u.opened b 0x28).mem = s.mem := (hopen.view State.mem (fun _ _ => rfl)).trans (hu.view State.mem (fun _ _ => rfl))
  refine ⟨hopen.mono.trans ((Within.zeroMem _ _ _).trans (.updAdp _ _ _)), .updAdp (fun n => ?_) (fun _ => _), fun a => ?_⟩
  · exact (State.opened_adp u b 0x28 n).trans (hslot n)
  · exact (Memory.read_zero _ _ _ a).trans (by rw [hmem]; rfl)

/-- ADP_RETIRE of a READY slot of the operator (R128). -/
theorem adpRetire_answers (hon : s.pwr.off = false) (hacc : s.accepts ⟨0x29, false, [0, 1] ++ vfChans⟩ false false b)
    (hch : b.channel ∈ [0, 1, 18]) (hown : (s.cfg 31).ownsSlot (b.par 0 2) = true) (hst : (s.adp (b.par 0 2)).state = 2) :
    Answers (.adpRetire b) s { nv := true, adps := true, fab := true, chans := true, hif := true } (fun t =>
      s.SetsAdp t (b.par 0 2) { s.adp (b.par 0 2) with state := 3 }) := by
  refine .of_accepted (exec_adpRetire b s) hon hacc hch (fun u hu => ?_)
  have hcfg : u.cfg 31 = s.cfg 31 := hu.view (State.cfg · 31) (fun _ _ => rfl)
  have hslot : ∀ n, u.adp n = s.adp n := fun n => hu.view (State.adp · n) (fun _ _ => rfl)
  rw [State.adpRetire_ready (chanOwner_eq_operator hch) (hcfg ▸ hown) (hslot _ ▸ hst)]
  refine ⟨(u.opened_within b 0x29).mono.trans ((Within.updAdp _ _ _).trans (State.complete_within _ _ _ _ _ _).mono), ?_⟩
  exact (State.SetsAdp.updAdp (fun n => (State.opened_adp u b 0x29 n).trans (hslot n)) (fun a => { a with state := 3 })).trans_same
    (fun k => State.complete_adp _ b.channel 0x29 b.cseq 0 0 k)

/-! ## The end of a load -/

/-- The chunks of an adapter image written to its slot's DRAM. -/
def State.storeAdapter (s : State) (c : PartCfg) (n : Nat) (img : WeightImage) (chunks : List (List Byte)) : State :=
  (img.manifest.zip chunks).foldl (fun (t : State) x => t.wrBytes ((c.adpPlace n).1 + x.1.offset) x.2) s

theorem State.storeAdapter_within (s : State) (c : PartCfg) (n : Nat) (img : WeightImage) (chunks : List (List Byte)) :
    Within { mem := true, host := true, poison := true } s (s.storeAdapter c n img chunks) :=
  .foldl _ (fun _ _ => .wrBytes _ _ _) _ _

/-- A LOADING slot whose image fits its DRAM and passes its checks: the image stored, the slot READY at the next boundary (R128). -/
theorem adpLoadDone_passes (hon : s.pwr.off = false) (hc : s.adpCfg n = some c) (hst : (s.adp n).state = 1)
    (hr : (s.adp n).readyDue = false) (hok : s.adapterStatus c (s.adp n).limit (parseImage head sig) chunks = 0)
    (hfit : (parseImage head sig).chunkAreaSize ≤ (c.adpPlace n).2) :
    Answers (.adpLoadDone n head sig chunks) s { mem := true, host := true, poison := true, adps := true } (fun t =>
      ∃ pairs, s.SetsAdp t n { s.adp n with
        contract := (parseImage head sig).contractId, imageId := (parseImage head sig).imageId, readyDue := true, pairs := pairs }) := by
  have hw := s.storeAdapter_within c n (parseImage head sig) chunks
  refine Answers.of_act_eq (exec_adpLoadDone n head sig chunks s) hon ?_ (hw.mono.trans (.updAdp _ n _))
    ⟨_, State.SetsAdp.updAdp (fun k => hw.view (State.adp · k) (fun _ _ => rfl)) (fun a => { a with
      contract := (parseImage head sig).contractId, imageId := (parseImage head sig).imageId, readyDue := true
      pairs := ((parseImage head sig).manifest.zip chunks).map (fun x => (ofLE (x.2.take 2), x.1.offset)) })⟩
  simp only [hc]
  rw [if_neg (by simp [hst, hr]), if_neg (by simp [hok, hfit])]
  rfl

/-- One whose image fails a check is FREE again, and its command completes with the status (R128). -/
theorem adpLoadDone_fails (hon : s.pwr.off = false) (hc : s.adpCfg n = some c) (hst : (s.adp n).state = 1)
    (hr : (s.adp n).readyDue = false) (hbad : s.adapterStatus c (s.adp n).limit (parseImage head sig) chunks ≠ 0) :
    Answers (.adpLoadDone n head sig chunks) s { adps := true, fab := true, chans := true, hif := true } (fun t => s.SetsAdp t n {}) := by
  refine Answers.of_act_eq (exec_adpLoadDone n head sig chunks s) hon
    (t := (s.updAdp n (fun _ => {})).complete (s.adp n).channel 0x28 (s.adp n).cseq
      (s.adapterStatus c (s.adp n).limit (parseImage head sig) chunks) 0) ?_
    ((Within.updAdp s n _).trans (State.complete_within _ _ _ _ _ _).mono)
    ((State.SetsAdp.updAdp (fun _ => rfl) _).trans_same (fun _ => State.complete_adp _ _ _ _ _ _ _))
  simp only [hc]
  rw [if_neg (by simp [hst, hr])]
  simp only [hbad, false_and, if_false, ne_eq, not_false_eq_true, if_true]

/-! ## At a boundary -/

/-- A slot loaded with success is READY at the boundary, and its command completes (R128). -/
theorem State.adpReady_due (hst : (s.adp n).state = 1) (hr : (s.adp n).readyDue = true) :
    s.adpReady n = (s.updAdp n (fun a => { a with state := 2, readyDue := false })).complete (s.adp n).channel 0x28 (s.adp n).cseq 0 0 := by
  unfold State.adpReady
  exact if_pos ⟨hst, hr⟩

/-- ADAPTER_SLOT_READY of such a slot. -/
theorem adapterSlotReady_answers (hon : s.pwr.off = false) (hopen : s.opening = true) (hst : (s.adp n).state = 1)
    (hr : (s.adp n).readyDue = true) :
    Answers (.adapterSlotReady n) s { adps := true, fab := true, chans := true, hif := true } (fun t =>
      s.SetsAdp t n { s.adp n with state := 2, readyDue := false }) :=
  .of_act_eq (exec_adapterSlotReady n s) hon ((State.atOpening_of_opening hopen _).trans (State.adpReady_due hst hr))
    ((Within.updAdp s n _).trans (State.complete_within _ _ _ _ _ _).mono)
    ((State.SetsAdp.updAdp (fun _ => rfl) (fun a => { a with state := 2, readyDue := false })).trans_same
      (fun k => State.complete_adp _ (s.adp n).channel 0x28 (s.adp n).cseq 0 0 k))

end Sys2Proof.Machine
end

section
/-! The statement of adapter slots settled. -/

namespace Sys2Proof.Machine

/-- Settles O37: each command changes its slot alone; the equal share of the adapter area that a load zeroes is the model's choice (log entry 31). -/
theorem adapterSlots : Obligations.AdapterSlots := by
  intro s hon
  have hchan : ∀ c < 2, c ∈ [0, 1, 18] := by decide
  refine ⟨fun b hb hacc howns hin hw hfit hfree => ?_, fun n head sig chunks c hc hst hr => ⟨fun hok hfit => ?_, fun hbad => ?_⟩,
    fun n hopen hst hr => ?_, fun n hopen => ?_, fun b hb hacc howns hst => ?_⟩
  · exact (adpLoad_answers hon hacc (hchan _ hb) howns hin hw hfit hfree).imp (fun t ⟨h, hmem⟩ => ⟨h.here, h.others, hmem⟩)
  · refine (adpLoadDone_passes hon hc hst hr hok hfit).imp ?_
    rintro t ⟨pairs, h⟩
    rw [h.here]
    exact ⟨rfl, hst, rfl, h.others⟩
  · exact (adpLoadDone_fails hon hc hst hr hbad).imp (fun t h => ⟨h.here, h.others⟩)
  · exact (adapterSlotReady_answers hon hopen hst hr).imp (fun t h => ⟨h.here, h.others⟩)
  · exact (exec_adapterSlotReady n s).trans (act_of_eq_self (State.atOpening_of_not hopen _))
  · exact (adpRetire_answers hon hacc (hchan _ hb) howns hst).imp (fun t h => ⟨h.here, h.others⟩)

end Sys2Proof.Machine
end

section
/-! SUPPORT. The generation slots: what a slot reads after it is changed, at once or for the next boundary (R108, R116). -/

namespace Sys2Proof.Machine

variable {s t u : State} {m : Foot}

/-- `t` is `s` but for the generation slots, as they are and as they will be. -/
def State.Reslots (s t : State) : Prop :=
  ∃ ga gb da db, t = { s with wgt := { s.wgt with genA := ga, genB := gb, dueA := da, dueB := db } }

theorem State.Reslots.refl (s : State) : s.Reslots s := ⟨_, _, _, _, rfl⟩

theorem State.Reslots.trans (h : s.Reslots t) (h' : t.Reslots u) : s.Reslots u := by
  obtain ⟨_, _, _, _, rfl⟩ := h
  obtain ⟨_, _, _, _, rfl⟩ := h'
  exact ⟨_, _, _, _, rfl⟩

theorem State.Reslots.ite {c : Prop} [Decidable c] (h : s.Reslots t) (h' : s.Reslots u) : s.Reslots (if c then t else u) := by
  split <;> assumption

theorem State.Reslots.within (h : s.Reslots t) (hm : m.wgt = true := by rfl) : Within m s t := by
  obtain ⟨_, _, _, _, rfl⟩ := h
  unfold Within State.only
  simp [hm]

/-- What does not look at the slots is as it was. -/
theorem State.Reslots.view {α : Type} (h : s.Reslots t) (v : State → α)
    (hv : ∀ ga gb da db, v { s with wgt := { s.wgt with genA := ga, genB := gb, dueA := da, dueB := db } } = v s) : v t = v s := by
  obtain ⟨_, _, _, _, rfl⟩ := h
  exact hv _ _ _ _

theorem State.Reslots.updGen (s : State) (b : Bool) (f : Gen → Gen) : s.Reslots (s.updGen b f) := by cases b <;> exact ⟨_, _, _, _, rfl⟩
theorem State.Reslots.setDue (s : State) (b : Bool) (d : Option Gen) : s.Reslots (s.setDue b d) := by cases b <;> exact ⟨_, _, _, _, rfl⟩
theorem State.Reslots.updPgen (s : State) (b : Bool) (f : Gen → Gen) : s.Reslots (s.updPgen b f) := .ite (.setDue _ _ _) (.updGen _ _ _)
theorem State.Reslots.moveGen (s : State) (b : Bool) (f : Gen → Gen) : s.Reslots (s.moveGen b f) :=
  .ite ((State.Reslots.updGen _ _ _).trans (.setDue _ _ _)) (.setDue _ _ _)
theorem State.Reslots.settleCommits (s : State) : s.Reslots s.settleCommits := by
  unfold State.settleCommits
  exact (State.Reslots.updGen _ _ _).trans (.updGen _ _ _)
theorem State.Reslots.settleDue (s : State) (b : Bool) : s.Reslots (s.settleDue b) := by
  unfold State.settleDue
  split
  · exact (State.Reslots.updGen _ _ _).trans (.setDue _ _ _)
  · exact .refl _
theorem State.Reslots.settleDues (s : State) : s.Reslots s.settleDues :=
  (State.Reslots.ite (.refl s) (.settleDue s false)).trans (.ite (.refl _) (.settleDue _ true))

/-! ## A slot read after it is changed -/

theorem State.gen_of_wgt (h : t.wgt = s.wgt) (b : Bool) : t.gen b = s.gen b := by unfold State.gen; rw [h]
theorem State.genDue_of_wgt (h : t.wgt = s.wgt) (b : Bool) : t.genDue b = s.genDue b := by unfold State.genDue; rw [h]
theorem State.pgen_of_wgt (h : t.wgt = s.wgt) (b : Bool) : t.pgen b = s.pgen b := by
  unfold State.pgen; rw [State.gen_of_wgt h, State.genDue_of_wgt h]

@[simp] theorem State.gen_updGen (s : State) (b : Bool) (f : Gen → Gen) : (s.updGen b f).gen b = f (s.gen b) := by cases b <;> rfl
@[simp] theorem State.gen_updGen_not (s : State) (b : Bool) (f : Gen → Gen) : (s.updGen b f).gen (!b) = s.gen (!b) := by cases b <;> rfl
@[simp] theorem State.gen_updGen_other (s : State) (b : Bool) (f : Gen → Gen) : (s.updGen (!b) f).gen b = s.gen b := by cases b <;> rfl
@[simp] theorem State.genDue_updGen (s : State) (b c : Bool) (f : Gen → Gen) : (s.updGen b f).genDue c = s.genDue c := by
  cases b <;> cases c <;> rfl
@[simp] theorem State.gen_setDue (s : State) (b c : Bool) (d : Option Gen) : (s.setDue b d).gen c = s.gen c := by
  cases b <;> cases c <;> rfl
@[simp] theorem State.genDue_setDue (s : State) (b : Bool) (d : Option Gen) : (s.setDue b d).genDue b = d := by cases b <;> rfl
@[simp] theorem State.genDue_setDue_not (s : State) (b : Bool) (d : Option Gen) : (s.setDue b d).genDue (!b) = s.genDue (!b) := by
  cases b <;> rfl

/-- A slot changed with what waits for it: what it will be is changed. -/
@[simp] theorem State.pgen_updPgen (s : State) (b : Bool) (f : Gen → Gen) : (s.updPgen b f).pgen b = f (s.pgen b) := by
  unfold State.updPgen State.pgen
  cases h : s.genDue b <;> simp [h]
@[simp] theorem State.pgen_updPgen_not (s : State) (b : Bool) (f : Gen → Gen) : (s.updPgen b f).pgen (!b) = s.pgen (!b) := by
  unfold State.updPgen State.pgen
  split <;> simp

/-- A transition of a slot gives what the slot will be (R116). -/
@[simp] theorem State.pgen_moveGen (s : State) (b : Bool) (f : Gen → Gen) : (s.moveGen b f).pgen b = f (s.pgen b) := by
  unfold State.moveGen
  split <;> simp [State.pgen]
@[simp] theorem State.gen_moveGen_not (s : State) (b : Bool) (f : Gen → Gen) : (s.moveGen b f).gen (!b) = s.gen (!b) := by
  unfold State.moveGen
  split <;> simp

/-! ## What a boundary makes of a slot -/

/-- A slot at a boundary: a committed install's is READY (R114). -/
def Gen.settled (g : Gen) : Gen := if g.committed && g.state == 2 then { g with state := 3 } else g

theorem Gen.settled_committed {g : Gen} (hc : g.committed = true) (hs : g.state = 2) : g.settled = { g with state := 3 } :=
  if_pos (by simp [hc, hs])

@[simp] theorem State.gen_settleCommits (s : State) (b : Bool) : s.settleCommits.gen b = (s.gen b).settled := by cases b <;> rfl
@[simp] theorem State.genDue_settleCommits (s : State) (b : Bool) : s.settleCommits.genDue b = s.genDue b := by cases b <;> rfl

@[simp] theorem State.gen_settleDue (s : State) (b : Bool) : (s.settleDue b).gen b = s.pgen b := by
  unfold State.settleDue State.pgen
  cases h : s.genDue b <;> simp
@[simp] theorem State.gen_settleDue_not (s : State) (b : Bool) : (s.settleDue b).gen (!b) = s.gen (!b) := by
  unfold State.settleDue
  split <;> simp
@[simp] theorem State.genDue_settleDue (s : State) (b : Bool) : (s.settleDue b).genDue b = none := by
  unfold State.settleDue
  cases h : s.genDue b <;> simp [h]
@[simp] theorem State.genDue_settleDue_not (s : State) (b : Bool) : (s.settleDue b).genDue (!b) = s.genDue (!b) := by
  unfold State.settleDue
  split <;> simp

/-- Where the changes of both slots are made, each is what it would be. -/
theorem State.gen_settleBoth (s : State) (b : Bool) : ((s.settleDue false).settleDue true).gen b = s.pgen b := by
  cases b with
  | false => exact (State.gen_settleDue_not (s.settleDue false) true).trans (s.gen_settleDue false)
  | true =>
    refine (State.gen_settleDue (s.settleDue false) true).trans ?_
    unfold State.pgen
    rw [show (true : Bool) = !false from rfl, State.genDue_settleDue_not, State.gen_settleDue_not]

theorem State.settleDue_of_none (b : Bool) (h : s.genDue b = none) : s.settleDue b = s := by
  unfold State.settleDue; rw [h]

/-! ## Sessions cut, and a generation abandoned -/

theorem Within.updArr (s : State) (k p : Nat) (f : Arr → Arr) (hm : m.arrs = true := by rfl) : Within m s (s.updArr k p f) := by
  unfold Within State.only; cases s; simp [State.updArr, hm]

/-- Sessions cut leave the installs, and mark their arrays alone. -/
theorem State.cutSessions_spec (s : State) (p : Session → Bool) :
    Within { arrs := true, wgt := true } s (s.cutSessions p) ∧
    (s.cutSessions p).wgt = { s.wgt with sessions := s.wgt.sessions.filter (fun x => !(p x)) } := by
  have h := Within.foldl (m := { arrs := true }) (fun (t : State) (x : Session) => t.updArr x.site x.p (fun a => { a with cut := true }))
    (fun _ _ => .updArr _ _ _ _) (s.wgt.sessions.filter p)
    { s with wgt := { s.wgt with sessions := s.wgt.sessions.filter (fun x => !(p x)) } }
  exact ⟨Within.trans (t := { s with wgt := { s.wgt with sessions := s.wgt.sessions.filter (fun x => !(p x)) } }) rfl h.mono,
    h.view State.wgt (fun _ _ => rfl)⟩

theorem State.dropCopies_spec (s : State) (g : Gen) :
    Within { arrs := true, sites := true, wgt := true, flt := true } s (s.dropCopies g) ∧
    ∃ l, (s.dropCopies g).wgt = { s.wgt with sessions := l } := by
  unfold State.dropCopies
  extract_lets its ks waits s1 s2
  obtain ⟨hw, hwgt⟩ := s.cutSessions_spec its
  have h2 : Within { sites := true } s1 s2 := .foldl _ (fun _ _ => .updSite _ _ _) _ _
  exact ⟨(hw.mono.trans h2.mono).trans rfl, _, (h2.view State.wgt (fun _ _ => rfl)).trans hwgt⟩

theorem State.staleCheck_within (s : State) : Within { vars := true } s s.staleCheck := rfl

end Sys2Proof.Machine
end

section
/-! SUPPORT. GENERATION_COMMIT (R114, R121). -/

namespace Sys2Proof.Machine

variable {s t u : State} {i : Install}

theorem exec_generationCommit (s : State) : exec .generationCommit s = execGenerationCommit s := rfl

/-- The record of a generation given its number. -/
def Gen.numbered (g : Gen) (n : W32) : Gen := { g with number := n, vocab := Config.vocabulary g.imageId, committed := true, groups := [] }

/-- The end of an install that is due to commit: its number taken, the largest recorded. -/
def State.recorded (s : State) : State := { s with
  nv := { s.nv with largestGen := s.nv.largestGen + 1 }
  flt := { s.flt with unrestored := false }
  wgt := { s.wgt with install := none, phase := 0, status := 0, groupsDone := s.wgt.groupsTotal } }

/-- The same with the record of slot `b` written. -/
def State.numbered (s : State) (b : Bool) : State := s.recorded.updPgen b (fun g => g.numbered (s.nv.largestGen + 1))

theorem State.numbered_pgen (s : State) (b : Bool) : (s.numbered b).pgen b = (s.pgen b).numbered (s.nv.largestGen + 1) :=
  State.pgen_updPgen _ _ _

theorem State.numbered_reslots (s : State) (b : Bool) : s.recorded.Reslots (s.numbered b) := .updPgen _ _ _

theorem State.numbered_within (s : State) (b : Bool) : Within { nv := true, wgt := true, flt := true } s (s.numbered b) :=
  Within.trans (t := s.recorded) rfl (s.numbered_reslots b).within

/-- What a commit in mode NEW makes of the state after the record: the slot READY where what waits for a boundary may act. -/
def State.commitNew (s : State) (b : Bool) : State :=
  if s.settled && !(s.retiring b) then (s.settleDue b).settleCommits else s

theorem State.commitNew_reslots (s : State) (b : Bool) : s.Reslots (s.commitNew b) :=
  .ite ((State.Reslots.settleDue _ _).trans (.settleCommits _)) (.refl _)

theorem State.commitNew_pgen (s : State) (b : Bool) (hr : s.retiring b = false) :
    (s.commitNew b).pgen b = if s.settled then (s.pgen b).settled else s.pgen b := by
  unfold State.commitNew
  cases hs : s.settled
  · simp
  · have hp : ∀ v : State, v.genDue b = none → v.pgen b = v.gen b := fun v hv => by unfold State.pgen; rw [hv]; rfl
    simp [hr, hp (s.settleDue b).settleCommits]

/-- The outgoing generation `out` of the other slot emptied with its golden area, slot `b` LIVE. -/
def State.replace (s : State) (b : Bool) (out : Gen) : State :=
  (((s.dropCopies out).zeroMem out.goldenBase out.goldenSize).updGen (!b) (fun _ => {})).updGen b (fun g => { g with state := 4 })

theorem State.replace_spec (s : State) (b : Bool) (out : Gen) :
    Within { mem := true, poison := true, arrs := true, sites := true, wgt := true, flt := true } s (s.replace b out) ∧
    (s.replace b out).gen b = { s.gen b with state := 4 } ∧ (s.replace b out).gen (!b) = {} ∧
    (s.replace b out).wgt.install = s.wgt.install := by
  obtain ⟨hdrop, l, hwgt⟩ := s.dropCopies_spec out
  have hslots : ((s.dropCopies out).zeroMem out.goldenBase out.goldenSize).Reslots (s.replace b out) :=
    (State.Reslots.updGen _ (!b) _).trans (.updGen _ _ _)
  have hgen : ((s.dropCopies out).zeroMem out.goldenBase out.goldenSize).gen b = s.gen b :=
    (congrArg (fun w : Wgt => if b then w.genB else w.genA) hwgt :)
  refine ⟨hdrop.mono.trans ((Within.zeroMem _ _ _).trans hslots.within), ?_, ?_,
    (hslots.view (fun v => v.wgt.install) (fun _ _ _ _ => rfl)).trans (congrArg Wgt.install hwgt :)⟩
  · simp [State.replace, hgen]
  · simp [State.replace]

/-- What a commit in mode ROLL makes of the state after the record: the outgoing generation replaced, the pointer at the new one. -/
def State.commitRoll (s : State) (b : Bool) : State :=
  let u := ((s.settleDue false).settleDue true).replace b (s.gen (!b))
  ({ u with wgt := { u.wgt with ptrValid := true, liveSlot := b, rolled := u.wgt.rolled ++ [(s.gen (!b)).number] } }).staleCheck

theorem State.commitRoll_spec (s : State) (b : Bool) :
    Within { mem := true, poison := true, arrs := true, sites := true, wgt := true, vars := true, flt := true } s (s.commitRoll b) ∧
    (s.commitRoll b).gen b = { s.pgen b with state := 4 } ∧ (s.commitRoll b).gen (!b) = {} ∧
    (s.commitRoll b).wgt.ptrValid = true ∧ (s.commitRoll b).wgt.liveSlot = b ∧ (s.commitRoll b).wgt.install = s.wgt.install := by
  have h0 : s.Reslots ((s.settleDue false).settleDue true) := (State.Reslots.settleDue _ _).trans (.settleDue _ _)
  obtain ⟨hw, hnew, hout, hinst⟩ := ((s.settleDue false).settleDue true).replace_spec b (s.gen (!b))
  rw [State.gen_settleBoth] at hnew
  exact ⟨h0.within.trans (hw.mono.trans rfl), hnew, hout, rfl, rfl,
    hinst.trans (h0.view (fun v => v.wgt.install) (fun _ _ _ _ => rfl))⟩

/-- The footprint of a commit. -/
def commitRegs : Foot := {
  nv := true, mem := true, poison := true, arrs := true, sites := true, wgt := true, vars := true, flt := true, fab := true, chans := true
  hif := true }

/-- The commit of an install whose slot has no number yet. -/
def State.committed (s : State) (i : Install) : State :=
  (if i.roll then (s.numbered i.target).commitRoll i.target else (s.numbered i.target).commitNew i.target).complete
    i.channel 0x20 i.cseq 0 (BitVec.ofNat 40 (s.nv.largestGen + 1).toNat)

/-- The end of a commit is a word on the install's channel. -/
theorem State.committed_says
    (hu : (if i.roll then (s.numbered i.target).commitRoll i.target else (s.numbered i.target).commitNew i.target) = u) :
    Within saying u (s.committed i) := hu ▸ State.complete_within _ _ _ _ _ _

/-- GENERATION_COMMIT of an install due to commit. -/
theorem generationCommit_answers {m : Foot} {P : State → Prop} (hon : s.pwr.off = false) (hi : s.wgt.install = some i)
    (hp : s.wgt.phase = 4) (hn : (s.pgen i.target).number = 0) (hl : s.nv.largestGen.toNat + 1 < 2 ^ 32)
    (hw : Within m s (s.committed i)) (hP : P (s.committed i))
    (hM : ∀ a b, State.only commitRegs a (State.only m a b) = State.only m a b := by intros; rfl) :
    Answers .generationCommit s m P := by
  have hlt : s.nv.largestGen < s.nv.largestGen + 1 := by bv_omega
  refine .of_act_eq (exec_generationCommit s) hon ?_ hw hP hM
  simp only [hi]
  rw [if_neg (by simp [hp])]
  simp only [hn, ne_eq, not_true_eq_false, if_false, hlt, if_true]
  rfl

/-- A commit in mode NEW: the generation has its number, and its slot is READY where what waits for a boundary may act (R114). -/
theorem generationCommit_new (hon : s.pwr.off = false) (hi : s.wgt.install = some i) (hp : s.wgt.phase = 4)
    (hn : (s.pgen i.target).number = 0) (hl : s.nv.largestGen.toNat + 1 < 2 ^ 32) (hroll : i.roll = false)
    (hst : (s.pgen i.target).state = 2) (hret : s.retiring i.target = false) :
    Answers .generationCommit s { nv := true, wgt := true, flt := true, fab := true, chans := true, hif := true } (fun t =>
      (t.pgen i.target).number = s.nv.largestGen + 1 ∧ (t.pgen i.target).committed = true ∧ t.nv.largestGen = s.nv.largestGen + 1 ∧
      (t.pgen i.target).state = (if s.settled then 3 else 2) ∧ t.wgt.install = none ∧ t.wgt.phase = 0 ∧ t.flt.unrestored = false) := by
  have hre := s.numbered_reslots i.target
  have hcom := (s.numbered i.target).commitNew_reslots i.target
  have hall := hre.trans hcom
  have hset : (s.numbered i.target).settled = s.settled := hre.view State.settled (fun _ _ _ _ => rfl)
  have hpg := (s.numbered i.target).commitNew_pgen i.target ((hre.view (State.retiring · i.target) (fun _ _ _ _ => rfl)).trans hret)
  rw [hset, State.numbered_pgen, Gen.settled_committed (g := (s.pgen i.target).numbered _) rfl hst] at hpg
  have hsay := State.committed_says (s := s) (i := i) (if_neg (by simp [hroll]))
  have hwgt := hsay.view State.wgt (fun _ _ => rfl)
  refine generationCommit_answers hon hi hp hn hl ((s.numbered_within _).mono.trans (hcom.within.trans hsay.mono)) ?_
  rw [State.pgen_of_wgt hwgt, hwgt, hpg]
  refine ⟨by split <;> rfl, by split <;> rfl, ?_, ?_, hall.view (fun v => v.wgt.install) (fun _ _ _ _ => rfl),
    hall.view (fun v => v.wgt.phase) (fun _ _ _ _ => rfl), ?_⟩
  · exact (hsay.view (fun v => v.nv.largestGen) (fun _ _ => rfl)).trans (hall.view (fun v => v.nv.largestGen) (fun _ _ _ _ => rfl))
  · split
    · rfl
    · exact hst
  · exact (hsay.view (fun v => v.flt.unrestored) (fun _ _ => rfl)).trans (hall.view (fun v => v.flt.unrestored) (fun _ _ _ _ => rfl))

/-- A commit in mode ROLL: the generation is LIVE with its number and the pointer, the outgoing slot EMPTY (R121). -/
theorem generationCommit_roll (hon : s.pwr.off = false) (hi : s.wgt.install = some i) (hp : s.wgt.phase = 4)
    (hn : (s.pgen i.target).number = 0) (hl : s.nv.largestGen.toNat + 1 < 2 ^ 32) (hroll : i.roll = true) :
    Answers .generationCommit s
      { nv := true, mem := true, poison := true, arrs := true, sites := true, wgt := true, vars := true, flt := true, fab := true,
        chans := true, hif := true } (fun t =>
      (t.gen i.target).state = 4 ∧ (t.gen i.target).number = s.nv.largestGen + 1 ∧ t.gen (!i.target) = {} ∧
      t.wgt.ptrValid = true ∧ t.wgt.liveSlot = i.target ∧ t.wgt.install = none) := by
  obtain ⟨hw, hnew, hout, hptr, hlive, hinst⟩ := (s.numbered i.target).commitRoll_spec i.target
  rw [State.numbered_pgen] at hnew
  have hsay := State.committed_says (s := s) (i := i) (if_pos hroll)
  have hwgt := hsay.view State.wgt (fun _ _ => rfl)
  refine generationCommit_answers hon hi hp hn hl ((s.numbered_within _).mono.trans (hw.mono.trans hsay.mono)) ?_
  rw [State.gen_of_wgt hwgt, State.gen_of_wgt hwgt, hwgt, hnew]
  exact ⟨rfl, rfl, hout, hptr, hlive, hinst.trans ((s.numbered_reslots _).view (fun v => v.wgt.install) (fun _ _ _ _ => rfl))⟩

end Sys2Proof.Machine
end

section
/-! SUPPORT. The commands on generations (R116, R118, R120, R131), and the move of the pointer. -/

namespace Sys2Proof.Machine

variable {s t u : State} {m : Foot} {b : CmdBlock} {slot : Bool} {i : Install}

theorem exec_wgtSwitch (b : CmdBlock) (s : State) : exec (.wgtSwitch b) s = execWgtSwitch b s := rfl
theorem exec_wgtRetire (b : CmdBlock) (s : State) : exec (.wgtRetire b) s = execWgtRetire b s := rfl
theorem exec_wgtFix (b : CmdBlock) (s : State) : exec (.wgtFix b) s = execWgtFix b s := rfl
theorem exec_wgtAbort (b : CmdBlock) (s : State) : exec (.wgtAbort b) s = execWgtAbort b s := rfl
theorem exec_genPointerMove (s : State) : exec .genPointerMove s = execGenPointerMove s := rfl

theorem Within.setWgt (s : State) (w : Wgt) (hm : m.wgt = true := by rfl) : Within m s { s with wgt := w } := by
  unfold Within State.only; simp [hm]

/-- A slot's number names the slot. -/
theorem slot_of_number {n : Nat} (h : n = if slot then 1 else 0) : ¬1 < n ∧ decide (n = 1) = slot := by
  subst h; cases slot <;> decide

/-- What the slots will be does not depend on a command's arrival. -/
theorem State.Arrives.projected (h : s.Arrives u) : u.projected = s.projected := h.view State.projected (fun _ _ => rfl)

/-! ## Commands that wait for the boundary -/

/-- WGT_SWITCH to a slot that will be READY or DRAINING, no rewrite under way, waits (R118). -/
theorem State.wgtSwitch_waits (hb : b.par 0 1 = if slot then 1 else 0) (hr : s.rollHolds = false) (hi : s.wgt.install = none)
    (hst : (s.projected.gen slot).state = 3 ∨ (s.projected.gen slot).state = 5) :
    Within { wgt := true, fab := true, chans := true, hif := true } s (s.wgtSwitch b) ∧
    (s.wgtSwitch b).wgt = { s.wgt with switchPending := s.wgt.switchPending ++ [(b.par 0 1, b.channel, b.cseq)] } := by
  obtain ⟨hle, hslot⟩ := slot_of_number hb
  have hwgt := s.opened_wgt b 0x21
  unfold State.wgtSwitch
  simp only [hslot]
  rw [if_neg hle, if_neg (by simp [hr, hi]), if_neg (fun h => hst.elim h.1 h.2), hwgt]
  exact ⟨(s.opened_within b 0x21).mono.trans rfl, rfl⟩

/-- WGT_RETIRE of a slot that will be READY, not pinned and not fixed, waits (R120, R131). -/
theorem State.wgtRetire_waits (hb : b.par 0 1 = if slot then 1 else 0) (hst : (s.projected.gen slot).state = 3)
    (hpin : s.projected.pinned (s.projected.gen slot).number = 0) (hfix : (s.projected.gen slot).fixed = false) :
    Within { wgt := true, fab := true, chans := true, hif := true } s (s.wgtRetire b) ∧
    (s.wgtRetire b).wgt = { s.wgt with retireDue := s.wgt.retireDue ++ [(b.par 0 1, b.channel, b.cseq)] } := by
  obtain ⟨hle, hslot⟩ := slot_of_number hb
  have hwgt := s.opened_wgt b 0x22
  unfold State.wgtRetire
  simp only [hslot]
  rw [if_neg hle, if_neg (not_or.2 ⟨not_not.2 hst, not_not.2 hpin⟩), if_neg (by simp [hfix]), hwgt]
  exact ⟨(s.opened_within b 0x22).mono.trans rfl, rfl⟩

/-! ## WGT_FIX and WGT_ABORT -/

/-- WGT_FIX of a slot that will be READY or LIVE: fixed, the other slot as it was (R131). -/
theorem State.wgtFix_fixes (hb : b.par 0 1 = if slot then 1 else 0)
    (hst : (s.projected.gen slot).state = 3 ∨ (s.projected.gen slot).state = 4) :
    Within { wgt := true, fab := true, chans := true, hif := true } s (s.wgtFix b) ∧
    ((s.wgtFix b).pgen slot).fixed = true ∧ (s.wgtFix b).pgen (!slot) = s.pgen (!slot) := by
  obtain ⟨hle, hslot⟩ := slot_of_number hb
  have hopen : ∀ c, (s.opened b 0x24).pgen c = s.pgen c := State.pgen_of_wgt (s.opened_wgt b 0x24)
  unfold State.wgtFix
  simp only [hslot]
  rw [if_neg hle]
  split
  · next hfixed =>
    refine ⟨((s.opened_within b 0x24).trans (State.complete_within _ _ _ _ _ _)).mono, ?_, ?_⟩
    · rw [State.pgen_of_wgt (State.complete_wgt _ _ _ _ _ _), hopen]; exact hfixed.2
    · rw [State.pgen_of_wgt (State.complete_wgt _ _ _ _ _ _), hopen]
  · rw [if_neg (fun h => hst.elim h.1 h.2)]
    refine ⟨(s.opened_within b 0x24).mono.trans ((State.Reslots.updPgen _ _ _).within.trans (State.complete_within _ _ _ _ _ _).mono), ?_, ?_⟩
    · rw [State.pgen_of_wgt (State.complete_wgt _ _ _ _ _ _), State.pgen_updPgen]
    · rw [State.pgen_of_wgt (State.complete_wgt _ _ _ _ _ _), State.pgen_updPgen_not, hopen]

/-- WGT_ABORT before anything of a rewrite is programmed ends the install, its slot as an abort leaves it (R116). -/
theorem State.wgtAbort_staging (hi : s.wgt.install = some i) (hp : s.wgt.phase = 1 ∨ s.wgt.phase = 2)
    (hroll : i.roll = false ∨ (s.gen (!i.target)).state ≠ 7) :
    Within { arrs := true, wgt := true, fab := true, chans := true, hif := true } s (s.wgtAbort b) ∧
    (s.wgtAbort b).wgt.install = none ∧ (s.wgtAbort b).wgt.phase = 0 ∧ (s.wgtAbort b).wgt.status = 0x0B ∧
    (s.wgtAbort b).pgen i.target = abortedSlot i := by
  have h5 : s.wgt.phase ≠ 5 := by rcases hp with h | h <;> rw [h] <;> decide
  have h34 : ¬(s.wgt.phase = 3 ∨ s.wgt.phase = 4) := by rcases hp with h | h <;> rw [h] <;> decide
  have hearly : ¬((i.roll = true) ∧ (s.wgt.phase = 3 ∨ s.wgt.phase = 4 ∨ (s.gen (!i.target)).state = 7)) := by
    rintro ⟨hr, h | h | h⟩
    · exact h34 (.inl h)
    · exact h34 (.inr h)
    · exact hroll.elim (fun e => Bool.false_ne_true (e.symm.trans hr)) (· h)
  unfold State.wgtAbort
  simp only [hi]
  rw [if_neg h5, if_neg hearly]
  obtain ⟨hcut, -⟩ := (s.opened b 0x23).cutSessions_spec (fun x => match x.purpose with | .install _ => true | _ => false)
  generalize State.cutSessions _ _ = v at hcut ⊢
  have hmove := State.Reslots.moveGen v i.target (fun _ => abortedSlot i)
  refine ⟨(s.opened_within b 0x23).mono.trans (hcut.mono.trans (hmove.within.trans ?_)), ?_, ?_, ?_, ?_⟩
  · exact (Within.setWgt _ _).trans ((State.complete_within _ _ _ _ _ _).trans (State.complete_within _ _ _ _ _ _)).mono
  · rw [State.complete_wgt, State.complete_wgt]
  · rw [State.complete_wgt, State.complete_wgt]
  · rw [State.complete_wgt, State.complete_wgt]
  · rw [State.pgen_of_wgt (State.complete_wgt _ _ _ _ _ _), State.pgen_of_wgt (State.complete_wgt _ _ _ _ _ _)]
    exact State.pgen_moveGen _ _ _

/-! ## The pointer -/

/-- The pointer leaves its slot for slot `b`: DRAINING while sequences are pinned to it, else READY (R118). -/
def State.leavePointer (s : State) (b : Bool) : State :=
  if s.wgt.ptrValid && s.wgt.liveSlot != b then
    s.updGen s.wgt.liveSlot (fun g => { g with state := if 0 < s.pinned g.number then 5 else 3 })
  else s

theorem State.leavePointer_reslots (s : State) (b : Bool) : s.Reslots (s.leavePointer b) := .ite (.updGen _ _ _) (.refl _)

theorem State.leavePointer_gen_not (s : State) (b : Bool) : ((s.leavePointer b).gen (!b)).state =
    if s.wgt.ptrValid = true ∧ s.wgt.liveSlot = !b then (if 0 < s.pinned (s.gen (!b)).number then 5 else 3) else (s.gen (!b)).state := by
  unfold State.leavePointer
  by_cases h : s.wgt.ptrValid = true ∧ s.wgt.liveSlot = !b
  · rw [if_pos h, if_pos (by simp [h]), h.2, State.gen_updGen]
  · rw [if_neg h, if_neg (by simpa using h)]

/-- A switch to a slot that is READY or DRAINING (R118). -/
theorem State.switchTo_spec {e : Nat × Nat × BitVec 4} (hslot : decide (e.1 = 1) = slot)
    (hst : (s.gen slot).state = 3 ∨ (s.gen slot).state = 5) :
    Within { wgt := true, fab := true, chans := true, hif := true } s (s.switchTo e) ∧
    ∃ v, (s.leavePointer slot).Reslots v ∧ (v.gen slot).state = 4 ∧ v.gen (!slot) = (s.leavePointer slot).gen (!slot) ∧
      (s.switchTo e).wgt = { v.wgt with ptrValid := true, liveSlot := slot } := by
  have he : s.switchTo e = ({ (s.leavePointer slot).updGen slot (fun g => { g with state := 4 }) with
      wgt := { ((s.leavePointer slot).updGen slot (fun g => { g with state := 4 })).wgt with ptrValid := true, liveSlot := slot } } :
      State).complete e.2.1 0x21 e.2.2 0 0 := by
    unfold State.switchTo
    simp only [hslot]
    exact if_neg (fun h => hst.elim h.1 h.2)
  have hre := State.Reslots.updGen (s.leavePointer slot) slot (fun g => { g with state := 4 })
  refine ⟨?_, _, hre, ?_, State.gen_updGen_not _ _ _, ?_⟩
  · rw [he]
    exact ((s.leavePointer_reslots slot).trans hre).within.trans ((Within.setWgt _ _).trans (State.complete_within _ _ _ _ _ _).mono)
  · rw [State.gen_updGen]
  · rw [he, State.complete_wgt]

/-- GEN_POINTER_MOVE with one switch pending, `u` the slots as the boundary finds them: the pointer is at the slot, which is LIVE (R118). -/
theorem genPointerMove_switches {c : Nat} {q : BitVec 4} (hon : s.pwr.off = false) (hopen : s.opening = true)
    (hpend : s.wgt.switchPending = [(if slot then 1 else 0, c, q)]) (hu : u = s.settleDues.settleCommits)
    (hst : (u.gen slot).state = 3 ∨ (u.gen slot).state = 5) :
    Answers .genPointerMove s { wgt := true, fab := true, chans := true, hif := true } (fun t =>
      t.wgt.ptrValid = true ∧ t.wgt.liveSlot = slot ∧ (t.gen slot).state = 4 ∧ t.wgt.switchPending = [] ∧
      (t.gen (!slot)).state = if s.wgt.ptrValid = true ∧ s.wgt.liveSlot = !slot then
        (if 0 < s.pinned (u.gen (!slot)).number then 5 else 3) else (u.gen (!slot)).state) := by
  have hre : s.Reslots u := hu ▸ (State.Reslots.settleDues s).trans (.settleCommits _)
  have hptr : u.wgt.ptrValid = s.wgt.ptrValid := hre.view (fun v => v.wgt.ptrValid) (fun _ _ _ _ => rfl)
  have hlive : u.wgt.liveSlot = s.wgt.liveSlot := hre.view (fun v => v.wgt.liveSlot) (fun _ _ _ _ => rfl)
  have hpin : ∀ n, u.pinned n = s.pinned n := fun n => hre.view (State.pinned · n) (fun _ _ _ _ => rfl)
  have hmove : s.movePointer =
      ({ u with wgt := { u.wgt with switchPending := [] } } : State).switchTo (if slot then 1 else 0, c, q) := by
    have hsame : u.wgt.switchPending = s.wgt.switchPending := hre.view (fun v => v.wgt.switchPending) (fun _ _ _ _ => rfl)
    unfold State.movePointer
    dsimp only
    rw [← hu, hsame, hpend]
    rfl
  obtain ⟨hw, v, hv, hlivest, hother, hwgt⟩ := State.switchTo_spec (s := { u with wgt := { u.wgt with switchPending := [] } })
    (e := (if slot then 1 else 0, c, q)) (slot := slot) (by cases slot <;> rfl) hst
  rw [← hmove] at hw hwgt
  have hgen : ∀ x, s.movePointer.gen x = v.gen x := fun x => by unfold State.gen; rw [hwgt]
  refine .of_act_eq (exec_genPointerMove s) hon (State.atOpening_of_opening hopen _) (hre.within.trans ((Within.setWgt _ _).trans hw)) ?_
  rw [hgen, hgen, hwgt, hother, State.leavePointer_gen_not, ← hptr, ← hlive, ← hpin]
  refine ⟨rfl, rfl, hlivest, ?_, rfl⟩
  exact (hv.view (fun v => v.wgt.switchPending) (fun _ _ _ _ => rfl)).trans
    ((State.leavePointer_reslots _ _).view (fun v => v.wgt.switchPending) (fun _ _ _ _ => rfl))

end Sys2Proof.Machine
end

section
/-! The statement of the commands on generations settled. -/

namespace Sys2Proof.Machine

/-- Settles O36: each command changes the slots alone, as they are or as they will be; which slot's record an abort leaves, and that a hold settles
at once, are the model's choices (log entries 75 and 30). -/
theorem generationsCommitSwitchAndRetire : Obligations.GenerationsCommitSwitchAndRetire := by
  have hchan : ∀ c ∈ [0, 18], c ∈ [0, 1, 18] := by decide
  refine ⟨fun s i hon hi hp hn hl => ⟨generationCommit_new hon hi hp hn hl, generationCommit_roll hon hi hp hn hl⟩,
    fun s b slot hon hb => ⟨fun hacc hr hi hst => ?_, fun c q u hopen hpend hu hst => genPointerMove_switches hon hopen hpend hu hst,
      fun hopen => ?_, fun hacc hst hpin hfix => ?_, fun hacc hst => ?_, fun i hacc hi hp hroll => ?_⟩⟩
  · refine .of_accepted (exec_wgtSwitch b s) hon hacc (hchan _ (State.accepts_channel hacc)) (fun u hu => ?_)
    have hwgt := hu.view State.wgt (fun _ _ => rfl)
    rw [← hwgt] at hi ⊢
    obtain ⟨hw, hdue⟩ := State.wgtSwitch_waits (s := u) hb ((hu.view State.rollHolds (fun _ _ => rfl)).trans hr) hi (hu.projected ▸ hst)
    exact ⟨hw.mono, hdue⟩
  · exact (exec_genPointerMove s).trans (act_of_eq_self (State.atOpening_of_not hopen _))
  · refine .of_accepted (exec_wgtRetire b s) hon hacc (hchan _ (State.accepts_channel hacc)) (fun u hu => ?_)
    rw [← hu.projected] at hst hpin hfix
    obtain ⟨hw, hdue⟩ := State.wgtRetire_waits (s := u) hb hst hpin hfix
    exact ⟨hw.mono, hu.view State.wgt (fun _ _ => rfl) ▸ hdue⟩
  · refine .of_accepted (exec_wgtFix b s) hon hacc (hchan _ (State.accepts_channel hacc)) (fun u hu => ?_)
    obtain ⟨hw, hfix, hother⟩ := State.wgtFix_fixes (s := u) hb (hu.projected ▸ hst)
    exact ⟨hw.mono, hfix, hother.trans (State.pgen_of_wgt (hu.view State.wgt (fun _ _ => rfl)) _)⟩
  · refine .of_accepted (exec_wgtAbort b s) hon hacc (hchan _ (State.accepts_channel hacc)) (fun u hu => ?_)
    have hwgt := hu.view State.wgt (fun _ _ => rfl)
    rw [← hwgt] at hi hp
    rw [← State.gen_of_wgt hwgt] at hroll
    obtain ⟨hw, hend⟩ := State.wgtAbort_staging (s := u) (b := b) hi hp hroll
    exact ⟨hw.mono, hend⟩

end Sys2Proof.Machine
end

section
/-! SUPPORT. The course of an install: chunks placed, sessions started, groups noted (R109, R112, R121), and what each leaves of the slots. -/

namespace Sys2Proof.Machine

variable {s t u : State} {m : Foot} {i : Install}

/-! ## Chunks in memory -/

theorem State.placeGolden_within (s : State) (c : GenChunk) : Within { mem := true, host := true, poison := true } s (s.placeGolden c) := by
  unfold State.placeGolden
  split
  · exact .ite (.wrBytes _ _ _) (.refl _ _)
  · exact .refl _ _

theorem State.placeChunks_within (s : State) (g : Gen) : Within { mem := true, host := true, poison := true } s (s.placeChunks g) :=
  .foldl _ State.placeGolden_within _ _

theorem State.storeChunk_within (s : State) (i : Install) (n : Nat) (e : ManifestEntry) (bs : List Byte) :
    Within { mem := true, host := true, poison := true } s (s.storeChunk i n e bs) :=
  (Within.wrBytes s _ _).trans (.foldl _ State.placeGolden_within _ _)

/-! ## An install that fails (R111, R116) -/

/-- The install ended with a status, its slot as it was before it. -/
structure State.InstallFailed (s t : State) (i : Install) (st : Byte) (entry : Nat) : Prop where
  within : Within { wgt := true, fab := true, chans := true, hif := true } s t
  install : t.wgt.install = none
  phase : t.wgt.phase = 0
  status : t.wgt.status = st
  failEntry : t.wgt.failEntry = BitVec.ofNat 32 entry
  slot : t.pgen i.target = i.prior
  other : t.gen (!i.target) = s.gen (!i.target)

theorem State.failInstall_fails (hi : s.wgt.install = some i) (st : Byte) (entry : Nat) :
    s.InstallFailed (s.failInstall st entry) i st entry := by
  have hmove := State.Reslots.moveGen s i.target (fun _ => i.prior)
  unfold State.failInstall
  simp only [hi]
  constructor
  · exact hmove.within.trans ((Within.setWgt _ _).trans (State.complete_within _ _ _ _ _ _).mono)
  · rw [State.complete_wgt]
  · rw [State.complete_wgt]
  · rw [State.complete_wgt]
  · rw [State.complete_wgt]
  · rw [State.pgen_of_wgt (State.complete_wgt _ _ _ _ _ _)]
    exact State.pgen_moveGen _ _ _
  · rw [State.gen_of_wgt (State.complete_wgt _ _ _ _ _ _)]
    exact State.gen_moveGen_not _ _ _

/-! ## Sessions started (R112) -/

/-- `t` is `s` but for the arrays, the sessions and the install's own counts. -/
def State.Programs (s t : State) : Prop :=
  ∃ a j l, t = { s with arrs := a, wgt := { s.wgt with install := j, sessions := l } }

theorem State.Programs.refl (s : State) : s.Programs s := ⟨_, _, _, rfl⟩

theorem State.Programs.trans (h : s.Programs t) (h' : t.Programs u) : s.Programs u := by
  obtain ⟨_, _, _, rfl⟩ := h
  obtain ⟨_, _, _, rfl⟩ := h'
  exact ⟨_, _, _, rfl⟩

theorem State.Programs.foldl {α : Type} {f : State → α → State} (hf : ∀ (s : State) a, s.Programs (f s a)) (l : List α) (s : State) :
    s.Programs (l.foldl f s) := by
  induction l generalizing s with
  | nil => exact .refl _
  | cons a l ih => exact (hf s a).trans (ih _)

theorem State.Programs.within (h : s.Programs t) : Within { arrs := true, wgt := true } s t := by
  obtain ⟨_, _, _, rfl⟩ := h
  rfl

theorem State.Programs.view {α : Type} (h : s.Programs t) (v : State → α)
    (hv : ∀ a j l, v { s with arrs := a, wgt := { s.wgt with install := j, sessions := l } } = v s) : v t = v s := by
  obtain ⟨_, _, _, rfl⟩ := h
  exact hv _ _ _

theorem State.tryInstall_programs (s : State) (x : Nat × PlanEntry × ManifestEntry × Nat) : s.Programs (s.tryInstall x) := by
  unfold State.tryInstall
  split
  · exact .refl _
  · dsimp only
    split
    · exact .refl _
    · split
      · exact ⟨_, _, _, rfl⟩
      · split
        · exact ⟨_, _, _, rfl⟩
        · exact .refl _

/-! ## The states of the slots -/

/-- Every slot, as it is and as it will be, is in the state it was in. -/
structure State.SlotStates (s t : State) : Prop where
  gen : ∀ b, (t.gen b).state = (s.gen b).state
  recState : ∀ b, (t.gen b).recState = (s.gen b).recState
  pgen : ∀ b, (t.pgen b).state = (s.pgen b).state

theorem State.SlotStates.trans (h : s.SlotStates t) (h' : t.SlotStates u) : s.SlotStates u :=
  ⟨fun b => (h'.gen b).trans (h.gen b), fun b => (h'.recState b).trans (h.recState b), fun b => (h'.pgen b).trans (h.pgen b)⟩

theorem State.SlotStates.of_same (hg : ∀ b, t.gen b = s.gen b) (hd : ∀ b, t.genDue b = s.genDue b) : s.SlotStates t :=
  ⟨fun b => by rw [hg], fun b => by rw [hg], fun b => by unfold State.pgen; rw [hg, hd]⟩

theorem State.SlotStates.of_wgt (h : t.wgt = s.wgt) : s.SlotStates t := .of_same (State.gen_of_wgt h) (State.genDue_of_wgt h)

theorem State.SlotStates.updPgen (s : State) (b : Bool) (f : Gen → Gen) (hs : ∀ g, (f g).state = g.state)
    (hr : ∀ g, (f g).recState = g.recState) : s.SlotStates (s.updPgen b f) := by
  unfold State.updPgen
  constructor
  · intro c; split
    · simp
    · cases b <;> cases c <;> simp [State.gen, State.updGen, hs]
  · intro c; split
    · simp
    · cases b <;> cases c <;> simp [State.gen, State.updGen, hr]
  · intro c
    by_cases hc : c = b
    · subst hc
      exact (congrArg Gen.state (State.pgen_updPgen s c f)).trans (hs _)
    · obtain rfl : c = !b := by cases b <;> cases c <;> simp_all
      exact congrArg Gen.state (State.pgen_updPgen_not s b f)

theorem State.noteGroups_spec (s : State) :
    Within { wgt := true } s s.noteGroups ∧ s.SlotStates s.noteGroups ∧ s.noteGroups.wgt.phase = s.wgt.phase := by
  unfold State.noteGroups
  split
  · exact ⟨.refl _ _, .of_wgt rfl, rfl⟩
  · next i _ =>
    have hcount : s.SlotStates { s with wgt := { s.wgt with groupsDone := BitVec.ofNat 16 i.groupsDone.length } } :=
      .of_same (fun _ => rfl) (fun _ => rfl)
    have hslot := State.Reslots.updPgen { s with wgt := { s.wgt with groupsDone := BitVec.ofNat 16 i.groupsDone.length } }
      (decide (i.slot = 1)) (fun g => { g with groups := i.groupsDone })
    exact ⟨(Within.setWgt _ _).trans hslot.within, hcount.trans (.updPgen _ _ _ (fun _ => rfl) (fun _ => rfl)),
      hslot.view (fun v => v.wgt.phase) (fun _ _ _ _ => rfl)⟩

/-- Sessions started while every planned array's tile lives: the slots keep their states, and the install programs or is due to commit (R112,
R114). -/
theorem State.pumpInstall_spec (hi : s.wgt.install = some i) (hp : s.wgt.phase = 3)
    (hok : ∀ x ∈ i.arrays, (s.site (siteAt x.2.1.x x.2.1.y)).fstate ≠ 3) :
    Within { arrs := true, wgt := true } s s.pumpInstall ∧ s.SlotStates s.pumpInstall ∧
    (s.pumpInstall.wgt.phase = 3 ∨ s.pumpInstall.wgt.phase = 4) := by
  unfold State.pumpInstall
  split
  · next h => exact absurd (h.symm.trans hi) (by simp)
  · next j hj =>
    obtain rfl : j = i := Option.some.inj (hj.symm.trans hi)
    rw [if_neg (by simp [hp])]
    split
    · next x hx =>
      have hdead := List.find?_some hx
      exact absurd (of_decide_eq_true (Bool.and_eq_true_iff.1 hdead).1) (hok x (List.mem_of_find?_eq_some hx))
    · extract_lets v w all
      have htry : s.Programs v := .foldl State.tryInstall_programs _ _
      obtain ⟨hw, hst, hph⟩ := v.noteGroups_spec
      have hvst : s.SlotStates v := .of_same (fun b => htry.view (State.gen · b) (fun _ _ _ => rfl))
        (fun b => htry.view (State.genDue · b) (fun _ _ _ => rfl))
      have hwithin : Within { arrs := true, wgt := true } s w := htry.within.trans hw.mono
      have hstates : s.SlotStates w := hvst.trans hst
      split
      · exact ⟨hwithin.trans (.setWgt _ _), hstates.trans (.of_same (fun _ => rfl) (fun _ => rfl)), .inr rfl⟩
      · exact ⟨hwithin, hstates, .inl (hph.trans ((htry.view (fun v => v.wgt.phase) (fun _ _ _ => rfl)).trans hp))⟩

end Sys2Proof.Machine
end

section
/-! SUPPORT. The rows of an install: a chunk received, a silent source, staging complete, and the start of a rolling rewrite's programming
(R109–R111, R121). -/

namespace Sys2Proof.Machine

variable {s t u : State} {i : Install} {entry : Nat} {bytes : List Byte} {e : ManifestEntry}

theorem exec_installChunkReceived (n : Nat) (bs : List Byte) (s : State) :
    exec (.installChunkReceived n bs) s = execInstallChunkReceived n bs s := rfl
theorem exec_installSourceTimeout (s : State) : exec .installSourceTimeout s = execInstallSourceTimeout s := rfl
theorem exec_stagingComplete (s : State) : exec .stagingComplete s = execStagingComplete s := rfl
theorem exec_rollProgrammingStart (s : State) : exec .rollProgrammingStart s = execRollProgrammingStart s := rfl

/-! ## Chunks -/

/-- A chunk that the plan names and that has not been received, of an install that is no loader's. -/
structure State.Expects (s : State) (i : Install) (entry : Nat) (e : ManifestEntry) : Prop where
  phase : s.wgt.phase = 1
  install : s.wgt.install = some i
  loader : i.loader = false
  manifest : i.img.manifest[entry]? = some e
  planned : ∃ p ∈ i.plan.entries, p.entry = entry
  fresh : entry ∉ i.received

/-- The time of the last chunk noted. -/
def State.heard (s : State) : State := s.updInstall (fun i => { i with lastTick := s.tick })

theorem State.heard_install (hi : s.wgt.install = some i) : s.heard.wgt = { s.wgt with install := some { i with lastTick := s.tick } } := by
  unfold State.heard State.updInstall
  rw [hi]
  rfl

theorem State.forwardChunk_of_not_loader (s : State) (h : i.loader = false) (e : ManifestEntry) (bs : List Byte) : s.forwardChunk i e bs = s :=
  if_pos (by simp [h])

/-- The footprint of a chunk received. -/
def chunkRegs : Foot := { mem := true, host := true, poison := true, wgt := true, fab := true, chans := true, hif := true }

/-- What an expected chunk does: its checks decide whether it is stored and received, or ends the install (R111). -/
theorem State.Expects.effect (h : s.Expects i entry e) (bytes : List Byte) :
    ∃ f, exec (.installChunkReceived entry bytes) s = act chunkRegs f s ∧
      f s = if chunkStatus i.img.imageId e bytes ≠ 0 then s.heard.failInstall (chunkStatus i.img.imageId e bytes) entry
        else (s.heard.storeChunk i entry e bytes).updInstall (fun i => { i with received := i.received ++ [entry] }) := by
  refine ⟨_, exec_installChunkReceived entry bytes s, ?_⟩
  obtain ⟨p, hp, rfl⟩ := h.planned
  have hnew : (!(i.plan.entries.any (fun q => decide (q.entry = p.entry))) || i.received.contains p.entry) ≠ true := by
    have hany : i.plan.entries.any (fun q => decide (q.entry = p.entry)) = true := List.any_eq_true.2 ⟨p, hp, by simp⟩
    simp [hany, h.fresh]
  simp only [h.install, h.manifest, State.forwardChunk_of_not_loader _ h.loader]
  rw [if_neg (by simp [h.phase]), if_neg hnew]
  rfl

/-- One that passes its checks is received (R109, R111). -/
theorem State.Expects.received (h : s.Expects i entry e) (hon : s.pwr.off = false) (hok : chunkStatus i.img.imageId e bytes = 0) :
    Answers (.installChunkReceived entry bytes) s { mem := true, host := true, poison := true, wgt := true } (fun t =>
      t.wgt = { s.wgt with install := some { i with received := i.received ++ [entry], lastTick := s.tick } }) := by
  obtain ⟨f, hf, hfs⟩ := h.effect bytes
  rw [if_neg (by simp [hok])] at hfs
  have hstore := s.heard.storeChunk_within i entry e bytes
  refine .of_act_eq hf hon hfs ((Within.setWgt s _).trans (hstore.mono.trans (.setWgt _ _))) ?_
  have hwgt : (s.heard.storeChunk i entry e bytes).wgt = _ := (hstore.view State.wgt (fun _ _ => rfl)).trans (State.heard_install h.install)
  unfold State.updInstall
  rw [hwgt]
  rfl

/-- One that fails a check ends the install with its status and its entry (R111). -/
theorem State.Expects.refused (h : s.Expects i entry e) (hon : s.pwr.off = false) (hbad : chunkStatus i.img.imageId e bytes ≠ 0) :
    Answers (.installChunkReceived entry bytes) s { wgt := true, fab := true, chans := true, hif := true } (fun t =>
      t.wgt.install = none ∧ t.wgt.phase = 0 ∧ t.wgt.status = chunkStatus i.img.imageId e bytes ∧
      t.wgt.failEntry = BitVec.ofNat 32 entry ∧ t.pgen i.target = i.prior) := by
  obtain ⟨f, hf, hfs⟩ := h.effect bytes
  rw [if_pos hbad] at hfs
  have hfail := State.failInstall_fails (s := s.heard) (i := { i with lastTick := s.tick }) (by rw [State.heard_install h.install])
    (chunkStatus i.img.imageId e bytes) entry
  exact .of_act_eq hf hon hfs ((Within.setWgt s _).trans hfail.within)
    ⟨hfail.install, hfail.phase, hfail.status, hfail.failEntry, hfail.slot⟩

/-- A source silent for 1,024 ticks ends the install (R110). -/
theorem installSourceTimeout_ends (hon : s.pwr.off = false) (hi : s.wgt.install = some i) (hp : s.wgt.phase = 1)
    (hlate : i.lastTick + 1024 ≤ s.tick) :
    Answers .installSourceTimeout s { wgt := true, fab := true, chans := true, hif := true } (fun t =>
      t.wgt.install = none ∧ t.wgt.phase = 0 ∧ t.wgt.status = 0x0C ∧ t.pgen i.target = i.prior) := by
  have hfail := State.failInstall_fails hi 0x0C 0
  refine .of_act_eq (exec_installSourceTimeout s) hon ?_ hfail.within ⟨hfail.install, hfail.phase, hfail.status, hfail.slot⟩
  simp only [hi]
  exact if_pos ⟨hp, hlate⟩

/-! ## Staging complete -/

/-- Programming begun while every planned array's tile lives: the slot PROGRAMMING (R109). -/
theorem State.beginProgramming_spec (hi : s.wgt.install = some i)
    (hok : ∀ x ∈ i.arrays, (s.site (siteAt x.2.1.x x.2.1.y)).fstate ≠ 3) :
    Within { mem := true, host := true, poison := true, arrs := true, wgt := true } s (s.beginProgramming i) ∧
    ((s.beginProgramming i).pgen i.target).state = 2 ∧
    ((s.beginProgramming i).wgt.phase = 3 ∨ (s.beginProgramming i).wgt.phase = 4) := by
  unfold State.beginProgramming
  extract_lets v
  have hmove := State.Reslots.moveGen s i.target (fun g => { g with state := 2 })
  have hplace : Within { mem := true, host := true, poison := true } _ v := State.placeChunks_within _ _
  have hsite : ∀ k, v.site k = s.site k := fun k =>
    (hplace.view (State.site · k) (fun _ _ => rfl)).trans (hmove.view (State.site · k) (fun _ _ _ _ => rfl))
  have hinst : v.wgt.install = some i :=
    ((hplace.view (fun v => v.wgt.install) (fun _ _ => rfl)).trans (hmove.view (fun v => v.wgt.install) (fun _ _ _ _ => rfl))).trans hi
  obtain ⟨hw, hst, hph⟩ := State.pumpInstall_spec (s := { v with wgt := { v.wgt with phase := 3 } }) hinst rfl
    (fun x hx => hsite _ ▸ hok x hx)
  have hslot : v.pgen i.target = _ := (State.pgen_of_wgt (hplace.view State.wgt (fun _ _ => rfl)) _).trans (State.pgen_moveGen _ _ _)
  exact ⟨hmove.within.trans (hplace.mono.trans ((Within.setWgt _ _).trans hw.mono)),
    (hst.pgen i.target).trans (congrArg Gen.state hslot :), hph⟩

/-- Every planned chunk received: programming begins, where no outgoing slot has to drain first (R109). -/
theorem stagingComplete_programs (hon : s.pwr.off = false) (hi : s.wgt.install = some i) (hp : s.wgt.phase = 1) (hroll : i.roll = false)
    (hall : ∀ p ∈ i.plan.entries, p.entry ∈ i.received)
    (hok : ∀ x ∈ i.arrays, (s.site (siteAt x.2.1.x x.2.1.y)).fstate ≠ 3) :
    Answers .stagingComplete s { mem := true, host := true, poison := true, arrs := true, wgt := true } (fun t =>
      (t.pgen i.target).state = 2 ∧ (t.wgt.phase = 3 ∨ t.wgt.phase = 4)) := by
  obtain ⟨hw, hspec⟩ := State.beginProgramming_spec hi hok
  refine .of_act_eq (exec_stagingComplete s) hon ?_ hw hspec
  simp only [hi]
  rw [if_neg (by simpa [hp] using hall), if_neg (by simp [hroll])]

/-- In mode ROLL, the engine running, the install waits for the drain (R121). -/
theorem stagingComplete_waits (hon : s.pwr.off = false) (hi : s.wgt.install = some i) (hp : s.wgt.phase = 1) (hroll : i.roll = true)
    (hout : (s.gen (!i.target)).state ≠ 7) (hrun : s.held = false) (hall : ∀ p ∈ i.plan.entries, p.entry ∈ i.received) :
    Answers .stagingComplete s { wgt := true } (fun t => t.wgt = { s.wgt with phase := 2 }) := by
  refine .of_act_eq (t := { s with wgt := { s.wgt with phase := 2 } }) (exec_stagingComplete s) hon ?_ (.setWgt _ _) rfl
  simp only [hi]
  rw [if_neg (by simpa [hp] using hall), if_pos ⟨hroll, hout⟩]
  exact if_neg (fun h => Bool.false_ne_true (hrun.symm.trans h))

/-! ## The start of a rolling rewrite's programming -/

/-- The outgoing slot YIELDING, the target PROGRAMMING with its chunks placed, the pointer away from a slot that yields (R121). -/
def State.yield (s : State) (b : Bool) : State :=
  let v := ((s.updGen (!b) (fun g => { g with state := 7, recState := g.state })).updGen b (fun g => { g with state := 2 })).placeChunks (s.gen b)
  ({ v with wgt := { v.wgt with phase := 3, ptrValid := if v.wgt.liveSlot = !b then false else v.wgt.ptrValid } }).staleCheck

theorem State.yield_spec (s : State) (b : Bool) :
    Within { mem := true, host := true, poison := true, wgt := true, vars := true } s (s.yield b) ∧
    ((s.yield b).gen (!b)).state = 7 ∧ ((s.yield b).gen (!b)).recState = (s.gen (!b)).state ∧ ((s.yield b).gen b).state = 2 ∧
    (s.yield b).wgt.phase = 3 ∧ (s.yield b).wgt.install = s.wgt.install := by
  unfold State.yield
  extract_lets v
  have hre : s.Reslots ((s.updGen (!b) (fun g => { g with state := 7, recState := g.state })).updGen b (fun g => { g with state := 2 })) :=
    (State.Reslots.updGen _ _ _).trans (.updGen _ _ _)
  have hplace : Within { mem := true, host := true, poison := true } _ v := State.placeChunks_within _ _
  have hgen := State.gen_of_wgt (hplace.view State.wgt (fun _ _ => rfl))
  refine ⟨hre.within.trans (hplace.mono.trans ((Within.setWgt _ _).trans (State.staleCheck_within _).mono)), ?_, ?_, ?_, rfl, ?_⟩
  · exact (congrArg Gen.state (hgen (!b)) :).trans (by simp)
  · exact (congrArg Gen.recState (hgen (!b)) :).trans (by simp)
  · exact (congrArg Gen.state (hgen b) :).trans (by simp)
  · exact (hplace.view (fun v => v.wgt.install) (fun _ _ => rfl)).trans (hre.view (fun v => v.wgt.install) (fun _ _ _ _ => rfl))

/-- ROLL_PROGRAMMING_START once the outgoing slot has drained and nothing waits at the slots (R121). -/
theorem rollProgrammingStart_yields (hon : s.pwr.off = false) (hset : s.settled = true) (hi : s.wgt.install = some i) (hp : s.wgt.phase = 2)
    (hroll : i.roll = true) (hpin : s.activePinned (s.gen (!i.target)).number = 0) (hret : s.wgt.retireDue = [])
    (ha : s.wgt.dueA = none) (hb : s.wgt.dueB = none) (hok : ∀ x ∈ i.arrays, (s.site (siteAt x.2.1.x x.2.1.y)).fstate ≠ 3) :
    Answers .rollProgrammingStart s
      { mem := true, host := true, poison := true, arrs := true, wgt := true, vars := true, fab := true } (fun t =>
      (t.gen (!i.target)).state = 7 ∧ (t.gen (!i.target)).recState = (s.gen (!i.target)).state ∧ (t.gen i.target).state = 2 ∧
      (t.wgt.phase = 3 ∨ t.wgt.phase = 4)) := by
  obtain ⟨hw, hout, hrec, hin, hph, hinst⟩ := s.yield_spec i.target
  have hsite : ∀ k, (s.yield i.target).site k = s.site k := fun k => hw.view (State.site · k) (fun _ _ => rfl)
  obtain ⟨hpump, hst, hphase⟩ := State.pumpInstall_spec (hinst.trans hi) hph (fun x hx => hsite _ ▸ hok x hx)
  have hroll : s.rollStart = (s.yield i.target).pumpInstall := by
    have hno : s.retiring i.target = false := by unfold State.retiring; rw [hret]; rfl
    have hdueA : s.settleDue false = s := State.settleDue_of_none false ha
    have hdueB : s.settleDue true = s := State.settleDue_of_none true hb
    have hcond : s.wgt.phase = 2 ∧ i.roll = true ∧ s.activePinned (s.gen (!i.target)).number = 0 ∧
        (!(s.retiring (!!i.target))) = true := ⟨hp, hroll, hpin, by simp [hno]⟩
    have htarget : decide (i.slot = 1) = i.target := rfl
    unfold State.rollStart
    simp only [hi, htarget]
    rw [if_pos hcond, hdueA, hdueB, Bool.not_not]
    rfl
  refine .of_act_eq (exec_rollProgrammingStart s) hon ?_ (hw.mono.trans hpump.mono)
    ⟨(hst.gen _).trans hout, (hst.recState _).trans hrec, (hst.gen _).trans hin, hphase⟩
  rw [hset]
  exact hroll

end Sys2Proof.Machine
end

section
/-! The statement of the course of an install settled. -/

namespace Sys2Proof.Machine

/-- Settles O35: a chunk's checks decide between its place and the end of the install, and sessions started keep the states of the slots. -/
theorem chunksStageAndProgram : Obligations.ChunksStageAndProgram := by
  intro s i hon hi
  refine ⟨fun entry bytes e hp hl he hplan hnew hok => State.Expects.received ⟨hp, hi, hl, he, hplan, hnew⟩ hon hok,
    fun entry bytes e hp hl he hplan hnew hbad => State.Expects.refused ⟨hp, hi, hl, he, hplan, hnew⟩ hon hbad,
    installSourceTimeout_ends hon hi, stagingComplete_programs hon hi, stagingComplete_waits hon hi,
    fun hset hp hroll => rollProgrammingStart_yields hon hset hi hp hroll, fun hset => ?_⟩
  rw [exec_rollProgrammingStart]
  exact act_of_eq_self (by rw [hset]; rfl)

end Sys2Proof.Machine
end

section
/-! The statement of the beginning of an install settled: it fails at a state whose slot is PROGRAMMING, uncommitted, under the generation pointer,
with its retirement and a switch away from it pending. At the boundary the switch makes that slot READY and the retirement EMPTY, so an install
into it is accepted; until then the slot is still PROGRAMMING, and one that stages into a PROGRAMMING slot (the resume of a rewrite, R121) leaves
it so. -/

namespace Sys2Proof.Machine

theorem exec_wgtInstallRoll (b : CmdBlock) (head : List Byte) (sig : ImageSig) (plan : List Byte) (s : State) :
    exec (.wgtInstallRoll b head sig plan) s = execWgtInstallRoll b head sig plan s := rfl

/-- Slot A PROGRAMMING under the pointer, its retirement pending, and a switch to slot B, which is READY. -/
def underPointer : State := {
  boot := { ready := true }, lock := { wSize := 1 }, nv := { opKey := some [], roots := [[]] }
  wgt := { genA := { state := 2 }, genB := { state := 3 }, ptrValid := true, liveSlot := false
           switchPending := [(1, 0, 0)], retireDue := [(0, 0, 1)] } }

/-- A chain to the trusted root, whose leaf is the empty key. -/
def emptyKeySig : ImageSig := { chainOk := true, root := [], leaf := [], signatureOk := true }

/-- An image of one chunk of rank 0, for two devices, below its chunk area (Tables 4.2 to 4.4). -/
def rankZeroImage : List Byte :=
  leBytes 4 0x49475749 ++ [1, 0, 3, 0] ++ List.replicate 16 0 ++ [1, 0, 0, 0, 1, 0, 2, 0] ++ leBytes 8 0x1000 ++ List.replicate 24 0 ++ sha512 [] ++
    List.replicate 256 0 ++ [1]

/-- The plan of rank 1 for slot A in mode ROLL, which places nothing (Table 4.6). -/
def rankOnePlan : List Byte := List.replicate 4 0 ++ [1, 0, 0, 1]

/-- WGT_INSTALL of both into slot A in mode ROLL from host memory, its tag still to be formed. -/
def untaggedRoll : CmdBlock := {
  channel := 18, cseq := 2, blkCode := 0x20, blkCseq := 2, addr := 0, readOk := true, length := 64, flags := 1, counter := 1, tag := 0
  reserved := 0, params := [0, 1, 0, 0, 0, 0, 0, 0] ++ leBytes 8 0x020000000000 ++ leBytes 8 0x1000 ++ leBytes 8 0x020000000000 ++ leBytes 8 0x20 }

/-- The same tagged under the empty key (R405). -/
def taggedRoll : CmdBlock := { untaggedRoll with tag := blockTag [] 18 untaggedRoll }

theorem taggedRoll_accepted : underPointer.accepts ⟨0x20, true, [0, 18]⟩ false false taggedRoll := by unfold State.accepts; decide +kernel

/-- The image passes the checks before its chunks. -/
theorem rankZeroImage_passes :
    underPointer.imageStatus (taggedRoll.par 0 1) true (taggedRoll.par 16 8) (parseImage rankZeroImage emptyKeySig) (parsePlan rankOnePlan) = 0 := by
  decide +kernel

/-- At the boundary slot A will be EMPTY and slot B LIVE. -/
theorem underPointer_projected : (underPointer.projected.gen false).state = 0 ∧ (underPointer.projected.gen true).state = 4 ∧
    (underPointer.projected.gen true).fixed = false := by decide +kernel

/-- The install is accepted and stages, and its slot is still PROGRAMMING. -/
theorem underPointer_stays_programming :
    ∃ t, exec (.wgtInstallRoll taggedRoll rankZeroImage emptyKeySig rankOnePlan) underPointer = .next t ∧ (t.pgen false).state = 2 :=
  ⟨_, (exec_wgtInstallRoll ..).trans (act_on rfl), by decide +kernel⟩

/-- Refutes O34: into a slot A that is PROGRAMMING under the pointer, while its retirement and a switch to slot B wait, WGT_INSTALL in mode ROLL
stages and leaves it PROGRAMMING, not STAGING. -/
theorem not_installsBegin : ¬ Obligations.InstallsBegin := by
  intro h
  obtain ⟨hempty, hlive, hfixed⟩ := underPointer_projected
  obtain ⟨-, hroll⟩ := h underPointer taggedRoll rankZeroImage rankOnePlan emptyKeySig false rfl (by decide) taggedRoll_accepted (by decide)
    (by decide +kernel) rfl (by decide) hempty _ rfl _ _ rfl rfl
  obtain ⟨hstages, -⟩ := hroll 0 (by decide) hfixed (.inr hlive) (by decide) rankZeroImage_passes.symm
  obtain ⟨t, ht, -, -, hstaging, -⟩ := hstages rfl
  obtain ⟨t', ht', hprogramming⟩ := underPointer_stays_programming
  obtain rfl : t' = t := Host.Outcome.next.inj (ht'.symm.trans ht)
  exact absurd (hprogramming.symm.trans hstaging) (by decide)

end Sys2Proof.Machine
end

section
/-! SUPPORT. Resident variants: what VAR_LOAD, the end of a load and VAR_UNLOAD make of a slot (R159, R160, R164, R189). -/

namespace Sys2Proof.Machine

variable {s t u : State} {m : Foot} {b : CmdBlock} {n : Nat} {img : VariantImage}

theorem exec_varLoad (b : CmdBlock) (s : State) : exec (.varLoad b) s = execVarLoad b s := rfl
theorem exec_varLoadChecksDone (n : Nat) (img : VariantImage) (s : State) :
    exec (.varLoadChecksDone n img) s = execVarLoadChecksDone n img s := rfl
theorem exec_varLoadSourceTimeout (n : Nat) (s : State) : exec (.varLoadSourceTimeout n) s = execVarLoadSourceTimeout n s := rfl
theorem exec_varUnload (b : CmdBlock) (s : State) : exec (.varUnload b) s = execVarUnload b s := rfl

/-! ## One slot changed -/

theorem Within.updVar (s : State) (n : Nat) (f : VarSlot → VarSlot) (hm : m.vars = true := by rfl) : Within m s (s.updVar n f) := by
  unfold Within State.only; cases s; simp [State.updVar, hm]

@[simp] theorem State.complete_var (s : State) (c : Nat) (code : Byte) (q : BitVec 4) (st : Byte) (d : BitVec 40) (n : Nat) :
    (s.complete c code q st d).var n = s.var n := (s.complete_within c code q st d).view (State.var · n) (fun _ _ => rfl)
@[simp] theorem State.complete_mem (s : State) (c : Nat) (code : Byte) (q : BitVec 4) (st : Byte) (d : BitVec 40) :
    (s.complete c code q st d).mem = s.mem := (s.complete_within c code q st d).view State.mem (fun _ _ => rfl)
@[simp] theorem State.opened_var (s : State) (b : CmdBlock) (code : Byte) (n : Nat) : (s.opened b code).var n = s.var n :=
  (s.opened_within b code).view (State.var · n) (fun _ _ => rfl)
@[simp] theorem State.opened_mem (s : State) (b : CmdBlock) (code : Byte) : (s.opened b code).mem = s.mem :=
  (s.opened_within b code).view State.mem (fun _ _ => rfl)
@[simp] theorem State.opened_syncPage (s : State) (b : CmdBlock) (code : Byte) (n : Nat) : (s.opened b code).syncPage n = s.syncPage n :=
  (s.opened_within b code).view (State.syncPage · n) (fun _ _ => rfl)

/-- The slot changed alone: it reads `v`, and every other one as before. -/
structure State.SetsVar (s t : State) (n : Nat) (v : VarSlot) : Prop where
  here : t.var n = v
  others : ∀ k, k ≠ n → t.var k = s.var k

/-- A slot changed in a state with the slots of `s`. -/
theorem State.SetsVar.updVar (hu : ∀ k, u.var k = s.var k) (f : VarSlot → VarSlot) : s.SetsVar (u.updVar n f) n (f (s.var n)) :=
  ⟨by rw [State.var_updVar, hu], fun k hk => (u.var_updVar_ne f hk).trans (hu k)⟩

theorem State.SetsVar.trans_same {v : VarSlot} (h : s.SetsVar t n v) (hu : ∀ k, u.var k = t.var k) : s.SetsVar u n v :=
  ⟨(hu n).trans h.here, fun k hk => (hu k).trans (h.others k hk)⟩

/-- The command that changed the slot completes. -/
theorem State.SetsVar.complete {v : VarSlot} (h : s.SetsVar t n v) (c : Nat) (code : Byte) (q : BitVec 4) (st : Byte) (d : BitVec 40) :
    s.SetsVar (t.complete c code q st d) n v := h.trans_same (fun k => State.complete_var t c code q st d k)

/-- The sync page of a slot reads zero in `t`, and memory elsewhere as in `s` (R189). -/
def State.ZeroesPage (s t : State) (n : Nat) : Prop :=
  ∀ a, t.mem.read a = if s.syncPage n ≤ a ∧ a < s.syncPage n + 0x10000 then 0 else s.mem.read a

/-- A slot changed, and its sync page zeroed. -/
def State.renewVar (s : State) (n : Nat) (f : VarSlot → VarSlot) : State := (s.updVar n f).zeroMem (s.syncPage n) 0x10000

theorem State.renewVar_within (s : State) (n : Nat) (f : VarSlot → VarSlot) :
    Within { mem := true, poison := true, vars := true } s (s.renewVar n f) := (Within.updVar _ _ _).trans (.zeroMem _ _ _)

theorem State.SetsVar.renewVar (hu : ∀ k, u.var k = s.var k) (f : VarSlot → VarSlot) : s.SetsVar (u.renewVar n f) n (f (s.var n)) :=
  (State.SetsVar.updVar hu f).trans_same (fun _ => rfl)

theorem State.ZeroesPage.renewVar (hu : u.mem = s.mem) (hp : u.syncPage n = s.syncPage n) (f : VarSlot → VarSlot) :
    s.ZeroesPage (u.renewVar n f) n := by
  intro a
  rw [← hp, ← hu]
  exact Memory.read_zero _ _ _ a

theorem State.ZeroesPage.complete (h : s.ZeroesPage t n) (c : Nat) (code : Byte) (q : BitVec 4) (st : Byte) (d : BitVec 40) :
    s.ZeroesPage (t.complete c code q st d) n := by
  unfold State.ZeroesPage
  rw [State.complete_mem]
  exact h

/-! ## VAR_LOAD and VAR_UNLOAD -/

/-- A slot as VAR_LOAD leaves it: LOADING, with the command's channel and sequence, the size it names and the tick (R160). -/
def VarSlot.loading (v : VarSlot) (b : CmdBlock) (tick : Nat) : VarSlot :=
  { state := 1, reason := v.reason, channel := b.channel, cseq := b.cseq, limit := b.par 16 8, startTick := tick }

/-- An EMPTY slot, its image in reach and room for it in the variant area: the slot LOADING (R159, R190). -/
theorem State.varLoad_empty (hn : b.par 0 1 ≤ 63) (hk : b.par 1 1 ≤ 1) (hsrc : s.sourceOk b (b.par 1 1) (b.par 4 2) = true)
    (hempty : (s.var (b.par 0 1)).state = 0) (hv : s.lock.vSize ≠ 0)
    (hfit : 0x400000 + s.storedBytes + b.par 16 8 ≤ s.lock.vSize.toNat * 2 ^ 30) :
    s.varLoad b = (s.opened b 0x30).updVar (b.par 0 1) (fun v => v.loading b s.tick) := by
  unfold State.varLoad
  dsimp only
  rw [if_neg (not_or.2 ⟨Nat.not_lt.2 hn, Nat.not_lt.2 hk⟩), if_neg (not_not.2 hempty), if_neg (not_or.2 ⟨hv, Nat.not_lt.2 hfit⟩),
    if_neg (by simp [hsrc])]
  rfl

/-- A resident slot that no bank holds: EMPTY, its sync page zeroed (R165, R189). -/
theorem State.varUnload_unarmed (hn : b.par 0 1 ≤ 63) (hres : (s.var (b.par 0 1)).state = 2 ∨ (s.var (b.par 0 1)).state = 3)
    (harm : s.slotArmed (b.par 0 1) = false) :
    s.varUnload b = ((s.opened b 0x31).renewVar (b.par 0 1) (fun v => { reason := v.reason })).complete b.channel 0x31 b.cseq 0 0 := by
  have hbusy : ¬(((s.var (b.par 0 1)).state ≠ 2 ∧ (s.var (b.par 0 1)).state ≠ 3) ∨ s.slotArmed (b.par 0 1) = true) := by
    rw [harm]; tauto
  unfold State.varUnload
  dsimp only
  rw [if_neg (Nat.not_lt.2 hn), if_neg hbusy, State.renewVar, State.opened_syncPage]

/-- VAR_LOAD of an EMPTY slot. -/
theorem varLoad_answers (hon : s.pwr.off = false) (hacc : s.accepts ⟨0x30, true, [0]⟩ false false b) (hn : b.par 0 1 ≤ 63)
    (hk : b.par 1 1 ≤ 1) (hsrc : s.sourceOk b (b.par 1 1) (b.par 4 2) = true) (hempty : (s.var (b.par 0 1)).state = 0)
    (hv : s.lock.vSize ≠ 0) (hfit : 0x400000 + s.storedBytes + b.par 16 8 ≤ s.lock.vSize.toNat * 2 ^ 30) :
    Answers (.varLoad b) s { nv := true, vars := true, fab := true, chans := true, hif := true } (fun t =>
      s.SetsVar t (b.par 0 1) ((s.var (b.par 0 1)).loading b s.tick)) := by
  have hch : b.channel ∈ [0, 1, 18] := by simp [List.mem_singleton.1 (State.accepts_channel hacc)]
  refine .of_accepted (exec_varLoad b s) hon hacc hch (fun u hu => ?_)
  have hslot : ∀ n, u.var n = s.var n := fun n => hu.view (State.var · n) (fun _ _ => rfl)
  have hlock : u.lock = s.lock := hu.view State.lock (fun _ _ => rfl)
  rw [State.varLoad_empty hn hk ((hu.view (State.sourceOk · b _ _) (fun _ _ => rfl)).trans hsrc) (hslot _ ▸ hempty) (hlock ▸ hv)
    (by rw [hlock, hu.view State.storedBytes (fun _ _ => rfl)]; exact hfit), hu.view State.tick (fun _ _ => rfl)]
  exact ⟨(u.opened_within b 0x30).mono.trans (.updVar _ _ _),
    .updVar (fun n => (State.opened_var u b 0x30 n).trans (hslot n)) (fun v => v.loading b s.tick)⟩

/-- VAR_UNLOAD of a resident slot that is not armed. -/
theorem varUnload_answers (hon : s.pwr.off = false) (hacc : s.accepts ⟨0x31, true, [0]⟩ false false b) (hn : b.par 0 1 ≤ 63)
    (hres : (s.var (b.par 0 1)).state = 2 ∨ (s.var (b.par 0 1)).state = 3) (harm : s.slotArmed (b.par 0 1) = false) :
    Answers (.varUnload b) s { nv := true, mem := true, poison := true, vars := true, fab := true, chans := true, hif := true } (fun t =>
      s.SetsVar t (b.par 0 1) { reason := (s.var (b.par 0 1)).reason } ∧ s.ZeroesPage t (b.par 0 1)) := by
  have hch : b.channel ∈ [0, 1, 18] := by simp [List.mem_singleton.1 (State.accepts_channel hacc)]
  refine .of_accepted (exec_varUnload b s) hon hacc hch (fun u hu => ?_)
  have hslot : ∀ n, (u.opened b 0x31).var n = s.var n := fun n =>
    (State.opened_var u b 0x31 n).trans (hu.view (State.var · n) (fun _ _ => rfl))
  have hres' : (u.var (b.par 0 1)).state = 2 ∨ (u.var (b.par 0 1)).state = 3 := hu.view (State.var · (b.par 0 1)) (fun _ _ => rfl) ▸ hres
  rw [State.varUnload_unarmed hn hres' ((hu.view (State.slotArmed · _) (fun _ _ => rfl)).trans harm)]
  have hmem : (u.opened b 0x31).mem = s.mem := (State.opened_mem u b 0x31).trans (hu.view State.mem (fun _ _ => rfl))
  have hpage : (u.opened b 0x31).syncPage (b.par 0 1) = s.syncPage (b.par 0 1) :=
    (State.opened_syncPage u b 0x31 _).trans (hu.view (State.syncPage · _) (fun _ _ => rfl))
  exact ⟨(u.opened_within b 0x31).mono.trans ((State.renewVar_within _ _ _).mono.trans (State.complete_within _ _ _ _ _ _).mono),
    (State.SetsVar.renewVar hslot (fun v => { reason := v.reason })).complete _ _ _ _ _, (State.ZeroesPage.renewVar hmem hpage _).complete _ _ _ _ _⟩

/-! ## The end of a load -/

/-- A slot with the image that passed its checks (R160, R190). -/
def State.stored (s : State) (n : Nat) (img : VariantImage) (v : VarSlot) : VarSlot :=
  { v with state := 2, genSlot := (s.genOf img).getD false, img := some (s.relocated n img) }

/-- A LOADING slot whose image passes every check: the image stored, its sync page zeroed (R160, R189). -/
theorem varLoadChecksDone_passes (hon : s.pwr.off = false) (hst : (s.var n).state = 1) (hc : badContainer img (s.var n).limit = false)
    (hok : s.loadReason n img = 0) :
    Answers (.varLoadChecksDone n img) s { mem := true, poison := true, vars := true, fab := true, chans := true, hif := true } (fun t =>
      s.SetsVar t n (s.stored n img (s.var n)) ∧ s.ZeroesPage t n) := by
  have heff : s.varChecked n img 0 = (s.renewVar n (s.stored n img)).complete (s.var n).channel 0x30 (s.var n).cseq 0 0 := by
    unfold State.varChecked
    exact if_neg (not_not.2 rfl)
  refine Answers.of_act_eq (exec_varLoadChecksDone n img s) hon (Eq.trans ?_ heff)
    ((State.renewVar_within _ _ _).mono.trans (State.complete_within _ _ _ _ _ _).mono)
    ⟨(State.SetsVar.renewVar (fun _ => rfl) _).complete _ _ _ _ _, (State.ZeroesPage.renewVar rfl rfl _).complete _ _ _ _ _⟩
  dsimp only
  rw [if_neg (not_not.2 hst), if_neg (by simp [hc]), hok]

/-- One whose image fails a check: EMPTY with the reason, its command completed (R160, R164). -/
theorem varLoadChecksDone_fails (hon : s.pwr.off = false) (hst : (s.var n).state = 1) (hc : badContainer img (s.var n).limit = false)
    (hbad : s.loadReason n img ≠ 0) :
    Answers (.varLoadChecksDone n img) s { vars := true, fab := true, chans := true, hif := true } (fun t =>
      s.SetsVar t n { reason := s.loadReason n img }) := by
  have hset : s.SetsVar (s.updVar n (fun _ => { reason := s.loadReason n img })) n { reason := s.loadReason n img } := .updVar (fun _ => rfl) _
  refine Answers.of_act_eq (exec_varLoadChecksDone n img s) hon ?_ ((Within.updVar s n _).trans (State.complete_within _ _ _ _ _ _).mono)
    (hset.complete (s.var n).channel 0x30 (s.var n).cseq 2 ((s.loadReason n img).zeroExtend 40))
  dsimp only
  rw [if_neg (not_not.2 hst), if_neg (by simp [hc])]
  unfold State.varChecked
  exact if_pos hbad

/-- A LOADING slot whose source is silent for 1,024 ticks: EMPTY, its command completed (R160). -/
theorem varLoadSourceTimeout_answers (hon : s.pwr.off = false) (hst : (s.var n).state = 1) (hlate : (s.var n).startTick + 1024 ≤ s.tick) :
    Answers (.varLoadSourceTimeout n) s { vars := true, fab := true, chans := true, hif := true } (fun t =>
      s.SetsVar t n { reason := (s.var n).reason }) := by
  have hset : s.SetsVar (s.updVar n (fun v => { reason := v.reason })) n { reason := (s.var n).reason } :=
    .updVar (fun _ => rfl) (fun v => { reason := v.reason })
  refine Answers.of_act_eq (exec_varLoadSourceTimeout n s) hon ?_ ((Within.updVar s n _).trans (State.complete_within _ _ _ _ _ _).mono)
    (hset.complete (s.var n).channel 0x30 (s.var n).cseq 6 0)
  simp only [hst, hlate, beq_self_eq_true, decide_true, Bool.and_true, State.when_true]

end Sys2Proof.Machine
end

section
/-! The statement of resident variants settled. -/

namespace Sys2Proof.Machine

/-- Settles O38: each command changes its slot alone, and a page is zeroed where an image is stored and where it is discarded. -/
theorem variantsLoadAndUnload : Obligations.VariantsLoadAndUnload := by
  intro s hon
  refine ⟨fun b hacc hn hk hsrc hempty hv hfit => ?_, fun n img hst hc hok => ?_, fun n img hst hc hbad => ?_, fun n hst hlate => ?_,
    fun b hacc hn hres harm => ?_⟩
  · exact (varLoad_answers hon hacc hn hk hsrc hempty hv hfit).imp (fun t h => ⟨h.here, h.others⟩)
  · refine (varLoadChecksDone_passes hon hst hc hok).imp (fun t ⟨h, hzero⟩ => ?_)
    rw [h.here]
    exact ⟨rfl, rfl, h.others, hzero⟩
  · exact (varLoadChecksDone_fails hon hst hc hbad).imp (fun t h => ⟨h.here, h.others⟩)
  · exact (varLoadSourceTimeout_answers hon hst hlate).imp (fun t h => ⟨h.here, h.others⟩)
  · exact (varUnload_answers hon hacc hn hres harm).imp (fun t ⟨h, hzero⟩ => ⟨h.here, h.others, hzero⟩)

end Sys2Proof.Machine
end

section
/-! SUPPORT. Score banks: what VAR_ARM, the end of a bank's copy and VAR_DISARM make of a bank (R159, R453). -/

namespace Sys2Proof.Machine

variable {s t u : State} {m : Foot} {b : CmdBlock} {n : Nat} {v : VariantImage}

theorem exec_varArm (b : CmdBlock) (s : State) : exec (.varArm b) s = execVarArm b s := rfl
theorem exec_armComplete (n : Nat) (s : State) : exec (.armComplete n) s = execArmComplete n s := rfl
theorem exec_varDisarm (b : CmdBlock) (s : State) : exec (.varDisarm b) s = execVarDisarm b s := rfl

/-! ## One bank changed -/

theorem Within.updBank (s : State) (n : Nat) (f : Bank → Bank) (hm : m.banks = true := by rfl) : Within m s (s.updBank n f) := by
  unfold Within State.only; cases s; simp [State.updBank, hm]

@[simp] theorem State.complete_bank (s : State) (c : Nat) (code : Byte) (q : BitVec 4) (st : Byte) (d : BitVec 40) (n : Nat) :
    (s.complete c code q st d).bank n = s.bank n := (s.complete_within c code q st d).view (State.bank · n) (fun _ _ => rfl)
@[simp] theorem State.complete_eng (s : State) (c : Nat) (code : Byte) (q : BitVec 4) (st : Byte) (d : BitVec 40) :
    (s.complete c code q st d).eng = s.eng := (s.complete_within c code q st d).view State.eng (fun _ _ => rfl)
@[simp] theorem State.complete_clk (s : State) (c : Nat) (code : Byte) (q : BitVec 4) (st : Byte) (d : BitVec 40) :
    (s.complete c code q st d).clk = s.clk := (s.complete_within c code q st d).view State.clk (fun _ _ => rfl)
@[simp] theorem State.complete_mesh (s : State) (c : Nat) (code : Byte) (q : BitVec 4) (st : Byte) (d : BitVec 40) :
    (s.complete c code q st d).mesh = s.mesh := (s.complete_within c code q st d).view State.mesh (fun _ _ => rfl)
@[simp] theorem State.opened_bank (s : State) (b : CmdBlock) (code : Byte) (n : Nat) : (s.opened b code).bank n = s.bank n :=
  (s.opened_within b code).view (State.bank · n) (fun _ _ => rfl)

/-- The bank changed alone: it reads `k`, and every other one as before. -/
structure State.SetsBank (s t : State) (n : Nat) (k : Bank) : Prop where
  here : t.bank n = k
  others : ∀ j, j ≠ n → t.bank j = s.bank j

/-- A bank changed in a state with the banks of `s`. -/
theorem State.SetsBank.updBank (hu : ∀ j, u.bank j = s.bank j) (f : Bank → Bank) : s.SetsBank (u.updBank n f) n (f (s.bank n)) :=
  ⟨by rw [State.bank_updBank, hu], fun j hj => (u.bank_updBank_ne f hj).trans (hu j)⟩

theorem State.SetsBank.trans_same {k : Bank} (h : s.SetsBank t n k) (hu : ∀ j, u.bank j = t.bank j) : s.SetsBank u n k :=
  ⟨(hu n).trans h.here, fun j hj => (hu j).trans (h.others j hj)⟩

/-- The command that changed the bank completes. -/
theorem State.SetsBank.complete {k : Bank} (h : s.SetsBank t n k) (c : Nat) (code : Byte) (q : BitVec 4) (st : Byte) (d : BitVec 40) :
    s.SetsBank (t.complete c code q st d) n k := h.trans_same (fun j => State.complete_bank t c code q st d j)

/-! ## VAR_ARM and VAR_DISARM -/

/-- A bank as VAR_ARM leaves it: ARMING, with its slot and gap-route set and the command's channel and sequence (R159, R163). -/
def armingBank (b : CmdBlock) : Bank :=
  { state := 1, slot := b.par 0 1, gapSet := BitVec.ofNat 3 (b.par 2 1), channel := b.channel, cseq := b.cseq }

/-- A resident variant that a rolling rewrite does not replace, for a bank neither ARMING nor RUNNING: the bank ARMING (R159, R165). -/
theorem State.varArm_resident (hn : b.par 0 1 ≤ 63) (hk : b.par 1 1 ≤ 3) (himg : (s.var (b.par 0 1)).img = some v)
    (hst : (s.var (b.par 0 1)).state = 2) (hg : b.par 2 1 ≤ v.gapSets) (hy : s.yielding v = false)
    (h1 : (s.bank (b.par 1 1)).state ≠ 1) (h3 : (s.bank (b.par 1 1)).state ≠ 3) :
    s.varArm b = (s.opened b 0x32).updBank (b.par 1 1) (fun _ => armingBank b) := by
  unfold State.varArm
  dsimp only
  simp only [himg]
  rw [if_neg (by omega), if_neg (by simp [hy]), if_neg (not_not.2 hst), if_neg (not_or.2 ⟨h1, h3⟩)]
  rfl

/-- A bank neither ARMING nor RUNNING is freed (R159). -/
theorem State.varDisarm_idle (hk : b.par 0 1 ≤ 3) (h1 : (s.bank (b.par 0 1)).state ≠ 1) (h3 : (s.bank (b.par 0 1)).state ≠ 3) :
    s.varDisarm b = ((s.opened b 0x33).updBank (b.par 0 1) (fun _ => {})).complete b.channel 0x33 b.cseq 0 0 := by
  unfold State.varDisarm
  dsimp only
  rw [if_neg (Nat.not_lt.2 hk), if_neg (not_or.2 ⟨h1, h3⟩)]

/-- The channels that arm and disarm are the operator's. -/
theorem mem_operator_of_pf {c : Nat} (h : c ∈ [0, 1]) : c ∈ [0, 1, 18] := List.mem_append_left [18] h

/-- VAR_ARM of a bank that is not running. -/
theorem varArm_answers (hon : s.pwr.off = false) (hacc : s.accepts ⟨0x32, false, [0, 1]⟩ false false b) (hn : b.par 0 1 ≤ 63)
    (hk : b.par 1 1 ≤ 3) (himg : (s.var (b.par 0 1)).img = some v) (hst : (s.var (b.par 0 1)).state = 2) (hg : b.par 2 1 ≤ v.gapSets)
    (hy : s.yielding v = false) (h1 : (s.bank (b.par 1 1)).state ≠ 1) (h3 : (s.bank (b.par 1 1)).state ≠ 3) :
    Answers (.varArm b) s { nv := true, banks := true, fab := true, chans := true, hif := true } (fun t =>
      s.SetsBank t (b.par 1 1) (armingBank b)) := by
  refine .of_accepted (exec_varArm b s) hon hacc (mem_operator_of_pf (State.accepts_channel hacc)) (fun u hu => ?_)
  have hslot : u.var (b.par 0 1) = s.var (b.par 0 1) := hu.view (State.var · _) (fun _ _ => rfl)
  have hbank : ∀ j, u.bank j = s.bank j := fun j => hu.view (State.bank · j) (fun _ _ => rfl)
  rw [State.varArm_resident hn hk (hslot ▸ himg) (hslot ▸ hst) hg ((hu.view (State.yielding · v) (fun _ _ => rfl)).trans hy)
    (hbank _ ▸ h1) (hbank _ ▸ h3)]
  exact ⟨(u.opened_within b 0x32).mono.trans (.updBank _ _ _),
    .updBank (fun j => (State.opened_bank u b 0x32 j).trans (hbank j)) (fun _ => armingBank b)⟩

/-- VAR_DISARM of a bank that is neither ARMING nor RUNNING. -/
theorem varDisarm_answers (hon : s.pwr.off = false) (hacc : s.accepts ⟨0x33, false, [0, 1]⟩ false false b) (hk : b.par 0 1 ≤ 3)
    (h1 : (s.bank (b.par 0 1)).state ≠ 1) (h3 : (s.bank (b.par 0 1)).state ≠ 3) :
    Answers (.varDisarm b) s { nv := true, banks := true, fab := true, chans := true, hif := true } (fun t =>
      s.SetsBank t (b.par 0 1) {}) := by
  refine .of_accepted (exec_varDisarm b s) hon hacc (mem_operator_of_pf (State.accepts_channel hacc)) (fun u hu => ?_)
  have hbank : ∀ j, u.bank j = s.bank j := fun j => hu.view (State.bank · j) (fun _ _ => rfl)
  rw [State.varDisarm_idle hk (hbank _ ▸ h1) (hbank _ ▸ h3)]
  exact ⟨(u.opened_within b 0x33).mono.trans ((Within.updBank _ _ _).trans (State.complete_within _ _ _ _ _ _).mono),
    (State.SetsBank.updBank (fun j => (State.opened_bank u b 0x33 j).trans (hbank j)) (fun _ => {})).complete _ _ _ _ _⟩

/-! ## The end of a copy -/

/-- Whether a bank whose copy is complete runs at once: the engine held, and no bank RUNNING (R453). -/
def State.runsAtOnce (s : State) : Bool := s.held && !((List.range 4).any (fun j => (s.bank j).state == 3))

theorem State.runsAtOnce_of (hheld : s.held = true) (hnone : ∀ j < 4, (s.bank j).state ≠ 3) : s.runsAtOnce = true := by
  simpa [State.runsAtOnce, hheld] using hnone

theorem State.runsAtOnce_of_not (h : s.held = false ∨ ∃ j < 4, (s.bank j).state = 3) : s.runsAtOnce = false := by
  rcases h with h | h
  · simp [State.runsAtOnce, h]
  · have hany : (List.range 4).any (fun j => (s.bank j).state == 3) = true := by simpa using h
    simp only [State.runsAtOnce, hany, Bool.not_true, Bool.and_false]

/-- A bank with its variant's scores and bodies, in a state (R159, R163). -/
def copiedBank (v : VariantImage) (st : BitVec 4) (k : Bank) : Bank :=
  { k with state := st, variantId := v.variantId, scores := v.scores.map (withGap v k.gapSet.toNat), west := v.west, east := v.east }

/-- The engine on a bank that runs at once, at its variant's rates, the entry of the mesh decided (R176, R453; log entry 48). -/
def State.runBank (s : State) (n : Nat) (v : VariantImage) : State :=
  State.setEntry { s with eng := { s.eng with bank := n }, clk := { s.clk with plan := v.plan } }

@[simp] theorem State.runBank_bank (s : State) (n : Nat) (v : VariantImage) (j : Nat) : (s.runBank n v).bank j = s.bank j := rfl
@[simp] theorem State.runBank_eng (s : State) (n : Nat) (v : VariantImage) : (s.runBank n v).eng = { s.eng with bank := n } := rfl
@[simp] theorem State.runBank_plan (s : State) (n : Nat) (v : VariantImage) : (s.runBank n v).clk.plan = v.plan := rfl

theorem State.runBank_within (s : State) (n : Nat) (v : VariantImage) :
    Within { clk := true, eng := true, mesh := true } s (s.runBank n v) := rfl

/-- A copy complete of a variant that is still resident. -/
theorem State.armed_resident (himg : (s.var (s.bank n).slot).img = some v) (hst : (s.var (s.bank n).slot).state = 2) :
    s.armed n = (if s.runsAtOnce then (s.updBank n (copiedBank v 3)).runBank n v else s.updBank n (copiedBank v 2)).complete
      (s.bank n).channel 0x32 (s.bank n).cseq 0 0 := by
  unfold State.armed
  dsimp only
  simp only [himg]
  rw [if_neg (not_not.2 hst)]
  unfold State.runsAtOnce
  by_cases hr : (s.held && !((List.range 4).any (fun j => (s.bank j).state == 3))) = true
  · simp only [hr, if_true]
    rfl
  · simp only [hr]
    rfl

/-- One of a variant that has gone STALE, or is not resident: the bank freed (R158). -/
theorem State.armed_stale (hst : (s.var (s.bank n).slot).state ≠ 2) :
    s.armed n = (s.updBank n (fun _ => {})).complete (s.bank n).channel 0x32 (s.bank n).cseq 3 0 := by
  unfold State.armed
  dsimp only
  split
  · rfl
  · exact if_pos hst

/-- A command acts by what its effect is at its state. -/
theorem act_congr {f g : State → State} (h : f s = g s) : act m f s = act m g s := by rw [act_eq, act_eq, h]

/-- ARM_COMPLETE of an ARMING bank is the end of its copy. -/
theorem exec_armComplete_arming (h1 : (s.bank n).state = 1) :
    exec (.armComplete n) s = act { clk := true, banks := true, eng := true, mesh := true, fab := true, chans := true, hif := true }
      (fun u => u.armed n) s :=
  (exec_armComplete n s).trans (act_congr (by rw [h1]; rfl))

/-- ARM_COMPLETE where the engine is held and no bank runs: RUNNING (R453). -/
theorem armComplete_runs (hon : s.pwr.off = false) (h1 : (s.bank n).state = 1) (himg : (s.var (s.bank n).slot).img = some v)
    (hst : (s.var (s.bank n).slot).state = 2) (hr : s.runsAtOnce = true) :
    Answers (.armComplete n) s { clk := true, banks := true, eng := true, mesh := true, fab := true, chans := true, hif := true } (fun t =>
      s.SetsBank t n (copiedBank v 3 (s.bank n)) ∧ t.eng = { s.eng with bank := n } ∧ t.clk.plan = v.plan) := by
  have heff : s.armed n = ((s.updBank n (copiedBank v 3)).runBank n v).complete (s.bank n).channel 0x32 (s.bank n).cseq 0 0 :=
    (State.armed_resident himg hst).trans (by rw [if_pos hr])
  have hset := (State.SetsBank.updBank (s := s) (n := n) (fun _ => rfl) (copiedBank v 3)).trans_same
    (State.runBank_bank (s.updBank n (copiedBank v 3)) n v)
  exact .of_act_eq (exec_armComplete_arming h1) hon heff
    ((Within.updBank _ _ _).trans ((State.runBank_within _ _ _).mono.trans (State.complete_within _ _ _ _ _ _).mono))
    ⟨hset.complete _ _ _ _ _, by rw [State.complete_eng, State.runBank_eng, State.updBank_eng],
      by rw [State.complete_clk, State.runBank_plan]⟩

/-- Elsewhere: ARMED, the engine, the rates and the mesh as they were. -/
theorem armComplete_waits (hon : s.pwr.off = false) (h1 : (s.bank n).state = 1) (himg : (s.var (s.bank n).slot).img = some v)
    (hst : (s.var (s.bank n).slot).state = 2) (hr : s.runsAtOnce = false) :
    Answers (.armComplete n) s { clk := true, banks := true, eng := true, mesh := true, fab := true, chans := true, hif := true } (fun t =>
      s.SetsBank t n (copiedBank v 2 (s.bank n)) ∧ t.eng = s.eng ∧ t.clk = s.clk ∧ t.mesh = s.mesh) := by
  have heff : s.armed n = (s.updBank n (copiedBank v 2)).complete (s.bank n).channel 0x32 (s.bank n).cseq 0 0 :=
    (State.armed_resident himg hst).trans (by rw [hr]; rfl)
  exact .of_act_eq (exec_armComplete_arming h1) hon heff
    ((Within.updBank s n (copiedBank v 2)).trans (State.complete_within _ _ _ _ _ _).mono)
    ⟨(State.SetsBank.updBank (fun _ => rfl) _).complete _ _ _ _ _, State.complete_eng _ _ _ _ _ _, State.complete_clk _ _ _ _ _ _,
      State.complete_mesh _ _ _ _ _ _⟩

/-- ARM_COMPLETE of a bank whose variant has gone STALE: the bank freed (R158). -/
theorem armComplete_stale (hon : s.pwr.off = false) (h1 : (s.bank n).state = 1) (hst : (s.var (s.bank n).slot).state ≠ 2) :
    Answers (.armComplete n) s { banks := true, fab := true, chans := true, hif := true } (fun t => s.SetsBank t n {}) :=
  .of_act_eq (exec_armComplete_arming h1) hon (State.armed_stale hst) ((Within.updBank s n _).trans (State.complete_within _ _ _ _ _ _).mono)
    ((State.SetsBank.updBank (fun _ => rfl) _).complete _ _ _ _ _)

end Sys2Proof.Machine
end

section
/-! The statement of score banks settled. -/

namespace Sys2Proof.Machine

/-- Settles O39: each command changes its bank alone; that a bank which runs at once sets the rates, while held, is the model's choice (log entry 48). -/
theorem banksArmAndDisarm : Obligations.BanksArmAndDisarm := by
  intro s hon
  refine ⟨fun b v hacc hn hk himg hst hg hy h1 h3 => ?_, fun n v h1 himg hst => ?_, fun n h1 hst => ?_, fun b hacc hk h1 h3 => ?_⟩
  · exact (varArm_answers hon hacc hn hk himg hst hg hy h1 h3).imp (fun t h => ⟨h.here, h.others⟩)
  · cases hr : s.runsAtOnce with
    | true =>
      refine (armComplete_runs hon h1 himg hst hr).imp (fun t ⟨h, heng, hplan⟩ => ?_)
      rw [h.here]
      exact ⟨rfl, rfl, rfl, rfl, rfl, h.others, fun _ _ => ⟨rfl, heng, hplan⟩,
        fun hn => absurd (hr.symm.trans (State.runsAtOnce_of_not hn)) (by decide)⟩
    | false =>
      refine (armComplete_waits hon h1 himg hst hr).imp (fun t ⟨h, hkeep⟩ => ?_)
      rw [h.here]
      exact ⟨rfl, rfl, rfl, rfl, rfl, h.others, fun hh hn => absurd (hr.symm.trans (State.runsAtOnce_of hh hn)) (by decide),
        fun _ => ⟨rfl, hkeep⟩⟩
  · exact (armComplete_stale hon h1 hst).imp (fun t h => ⟨h.here, h.others⟩)
  · exact (varDisarm_answers hon hacc hk h1 h3).imp (fun t h => ⟨h.here, h.others⟩)

end Sys2Proof.Machine
end

section
/-! SUPPORT. STEP_CTRL.hold and the commits (R159, R166, R327, R450, R452). -/

namespace Sys2Proof.Machine

variable {s t : State} {m : Foot}

theorem exec_stepHoldSet (s : State) : exec .stepHoldSet s = execStepHoldSet s := rfl
theorem exec_stepHoldClear (s : State) : exec .stepHoldClear s = execStepHoldClear s := rfl
theorem exec_commitGlobal (s : State) : exec .commitGlobal s = execCommitGlobal s := rfl
theorem exec_commitStep (s : State) : exec .commitStep s = execCommitStep s := rfl
theorem exec_commitFabric (s : State) : exec .commitFabric s = execCommitFabric s := rfl

theorem Within.unlatch (s : State) (fn : Nat) (hm : m.hif = true := by rfl) : Within m s (s.unlatch fn) := by
  unfold Within State.only; cases s; simp [State.unlatch, hm]

/-! ## STEP_CTRL.hold -/

/-- STEP_CTRL.hold written, and nothing else of the engine. -/
def State.writeHold (s : State) (hold : Bool) : State := { s with eng := { s.eng with hold := hold } }

theorem stepHoldSet_answers (hon : s.pwr.off = false) (hopen : s.blockOpen = true) :
    Answers .stepHoldSet s { eng := true, hif := true } (fun t => t.eng = { s.eng with hold := true }) :=
  .of_act_eq (t := (s.unlatch 0).writeHold true) (exec_stepHoldSet s) hon (by rw [hopen]; rfl) rfl rfl

theorem stepHoldClear_answers (hon : s.pwr.off = false) (hopen : s.blockOpen = true) :
    Answers .stepHoldClear s { eng := true, hif := true } (fun t => t.eng = { s.eng with hold := false }) :=
  .of_act_eq (t := (s.unlatch 0).writeHold false) (exec_stepHoldClear s) hon (by rw [hopen]; rfl) rfl rfl

/-! ## COMMIT_GLOBAL and COMMIT_STEP -/

/-- COMMIT_GLOBAL of a weight region that is empty or in service. -/
theorem commitGlobal_legal (hon : s.pwr.off = false) (h : s.lock.wSize = 0 ∨ s.okDram s.wRange.1 s.wRange.2 = true) :
    Answers .commitGlobal s { lock := true, hif := true } (fun t => t.lock = { s.lock with cGlobal := true }) := by
  have hc : (decide (s.lock.wSize = 0) || s.okDram s.wRange.1 s.wRange.2) = true := by simpa using h
  exact .of_act_eq (t := { s.unlatch 0 with lock := { s.lock with cGlobal := true } }) (exec_commitGlobal s) hon (if_pos hc) rfl rfl

/-- COMMIT_GLOBAL of any other is ignored (R450). -/
theorem commitGlobal_illegal (hon : s.pwr.off = false) (hw : s.lock.wSize ≠ 0) (h : s.okDram s.wRange.1 s.wRange.2 = false) :
    Answers .commitGlobal s { hif := true } (fun t => t.hif = { s.hif with latches := t.hif.latches }) := by
  have hc : ¬(decide (s.lock.wSize = 0) || s.okDram s.wRange.1 s.wRange.2) = true := by
    rw [decide_eq_false hw, h]
    exact Bool.false_ne_true
  exact .of_act_eq (t := s.unlatch 0) (exec_commitGlobal s) hon (if_neg hc) (.unlatch _ _) rfl

/-- COMMIT_STEP of a variant area that keeps the rules of R159. -/
theorem commitStep_legal (hon : s.pwr.off = false) (h : s.vareaOk = true) :
    Answers .commitStep s { lock := true, hif := true } (fun t => t.lock = { s.lock with cStep := true }) :=
  .of_act_eq (t := { s.unlatch 0 with lock := { s.lock with cStep := true } }) (exec_commitStep s) hon (if_pos h) rfl rfl

/-! ## Ports changed one after the other -/

/-- A port that no step names is left. -/
theorem State.port_foldl_other {f : State → Nat → State} (hother : ∀ t n k, k ≠ n → (f t n).port k = t.port k) {k : Nat} {l : List Nat}
    (hk : k ∉ l) (s : State) : (l.foldl f s).port k = s.port k := by
  induction l generalizing s with
  | nil => rfl
  | cons n l ih =>
    obtain ⟨hne, hl⟩ := not_or.1 (fun h => hk (List.mem_cons.2 h))
    exact (ih hl _).trans (hother s n k hne)

/-- Steps that each leave the locked configuration and change the port they name, by a function of that configuration, change every
port listed. -/
theorem State.port_foldl {f : State → Nat → State} {g : Locked → Nat → Port → Port} (hlock : ∀ t n, (f t n).lock = t.lock)
    (hhere : ∀ t n, (f t n).port n = g t.lock n (t.port n)) (hother : ∀ t n k, k ≠ n → (f t n).port k = t.port k) {k : Nat} {l : List Nat}
    (hl : l.Nodup) (hk : k ∈ l) (s : State) : (l.foldl f s).port k = g s.lock k (s.port k) := by
  induction l generalizing s with
  | nil => exact absurd hk List.not_mem_nil
  | cons n l ih =>
    obtain ⟨hn, hl'⟩ := List.nodup_cons.1 hl
    rw [List.foldl_cons]
    rcases List.mem_cons.1 hk with rfl | hk'
    · rw [State.port_foldl_other hother hn, hhere]
    · have hne : k ≠ n := fun e => hn (e ▸ hk')
      rw [ih hl' hk', hlock, hother _ _ _ hne]

/-- What training makes of a port, by its role (R329, R353). -/
def trainedPort (lk : Locked) (n : Nat) (p : Port) : Port := if portRole lk.plan n = 0 then p else p.toTraining

theorem State.port_trainPorts (s : State) {n : Nat} (hn : n < 24) : s.trainPorts.port n = trainedPort s.lock n (s.port n) := by
  refine State.port_foldl (fun t n => ?_) (fun t n => ?_) (fun t n k hk => ?_) List.nodup_range (List.mem_range.2 hn) s
  · split <;> rfl
  · unfold trainedPort
    split
    · rfl
    · exact State.port_updPort _ _ _
  · split
    · rfl
    · exact State.port_updPort_ne _ _ hk

theorem State.trainPorts_within (s : State) : Within { fab := true } s s.trainPorts :=
  .foldl _ (fun _ _ => .ite (.refl _ _) (.updPort _ _ _)) _ _

/-- Every port changed by one function. -/
def State.updPorts (s : State) (g : Port → Port) : State := (List.range 24).foldl (fun (t : State) n => t.updPort n g) s

theorem State.port_updPorts (s : State) (g : Port → Port) {n : Nat} (hn : n < 24) : (s.updPorts g).port n = g (s.port n) :=
  State.port_foldl (f := fun t n => t.updPort n g) (g := fun _ _ => g) (fun _ _ => rfl) (fun t n => t.port_updPort n g)
    (fun t _ _ hk => t.port_updPort_ne g hk) List.nodup_range (List.mem_range.2 hn) s

theorem State.updPorts_within (s : State) (g : Port → Port) : Within { fab := true } s (s.updPorts g) := .foldl _ (fun _ _ => .updPort _ _ _) _ _

/-! ## COMMIT_FABRIC -/

/-- The fabric block locked, its plan and shape recorded (R327, R452). -/
def Locked.withFabric (k : Locked) : Locked := { k with cFabric := true, recPlan := some k.plan, recTopo := k.topo }

/-- The state in which the ports train, or leave service. -/
def State.lockFabric (s : State) : State := { s.unlatch 0 with lock := s.lock.withFabric }

theorem State.lockFabric_within (s : State) : Within { lock := true, hif := true } s s.lockFabric := rfl

/-- COMMIT_FABRIC of a legal plan and shape: recorded, and every port with a role that is not disabled trains (R327, R329). -/
theorem commitFabric_legal (hon : s.pwr.off = false) (hc : s.lock.cFabric = false) (ht : topoLegal s.lock.topo = true)
    (hp : planLegal s.lock.plan s.lock.topo = true) :
    Answers .commitFabric s { lock := true, fab := true, hif := true } (fun t =>
      t.lock = s.lock.withFabric ∧ (∀ n < 24, portRole s.lock.plan n ≠ 0 → (s.port n).disable = false → (t.port n).state = 1)) := by
  refine .of_act_eq (t := s.lockFabric.trainPorts) (exec_commitFabric s) hon ?_
    (s.lockFabric_within.mono.trans s.lockFabric.trainPorts_within.mono) ⟨State.trainPorts_lock _, fun n hn hrole hdis => ?_⟩
  · have hlegal : (topoLegal s.lock.topo && planLegal s.lock.plan s.lock.topo) = true := by rw [ht, hp]; rfl
    exact (if_neg (by simpa [State.unlatch] using hc)).trans (if_pos hlegal)
  · rw [State.port_trainPorts _ hn]
    have hplan : s.lockFabric.lock.plan = s.lock.plan := rfl
    have hsame : s.lockFabric.port n = s.port n := rfl
    have hdis' : ¬(s.port n).disable = true := by simp [hdis]
    rw [trainedPort, hplan, if_neg hrole, hsame, Port.toTraining, if_neg hdis']

/-- A port that leaves service for an illegal plan (R327). -/
def Port.planDown (p : Port) : Port := { p.toDown with reason := 6 }

/-- COMMIT_FABRIC of an illegal plan: every port leaves service with reason PLAN (R327; log entry 51). -/
theorem commitFabric_illegal (hon : s.pwr.off = false) (hc : s.lock.cFabric = false) (hp : planLegal s.lock.plan s.lock.topo = false) :
    Answers .commitFabric s { lock := true, fab := true, hif := true } (fun t =>
      t.lock = s.lock.withFabric ∧ (∀ n < 24, t.port n = (s.port n).planDown)) := by
  refine .of_act_eq (t := s.lockFabric.updPorts Port.planDown) (exec_commitFabric s) hon ?_
    (s.lockFabric_within.mono.trans (s.lockFabric.updPorts_within _).mono)
    ⟨foldl_updPort_lock _ _ _, fun n hn => State.port_updPorts _ _ hn⟩
  have hlegal : ¬(topoLegal s.lock.topo && planLegal s.lock.plan s.lock.topo) = true := by simp [hp]
  exact (if_neg (by simpa [State.unlatch] using hc)).trans (if_neg hlegal)

end Sys2Proof.Machine
end

section
/-! The statement of the hold and the commits settled. -/

namespace Sys2Proof.Machine

/-- Settles O32: a legal commit locks its block and an illegal plan takes every port out of service; that such a plan is locked all the same is
the model's choice (log entry 51). -/
theorem holdAndCommits : Obligations.HoldAndCommits := by
  intro s hon
  refine ⟨stepHoldSet_answers hon, stepHoldClear_answers hon, commitGlobal_legal hon, commitGlobal_illegal hon, commitStep_legal hon,
    commitFabric_legal hon, fun hc hp => ?_⟩
  refine (commitFabric_illegal hon hc hp).imp (fun t ⟨hlock, hports⟩ => ⟨by rw [hlock]; rfl, fun n hn => ?_⟩)
  rw [hports n hn]
  exact ⟨rfl, rfl⟩

end Sys2Proof.Machine
end

section
/-! SUPPORT. What a beat moves on the mesh changes the mesh and the sites alone (R151, R170–R180). -/

namespace Sys2Proof.Machine

/-- The footprint of the mesh's own work. -/
def meshing : Foot := { sites := true, mesh := true }

theorem State.dropFlits_within (s : State) (n : Nat) : Within meshing s (s.dropFlits n) := rfl

theorem State.routeFlit_within (s : State) (v : VariantImage) (x : BitVec 32) (now k input : Nat) (f : Flit) :
    Within meshing s (s.routeFlit v x now k input f) := .ite (s.dropFlits_within 1) rfl

theorem State.checkFlit_within (s : State) (us : List FlitUpset) (e k input : Nat) (f : Flit) :
    Within meshing s (s.checkFlit us e k input f).1 := by
  unfold State.checkFlit
  dsimp only
  split
  · exact .refl _ _
  · split <;> rfl

theorem State.enterRouter_within (s : State) (v : VariantImage) (us : List FlitUpset) (b : BitVec 1024) (rep e now k input : Nat) (f : Flit) :
    Within meshing s (s.enterRouter v us b rep e now k input f) := (s.checkFlit_within us e k input f).trans (State.routeFlit_within _ _ _ _ _ _ _)

theorem State.flitArrives_within (s : State) (v : VariantImage) (us : List FlitUpset) (b : BitVec 1024) (rep e now : Nat) (f : Flit) :
    Within meshing s (s.flitArrives v us b rep e now f) := by
  unfold State.flitArrives
  split
  · exact s.enterRouter_within _ _ _ _ _ _ _ _ _
  · exact .updSite _ _ _
  · rfl

theorem State.localFlit_within (s : State) (v : VariantImage) (us : List FlitUpset) (b : BitVec 1024) (rep e now k : Nat) :
    Within meshing s (s.localFlit v us b rep e now k) :=
  .ite (.refl _ _) ((Within.updSite s k _).trans (State.enterRouter_within _ _ _ _ _ _ _ _ _ _))

theorem State.nclk_within (s : State) (v : VariantImage) (h : Half) (us : List FlitUpset) (b : BitVec 1024) (rep e : Nat) :
    Within meshing s (s.nclk v h us b rep e) := by
  unfold State.nclk
  extract_lets now here senders src s1 s2
  have h1 : Within meshing s s1 := rfl
  have h2 : Within meshing s1 s2 := .foldl _ (fun t f => t.flitArrives_within v us b rep e now f) _ _
  exact h1.trans (h2.trans (.foldl _ (fun t k => t.localFlit_within v us b rep e now k) _ _))

theorem State.meshBeat_within (s : State) (v : VariantImage) (h : Half) (us : List FlitUpset) (b : BitVec 1024) (rep : Nat) :
    Within meshing s (s.meshBeat v h us b rep) := .foldl _ (fun t e => t.nclk_within v h us b rep e) _ _

end Sys2Proof.Machine
end

section
/-! SUPPORT. Where issue stands after a beat (R134, R138), and that a beat leaves the rest of the engine. -/

namespace Sys2Proof.Machine

variable {s t : State} {h o : Half} {r : Nat}

/-- A half and the other. -/
theorem Half.cases_of_ne : ∀ {h o : Half}, o ≠ h → (h = .west ∧ o = .east) ∨ (h = .east ∧ o = .west)
  | .west, .east, _ => .inl ⟨rfl, rfl⟩
  | .east, .west, _ => .inr ⟨rfl, rfl⟩
  | .west, .west, ho => absurd rfl ho
  | .east, .east, ho => absurd rfl ho

/-! ## What moving on changes of the engine -/

/-- `e'` is `e` but for where issue stands: the bundle and repetition of each half, the slot, and the state the slots left give. -/
def Eng.Reissues (e e' : Eng) : Prop :=
  ∃ iW iE rW rE sl sc fl st fr, e' = { e with
    idxW := iW, idxE := iE, repW := rW, repE := rE, slot := sl, slotCount := sc, fillLeft := fl, state := st, fresh := fr }

theorem Eng.Reissues.trans {e e' e'' : Eng} (h1 : e.Reissues e') (h2 : e'.Reissues e'') : e.Reissues e'' := by
  obtain ⟨_, _, _, _, _, _, _, _, _, rfl⟩ := h1
  obtain ⟨_, _, _, _, _, _, _, _, _, rfl⟩ := h2
  exact ⟨_, _, _, _, _, _, _, _, _, rfl⟩

/-- What does not look at where issue stands is as it was. -/
theorem Eng.Reissues.view {α : Type} {e e' : Eng} (h : e.Reissues e') (f : Eng → α)
    (hf : ∀ iW iE rW rE sl sc fl st fr, f { e with
      idxW := iW, idxE := iE, repW := rW, repE := rE, slot := sl, slotCount := sc, fillLeft := fl, state := st, fresh := fr } = f e) :
    f e' = f e := by
  obtain ⟨_, _, _, _, _, _, _, _, _, rfl⟩ := h
  exact hf _ _ _ _ _ _ _ _ _

theorem Eng.nextSlot_reissues (e : Eng) : e.Reissues e.nextSlot := by
  unfold Eng.nextSlot
  split
  · exact ⟨_, _, _, _, _, _, _, _, _, rfl⟩
  · split <;> exact ⟨_, _, _, _, _, _, _, _, _, rfl⟩

/-- The slot number rises at the end of a slot of a step, and at no other slot's (R138, R176). -/
theorem Eng.nextSlot_slot {e : Eng} (he : e.state = 0 ∨ e.state = 1 ∨ e.state = 2) :
    e.nextSlot.slot = if e.state = 2 then e.slot + 1 else e.slot := by
  unfold Eng.nextSlot
  rcases he with he | he | he <;> simp [he]

@[simp] theorem Eng.clkOf_tickBeat (e : Eng) (plan : BitVec 2) (h : Half) : (e.tickBeat plan h).clkOf h = e.clkOf h + 16 * nclkTime plan h := by
  cases h <;> rfl

theorem Eng.clkOf_tickBeat_ne (e : Eng) (plan : BitVec 2) (ho : o ≠ h) : (e.tickBeat plan h).clkOf o = e.clkOf o := by
  rcases Half.cases_of_ne ho with ⟨rfl, rfl⟩ | ⟨rfl, rfl⟩ <;> rfl

/-! ## The half's own bundle -/

@[simp] theorem State.issueAt_setIssue (s : State) (h : Half) (i r : Nat) : (s.setIssue h i r).issueAt h = (i, r) := by cases h <;> rfl

theorem State.issueAt_setIssue_ne (s : State) (i r : Nat) (ho : o ≠ h) : (s.setIssue h i r).issueAt o = s.issueAt o := by
  rcases Half.cases_of_ne ho with ⟨rfl, rfl⟩ | ⟨rfl, rfl⟩ <;> rfl

theorem State.setIssue_reissues (s : State) (h : Half) (i r : Nat) : s.eng.Reissues (s.setIssue h i r).eng := by
  cases h <;> exact ⟨_, _, _, _, _, _, _, _, _, rfl⟩

theorem State.setIssue_within (s : State) (h : Half) (i r : Nat) : Within { eng := true } s (s.setIssue h i r) := by cases h <;> rfl

/-- The time of a half moved on by its beat. -/
def State.ticked (s : State) (h : Half) : State := { s with eng := s.eng.tickBeat s.clk.plan h }

@[simp] theorem State.ticked_beat (s : State) (h k : Half) : (s.ticked h).beat k = s.beat k := by cases h <;> cases k <;> rfl
@[simp] theorem State.ticked_issueAt (s : State) (h k : Half) : (s.ticked h).issueAt k = s.issueAt k := by cases h <;> cases k <;> rfl
@[simp] theorem State.ticked_bank (s : State) (h : Half) : (s.ticked h).eng.bank = s.eng.bank := by cases h <;> rfl
@[simp] theorem State.ticked_slot (s : State) (h : Half) : (s.ticked h).eng.slot = s.eng.slot := by cases h <;> rfl
@[simp] theorem State.ticked_state (s : State) (h : Half) : (s.ticked h).eng.state = s.eng.state := by cases h <;> rfl
@[simp] theorem State.ticked_stepNumber (s : State) (h : Half) : (s.ticked h).eng.stepNumber = s.eng.stepNumber := by cases h <;> rfl
@[simp] theorem State.ticked_eccCorrected (s : State) (h : Half) : (s.ticked h).eng.eccCorrected = s.eng.eccCorrected := by cases h <;> rfl

/-- The engine no longer as a boundary left it: something has been issued. -/
def State.started (s : State) : State := { s with eng := { s.eng with fresh := false } }

/-- The next repetition of a bundle that has one left, else the next bundle; whether the slot ends is not looked at yet (R143). -/
def State.turned (s : State) (h : Half) (r : Nat) : State :=
  if (s.issueAt h).2 < r then (s.ticked h).started.setIssue h (s.issueAt h).1 ((s.issueAt h).2 + 1)
  else (s.ticked h).started.setIssue h ((s.issueAt h).1 + 1) 0

theorem State.turned_repeat (hr : (s.issueAt h).2 < r) : (s.turned h r).issueAt h = ((s.issueAt h).1, (s.issueAt h).2 + 1) := by
  rw [State.turned, if_pos hr, State.issueAt_setIssue]

theorem State.turned_next (hr : r ≤ (s.issueAt h).2) : (s.turned h r).issueAt h = ((s.issueAt h).1 + 1, 0) := by
  rw [State.turned, if_neg (Nat.not_lt.2 hr), State.issueAt_setIssue]

theorem State.turned_other (s : State) (r : Nat) (ho : o ≠ h) : (s.turned h r).issueAt o = s.issueAt o := by
  rw [← State.ticked_issueAt s h o]
  unfold State.turned
  split <;> exact State.issueAt_setIssue_ne _ _ _ ho

/-- What the turn leaves is what setting the half's place leaves. -/
theorem State.turned_view {α : Type} (s : State) (h : Half) (r : Nat) (f : State → α)
    (hf : ∀ (u : State) i r, f (u.setIssue h i r) = f u) : f (s.turned h r) = f (s.ticked h).started := by
  unfold State.turned
  split <;> exact hf _ _ _

theorem State.turned_within (s : State) (h : Half) (r : Nat) : Within { eng := true } s (s.turned h r) := by
  have hs : Within { eng := true } s (s.ticked h).started := rfl
  exact .ite (hs.trans (State.setIssue_within _ _ _ _)) (hs.trans (State.setIssue_within _ _ _ _))

theorem State.turned_reissues (s : State) (h : Half) (r : Nat) : (s.ticked h).eng.Reissues (s.turned h r).eng := by
  have hs : (s.ticked h).eng.Reissues (s.ticked h).started.eng := ⟨_, _, _, _, _, _, _, _, _, rfl⟩
  unfold State.turned
  split <;> exact hs.trans (State.setIssue_reissues _ _ _ _)

/-! ## The end of a slot -/

/-- Both halves have issued their bodies, said of a half and the other. -/
theorem bodies_done_iff (k : Bank) (s : State) (ho : o ≠ h) :
    (k.west.length ≤ s.eng.idxW ∧ k.east.length ≤ s.eng.idxE) ↔
      ((k.body h).length ≤ (s.issueAt h).1 ∧ (k.body o).length ≤ (s.issueAt o).1) := by
  rcases Half.cases_of_ne ho with ⟨rfl, rfl⟩ | ⟨rfl, rfl⟩
  · exact Iff.rfl
  · exact and_comm

/-- The slot after the one that has ended, and what it leaves on the mesh (R134, R172). -/
def State.endSlot (s : State) : State := State.dropOld { s with eng := s.eng.nextSlot }

/-- A beat moves issue on within the slot, or ends it (R134). -/
theorem State.moveIssue_eq (s : State) (r : Nat) (ho : o ≠ h) :
    s.moveIssue h r = if ((s.bank s.eng.bank).body h).length ≤ ((s.turned h r).issueAt h).1 ∧
      ((s.bank s.eng.bank).body o).length ≤ (s.issueAt o).1 then (s.turned h r).endSlot else s.turned h r := by
  have hbank : (s.turned h r).bank (s.turned h r).eng.bank = s.bank s.eng.bank := by
    rw [(s.turned_reissues h r).view Eng.bank (fun _ _ _ _ _ _ _ _ _ => rfl), State.ticked_bank]
    exact (s.turned_within h r).view (State.bank · _) (fun _ _ => rfl)
  rw [← State.turned_other s r ho, ← hbank]
  exact if_congr (bodies_done_iff _ _ ho) rfl rfl

/-- Within a slot issue only moves on. -/
theorem State.moveIssue_within_slot (ho : o ≠ h) (hmore : ((s.turned h r).issueAt h).1 < ((s.bank s.eng.bank).body h).length ∨
    (s.issueAt o).1 < ((s.bank s.eng.bank).body o).length) : s.moveIssue h r = s.turned h r := by
  rw [State.moveIssue_eq s r ho]
  exact if_neg (by omega)

/-- The last beat of a slot ends it. -/
theorem State.moveIssue_ends (ho : o ≠ h) (hh : ((s.bank s.eng.bank).body h).length ≤ ((s.turned h r).issueAt h).1)
    (hother : ((s.bank s.eng.bank).body o).length ≤ (s.issueAt o).1) : s.moveIssue h r = (s.turned h r).endSlot := by
  rw [State.moveIssue_eq s r ho]
  exact if_pos ⟨hh, hother⟩

theorem State.endSlot_within (s : State) : Within { sites := true, eng := true, mesh := true } s s.endSlot := rfl

/-- Both halves begin the next slot's bodies. -/
@[simp] theorem State.endSlot_issueAt (s : State) (h : Half) : s.endSlot.issueAt h = (0, 0) := by
  have hz : s.eng.nextSlot.idxW = 0 ∧ s.eng.nextSlot.idxE = 0 ∧ s.eng.nextSlot.repW = 0 ∧ s.eng.nextSlot.repE = 0 := by
    unfold Eng.nextSlot
    split
    · exact ⟨rfl, rfl, rfl, rfl⟩
    · split <;> exact ⟨rfl, rfl, rfl, rfl⟩
  obtain ⟨hiW, hiE, hrW, hrE⟩ := hz
  cases h
  · exact Prod.ext hiW hrW
  · exact Prod.ext hiE hrE

/-- A beat ends the slot, or does not. -/
theorem State.moveIssue_cases (s : State) (h : Half) (r : Nat) :
    s.moveIssue h r = (s.turned h r).endSlot ∨ s.moveIssue h r = s.turned h r := ite_eq_or_eq _ _ _

theorem State.moveIssue_within (s : State) (h : Half) (r : Nat) :
    Within { sites := true, eng := true, mesh := true } s (s.moveIssue h r) := by
  have ht : Within { sites := true, eng := true, mesh := true } s (s.turned h r) := (s.turned_within h r).mono
  rcases s.moveIssue_cases h r with e | e <;> rw [e]
  · exact ht.trans (State.endSlot_within _)
  · exact ht

theorem State.moveIssue_reissues (s : State) (h : Half) (r : Nat) : (s.ticked h).eng.Reissues (s.moveIssue h r).eng := by
  have ht := s.turned_reissues h r
  rcases s.moveIssue_cases h r with e | e <;> rw [e]
  · exact ht.trans (Eng.nextSlot_reissues _)
  · exact ht

/-! ## What a beat makes of the engine -/

theorem State.moveIssue_beat (s : State) (h k : Half) (r : Nat) : (s.moveIssue h r).beat k = s.beat k := by
  rw [← State.ticked_beat s h k]
  cases k
  · exact (s.moveIssue_reissues h r).view Eng.beatW (fun _ _ _ _ _ _ _ _ _ => rfl)
  · exact (s.moveIssue_reissues h r).view Eng.beatE (fun _ _ _ _ _ _ _ _ _ => rfl)

theorem State.moveIssue_stepNumber (s : State) (h : Half) (r : Nat) : (s.moveIssue h r).eng.stepNumber = s.eng.stepNumber :=
  ((s.moveIssue_reissues h r).view Eng.stepNumber (fun _ _ _ _ _ _ _ _ _ => rfl)).trans (s.ticked_stepNumber h)

theorem State.moveIssue_eccCorrected (s : State) (h : Half) (r : Nat) : (s.moveIssue h r).eng.eccCorrected = s.eng.eccCorrected :=
  ((s.moveIssue_reissues h r).view Eng.eccCorrected (fun _ _ _ _ _ _ _ _ _ => rfl)).trans (s.ticked_eccCorrected h)

/-- The half's time moves on by the 16 NCLK of its beat (R135). -/
theorem State.moveIssue_clkOf (s : State) (h : Half) (r : Nat) :
    (s.moveIssue h r).eng.clkOf h = s.eng.clkOf h + 16 * nclkTime s.clk.plan h :=
  ((s.moveIssue_reissues h r).view (Eng.clkOf · h) (fun _ _ _ _ _ _ _ _ _ => rfl)).trans (Eng.clkOf_tickBeat _ _ _)

theorem State.moveIssue_clkOf_ne (s : State) (r : Nat) (ho : o ≠ h) : (s.moveIssue h r).eng.clkOf o = s.eng.clkOf o :=
  ((s.moveIssue_reissues h r).view (Eng.clkOf · o) (fun _ _ _ _ _ _ _ _ _ => rfl)).trans (Eng.clkOf_tickBeat_ne _ _ ho)

theorem State.turned_slot (s : State) (h : Half) (r : Nat) : (s.turned h r).eng.slot = s.eng.slot :=
  (s.turned_view h r (fun u => u.eng.slot) (fun _ _ _ => by cases h <;> rfl)).trans (s.ticked_slot h)

theorem State.turned_state (s : State) (h : Half) (r : Nat) : (s.turned h r).eng.state = s.eng.state :=
  (s.turned_view h r (fun u => u.eng.state) (fun _ _ _ => by cases h <;> rfl)).trans (s.ticked_state h)

/-- A bundle with a repetition left issues its next one (R143). -/
theorem State.moveIssue_repeats (ho : o ≠ h) (hi : (s.issueAt h).1 < ((s.bank s.eng.bank).body h).length) (hr : (s.issueAt h).2 < r) :
    (s.moveIssue h r).issueAt h = ((s.issueAt h).1, (s.issueAt h).2 + 1) ∧ (s.moveIssue h r).issueAt o = s.issueAt o ∧
    (s.moveIssue h r).eng.slot = s.eng.slot := by
  rw [State.moveIssue_within_slot ho (.inl (by rw [State.turned_repeat hr]; exact hi))]
  exact ⟨State.turned_repeat hr, State.turned_other s r ho, s.turned_slot h r⟩

/-- After its last repetition the half goes on to its next bundle, while either half has one (R134). -/
theorem State.moveIssue_advances (ho : o ≠ h) (hr : r ≤ (s.issueAt h).2)
    (hmore : (s.issueAt h).1 + 1 < ((s.bank s.eng.bank).body h).length ∨ (s.issueAt o).1 < ((s.bank s.eng.bank).body o).length) :
    (s.moveIssue h r).issueAt h = ((s.issueAt h).1 + 1, 0) ∧ (s.moveIssue h r).issueAt o = s.issueAt o ∧
    (s.moveIssue h r).eng.slot = s.eng.slot := by
  rw [State.moveIssue_within_slot ho (by rw [State.turned_next hr]; exact hmore)]
  exact ⟨State.turned_next hr, State.turned_other s r ho, s.turned_slot h r⟩

/-- With both bodies done the slot ends (R134, R138). -/
theorem State.moveIssue_ends_slot (ho : o ≠ h) (hst : s.eng.state = 0 ∨ s.eng.state = 1 ∨ s.eng.state = 2) (hr : r ≤ (s.issueAt h).2)
    (hlast : ((s.bank s.eng.bank).body h).length = (s.issueAt h).1 + 1)
    (hother : ((s.bank s.eng.bank).body o).length ≤ (s.issueAt o).1) :
    (s.moveIssue h r).issueAt h = (0, 0) ∧ (s.moveIssue h r).issueAt o = (0, 0) ∧
    (s.moveIssue h r).eng.slot = if s.eng.state = 2 then s.eng.slot + 1 else s.eng.slot := by
  have hslot := Eng.nextSlot_slot (e := (s.turned h r).eng) (by rw [State.turned_state]; exact hst)
  rw [State.turned_state, State.turned_slot] at hslot
  rw [State.moveIssue_ends ho (by rw [State.turned_next hr]; exact hlast.le) hother]
  exact ⟨State.endSlot_issueAt _ h, State.endSlot_issueAt _ o, hslot⟩

/-! ## One beat -/

/-- `t` is `s` after one beat of a half with a bundle: the beat stands in that half, and its issue has moved on; the beat of the other half
stands, and so does its place unless the slot ends. -/
structure State.IssuesBeat (s t : State) (h o : Half) (b : BitVec 1024) : Prop where
  beat : t.beat h = some { bundle := b, rep := (s.issueAt h).2, slot := s.eng.slot, fillLeft := s.eng.fillLeft, slotCount := s.eng.slotCount,
                           steps := s.eng.state != 0 }
  otherBeat : t.beat o = s.beat o
  stepNumber : t.eng.stepNumber = s.eng.stepNumber
  eccCorrected : t.eng.eccCorrected = s.eng.eccCorrected
  clock : t.eng.clkOf h = s.eng.clkOf h + 16 * nclkTime s.clk.plan h
  otherClock : t.eng.clkOf o = s.eng.clkOf o
  repeats : (s.issueAt h).2 < (headerOf b).rep →
    t.issueAt h = ((s.issueAt h).1, (s.issueAt h).2 + 1) ∧ t.issueAt o = s.issueAt o ∧ t.eng.slot = s.eng.slot
  advances : (headerOf b).rep ≤ (s.issueAt h).2 →
    (s.issueAt h).1 + 1 < ((s.bank s.eng.bank).body h).length ∨ (s.issueAt o).1 < ((s.bank s.eng.bank).body o).length →
    t.issueAt h = ((s.issueAt h).1 + 1, 0) ∧ t.issueAt o = s.issueAt o ∧ t.eng.slot = s.eng.slot
  ends : (headerOf b).rep ≤ (s.issueAt h).2 → ((s.bank s.eng.bank).body h).length = (s.issueAt h).1 + 1 →
    ((s.bank s.eng.bank).body o).length ≤ (s.issueAt o).1 →
    t.issueAt h = (0, 0) ∧ t.issueAt o = (0, 0) ∧ t.eng.slot = if s.eng.state = 2 then s.eng.slot + 1 else s.eng.slot

theorem State.deliverBundle_beat (s : State) (h : Half) (b : BitVec 1024) :
    (s.deliverBundle h b).beat h = some { bundle := b, rep := (s.issueAt h).2, slot := s.eng.slot, fillLeft := s.eng.fillLeft,
                                          slotCount := s.eng.slotCount, steps := s.eng.state != 0 } := by
  cases h <;> rfl

theorem State.deliverBundle_otherBeat (s : State) (b : BitVec 1024) (ho : o ≠ h) : (s.deliverBundle h b).beat o = s.beat o := by
  rcases Half.cases_of_ne ho with ⟨rfl, rfl⟩ | ⟨rfl, rfl⟩ <;> rfl

theorem State.deliverBundle_within (s : State) (h : Half) (b : BitVec 1024) : Within { eng := true } s (s.deliverBundle h b) := rfl

/-- What looks neither at the beats nor at the mesh and the sites stands when a bundle is delivered and the mesh has moved. -/
theorem State.delivered_view {α : Type} {b : BitVec 1024} (hu : Within meshing (s.deliverBundle h b) t) (f : State → α)
    (hm : ∀ a c, f (State.only meshing a c) = f a) (hb : ∀ x y, f { s with eng := { s.eng with beatW := x, beatE := y } } = f s) :
    f t = f s := by
  refine (hu.view f hm).trans ?_
  cases h <;> exact hb _ _

theorem State.issueBundle_within (s : State) (v : VariantImage) (h : Half) (us : List FlitUpset) (b : BitVec 1024) :
    Within { sites := true, eng := true, mesh := true } s (s.issueBundle v h us b) :=
  (s.deliverBundle_within h b).mono.trans ((State.meshBeat_within _ _ _ _ _ _).mono.trans (State.moveIssue_within _ _ _))

/-- A beat moves on in a state that the bundle's delivery and the mesh alone have changed. -/
theorem State.moveIssue_issuesBeat {u : State} {b : BitVec 1024} (hu : Within meshing (s.deliverBundle h b) u) (ho : o ≠ h)
    (hst : s.eng.state = 0 ∨ s.eng.state = 1 ∨ s.eng.state = 2) (hi : (s.issueAt h).1 < ((s.bank s.eng.bank).body h).length) :
    s.IssuesBeat (u.moveIssue h (headerOf b).rep) h o b := by
  have hat : ∀ k, u.issueAt k = s.issueAt k := fun k => State.delivered_view hu (State.issueAt · k) (fun _ _ => rfl) (fun _ _ => rfl)
  have hbank : u.bank u.eng.bank = s.bank s.eng.bank := State.delivered_view hu (fun w => w.bank w.eng.bank) (fun _ _ => rfl) (fun _ _ => rfl)
  have hclk : ∀ k, u.eng.clkOf k = s.eng.clkOf k := fun k =>
    State.delivered_view hu (fun w => w.eng.clkOf k) (fun _ _ => rfl) (fun _ _ => rfl)
  have hplan : u.clk = s.clk := State.delivered_view hu State.clk (fun _ _ => rfl) (fun _ _ => rfl)
  have hslot : u.eng.slot = s.eng.slot := State.delivered_view hu (fun w => w.eng.slot) (fun _ _ => rfl) (fun _ _ => rfl)
  have hstate : u.eng.state = s.eng.state := State.delivered_view hu (fun w => w.eng.state) (fun _ _ => rfl) (fun _ _ => rfl)
  have hbeat : ∀ k, (u.moveIssue h (headerOf b).rep).beat k = (s.deliverBundle h b).beat k := fun k =>
    (u.moveIssue_beat h k _).trans (hu.view (State.beat · k) (fun _ _ => rfl))
  constructor
  case beat => exact (hbeat h).trans (s.deliverBundle_beat h b)
  case otherBeat => exact (hbeat o).trans (s.deliverBundle_otherBeat b ho)
  case stepNumber =>
    exact (u.moveIssue_stepNumber h _).trans (State.delivered_view hu (fun w => w.eng.stepNumber) (fun _ _ => rfl) (fun _ _ => rfl))
  case eccCorrected =>
    exact (u.moveIssue_eccCorrected h _).trans (State.delivered_view hu (fun w => w.eng.eccCorrected) (fun _ _ => rfl) (fun _ _ => rfl))
  case clock => rw [State.moveIssue_clkOf, hclk, hplan]
  case otherClock => rw [State.moveIssue_clkOf_ne u _ ho, hclk]
  case repeats => simpa only [hat, hbank, hslot, hi, forall_const] using State.moveIssue_repeats (s := u) (r := (headerOf b).rep) ho
  case advances => simpa only [hat, hbank, hslot] using State.moveIssue_advances (s := u) (r := (headerOf b).rep) ho
  case ends =>
    have hend := State.moveIssue_ends_slot (s := u) (r := (headerOf b).rep) ho (by rw [hstate]; exact hst)
    simpa only [hat, hbank, hslot, hstate] using hend

theorem State.issueBundle_issuesBeat (s : State) (v : VariantImage) (us : List FlitUpset) (b : BitVec 1024) (ho : o ≠ h)
    (hst : s.eng.state = 0 ∨ s.eng.state = 1 ∨ s.eng.state = 2) (hi : (s.issueAt h).1 < ((s.bank s.eng.bank).body h).length) :
    s.IssuesBeat (s.issueBundle v h us b) h o b := State.moveIssue_issuesBeat (State.meshBeat_within _ _ _ _ _ _) ho hst hi

end Sys2Proof.Machine
end

section
/-! SUPPORT. Bundle faults: the body reloaded, the step aborted (R28, R142, Table 10.1). -/

namespace Sys2Proof.Machine

variable {s t : State} {h : Half}

/-! ## The abort of a running step (R28) -/

theorem Within.updSeq (s : State) (n : Nat) (f : Seq → Seq) {m : Foot} (hm : m.seqs = true := by rfl) : Within m s (s.updSeq n f) := by
  unfold Within State.only; cases s; simp [State.updSeq, hm]

/-- The footprint of an abort. -/
def aborting : Foot := { thm := true, eng := true, cur := true, nxt := true, mesh := true, sync := true, seqs := true }

/-- The sequences whose tokens an abort discards, marked to be computed again. -/
def State.replayed (s : State) : State := s.inFlight.foldl (fun (t : State) i => t.updSeq i (fun q => { q with replay := true })) s

theorem State.replayed_within (s : State) : Within { seqs := true } s s.replayed := .foldl _ (fun _ _ => .updSeq _ _ _) _ _

/-- What an abort that does not hold the engine makes of the engine: it restarts at the next boundary. -/
def Eng.restarting (e : Eng) : Eng :=
  { e with
    state := 5, aborts := e.aborts + 1, slot := 0, fresh := false, beatW := none, beatE := none, quietW := 0, quietE := 0,
    stepNumber := e.stepNumber + 1, idxW := 0, idxE := 0, repW := 0, repE := 0, fillLeft := 0, abortDue := none, restart := true }

/-- A running step aborted without a hold: nothing of it is left, and the engine restarts (R28, R142). -/
structure State.Aborted (s t : State) : Prop where
  within : Within aborting s t
  eng : t.eng = s.eng.restarting
  cur : t.cur = {}
  nxt : t.nxt = {}

theorem State.abortNow_aborted (s : State) : s.Aborted (s.abortNow false) := by
  have hw := s.replayed_within
  constructor
  case within => exact Within.trans (m := aborting) hw.mono rfl
  case eng =>
    have he : s.replayed.eng = s.eng := hw.view State.eng (fun _ _ => rfl)
    rw [← he, Eng.restarting, ← Bool.or_false s.replayed.eng.hold]
    rfl
  case cur => rfl
  case nxt => rfl

theorem State.abortStep_running (hst : s.eng.state = 2) : s.Aborted (s.abortStep false) := by
  have heq : s.abortStep false = s.abortNow false := by
    unfold State.abortStep
    rw [hst]
    rfl
  rw [heq]
  exact s.abortNow_aborted

/-! ## The fault (R142) -/

theorem State.reloadBody_within (s : State) (h : Half) : Within { banks := true } s (s.reloadBody h) := by
  unfold State.reloadBody
  split
  · exact .refl _ _
  · exact .updBank _ _ _

/-- The fault counted, and logged. -/
def State.countFault (s : State) (times : List W64) : State :=
  State.log { s with eng := { s.eng with eccFaults := satInc s.eng.eccFaults, faultTimes := times } } 0x05 0 0 0x1F 0 1

/-- The footprint of a bundle fault in a running step. -/
def faulting : Foot :=
  { thm := true, banks := true, eng := true, cur := true, nxt := true, mesh := true, sync := true, seqs := true, flt := true }

/-- A bundle fault of a running step, the first within 64 ticks. -/
structure State.BundleFaulted (s t : State) : Prop where
  within : Within faulting s t
  faults : t.eng.eccFaults = satInc s.eng.eccFaults
  aborts : t.eng.aborts = s.eng.aborts + 1
  state : t.eng.state = 5
  cur : t.cur = {}
  nxt : t.nxt = {}
  logged : t.flt.head = s.flt.head + 1

theorem State.bundleFault_first (hst : s.eng.state = 2) (hnone : s.eng.faultTimes = []) : s.BundleFaulted (s.bundleFault h) := by
  have heq : s.bundleFault h = ((((s.countFault [s.time]).reloadBody h).abortStep false).setIssue h 0 0) := by
    unfold State.bundleFault
    rw [hnone]
    rfl
  rw [heq]
  have hcount : Within faulting s (s.countFault [s.time]) := rfl
  have hload := (s.countFault [s.time]).reloadBody_within h
  have heng : ((s.countFault [s.time]).reloadBody h).eng = (s.countFault [s.time]).eng := hload.view State.eng (fun _ _ => rfl)
  have habort := State.abortStep_running (s := (s.countFault [s.time]).reloadBody h) (by rw [heng]; exact hst)
  have hset := State.setIssue_within (((s.countFault [s.time]).reloadBody h).abortStep false) h 0 0
  have hre := State.setIssue_reissues (((s.countFault [s.time]).reloadBody h).abortStep false) h 0 0
  rw [habort.eng, heng] at hre
  constructor
  case within => exact hcount.trans (hload.mono.trans (habort.within.mono.trans hset.mono))
  case faults => exact hre.view Eng.eccFaults (fun _ _ _ _ _ _ _ _ _ => rfl)
  case aborts => exact hre.view Eng.aborts (fun _ _ _ _ _ _ _ _ _ => rfl)
  case state => cases h <;> exact congrArg Eng.state habort.eng
  case cur => exact (hset.view State.cur (fun _ _ => rfl)).trans habort.cur
  case nxt => exact (hset.view State.nxt (fun _ _ => rfl)).trans habort.nxt
  case logged =>
    have hflt : ((((s.countFault [s.time]).reloadBody h).abortStep false).setIssue h 0 0).flt = (s.countFault [s.time]).flt :=
      (hset.view State.flt (fun _ _ => rfl)).trans ((habort.within.view State.flt (fun _ _ => rfl)).trans (hload.view State.flt (fun _ _ => rfl)))
    rw [hflt]
    rfl

end Sys2Proof.Machine
end

section
/-! SUPPORT. BUNDLE_ISSUE: which beat it is (R134, R139, R142, R187). -/

namespace Sys2Proof.Machine

variable {s t : State} {h o : Half} {flips b : BitVec 1024} {us : List FlitUpset} {v : VariantImage}

theorem exec_bundleIssue (h : Half) (flips : BitVec 1024) (us : List FlitUpset) (s : State) :
    exec (.bundleIssue h flips us) s = execBundleIssue h flips us s := rfl

/-- The footprint of BUNDLE_ISSUE. -/
def issuing : Foot :=
  { clk := true, thm := true, sites := true, banks := true, eng := true, cur := true, nxt := true, mesh := true, sync := true, seqs := true,
    flt := true, fab := true, chans := true, hif := true }

/-- Where a variant runs and the half has a bundle, a clock quiesce comes before the issue of it (R139). -/
theorem exec_bundleIssue_running (hv : s.runImg = some v) (hb : ((s.bank s.eng.bank).body h)[(s.issueAt h).1]? = some b) :
    exec (.bundleIssue h flips us) s = act issuing (fun s => if s.eng.state = 4 then s.quietBeat v h
      else if s.decodes && s.eng.halfDue h then s.decodeIssue v h us b flips else s) s := by
  refine (exec_bundleIssue h flips us s).trans (act_congr ?_)
  simp only [hv, hb]

/-! ## Clock quiesce (R139) -/

theorem State.quietBeat_within (s : State) (v : VariantImage) (h : Half) : Within { clk := true, eng := true } s (s.quietBeat v h) :=
  .ite rfl rfl

/-- The beats a quiesce still lasts after one of a half. -/
def Eng.quieter (e : Eng) (h : Half) : Eng :=
  match h with
  | .west => { e with quietW := e.quietW - 1, fresh := false }
  | .east => { e with quietE := e.quietE - 1, fresh := false }

/-- Whether a quiesce goes on. -/
def Eng.isQuiet (e : Eng) : Prop := e.quietW ≠ 0 ∨ e.quietE ≠ 0

/-- A beat of a clock quiesce: one fewer of the half's is left, and after the last of both the rates are the variant's (R139). -/
structure State.Quiesces (s t : State) (h : Half) (plan : BitVec 2) : Prop where
  quietW : t.eng.quietW = (s.eng.quieter h).quietW
  quietE : t.eng.quietE = (s.eng.quieter h).quietE
  goesOn : t.eng.isQuiet → t.eng.state = 4 ∧ t.clk.plan = s.clk.plan
  ends : ¬t.eng.isQuiet → t.eng.state = (if 0 < s.eng.fillLeft then 1 else 2) ∧ t.clk.plan = plan

theorem State.quietBeat_last (hd : (s.eng.quieter h).quietW = 0 ∧ (s.eng.quieter h).quietE = 0) :
    s.quietBeat v h = { s with
      clk := { s.clk with plan := v.plan }
      eng := { s.eng.quieter h with state := if 0 < (s.eng.quieter h).fillLeft then 1 else 2 } } := if_pos hd

theorem State.quietBeat_more (hd : ¬((s.eng.quieter h).quietW = 0 ∧ (s.eng.quieter h).quietE = 0)) :
    s.quietBeat v h = { s with eng := s.eng.quieter h } := if_neg hd

theorem State.quietBeat_quiesces (h4 : s.eng.state = 4) : s.Quiesces (s.quietBeat v h) h v.plan := by
  have hfill : (s.eng.quieter h).fillLeft = s.eng.fillLeft := by cases h <;> rfl
  have hstate : (s.eng.quieter h).state = 4 := by cases h <;> exact h4
  by_cases hd : (s.eng.quieter h).quietW = 0 ∧ (s.eng.quieter h).quietE = 0
  · rw [State.quietBeat_last hd, hfill]
    exact ⟨rfl, rfl, fun hq => absurd hd (not_and_or.2 hq), fun _ => ⟨rfl, rfl⟩⟩
  · rw [State.quietBeat_more hd]
    exact ⟨rfl, rfl, fun _ => ⟨hstate, rfl⟩, fun hq => absurd (not_and_or.1 hd) hq⟩

theorem bundleIssue_quiesces (hon : s.pwr.off = false) (hv : s.runImg = some v)
    (hb : ((s.bank s.eng.bank).body h)[(s.issueAt h).1]? = some b) (h4 : s.eng.state = 4) :
    Answers (.bundleIssue h flips us) s { clk := true, eng := true } (fun t => s.Quiesces t h v.plan) :=
  .of_act_eq (exec_bundleIssue_running hv hb) hon (if_pos h4) (s.quietBeat_within v h) (State.quietBeat_quiesces h4)

/-! ## A bundle fetched (R142) -/

/-- The bundle as it is fetched: `flips` read wrong in its first repetition. -/
def State.fetched (s : State) (h : Half) (b flips : BitVec 1024) : BitVec 1024 := if (s.issueAt h).2 = 0 then b ^^^ flips else b

/-- A half that is due, in an engine that issues, decodes its bundle. -/
theorem exec_bundleIssue_due (hv : s.runImg = some v) (hb : ((s.bank s.eng.bank).body h)[(s.issueAt h).1]? = some b)
    (h4 : s.eng.state ≠ 4) (hdec : s.decodes = true) (hdue : s.eng.halfDue h = true) :
    exec (.bundleIssue h flips us) s = act issuing (fun s => s.decodeIssue v h us b flips) s := by
  refine (exec_bundleIssue_running hv hb).trans (act_congr ?_)
  rw [if_neg h4, hdec, hdue]
  rfl

/-- A half that is ahead of the other waits (R134). -/
theorem exec_bundleIssue_ahead (hv : s.runImg = some v) (hb : ((s.bank s.eng.bank).body h)[(s.issueAt h).1]? = some b)
    (h4 : s.eng.state ≠ 4) (hdue : s.eng.halfDue h = false) : exec (.bundleIssue h flips us) s = .next s := by
  refine (exec_bundleIssue_running hv hb).trans (act_of_eq_self ?_)
  rw [if_neg h4, hdue, Bool.and_false]
  rfl

/-- An engine that decodes is in a hold, a fill or a step (R138, R176). -/
theorem State.state_of_decodes (hdec : s.decodes = true) : s.eng.state = 0 ∨ s.eng.state = 1 ∨ s.eng.state = 2 := by
  unfold State.decodes at hdec
  rw [Bool.and_eq_true, decide_eq_true_iff] at hdec
  rcases hdec.2 with h0 | h1 | ⟨h2, -⟩
  · exact .inl h0
  · exact .inr (.inl h1)
  · exact .inr (.inr h2)

theorem State.fetched_eq (s : State) (h : Half) (b flips : BitVec 1024) :
    (if decide ((s.issueAt h).2 = 0) = true then b ^^^ flips else b) = s.fetched h b flips := by
  simp only [decide_eq_true_eq, State.fetched]

theorem State.decodeIssue_of_none (hd : decodeBundle (s.fetched h b flips) = none) : s.decodeIssue v h us b flips = s.bundleFault h := by
  unfold State.decodeIssue
  simp only [State.fetched_eq, hd]

/-- What becomes of a bundle that decodes. -/
theorem State.decodeIssue_of_some {d : BitVec 1024 × Bool} (hd : decodeBundle (s.fetched h b flips) = some d) :
    s.decodeIssue v h us b flips = if (headerOf d.1).var ≠ (s.bank s.eng.bank).slot then s.bundleFault h else if s.sync.stalled then s
      else (if d.2 then { s with eng := { s.eng with eccCorrected := satInc s.eng.eccCorrected } } else s).issueBundle v h us d.1 := by
  unfold State.decodeIssue
  simp only [State.fetched_eq, hd]

/-- A bundle that does not decode, or names another slot, is a bundle fault (R142, R146). -/
theorem State.decodeIssue_fault
    (hbad : ∀ d, decodeBundle (s.fetched h b flips) = some d → (headerOf d.1).var ≠ (s.bank s.eng.bank).slot) :
    s.decodeIssue v h us b flips = s.bundleFault h := by
  cases hd : decodeBundle (s.fetched h b flips) with
  | none => exact State.decodeIssue_of_none hd
  | some d => exact (State.decodeIssue_of_some hd).trans (if_pos (hbad d hd))

/-- The step's ECC count after a bundle is decoded (R142). -/
def State.countEcc (s : State) (corrected : Bool) : State :=
  { s with eng := { s.eng with eccCorrected := if corrected then satInc s.eng.eccCorrected else s.eng.eccCorrected } }

theorem State.countEcc_eq (s : State) (c : Bool) :
    (if c then { s with eng := { s.eng with eccCorrected := satInc s.eng.eccCorrected } } else s) = s.countEcc c := by
  cases c <;> rfl

theorem State.countEcc_within (s : State) (c : Bool) : Within { eng := true } s (s.countEcc c) := rfl

/-- A bundle of the right slot issues, but in a stall (R135, R187). -/
theorem State.decodeIssue_issues {d : BitVec 1024 × Bool} (hd : decodeBundle (s.fetched h b flips) = some d)
    (hvar : (headerOf d.1).var = (s.bank s.eng.bank).slot) (hstall : s.sync.stalled = false) :
    s.decodeIssue v h us b flips = (s.countEcc d.2).issueBundle v h us d.1 := by
  rw [State.decodeIssue_of_some hd, if_neg (not_not.2 hvar), if_neg (by simp [hstall]), State.countEcc_eq]

theorem State.decodeIssue_stalled {d : BitVec 1024 × Bool} (hd : decodeBundle (s.fetched h b flips) = some d)
    (hvar : (headerOf d.1).var = (s.bank s.eng.bank).slot) (hstall : s.sync.stalled = true) : s.decodeIssue v h us b flips = s := by
  rw [State.decodeIssue_of_some hd, if_neg (not_not.2 hvar), if_pos hstall]

/-! ## BUNDLE_ISSUE where a half is due -/

section
variable (hon : s.pwr.off = false) (hv : s.runImg = some v) (hb : ((s.bank s.eng.bank).body h)[(s.issueAt h).1]? = some b)
  (h4 : s.eng.state ≠ 4) (hdec : s.decodes = true) (hdue : s.eng.halfDue h = true)
include hon hv hb h4 hdec hdue

theorem bundleIssue_issues {d : BitVec 1024 × Bool} (ho : o ≠ h) (hd : decodeBundle (s.fetched h b flips) = some d)
    (hvar : (headerOf d.1).var = (s.bank s.eng.bank).slot) (hstall : s.sync.stalled = false) :
    Answers (.bundleIssue h flips us) s { sites := true, eng := true, mesh := true } (fun t => (s.countEcc d.2).IssuesBeat t h o d.1) := by
  obtain ⟨hi, -⟩ := List.getElem?_eq_some_iff.1 hb
  exact .of_act_eq (exec_bundleIssue_due hv hb h4 hdec hdue) hon (State.decodeIssue_issues hd hvar hstall)
    ((s.countEcc_within d.2).mono.trans (State.issueBundle_within _ _ _ _ _))
    (State.issueBundle_issuesBeat (s.countEcc d.2) v us d.1 ho (State.state_of_decodes hdec) hi)

theorem bundleIssue_faults (hbad : ∀ d, decodeBundle (s.fetched h b flips) = some d → (headerOf d.1).var ≠ (s.bank s.eng.bank).slot)
    (hfirst : s.eng.faultTimes = []) (h2 : s.eng.state = 2) :
    Answers (.bundleIssue h flips us) s faulting (fun t => s.BundleFaulted t) :=
  .of_act_eq (exec_bundleIssue_due hv hb h4 hdec hdue) hon (State.decodeIssue_fault hbad) (State.bundleFault_first h2 hfirst).within
    (State.bundleFault_first h2 hfirst)

end

/-- In a stall no bundle issues (R187). -/
theorem exec_bundleIssue_stalled {d : BitVec 1024 × Bool} (hv : s.runImg = some v)
    (hb : ((s.bank s.eng.bank).body h)[(s.issueAt h).1]? = some b) (h4 : s.eng.state ≠ 4) (hdec : s.decodes = true)
    (hdue : s.eng.halfDue h = true) (hd : decodeBundle (s.fetched h b flips) = some d)
    (hvar : (headerOf d.1).var = (s.bank s.eng.bank).slot) (hstall : s.sync.stalled = true) :
    exec (.bundleIssue h flips us) s = .next s :=
  (exec_bundleIssue_due hv hb h4 hdec hdue).trans (act_of_eq_self (State.decodeIssue_stalled hd hvar hstall))

end Sys2Proof.Machine
end

section
/-! The statement of the issue of bundles settled. -/

namespace Sys2Proof.Machine

/-- Settles O22: a beat is one of a clock quiesce, the issue of a bundle, or a bundle fault, and a half that waits or stalls has none. -/
theorem bundlesIssueOrFault : Obligations.BundlesIssueOrFault := by
  intro s h flips us v b i r hon hv hat hb
  obtain rfl : (s.issueAt h).1 = i := congrArg Prod.fst hat
  obtain rfl : (s.issueAt h).2 = r := congrArg Prod.snd hat
  refine ⟨fun h4 => ?_, fun h4 hdec hdue o k ho hk => ?_, fun h4 hdue => exec_bundleIssue_ahead hv hb h4 hdue⟩
  · refine (bundleIssue_quiesces hon hv hb h4).imp (fun t hq => ?_)
    refine ⟨hq.quietW.trans (by cases h <;> rfl), hq.quietE.trans (by cases h <;> rfl), ?_, ?_⟩
    · split
      · next hmore => exact (hq.goesOn hmore).1
      · next hdone => exact (hq.ends hdone).1
    · split
      · next hmore => exact (hq.goesOn hmore).2
      · next hdone => exact (hq.ends hdone).2
  · have hne : o ≠ h := by rw [ho]; cases h <;> decide
    subst hk
    refine ⟨fun d hd hvar hstall => ?_, fun d hd hvar hstall => exec_bundleIssue_stalled hv hb h4 hdec hdue hd hvar hstall,
      fun hbad hfirst h2 => ?_⟩
    · exact (bundleIssue_issues hon hv hb h4 hdec hdue hne hd hvar hstall).imp (fun t hi => ⟨hi.beat, hi.otherBeat, hi.stepNumber, hi.clock,
        hi.otherClock, hi.repeats, hi.advances, hi.ends, hi.eccCorrected⟩)
    · exact (bundleIssue_faults hon hv hb h4 hdec hdue hbad hfirst h2).imp (fun t hf => ⟨hf.faults, hf.aborts, hf.state, hf.cur, hf.nxt,
        hf.logged⟩)

end Sys2Proof.Machine
end

section
/-! SUPPORT. SIGNALs applied at their home: a word of memory raised, and what it leaves of the sync registers (R182, R191). -/

namespace Sys2Proof

/-- A number read from memory is that of the bytes read (R71). -/
theorem Memory.ofLE_readBytes (m : Memory) : ∀ a n, ofLE (m.readBytes a n) = m.readLE a n
  | _, 0 => rfl
  | a, n + 1 => by
    have htail : (m.readBytes a (n + 1)).tail = m.readBytes (a + 1) n := by
      simp [Memory.readBytes, Sparse.getList, List.range_succ_eq_map, Function.comp_def, Nat.add_assoc, Nat.add_comm 1]
    have hbytes : m.readBytes a (n + 1) = m.read a :: m.readBytes (a + 1) n := by
      rw [← htail]
      simp [Memory.readBytes, Sparse.getList, List.range_succ_eq_map, Memory.read]
    rw [hbytes, ofLE, Memory.ofLE_readBytes m (a + 1) n, Memory.readLE]

end Sys2Proof

namespace Sys2Proof.Machine

variable {s : State}

/-! ## Words of the device-local space -/

/-- Whether an address lies in the host window (R20). -/
def inHostWindow (a : Nat) : Prop := 0x020000000000 ≤ a ∧ a < 0x030000000000

theorem State.rdLE_device (s : State) {a : Nat} (ha : ¬inHostWindow a) (n : Nat) : s.rdLE a n = s.mem.readLE a n :=
  (congrArg ofLE (if_neg ha)).trans (Memory.ofLE_readBytes _ _ _)

theorem State.rdLE_host (s : State) {a : Nat} (ha : inHostWindow a) (n : Nat) : s.rdLE a n = s.host.readLE (a - 0x020000000000) n :=
  (congrArg ofLE (if_pos ha)).trans (Memory.ofLE_readBytes _ _ _)

/-- A number written is read back, in the host window and outside it. -/
theorem State.rdLE_wrLE (s : State) (a n v : Nat) : (s.wrLE a n v).rdLE a n = v % 256 ^ n := by
  by_cases ha : inHostWindow a
  · have hhost : (s.wrLE a n v).host = s.host.writeLE (a - 0x020000000000) n v := congrArg State.host (if_pos ha)
    rw [State.rdLE_host _ ha, hhost, Memory.readLE_writeLE]
  · have hmem : (s.wrLE a n v).mem = s.mem.writeLE a n v := congrArg State.mem (if_neg ha)
    rw [State.rdLE_device _ ha, hmem, Memory.readLE_writeLE]

theorem State.rdLE_addWord (s : State) (a v : Nat) : (s.addWord a v).rdLE a 8 = (s.rdLE a 8 + v) % 2 ^ 64 :=
  (State.rdLE_wrLE _ _ _ _).trans (Nat.mod_mod _ _)

/-- A word outside the host window raised: its bytes alone change, and are poisoned no more. -/
theorem State.addWord_device (s : State) {a : Nat} (ha : ¬inHostWindow a) (v : Nat) :
    s.addWord a v = { s with
      mem := s.mem.writeLE a 8 ((s.mem.readLE a 8 + v) % 2 ^ 64)
      poison := s.poison.filter (fun x => !decide (a ≤ x ∧ x < a + 8)) } := by
  rw [← State.rdLE_device s ha]
  exact if_neg ha

/-! ## A SIGNAL at its home -/

/-- The WAITs left once a word was raised are those it does not satisfy, and what is held for the commit and the counts of stalls stay. -/
structure State.Signalled (s t : State) (a inc : Nat) : Prop where
  within : Within { mem := true, host := true, poison := true, sync := true } s t
  word : t.rdLE a 8 = (s.rdLE a 8 + inc) % 2 ^ 64
  held : t.sync.held = s.sync.held
  stalls : t.sync.stalls = s.sync.stalls
  waits : t.sync.waits = s.sync.waits.filter t.unmet

theorem State.signalWord_signalled (s : State) (a inc : Nat) : s.Signalled (s.signalWord a inc) a inc := by
  have hadd : Within { mem := true, host := true, poison := true } s (s.addWord a inc) := .wrBytes _ _ _
  have hsync : (s.addWord a inc).sync = s.sync := hadd.view State.sync (fun _ _ => rfl)
  constructor
  case within => exact Within.trans (m := { mem := true, host := true, poison := true, sync := true }) hadd.mono rfl
  case word => exact s.rdLE_addWord a inc
  case held =>
    change (s.addWord a inc).sync.held = _
    rw [hsync]
  case stalls =>
    change (s.addWord a inc).sync.stalls = _
    rw [hsync]
  case waits =>
    change (s.addWord a inc).sync.waits.filter (s.signalWord a inc).unmet = _
    rw [hsync]

/-- A SIGNAL outside the host window leaves the host's memory. -/
theorem State.signalWord_within_device (s : State) {a : Nat} (ha : ¬inHostWindow a) (inc : Nat) :
    Within { mem := true, poison := true, sync := true } s (s.signalWord a inc) := by
  unfold State.signalWord
  rw [State.addWord_device s ha]
  rfl

theorem State.signalWord_mem_device (s : State) {a : Nat} (ha : ¬inHostWindow a) (inc : Nat) :
    (s.signalWord a inc).mem = s.mem.writeLE a 8 ((s.mem.readLE a 8 + inc) % 2 ^ 64) :=
  congrArg State.mem (State.addWord_device s ha inc)

/-! ## Host signals (R191) -/

theorem exec_syncHsig (n : Nat) (part : Sys2Proof.Part) (v : W64) (s : State) : exec (.syncHsig n part v) s = execSyncHsig n part v s := rfl

theorem hostSyncPage_device {n : Nat} (hn : n < 256) : ¬inHostWindow (hostSyncPage + 8 * n) := by
  unfold inHostWindow hostSyncPage
  omega

/-- A host signal: its word alone of memory is raised. -/
structure State.HostSignalled (s t : State) (a inc : Nat) : Prop where
  word : t.mem.readLE a 8 = (s.mem.readLE a 8 + inc) % 2 ^ 64
  others : ∀ c, ¬(a ≤ c ∧ c < a + 8) → t.mem.read c = s.mem.read c
  stalls : t.sync.stalls = s.sync.stalls
  held : t.sync.held = s.sync.held

theorem syncHsig_answers {n : Nat} {v : W64} (hon : s.pwr.off = false) (hn : n < 256) (hopen : s.blockOpen = true) :
    Answers (.syncHsig n .whole v) s { mem := true, poison := true, sync := true, hif := true }
      (fun t => s.HostSignalled t (hostSyncPage + 8 * n) v.toNat) := by
  have hdev := hostSyncPage_device hn
  have hsig := (s.unlatch 0).signalWord_signalled (hostSyncPage + 8 * n) v.toNat
  have hmem := (s.unlatch 0).signalWord_mem_device hdev v.toNat
  refine .of_act_eq (t := (s.unlatch 0).signalWord (hostSyncPage + 8 * n) v.toNat)
    (exec_syncHsig n .whole v s) hon (if_pos ?_)
    ((Within.unlatch s 0).trans ((s.unlatch 0).signalWord_within_device hdev v.toNat).mono)
    ⟨?_, fun c hc => ?_, hsig.stalls, hsig.held⟩
  · exact Bool.and_eq_true_iff.2 ⟨decide_eq_true hn, hopen⟩
  · rw [hmem, Memory.readLE_writeLE]
    exact Nat.mod_mod _ _
  · rw [hmem, Memory.read_writeLE_other _ _ _ _ _ hc]
    rfl

end Sys2Proof.Machine
end

section
/-! SUPPORT. Stalls and the watchdog (R186, R187, R307). -/

namespace Sys2Proof.Machine

variable {s t : State} {m M : Foot}

theorem exec_syncStallBegin (site : Nat) (s : State) : exec (.syncStallBegin site) s = execSyncStallBegin site s := rfl
theorem exec_syncStallEnd (now : W64) (s : State) : exec (.syncStallEnd now) s = execSyncStallEnd now s := rfl
theorem exec_syncWatchdog (now : W64) (s : State) : exec (.syncWatchdog now) s = execSyncWatchdog now s := rfl

/-- A command that says when it happens answers its effect at the new device time, within a footprint of its own with the time in it. -/
theorem Answers.of_actAt_eq {c : Instr} {now : State → W64} {f : State → State} {P : State → Prop} (hc : exec c s = actAt M now f s)
    (hon : s.pwr.off = false) (hf : f s = t) (hw : Within m s t) (hP : P { t with time := now s })
    (hM : ∀ a b w, { State.only M a (State.only m a b) with time := w } = { State.only m a b with time := w } := by intros; rfl)
    (htime : ∀ a b w, State.only m a { b with time := w } = { State.only m a b with time := w } := by intros; rfl) : Answers c s m P := by
  refine ⟨{ t with time := now s }, ?_, ?_, hP⟩
  · rw [hc, actAt_eq, hon, hf, hw, hM]
    rfl
  · rw [Within, htime, ← hw]

/-! ## The course of a stall (R186) -/

/-- The sync registers as a stall begins for a WAIT of a site. -/
def State.stallBegun (s : State) (site : Nat) (w : Nat × Nat × W64) : Sync :=
  { s.sync with
    stalled := true, stalls := s.sync.stalls + 1, stallStart := s.time, stallAddr := BitVec.ofNat 48 w.2.1,
    x := BitVec.ofNat 8 (siteX site), y := BitVec.ofNat 8 (siteY site), waitTarget := some w }

theorem syncStallBegin_answers {site : Nat} {w : Nat × Nat × W64} (hon : s.pwr.off = false)
    (hw : s.sync.waits.find? (fun w => decide (w.1 / 8 = site) && s.unmet w) = some w) (hstall : s.sync.stalled = false)
    (hheld : s.held = false) : Answers (.syncStallBegin site) s { sync := true } (fun t => t.sync = s.stallBegun site w) :=
  .of_act_eq (t := { s with sync := s.stallBegun site w }) (exec_syncStallBegin site s) hon
    (by simp [hw, hstall, hheld, State.stallBegun]) rfl rfl

theorem syncStallEnd_answers {now : W64} (hon : s.pwr.off = false) (hstall : s.sync.stalled = true) (hmet : s.waitMet = true) :
    Answers (.syncStallEnd now) s { time := true, sync := true }
      (fun t => t.time = maxTime s.time now ∧ t.sync = (s.stallEnds (maxTime s.time now)).sync) := by
  have hends : (s.sync.stalled && s.waitMet) = true := by rw [hstall, hmet]; rfl
  exact .of_actAt_eq (exec_syncStallEnd now s) hon (if_pos hends) rfl ⟨if_pos hends, rfl⟩

/-! ## The watchdog (R307) -/

theorem State.abortStep_of_running (hst : s.eng.state = 2) : s.abortStep false = s.abortNow false := by
  unfold State.abortStep
  rw [hst]
  rfl

/-- What an abort without a stall leaves of the sync registers: the WAITs and the signals held for the commit are gone. -/
theorem State.abortStep_sync (hst : s.eng.state = 2) (hstall : s.sync.stalled = false) :
    (s.abortStep false).sync = { s.sync with held := [], woken := [], stalled := false, waits := [], waitTarget := none } := by
  have hsync : s.replayed.sync = s.sync := s.replayed_within.view State.sync (fun _ _ => rfl)
  have htime : (if s.replayed.sync.stalled then s.replayed.sync.stallTime + (s.replayed.time - s.replayed.sync.stallStart)
      else s.replayed.sync.stallTime) = s.replayed.sync.stallTime := if_neg (by rw [hsync, hstall]; decide)
  rw [State.abortStep_of_running hst, ← hsync]
  exact congrArg (fun x : W64 => { s.replayed.sync with
    held := [], woken := [], stalled := false, waits := [], waitTarget := none, stallTime := x }) htime

/-- The late WAIT logged and the firing of the watchdog counted, before the step is aborted. -/
def State.wdogFired (s : State) (now : W64) : State :=
  let k := siteAt s.sync.x.toNat s.sync.y.toNat
  let s1 := ({ s with time := now }.stallEnds now).log 0x06 s.sync.x.toNat s.sync.y.toNat 0x1F 0 1
  { s1 with sync := { s1.sync with
      wdogFires := s1.sync.wdogFires + 1, lateTimes := (k, now) :: s1.sync.lateTimes.filter (fun e => !decide (e.1 = k)) } }

/-- The footprint of a step aborted by the watchdog. -/
def watching : Foot :=
  { time := true, thm := true, eng := true, cur := true, nxt := true, mesh := true, sync := true, seqs := true, flt := true }

theorem State.wdogFired_within (s : State) (now : W64) : Within watching s (s.wdogFired now) := rfl

/-- The watchdog fired at a time: the step is aborted, and the stall is over. -/
structure State.WdogAborted (s t : State) (now : W64) : Prop where
  time : t.time = now
  fires : t.sync.wdogFires = s.sync.wdogFires + 1
  stalled : t.sync.stalled = false
  stallTime : t.sync.stallTime = s.sync.stallTime + (now - s.sync.stallStart)
  aborts : t.eng.aborts = s.eng.aborts + 1
  state : t.eng.state = 5
  logged : t.flt.head = s.flt.head + 1

theorem State.wdogFired_aborted {now : W64} (hst : s.eng.state = 2) :
    Within watching s ((s.wdogFired now).abortStep false) ∧ s.WdogAborted ((s.wdogFired now).abortStep false) now := by
  have habort := State.abortStep_running (s := s.wdogFired now) hst
  have hsync := State.abortStep_sync (s := s.wdogFired now) hst rfl
  refine ⟨(s.wdogFired_within now).trans habort.within.mono, ?_⟩
  constructor
  case time => exact habort.within.view State.time (fun _ _ => rfl)
  case fires => rw [hsync]; rfl
  case stalled => rw [hsync]
  case stallTime => rw [hsync]; rfl
  case aborts => rw [habort.eng]; rfl
  case state => rw [habort.eng]; rfl
  case logged => exact congrArg Flt.head (habort.within.view State.flt (fun _ _ => rfl))

theorem syncWatchdog_answers {now : W64} (hon : s.pwr.off = false) (hlate : s.isLate now = true) (hst : s.eng.state = 2)
    (hfirst : ∀ e ∈ s.sync.lateTimes, e.1 ≠ siteAt s.sync.x.toNat s.sync.y.toNat) :
    Answers (.syncWatchdog now) s watching (fun t => s.WdogAborted t (maxTime s.time now)) := by
  have hagain : s.sync.lateTimes.any (fun e => decide
      (e.1 = siteAt s.sync.x.toNat s.sync.y.toNat ∧ (maxTime s.time now - e.2).toNat ≤ 64 * 2 ^ 20)) = false :=
    List.any_eq_false.2 (fun e he => by simp [hfirst e he])
  obtain ⟨hw, ha⟩ := State.wdogFired_aborted (now := maxTime s.time now) hst
  refine .of_actAt_eq (exec_syncWatchdog now s) hon
    ((if_pos hlate).trans (if_neg (ne_true_of_eq_false hagain))) hw ?_
  exact ⟨if_pos hlate, ha.fires, ha.stalled, ha.stallTime, ha.aborts, ha.state, ha.logged⟩

end Sys2Proof.Machine
end

section
/-! The statement of stalls and host signals settled. -/

namespace Sys2Proof.Machine

/-- Settles O23: a stall begins, ends, or is cut short by the watchdog as its row says, and a host signal is a SIGNAL to a word of the host
sync page, which no address of the host window is. That the stall takes the first late WAIT of its site is the model's choice (log entry 64). -/
theorem stallsAndHostSignals : Obligations.StallsAndHostSignals := by
  intro s hon
  refine ⟨fun site w hw hstall hheld => syncStallBegin_answers hon hw hstall hheld,
    fun now hstall hmet => syncStallEnd_answers hon hstall hmet, fun now hlate hst hfirst => ?_, fun n v hn hopen => ?_⟩
  · exact (syncWatchdog_answers hon hlate hst hfirst).imp
      (fun t h => ⟨h.time, h.fires, h.stalled, h.stallTime, h.aborts, h.state, h.logged⟩)
  · exact (syncHsig_answers hon hn hopen).imp (fun t h => ⟨h.word, h.others, h.stalls, h.held⟩)

end Sys2Proof.Machine
end

section
/-! SUPPORT. SIGNAL, WAIT and MONITOR of step programs at each home of a sync word (R182–R184), and their address faults (R23). -/

namespace Sys2Proof.Machine

variable {s : State} {site a key : Nat} {f : SyncField} {x : W64}

theorem exec_signal (site : Nat) (f : SyncField) (s : State) : exec (.signal site f) s = execSignal site f s := rfl
theorem exec_wait (site : Nat) (f : SyncField) (s : State) : exec (.wait site f) s = execWait site f s := rfl
theorem exec_monitor (site : Nat) (f : SyncField) (s : State) : exec (.monitor site f) s = execMonitor site f s := rfl

/-! ## Address faults (R23, Table 10.1) -/

/-- The footprint of an address fault. -/
def addressFaulting : Foot :=
  { thm := true, eng := true, cur := true, nxt := true, mesh := true, sync := true, seqs := true, flt := true }

/-- An address fault of a running step: logged, and the step aborted. -/
structure State.AddressFaulted (s t : State) : Prop where
  within : Within addressFaulting s t
  logged : t.flt.head = s.flt.head + 1
  aborts : t.eng.aborts = s.eng.aborts + 1
  state : t.eng.state = 5

theorem State.addressFault_running (hst : s.eng.state = 2) : s.AddressFaulted (s.addressFault site) := by
  have hlog : Within addressFaulting s (s.log 0x09 (siteX site) (siteY site) 0x1F 0 1) := rfl
  have habort := State.abortStep_running (s := s.log 0x09 (siteX site) (siteY site) 0x1F 0 1) hst
  exact ⟨hlog.trans habort.within.mono, congrArg Flt.head (habort.within.view State.flt (fun _ _ => rfl)),
    congrArg Eng.aborts habort.eng, congrArg Eng.state habort.eng⟩

section
variable (hon : s.pwr.off = false) (hhome : s.home (s.aregOf site f.areg.toNat) = .other) (hst : s.eng.state = 2)
include hon hhome hst

theorem signal_addressFault (hd : s.doesSync site 1 f = true) : Answers (.signal site f) s addressFaulting s.AddressFaulted :=
  have hfault := State.addressFault_running (site := site) hst
  .of_act_eq (exec_signal site f s) hon (by simp [hd, hhome]) hfault.within hfault

theorem wait_addressFault (hd : s.doesSync site 2 f = true) (hstall : s.sync.stalled = false) :
    Answers (.wait site f) s addressFaulting s.AddressFaulted :=
  have hfault := State.addressFault_running (site := site) hst
  .of_act_eq (exec_wait site f s) hon (by simp [hd, hstall, hhome]) hfault.within hfault

theorem monitor_addressFault (hd : s.doesSync site 3 f = true) (hstall : s.sync.stalled = false) :
    Answers (.monitor site f) s addressFaulting s.AddressFaulted :=
  have hfault := State.addressFault_running (site := site) hst
  .of_act_eq (exec_monitor site f s) hon (by simp [hd, hstall, hhome]) hfault.within hfault

end

/-! ## Sync words -/

/-- A SIGNAL kept for the commit (R184). -/
def State.holdSignal (s : State) (a : Nat) (inc : W64) : State :=
  { s with sync := { s.sync with held := s.sync.held ++ [(a, inc)] } }

/-- An expectation register written. -/
def State.expecting (s : State) (key : Nat) (x : W64) : State := { s with sync := { s.sync with exps := s.sync.exps.set 0 key x } }

/-- The wakes of an expectation register disarmed. -/
def State.disarm (s : State) (key : Nat) : State :=
  { s with sync := { s.sync with
      monitors := s.sync.monitors.filter (fun m => !decide (m.1 = key)), woken := s.sync.woken.filter (· ≠ key) } }

/-- A WAIT left to be satisfied, beside those whose words are still below what they await. -/
def State.await (s : State) (key a : Nat) (x : W64) : State :=
  { s with sync := { s.sync with waits := s.sync.waits.filter s.unmet ++ [(key, a, x)] } }

/-- A WAIT for a word: the expectation is raised, and the word reached or left to be. -/
structure State.Waited (s t : State) (key a : Nat) (x : W64) : Prop where
  raised : t.sync.exps.get 0 key = x
  others : ∀ k, k ≠ key → t.sync.exps.get 0 k = s.sync.exps.get 0 k
  below : s.rdLE a 8 < x.toNat → t.sync.waits = s.sync.waits.filter s.unmet ++ [(key, a, x)] ∧ t.sync.monitors = s.sync.monitors ∧
    t.sync.woken = s.sync.woken
  reached : x.toNat ≤ s.rdLE a 8 → t.sync.waits = s.sync.waits ∧
    t.sync.monitors = s.sync.monitors.filter (fun m => !decide (m.1 = key)) ∧ t.sync.woken = s.sync.woken.filter (· ≠ key)

theorem State.disarm_waited (hx : x.toNat ≤ s.rdLE a 8) : s.Waited ((s.expecting key x).disarm key) key a x :=
  ⟨Sparse.get_set_self _ _ _, fun _ hk => (Sparse.get_set _ _ _ _).trans (if_neg hk), fun hlt => absurd hx (Nat.not_le.2 hlt),
    fun _ => ⟨rfl, rfl, rfl⟩⟩

theorem State.await_waited (hx : s.rdLE a 8 < x.toNat) : s.Waited ((s.expecting key x).await key a x) key a x :=
  ⟨Sparse.get_set_self _ _ _, fun _ hk => (Sparse.get_set _ _ _ _).trans (if_neg hk), fun _ => ⟨rfl, rfl, rfl⟩,
    fun hle => absurd hx (Nat.not_lt.2 hle)⟩

section
variable (hon : s.pwr.off = false) (ha : a = s.aregOf site f.areg.toNat)
include hon ha

theorem signal_fill (hd : s.doesSync site 1 f = true) (hhome : s.home a = .fill) :
    Answers (.signal site f) s { mem := true, host := true, poison := true, sync := true }
      (fun t => s.Signalled t a f.operand.toNat) := by
  subst ha
  have hsig := s.signalWord_signalled (s.aregOf site f.areg.toNat) f.operand.toNat
  exact .of_act_eq (exec_signal site f s) hon (by simp [hd, hhome]) hsig.within hsig

theorem signal_held (hd : s.doesSync site 1 f = true) (hhome : s.home a = .committed ∨ s.home a = .mirror) :
    Answers (.signal site f) s { sync := true } (fun t => t = s.holdSignal a (BitVec.ofNat 64 f.operand.toNat)) := by
  subst ha
  refine .of_act_eq (t := s.holdSignal _ _) (exec_signal site f s) hon ?_ rfl rfl
  rcases hhome with hhome | hhome <;> simp [hd, hhome, State.holdSignal]

variable (hfill : s.home a = .fill) (hstall : s.sync.stalled = false) (hkey : key = expKey site (f.operand.toNat / 8192))
include hfill hstall hkey

theorem wait_fill (hd : s.doesSync site 2 f = true) (hx : x = s.sync.exps.get 0 key + BitVec.ofNat 64 (f.operand.toNat % 8192)) :
    Answers (.wait site f) s { sync := true } (fun t => s.Waited t key a x) := by
  subst ha
  have hacts : ¬(!(s.doesSync site 2 f) || s.sync.stalled) = true := by rw [hd, hstall]; decide
  by_cases hmet : x.toNat ≤ s.rdLE (s.aregOf site f.areg.toNat) 8
  · refine .of_act_eq (t := (s.expecting key x).disarm key) (exec_wait site f s) hon ?_ rfl (State.disarm_waited hmet)
    subst hkey hx
    exact (if_neg hacts).trans ((if_neg (not_not.2 hfill)).trans (if_pos hmet))
  · refine .of_act_eq (t := (s.expecting key x).await key _ x) (exec_wait site f s) hon ?_ rfl (State.await_waited (Nat.not_le.1 hmet))
    subst hkey hx
    exact (if_neg hacts).trans ((if_neg (not_not.2 hfill)).trans (if_neg hmet))

theorem monitor_fill (hd : s.doesSync site 3 f = true) : Answers (.monitor site f) s { sync := true }
    (fun t => t.sync = { s.sync with monitors := s.sync.monitors ++ [(key, a)] }) := by
  subst ha hkey
  exact .of_act_eq (t := { s with sync := { s.sync with
      monitors := s.sync.monitors ++ [(expKey site (f.operand.toNat / 8192), s.aregOf site f.areg.toNat)] } })
    (exec_monitor site f s) hon (by simp [hd, hstall, hfill]) rfl rfl

end

end Sys2Proof.Machine
end

section
/-! The statement of the sync operations of step programs settled. -/

namespace Sys2Proof.Machine

/-- Settles O24: the home of the operation's word says which effect it has, a fill word's, a held signal, or an address fault. -/
theorem syncOperationsOfStepPrograms : Obligations.SyncOperationsOfStepPrograms := by
  intro s site f a key x hon ha hkey hx
  refine ⟨fun hd hhome => ?_, fun hd hhome => ?_, fun hd hhome hstall => ?_,
    fun hd hhome hstall => monitor_fill hon ha hhome hstall hkey hd, fun m P hm hP hhome hst => ?_⟩
  · exact (signal_fill hon ha hd hhome).imp (fun t h => ⟨h.word, h.held, h.waits⟩)
  · exact (signal_held hon ha hd hhome).imp (fun t h => congrArg State.sync h)
  · exact (wait_fill hon ha hhome hstall hkey hd hx).imp (fun t h => ⟨h.raised, h.others, h.below, h.reached⟩)
  · subst hm hP ha
    have hfault : ∀ t, s.AddressFaulted t → t.flt.head = s.flt.head + 1 ∧ t.eng.aborts = s.eng.aborts + 1 ∧ t.eng.state = 5 :=
      fun t h => ⟨h.logged, h.aborts, h.state⟩
    exact ⟨fun hd => (signal_addressFault hon hhome hst hd).imp hfault,
      fun hd hstall => (wait_addressFault hon hhome hst hd hstall).imp hfault,
      fun hd hstall => (monitor_addressFault hon hhome hst hd hstall).imp hfault⟩

end Sys2Proof.Machine
end

section
/-! The statement of the fixed exponential settled. -/

namespace Sys2Proof.Machine

/-- Every entry of the table is nearest to its power of two, and no power lies on a tie: its 256th power lies strictly between those of the
half-integers on either side (R208). -/
theorem expTable_nearest : ∀ r < 256, (2 * expTable.getD r 0 - 1) ^ 256 < 2 ^ (19 * 256 - r) ∧
    2 ^ (19 * 256 - r) < (2 * expTable.getD r 0 + 1) ^ 256 := by decide +kernel

theorem fixedExp_below {delta : Nat} (h : delta < 4864) : fixedExp delta = expTable.getD (delta % 256) 0 >>> (delta / 256) := if_pos h

theorem fixedExp_above {delta : Nat} (h : 4864 ≤ delta) : fixedExp delta = 0 := if_neg (Nat.not_lt.2 h)

/-- Settles O44: the entry of `delta mod 256` is the nearest integer, and is shifted by `delta div 256`. -/
theorem fixedExponentialRounds : Obligations.FixedExponentialRounds := by
  refine ⟨fun delta h => ?_, fun delta h => fixedExp_above h, by decide, by decide, by decide⟩
  obtain ⟨hlow, hhigh⟩ := expTable_nearest (delta % 256) (Nat.mod_lt _ (by decide))
  exact ⟨_, hlow, hhigh, fixedExp_below h⟩

end Sys2Proof.Machine
end

section
/-! SUPPORT. What the attention operations share: the scratch records of a core, lists of head slots, address faults (R23), and outputs divided
(R209). -/

namespace Sys2Proof

/-- Steps that append what each element makes and leave the state make the list of it. -/
theorem foldl_append_of_const {α β σ : Type} {step : List β × σ → α → List β × σ} {g : α → List β} {s : σ} : ∀ {vs : List α} {acc : List β},
    (∀ v ∈ vs, ∀ acc, step (acc, s) v = (acc ++ g v, s)) → vs.foldl step (acc, s) = (acc ++ vs.flatMap g, s)
  | [], acc, _ => by simp
  | v :: vs, acc, h => by
    rw [List.foldl_cons, h v List.mem_cons_self, foldl_append_of_const (fun w hw => h w (List.mem_cons_of_mem _ hw)), List.flatMap_cons,
      List.append_assoc]

/-- The same for steps that append one thing each. -/
theorem foldl_concat_of_const {α β σ : Type} {step : List β × σ → α → List β × σ} {g : α → β} {s : σ} {vs : List α}
    (h : ∀ v ∈ vs, ∀ acc, step (acc, s) v = (acc ++ [g v], s)) : vs.foldl step ([], s) = (vs.map g, s) := by
  rw [foldl_append_of_const h, List.nil_append, List.map_eq_flatMap]

/-- What a map over a list and its indices makes of an element. -/
theorem getD_zipIdx_map {α β : Type} {l : List α} {i : Nat} {x : α} (h : l[i]? = some x) (f : α × Nat → β) (d : β) :
    (l.zipIdx.map f).getD i d = f (x, i) := by
  simp [List.getD, List.getElem?_zipIdx, h]

end Sys2Proof

namespace Sys2Proof.Machine

variable {m : Foot} {s t u : State} {k : Nat}

/-! ## Head slots -/

theorem getD_setAt_self {α : Type} (d d' : α) (l : List α) (i : Nat) (x : α) : (setAt d l i x).getD i d' = x := by
  have hlen : i < (l ++ List.replicate (i + 1 - l.length) d).length := by simp; omega
  simp [setAt, List.getD, List.getElem?_set_self hlen]

theorem getD_setAt_ne {α : Type} {i j : Nat} (h : j ≠ i) (d : α) (l : List α) (x : α) : (setAt d l i x).getD j d = l.getD j d := by
  simp only [setAt, List.getD, List.getElem?_set_ne h.symm, List.getElem?_append, List.getElem?_replicate]
  split
  · rfl
  · next hlen => split <;> simp [List.getElem?_eq_none (Nat.not_lt.1 hlen)]

/-! ## Scratch records -/

@[simp] theorem State.kv_updKv (s : State) (k : Nat) (f : KvScratch → KvScratch) : (s.updKv k f).kv k = f (s.kv k) := Sparse.get_upd_self _ _ _
@[simp] theorem State.pf_updPf (s : State) (k : Nat) (f : PfScratch → PfScratch) : (s.updPf k f).pf k = f (s.pf k) := Sparse.get_upd_self _ _ _
theorem State.kv_updKv_ne (s : State) {k j : Nat} (f : KvScratch → KvScratch) (h : j ≠ k) : (s.updKv k f).kv j = s.kv j := by
  unfold State.kv State.updKv; rw [Sparse.get_upd, if_neg h]
theorem State.pf_updPf_ne (s : State) {k j : Nat} (f : PfScratch → PfScratch) (h : j ≠ k) : (s.updPf k f).pf j = s.pf j := by
  unfold State.pf State.updPf; rw [Sparse.get_upd, if_neg h]
theorem Within.updKv (s : State) (k : Nat) (f : KvScratch → KvScratch) (hm : m.kvs = true := by rfl) : Within m s (s.updKv k f) := by
  unfold Within State.only; cases s; simp [State.updKv, hm]
theorem Within.updPf (s : State) (k : Nat) (f : PfScratch → PfScratch) (hm : m.pfs = true := by rfl) : Within m s (s.updPf k f) := by
  unfold Within State.only; cases s; simp [State.updPf, hm]

/-- `t` is `s` with the record of one site made `r`. -/
structure State.SiteMade (s t : State) (k : Nat) (r : SiteSt) : Prop where
  within : Within { sites := true } s t
  here : t.site k = r
  others : ∀ j, j ≠ k → t.site j = s.site j

theorem State.SiteMade.refl (s : State) (k : Nat) : s.SiteMade s k (s.site k) := ⟨.refl _ _, rfl, fun _ _ => rfl⟩

theorem State.updSite_made (s : State) (k : Nat) (f : SiteSt → SiteSt) : s.SiteMade (s.updSite k f) k (f (s.site k)) :=
  ⟨.updSite _ _ _, State.site_updSite _ _ _, fun _ hj => State.site_updSite_ne _ _ hj⟩

/-- A site's record made, then words of the site handed to the router. -/
theorem State.SiteMade.sends {r : SiteSt} {ws : List W64} (h : s.SiteMade t k r) (h' : t.Sends u k ws) :
    s.SiteMade u k { r with outbox := r.outbox ++ ws } :=
  ⟨h.within.trans h'.within, by rw [h'.here, h.here], fun j hj => (h'.others j hj).trans (h.others j hj)⟩

/-- `t` is `s` with the records of one site and its KV core made `r` and `x`. -/
structure State.KvMade (s t : State) (k : Nat) (r : SiteSt) (x : KvScratch) : Prop where
  within : Within { sites := true, kvs := true } s t
  site : t.site k = r
  kv : t.kv k = x
  others : ∀ j, j ≠ k → t.kv j = s.kv j ∧ t.site j = s.site j

theorem State.SiteMade.updKv {r : SiteSt} (h : s.SiteMade t k r) (f : KvScratch → KvScratch) : s.KvMade (t.updKv k f) k r (f (s.kv k)) := by
  have hkv : ∀ j, t.kv j = s.kv j := fun j => h.within.view (fun v => v.kv j) (fun _ _ => rfl)
  exact ⟨h.within.mono.trans (.updKv _ _ _), h.here, (State.kv_updKv _ _ _).trans (congrArg f (hkv k)),
    fun j hj => ⟨(State.kv_updKv_ne _ _ hj).trans (hkv j), h.others j hj⟩⟩

/-! ## Poison (R297) -/

theorem State.takePoison_clean (hp : (s.site k).poisonIn = false) : s.takePoison k = s := if_neg (by simp [hp])
theorem State.pfPoison_clean (hp : (s.site k).poisonIn = false) : s.pfPoison k = s := if_neg (by simp [hp])
theorem State.readPoison_clean {a n : Nat} (hp : s.poisoned a n = false) : s.readPoison k a n = s := if_neg (by simp [hp])
theorem State.pfRead_clean {a n : Nat} (hp : s.poisoned a n = false) : s.pfRead k a n = s := if_neg (by simp [hp])

/-! ## Address faults (R23, Table 10.1) -/

theorem State.abortStep_within (s : State) : Within aborting s (s.abortStep false) :=
  .ite rfl (.ite rfl (.ite rfl s.abortNow_aborted.within))

theorem State.addressFault_within (s : State) (k : Nat) : Within addressFaulting s (s.addressFault k) :=
  Within.trans (t := s.log 0x09 (siteX k) (siteY k) 0x1F 0 1) rfl (State.abortStep_within _).mono

/-- A command whose effect stays inside its footprint answers that effect. -/
theorem act_of_within {M : Foot} {f : State → State} (hon : s.pwr.off = false) (hf : f s = t) (hw : Within m s t)
    (hM : ∀ a b, State.only M a (State.only m a b) = State.only m a b := by intros; rfl) : act M f s = .next t := by
  rw [act_on hon, hf]
  exact congrArg _ (hw.mono hM).symm

/-! ## Outputs (R209) -/

theorem State.divide_some {e den : Int} (num : List Int) (hden : den ≠ 0) : s.divide (some e) num den = (num.map (attendOut e den), s) :=
  if_neg hden

end Sys2Proof.Machine
end

section
/-! SUPPORT. The operations of KV cores on queries, scores and sums (R205–R210, R222). -/

namespace Sys2Proof.Machine

variable {s t u : State} {k h i : Nat} {f : KvField} {l : Lane}

theorem exec_qload (k : Nat) (f : KvField) (s : State) : exec (.qload k f) s = execQload k f s := rfl
theorem exec_score (k : Nat) (f : KvField) (s : State) : exec (.score k f) s = execScore k f s := rfl
theorem exec_expsum (k : Nat) (f : KvField) (s : State) : exec (.expsum k f) s = execExpsum k f s := rfl
theorem exec_finish (k : Nat) (f : KvField) (s : State) : exec (.finish k f) s = execFinish k f s := rfl
theorem exec_zero (k : Nat) (f : KvField) (s : State) : exec (.zero k f) s = execZero k f s := rfl

/-! ## Words of the route and of a ring (R170, R222) -/

/-- What is handed to the route for a head slot: words of a ring lane, nothing of another. -/
theorem State.sendRing_sends (s : State) (k : Nat) (l : Lane) (xs : List Int) :
    s.Sends (s.sendRing k l xs) k (if s.ringLane l then xs.map (BitVec.ofInt 64) else []) := by
  unfold State.sendRing
  split
  · exact State.toRouter_sends _ _ _
  · exact .refl _ _

/-- The words of a ring taken: those of a ring lane, none of another. -/
theorem State.dropRing_made (s : State) (k : Nat) (l : Lane) (per : Nat) : s.SiteMade (s.dropRing k l per) k
    { s.site k with inbox := if s.ringLane l then (s.site k).inbox.drop (s.ringCount k l per) else (s.site k).inbox } := by
  unfold State.dropRing
  split
  · exact State.updSite_made _ _ _
  · exact .refl _ _

theorem State.takeVecs_made (hp : (s.site k).poisonIn = false) (n : Nat) (q : FFmt) (bytes : Nat) :
    s.SiteMade (s.takeVecs k n q bytes).2 k { s.site k with inbox := (s.site k).inbox.drop ((n * 128 * bytes + 7) / 8) } := by
  have hmade := s.updSite_made k (fun r => { r with inbox := r.inbox.drop ((n * 128 * bytes + 7) / 8) })
  unfold State.takeVecs
  rwa [State.takePoison_clean hp]

/-! ## QLOAD (R205) -/

/-- Finite vectors are put into integer form without a fault. -/
theorem State.formsOf_finite {q : FFmt} {vs : List (List Nat)} (hfin : ∀ e ∈ vs, e.all q.finite = true) :
    s.formsOf k q vs = (vs.map (fun e => intForm (e.map q.val)), s) :=
  foldl_concat_of_const (fun v hv acc => by simp only [State.formOf, hfin v hv, if_true])

/-- The query format of the partition that owns the lane a core serves. -/
def State.queryCode (s : State) (k : Nat) : Nat := s.queryFmt (match s.laneAt k with | some l => l.owner | none => 31)

theorem qload_answers {q : FFmt} {code : Nat} {v : List (List Nat) × State} (hon : s.pwr.off = false) (hp : (s.site k).poisonIn = false)
    (hd : s.doesKv k 1 f = true) (hcode : code = s.queryCode k) (hq : fmtOf code = some q)
    (hv : v = s.takeVecs k (kvG (s.scoreAt k).kvMode) q (elemBytes code)) (hfin : ∀ e ∈ v.1, e.all q.finite = true) :
    Answers (.qload k f) s { sites := true, kvs := true } (fun t => s.KvMade t k
      { s.site k with inbox := (s.site k).inbox.drop ((kvG (s.scoreAt k).kvMode * 128 * elemBytes code + 7) / 8) }
      { s.kv k with q := setAt [] (s.kv k).q f.head.toNat (v.1.map (fun e => intForm (e.map q.val))) }) := by
  have hmade := (State.takeVecs_made hp (kvG (s.scoreAt k).kvMode) q (elemBytes code)).updKv
    (fun x => { x with q := setAt [] x.q f.head.toNat (v.1.map (fun e => intForm (e.map q.val))) })
  refine .of_act_eq (exec_qload k f s) hon ?_ hmade.within hmade
  have hforms := State.formsOf_finite (s := v.2) (k := k) hfin
  simp only [hd, Bool.not_true, Bool.false_eq_true, if_false]
  generalize hc : s.queryFmt _ = c
  obtain rfl : code = c := hcode.trans hc
  simp only [hq, ← hv, hforms]

/-! ## SCORE (R207, R209) -/

/-- The key of head slot `h` at a position of the key set, with whether it is finite. -/
def State.keyAt (s : State) (k h : Nat) (e : Nat × Nat × Nat) : List Dy × Bool :=
  s.readVec (sliceAt k (s.scoreAt k).kvMode e.2.1 h).1 (kvFmt (s.scoreAt k).kvMode) false e.2.2

/-- The value exponent of head slot `h` at a position of the key set. -/
def State.valueExp (s : State) (k h : Nat) (e : Nat × Nat × Nat) : Int := (s.mem.read ((sliceAt k (s.scoreAt k).kvMode e.2.1 h).2 + e.2.2)).toInt

/-- The scores of a head slot, by query head. -/
def State.headScores (s : State) (k h : Nat) (sg : W32) (l : Lane) : List (List (Nat × Int)) :=
  ((s.kv k).q.getD h []).map (fun q => (s.keySet (s.scoreAt k) l).map (fun e => (e.1, scoreOf sg q (intForm (s.keyAt k h e).1))))

/-- The largest value exponent of a head slot. -/
def State.headTop (s : State) (k h : Nat) (l : Lane) : Option Int := maxInt? ((s.keySet (s.scoreAt k) l).map (s.valueExp k h))

/-- The largest score of each query head. -/
def scoreMaxima (zs : List (List (Nat × Int))) : List (Option Int) := zs.map (fun z => maxInt? (z.map (·.2)))

/-- The maxima as a ring's words carry them (R222; log entry 34). -/
def ringMaxima (ms : List (Option Int)) (top : Option Int) : List Int := ms.flatMap (fun m => [m.getD noMax, top.getD noMax])

theorem State.scoreHead_made {sg : W32} (hfin : ∀ e ∈ s.keySet (s.scoreAt k) l, (s.keyAt k h e).2 = true) :
    s.KvMade (s.scoreHead k h sg l) k
      { s.site k with outbox := (s.site k).outbox ++
          if s.ringLane l then (ringMaxima (scoreMaxima (s.headScores k h sg l)) (s.headTop k h l)).map (BitVec.ofInt 64) else [] }
      { s.kv k with
        scores := setAt [] (s.kv k).scores h (s.headScores k h sg l)
        m := setAt [] (s.kv k).m h (scoreMaxima (s.headScores k h sg l))
        e := setAt none (s.kv k).e h (s.headTop k h l) } := by
  have hsent := (State.SiteMade.refl s k).sends (s.sendRing_sends k l (ringMaxima (scoreMaxima (s.headScores k h sg l)) (s.headTop k h l)))
  have hmade := hsent.updKv (fun x => { x with
    scores := setAt [] x.scores h (s.headScores k h sg l)
    m := setAt [] x.m h (scoreMaxima (s.headScores k h sg l))
    e := setAt none x.e h (s.headTop k h l) })
  convert hmade using 1
  have hall : ((s.keySet (s.scoreAt k) l).map (fun e => (e.1, intForm (s.keyAt k h e).1, (s.keyAt k h e).2, s.valueExp k h e))).all
      (fun e => e.2.2.1) = true := by simpa [List.all_map] using hfin
  have htop : maxInt? (((s.keySet (s.scoreAt k) l).map (fun e =>
      (e.1, intForm (s.keyAt k h e).1, (s.keyAt k h e).2, s.valueExp k h e))).map (fun e => e.2.2.2)) = s.headTop k h l := by
    rw [List.map_map]; rfl
  have hzs : ((s.kv k).q.getD h []).map (fun q => ((s.keySet (s.scoreAt k) l).map (fun e =>
      (e.1, intForm (s.keyAt k h e).1, (s.keyAt k h e).2, s.valueExp k h e))).map (fun e => (e.1, scoreOf sg q e.2.1))) =
      s.headScores k h sg l := by
    simp only [List.map_map]; rfl
  unfold State.scoreHead ringMaxima scoreMaxima
  unfold State.keyAt State.valueExp at hall htop hzs
  dsimp only
  rw [if_pos hall, htop, hzs, List.flatMap_map]

end Sys2Proof.Machine
end

section
/-! SUPPORT. SCORE, EXPSUM, FINISH and ZERO of KV cores (R207–R210, R222). -/

namespace Sys2Proof.Machine

variable {s t u : State} {k h i : Nat} {f : KvField} {l : Lane}

/-! ## SCORE, whole -/

theorem score_answers {sg : W32} (hon : s.pwr.off = false) (hd : s.doesKv k 3 f = true) (hl : s.laneAt k = some l)
    (hok : s.okUnit k (s.operandAt k f.areg) 4 = true) (hsg : sg = BitVec.ofNat 32 (s.rdLE (s.operandAt k f.areg) 4)) (hfin : finite32 sg = true)
    (hclean : s.poisonedKeys k = false) (hkeys : ∀ e ∈ s.keySet (s.scoreAt k) l, (s.keyAt k f.head.toNat e).2 = true) :
    Answers (.score k f) s { sites := true, kvs := true } (fun t => s.KvMade t k
      { s.site k with outbox := (s.site k).outbox ++ if s.ringLane l then
          (ringMaxima (scoreMaxima (s.headScores k f.head.toNat sg l)) (s.headTop k f.head.toNat l)).map (BitVec.ofInt 64) else [] }
      { s.kv k with
        scores := setAt [] (s.kv k).scores f.head.toNat (s.headScores k f.head.toNat sg l)
        m := setAt [] (s.kv k).m f.head.toNat (scoreMaxima (s.headScores k f.head.toNat sg l))
        e := setAt none (s.kv k).e f.head.toNat (s.headTop k f.head.toNat l) }) := by
  have hmade := State.scoreHead_made (sg := sg) hkeys
  subst hsg
  have hread : s.readPoison k (siteBase k) 0x388000 = s := State.readPoison_clean hclean
  exact .of_act_eq (exec_score k f s) hon (by simp [hd, hl, hok, hfin, hread]) hmade.within hmade

theorem score_addressFault (hon : s.pwr.off = false) (hd : s.doesKv k 3 f = true) (hl : s.laneAt k = some l)
    (hbad : s.okUnit k (s.operandAt k f.areg) 4 = false) : exec (.score k f) s = .next (s.addressFault k) :=
  (exec_score k f s).trans (act_of_within hon (by simp [hd, hl, hbad]) (s.addressFault_within k))

/-! ## EXPSUM (R209, R210) -/

/-- The value of head slot `h` at a position of the key set, with whether it is finite. -/
def State.valueAt (s : State) (k h : Nat) (e : Nat × Nat × Nat) : List Dy × Bool :=
  s.readVec (sliceAt k (s.scoreAt k).kvMode e.2.1 h).1 (kvFmt (s.scoreAt k).kvMode) true e.2.2

/-- A value in integer form under the stored value exponent. -/
def State.valueForm (s : State) (k h : Nat) (e : Nat × Nat × Nat) : List Int :=
  (s.valueAt k h e).1.map (fun v => clampInt (-127) 127 (rneScaled v.m 1 (v.e + 6 - s.valueExp k h e)))

/-- The largest exponent of a head slot over its head group and the ring. -/
def State.groupTop (s : State) (k h : Nat) (l : Lane) : Option Int :=
  ((s.headGroup (s.scoreAt k)).map (fun x => (s.kv x.site).e.getD h none)).foldl maxOpt
    ((List.range (kvG (s.scoreAt k).kvMode)).foldl (fun a i =>
      maxOpt a (ringMax (s.ringWords k l (2 * kvG (s.scoreAt k).kvMode)) (kvG (s.scoreAt k).kvMode) i).2) none)

/-- The largest score of query head `i` over the head group and the ring. -/
def State.groupMax (s : State) (k h i : Nat) (l : Lane) : Option Int :=
  ((s.headGroup (s.scoreAt k)).map (fun x => ((s.kv x.site).m.getD h []).getD i none)).foldl maxOpt
    (ringMax (s.ringWords k l (2 * kvG (s.scoreAt k).kvMode)) (kvG (s.scoreAt k).kvMode) i).1

/-- The sums of query head `i` over the positions the core holds, under the maxima `m` and `e`. -/
def State.attended (s : State) (k h i : Nat) (l : Lane) (m e : Int) : List Int × Int :=
  ((((s.kv k).scores.getD h []).getD i []).zip (s.keySet (s.scoreAt k) l)).foldl
    (fun a x => attendTerm m e a (x.1.2, s.valueExp k h x.2, s.valueForm k h x.2)) (List.replicate 128 0, 0)

/-- The sums of query head `i`: none without both maxima. -/
def State.headSums (s : State) (k h : Nat) (l : Lane) (i : Nat) : List Int × Int :=
  match s.groupMax k h i l, s.groupTop k h l with
  | some m, some e => s.attended k h i l m e
  | _, _ => (List.replicate 128 0, 0)

theorem State.headSums_some {m e : Int} (hm : s.groupMax k h i l = some m) (he : s.groupTop k h l = some e) :
    s.headSums k h l i = s.attended k h i l m e := by
  unfold State.headSums
  rw [hm, he]

/-- The sums of every query head of a head slot. -/
def State.allSums (s : State) (k h : Nat) (l : Lane) : List (List Int × Int) :=
  (List.range ((s.kv k).q.getD h []).length).map (s.headSums k h l)

/-- The sums as a ring's words carry them (R222; log entry 34). -/
def ringSums (xs : List (List Int × Int)) : List Int := xs.flatMap (fun x => x.2 :: x.1)

/-- The terms of a head slot's positions, each with its value's exponent, form and finiteness, are those of its key set. -/
theorem State.foldl_terms (zs : List (Nat × Int)) (ps : List (Nat × Nat × Nat)) (m e : Int) (a : List Int × Int) :
    (zs.zip (ps.map (fun p => (p.1, s.valueExp k h p, s.valueForm k h p, (s.valueAt k h p).2)))).foldl
      (fun a t => attendTerm m e a (t.1.2, t.2.2.1, t.2.2.2.1)) a =
    (zs.zip ps).foldl (fun a x => attendTerm m e a (x.1.2, s.valueExp k h x.2, s.valueForm k h x.2)) a := by
  rw [List.zip_map_right, List.foldl_map]
  rfl

theorem State.expHead_made (hfin : ∀ e ∈ s.keySet (s.scoreAt k) l, (s.valueAt k h e).2 = true) : s.KvMade (s.expHead k h l) k
    { s.site k with
      inbox := if s.ringLane l then (s.site k).inbox.drop (s.ringCount k l (2 * kvG (s.scoreAt k).kvMode)) else (s.site k).inbox
      outbox := (s.site k).outbox ++ if s.ringLane l then (ringSums (s.allSums k h l)).map (BitVec.ofInt 64) else [] }
    { s.kv k with
      num := setAt [] (s.kv k).num h ((s.allSums k h l).map (·.1))
      den := setAt [] (s.kv k).den h ((s.allSums k h l).map (·.2))
      e := setAt none (s.kv k).e h (s.groupTop k h l) } := by
  have hdrop := s.dropRing_made k l (2 * kvG (s.scoreAt k).kvMode)
  have hring : (s.dropRing k l (2 * kvG (s.scoreAt k).kvMode)).ringLane l = s.ringLane l :=
    hdrop.within.view (fun v => v.ringLane l) (fun _ _ => rfl)
  have hsent := hdrop.sends (State.sendRing_sends _ k l (ringSums (s.allSums k h l)))
  rw [hring] at hsent
  have hmade := hsent.updKv (fun x => { x with
    num := setAt [] x.num h ((s.allSums k h l).map (·.1))
    den := setAt [] x.den h ((s.allSums k h l).map (·.2))
    e := setAt none x.e h (s.groupTop k h l) })
  convert hmade using 1
  have hall : ((s.keySet (s.scoreAt k) l).map (fun p => (p.1, s.valueExp k h p, s.valueForm k h p, (s.valueAt k h p).2))).all
      (fun x => x.2.2.2) = true := by simpa [List.all_map] using hfin
  have hsums : ∀ i, s.headSums k h l i = match s.groupMax k h i l, s.groupTop k h l with
      | some m, some e => ((((s.kv k).scores.getD h []).getD i []).zip ((s.keySet (s.scoreAt k) l).map (fun p =>
          (p.1, s.valueExp k h p, s.valueForm k h p, (s.valueAt k h p).2)))).foldl
            (fun a t => attendTerm m e a (t.1.2, t.2.2.1, t.2.2.2.1)) (List.replicate 128 0, 0)
      | _, _ => (List.replicate 128 0, 0) := fun i => by
    simp only [State.foldl_terms]; rfl
  unfold ringSums State.allSums
  simp only [funext hsums]
  unfold State.expHead
  exact congrArg (fun v : State => State.updKv (State.sendRing (State.dropRing v k l _) k l _) k _) (if_pos hall)

theorem expsum_answers (hon : s.pwr.off = false) (hd : s.doesKv k 4 f = true) (hl : s.laneAt k = some l) (hclean : s.poisonedKeys k = false)
    (hvals : ∀ e ∈ s.keySet (s.scoreAt k) l, (s.valueAt k f.head.toNat e).2 = true) :
    Answers (.expsum k f) s { sites := true, kvs := true } (fun t => s.KvMade t k
      { s.site k with
        inbox := if s.ringLane l then (s.site k).inbox.drop (s.ringCount k l (2 * kvG (s.scoreAt k).kvMode)) else (s.site k).inbox
        outbox := (s.site k).outbox ++ if s.ringLane l then (ringSums (s.allSums k f.head.toNat l)).map (BitVec.ofInt 64) else [] }
      { s.kv k with
        num := setAt [] (s.kv k).num f.head.toNat ((s.allSums k f.head.toNat l).map (·.1))
        den := setAt [] (s.kv k).den f.head.toNat ((s.allSums k f.head.toNat l).map (·.2))
        e := setAt none (s.kv k).e f.head.toNat (s.groupTop k f.head.toNat l) }) := by
  have hmade := State.expHead_made hvals
  have hread : s.readPoison k (siteBase k) 0x388000 = s := State.readPoison_clean hclean
  exact .of_act_eq (exec_expsum k f s) hon (by simp [hd, hl, hread]) hmade.within hmade

/-! ## FINISH and ZERO (R209, R210) -/

/-- The group's sums divided at group index 0, query head by query head, and handed to the route. -/
theorem finish_answers {e : Int} (hon : s.pwr.off = false) (hd : s.doesKv k 5 f = true) (hl : s.laneAt k = some l)
    (hg : kvGidx (s.scoreAt k).kvMode = 0) (he : (s.kv k).e.getD f.head.toNat none = some e)
    (hden : ∀ i < ((s.kv k).q.getD f.head.toNat []).length, (s.groupSums k f.head.toNat i l).2 ≠ 0) :
    Answers (.finish k f) s { sites := true } (fun t => s.SiteMade t k
      { s.site k with
        inbox := if s.ringLane l then (s.site k).inbox.drop (s.ringCount k l (129 * kvG (s.scoreAt k).kvMode)) else (s.site k).inbox
        outbox := (s.site k).outbox ++ fp32Words ((List.range ((s.kv k).q.getD f.head.toNat []).length).flatMap (fun i =>
          (s.groupSums k f.head.toNat i l).1.map (attendOut e (s.groupSums k f.head.toNat i l).2))) }) := by
  have hmade := (s.dropRing_made k l (129 * kvG (s.scoreAt k).kvMode)).sends (State.toRouter_sends _ k
    (fp32Words ((List.range ((s.kv k).q.getD f.head.toNat []).length).flatMap (fun i =>
      (s.groupSums k f.head.toNat i l).1.map (attendOut e (s.groupSums k f.head.toNat i l).2)))))
  have hout : (List.range ((s.kv k).q.getD f.head.toNat []).length).foldl (fun (a : List W32 × State) i =>
      (a.1 ++ (a.2.divide (some e) (s.groupSums k f.head.toNat i l).1 (s.groupSums k f.head.toNat i l).2).1,
        (a.2.divide (some e) (s.groupSums k f.head.toNat i l).1 (s.groupSums k f.head.toNat i l).2).2)) ([], s) =
      ([] ++ (List.range ((s.kv k).q.getD f.head.toNat []).length).flatMap (fun i =>
        (s.groupSums k f.head.toNat i l).1.map (attendOut e (s.groupSums k f.head.toNat i l).2)), s) :=
    foldl_append_of_const (fun i hi acc => by rw [State.divide_some _ (hden i (List.mem_range.1 hi))])
  rw [List.nil_append] at hout
  refine .of_act_eq (exec_finish k f s) hon ?_ hmade.within hmade
  simp only [hd, hl, hg, he, Bool.not_true, Bool.false_eq_true, if_false, ne_eq, not_true]
  exact congrArg (fun out : List W32 × State => (out.2.dropRing k l (129 * kvG (s.scoreAt k).kvMode)).toRouter k (fp32Words out.1)) hout

/-- A core at another group index finishes nothing. -/
theorem finish_follower (hg : kvGidx (s.scoreAt k).kvMode ≠ 0) : exec (.finish k f) s = .next s := by
  rw [exec_finish]
  refine act_of_eq_self ?_
  cases hl : s.laneAt k with
  | none => simp
  | some l => simp [hg]

theorem zero_answers (hon : s.pwr.off = false) (hd : s.doesKv k 9 f = true) :
    Answers (.zero k f) s { kvs := true } (fun t => t.kv k = {} ∧ ∀ j, j ≠ k → t.kv j = s.kv j) :=
  .of_act_eq (exec_zero k f s) hon (if_pos hd) (.updKv _ _ _) ⟨State.kv_updKv _ _ _, fun _ hj => State.kv_updKv_ne _ _ hj⟩

end Sys2Proof.Machine
end

section
/-! SUPPORT. Vectors in the head slices of a KV core, and KVAPPEND (R76, R80, R201, R202, R205). -/

namespace Sys2Proof

/-! ## Bytes of memory -/

/-- Bytes of two memories that agree where they are read. -/
theorem Memory.readBytes_congr {m m' : Memory} {a n : Nat} (h : ∀ b, a ≤ b → b < a + n → m.read b = m'.read b) :
    m.readBytes a n = m'.readBytes a n :=
  List.map_congr_left (fun i hi => h (a + i) (Nat.le_add_right _ _) (Nat.add_lt_add_left (List.mem_range.1 hi) _))

theorem Memory.readLE_congr {m m' : Memory} {a n : Nat} (h : ∀ b, a ≤ b → b < a + n → m.read b = m'.read b) : m.readLE a n = m'.readLE a n := by
  rw [← Memory.ofLE_readBytes, ← Memory.ofLE_readBytes, Memory.readBytes_congr h]

/-- Bytes written are read back. -/
theorem Memory.readBytes_writeBytes (m : Memory) (a : Nat) (bs : List Byte) : (m.writeBytes a bs).readBytes a bs.length = bs := by
  refine List.ext_getElem (by simp [Memory.readBytes, Sparse.getList]) (fun i hi hi' => ?_)
  have hread := Memory.read_writeBytes m a (a + i) bs
  rw [dif_pos ⟨Nat.le_add_right _ _, Nat.add_lt_add_left hi' _⟩] at hread
  simpa [Memory.readBytes, Sparse.getList, Memory.read] using hread

theorem Memory.read_writeBytes_other (m : Memory) {a c : Nat} {bs : List Byte} (h : ¬(a ≤ c ∧ c < a + bs.length)) :
    (m.writeBytes a bs).read c = m.read c := by
  rw [Memory.read_writeBytes, dif_neg h]

end Sys2Proof

namespace Sys2Proof.Machine

variable {s t u : State} {k slice fmt p a : Nat} {value : Bool} {vs : List Dy} {f : KvField}

theorem State.wrBytes_device (s : State) {a : Nat} (ha : a < 0x020000000000) (bs : List Byte) : s.wrBytes a bs = { s with
    mem := s.mem.writeBytes a bs, poison := s.poison.filter (fun x => !decide (a ≤ x ∧ x < a + bs.length)) } :=
  if_neg (fun h => Nat.not_le.2 ha h.1)

theorem Within.wrBytes_device (s : State) {a : Nat} (ha : a < 0x020000000000) (bs : List Byte) :
    Within { mem := true, poison := true } s (s.wrBytes a bs) := by
  rw [s.wrBytes_device ha]
  rfl

/-! ## Where a vector lies (Table 7.4) -/

/-- The addresses of the elements and the scales of a vector of a head slice. -/
def inVec (slice fmt : Nat) (value : Bool) (p a : Nat) : Prop :=
  (slice + (vecAt fmt value p).1 ≤ a ∧ a < slice + (vecAt fmt value p).1 + elemLen fmt) ∨
  (isMx fmt = true ∧ slice + (vecAt fmt value p).2 ≤ a ∧ a < slice + (vecAt fmt value p).2 + 4)

/-- The formats a slice is stored in: those a core appends in. -/
def kvFormats : List Nat := [0x07, 0x08, 0x0C, 0x0D, 0x0E]

/-- A slice of such a format has room for its key area and its value area. -/
theorem areas_le_sliceBytes : ∀ fmt ∈ kvFormats, 2 * (16 * elemLen fmt + if isMx fmt then 64 else 0) ≤ sliceBytes fmt := by decide

theorem sliceBytes_ge : ∀ fmt ∈ kvFormats, 2176 ≤ sliceBytes fmt := by decide

/-- The elements of a position lie in those of 16. -/
theorem elems_le {p : Nat} (n : Nat) (hp : p < 16) : p * n + n ≤ 16 * n := by
  rw [← Nat.succ_mul]
  exact Nat.mul_le_mul_right _ hp

theorem inVec.inSlice (hf : fmt ∈ kvFormats) (hp : p < 16) (h : inVec slice fmt value p a) : slice ≤ a ∧ a < slice + sliceBytes fmt := by
  have hroom := areas_le_sliceBytes fmt hf
  have helems := elems_le (elemLen fmt) hp
  unfold inVec vecAt at h
  dsimp only at h
  cases value <;> cases hmx : isMx fmt <;> simp [hmx] at h hroom <;> omega

/-- A key and a value share no byte. -/
theorem inVec.not_value (hp : p < 16) (h : inVec slice fmt false p a) : ¬inVec slice fmt true p a := by
  have helems := elems_le (elemLen fmt) hp
  unfold inVec vecAt at *
  dsimp only at *
  cases hmx : isMx fmt <;> simp [hmx] at h ⊢ <;> omega

/-- The elements of a vector and its scales share no byte. -/
theorem elems_before_scales (hp : p < 16) : (vecAt fmt value p).1 + elemLen fmt ≤ (vecAt fmt value p).2 := by
  have helems := elems_le (elemLen fmt) hp
  unfold vecAt
  dsimp only
  omega

theorem scales_lt (hf : fmt ∈ kvFormats) (hp : p < 16) : (vecAt fmt value p).2 < sliceBytes fmt + 64 := by
  have hroom := areas_le_sliceBytes fmt hf
  unfold vecAt
  dsimp only
  cases value <;> cases hmx : isMx fmt <;> simp [hmx] at hroom ⊢ <;> omega

/-! ## A vector read -/

/-- States that agree on a vector's bytes read the same vector. -/
theorem State.readVec_congr (h : ∀ a, inVec slice fmt value p a → t.mem.read a = s.mem.read a) :
    t.readVec slice fmt value p = s.readVec slice fmt value p := by
  unfold State.readVec
  cases hmx : isMx fmt with
  | true =>
    have helem : elemLen fmt = 4 * mxBlockBytes fmt := if_pos hmx
    have hblocks : ∀ b ∈ List.range 4,
        t.mem.read (slice + (vecAt fmt value p).2 + b) = s.mem.read (slice + (vecAt fmt value p).2 + b) ∧
        t.mem.readBytes (slice + (vecAt fmt value p).1 + b * mxBlockBytes fmt) (mxBlockBytes fmt) =
          s.mem.readBytes (slice + (vecAt fmt value p).1 + b * mxBlockBytes fmt) (mxBlockBytes fmt) := fun b hb => by
      have hb := List.mem_range.1 hb
      have hle : b * mxBlockBytes fmt + mxBlockBytes fmt ≤ 4 * mxBlockBytes fmt := by
        rw [← Nat.succ_mul]; exact Nat.mul_le_mul_right _ hb
      exact ⟨h _ (.inr ⟨hmx, by omega, by omega⟩), Memory.readBytes_congr (fun c hc hc' => h c (.inl ⟨by omega, by omega⟩))⟩
    have hflat : ∀ g : Nat → Byte → List Byte → List (Dy × Bool),
        (List.range 4).flatMap (fun b => g b (t.mem.read (slice + (vecAt fmt value p).2 + b))
          (t.mem.readBytes (slice + (vecAt fmt value p).1 + b * mxBlockBytes fmt) (mxBlockBytes fmt))) =
        (List.range 4).flatMap (fun b => g b (s.mem.read (slice + (vecAt fmt value p).2 + b))
          (s.mem.readBytes (slice + (vecAt fmt value p).1 + b * mxBlockBytes fmt) (mxBlockBytes fmt))) := fun g =>
      List.flatMap_congr (fun b hb => by rw [(hblocks b hb).1, (hblocks b hb).2])
    have := hflat (fun _ sc bs => (mxUnpack fmt bs).map (fun e => (mxVal fmt sc e, sc != 0xFF)))
    simp only [if_true]
    rw [this]
  | false =>
    have helem : elemLen fmt = 128 * elemBytes fmt := if_neg (by simp [hmx])
    have hword : (List.range 128).map (fun d => t.mem.readLE (slice + (vecAt fmt value p).1 + d * elemBytes fmt) (elemBytes fmt)) =
        (List.range 128).map (fun d => s.mem.readLE (slice + (vecAt fmt value p).1 + d * elemBytes fmt) (elemBytes fmt)) := by
      refine List.map_congr_left (fun d hd => Memory.readLE_congr (fun c hc hc' => h c (.inl ⟨by omega, ?_⟩)))
      have hle : d * elemBytes fmt + elemBytes fmt ≤ 128 * elemBytes fmt := by
        rw [← Nat.succ_mul]; exact Nat.mul_le_mul_right _ (List.mem_range.1 hd)
      omega
    simp only [Bool.false_eq_true, if_false]
    rw [hword]

/-! ## A vector written -/

/-- Pieces of one length, put together. -/
theorem length_flatMap_const {α β : Type} {n : Nat} {g : α → List β} (h : ∀ x, (g x).length = n) (xs : List α) :
    (xs.flatMap g).length = xs.length * n := by
  simp [List.length_flatMap, h]

/-- A vector of 128 fills the elements, and the scales where there are any. -/
theorem length_vecEncode (hf : fmt ∈ kvFormats) (hlen : vs.length = 128) :
    (vecEncode fmt vs).1.length = elemLen fmt ∧ (vecEncode fmt vs).2.length = if isMx fmt then 4 else 0 := by
  have hcode : isMx fmt = true ∨ (fmtOf fmt).isSome = true := by revert fmt; decide
  unfold vecEncode elemLen
  cases hmx : isMx fmt with
  | true =>
    have hpack : ∀ b : Byte × List Nat, (mxPack fmt b.2).length = mxBlockBytes fmt := fun b => by simp [mxPack]
    simp [length_flatMap_const hpack]
  | false =>
    obtain ⟨q, hq⟩ := Option.isSome_iff_exists.1 (hcode.resolve_left (by simp [hmx]))
    have hbytes : ∀ v : Dy, (leBytes (elemBytes fmt) (q.round v.neg v.m 1 v.e)).length = elemBytes fmt := fun v => leBytes_length _ _
    simp only [hq, Bool.false_eq_true, if_false]
    exact ⟨(length_flatMap_const hbytes vs).trans (by rw [hlen]), rfl⟩

/-- A vector lies in memory as it is encoded. -/
structure State.HoldsVec (s : State) (slice fmt : Nat) (value : Bool) (p : Nat) (vs : List Dy) : Prop where
  elems : s.mem.readBytes (slice + (vecAt fmt value p).1) (elemLen fmt) = (vecEncode fmt vs).1
  scales : isMx fmt = true → s.mem.readBytes (slice + (vecAt fmt value p).2) 4 = (vecEncode fmt vs).2

/-- A vector stays where its bytes do. -/
theorem State.HoldsVec.congr (h : s.HoldsVec slice fmt value p vs) (hread : ∀ a, inVec slice fmt value p a → t.mem.read a = s.mem.read a) :
    t.HoldsVec slice fmt value p vs :=
  ⟨(Memory.readBytes_congr (fun c hc hc' => hread c (.inl ⟨hc, hc'⟩))).trans h.elems,
    fun hmx => (Memory.readBytes_congr (fun c hc hc' => hread c (.inr ⟨hmx, hc, hc'⟩))).trans (h.scales hmx)⟩

/-- `t` is `s` with a vector written. -/
structure State.WritesVec (s t : State) (slice fmt : Nat) (value : Bool) (p : Nat) (vs : List Dy) : Prop where
  within : Within { mem := true, poison := true } s t
  holds : t.HoldsVec slice fmt value p vs
  rest : ∀ a, ¬inVec slice fmt value p a → t.mem.read a = s.mem.read a

theorem State.writeVec_writes (hf : fmt ∈ kvFormats) (hlen : vs.length = 128) (hp : p < 16) (hdev : slice + sliceBytes fmt + 64 ≤ 0x020000000000) :
    s.WritesVec (s.writeVec slice fmt value p vs) slice fmt value p vs := by
  obtain ⟨hl1, hl2⟩ := length_vecEncode hf hlen
  have hsep := elems_before_scales (fmt := fmt) (value := value) hp
  have hend := scales_lt (value := value) hf hp
  have hdev2 : slice + (vecAt fmt value p).2 < 0x020000000000 := by omega
  have hmem : (s.writeVec slice fmt value p vs).mem = (s.mem.writeBytes (slice + (vecAt fmt value p).1) (vecEncode fmt vs).1).writeBytes
      (slice + (vecAt fmt value p).2) (vecEncode fmt vs).2 := by
    unfold State.writeVec
    rw [State.wrBytes_device _ hdev2, State.wrBytes_device _ (by omega)]
  constructor
  case within => exact (Within.wrBytes_device _ (by omega) _).trans (Within.wrBytes_device _ hdev2 _)
  case holds =>
    constructor
    · rw [hmem, Memory.readBytes_congr (m' := s.mem.writeBytes (slice + (vecAt fmt value p).1) (vecEncode fmt vs).1)
        (fun c _ hc => Memory.read_writeBytes_other _ (fun h => by omega)), ← hl1, Memory.readBytes_writeBytes]
    · intro hmx
      rw [if_pos hmx] at hl2
      rw [hmem, ← hl2, Memory.readBytes_writeBytes]
  case rest =>
    intro c hc
    unfold inVec at hc
    rw [not_or] at hc
    rw [hmem, Memory.read_writeBytes_other _ (fun h => ?_), Memory.read_writeBytes_other _ (fun h => hc.1 (hl1 ▸ h))]
    cases hmx : isMx fmt with
    | true => rw [hl2, if_pos hmx] at h; exact hc.2 ⟨hmx, h⟩
    | false => rw [hl2, hmx] at h; simp at h; omega

/-! ## KVAPPEND (R202, R205) -/

theorem exec_kvappend (k : Nat) (f : KvField) (key value : List W32) (s : State) :
    exec (.kvappend k f key value) s = execKvappend k f key value s := rfl

/-- A unit that acts stands at a site of the die (R15). -/
theorem State.isSite_of_acts {n : Nat} {asks : Beat → ScoreRec → Bool} (h : s.acts k n asks = true) : k < 224 * 192 := by
  unfold State.acts State.unitUp State.siteActs isSite at h
  simp only [Bool.and_eq_true, decide_eq_true_eq] at h
  obtain ⟨⟨⟨-, ⟨⟨⟨⟨hsite, -⟩, -⟩, -⟩, -⟩, -⟩, -⟩, -⟩ := h
  exact hsite

/-- Every window of a site lies below the host window (R20, R22). -/
theorem siteBase_lt (h : k < 224 * 192) : siteBase k + 0x800000 ≤ 0x016000000000 := by
  unfold siteBase siteX siteY
  omega

/-- The FP32 values of a key or a value. -/
def fp32Vals (xs : List W32) : List Dy := xs.map (fun x => fp32.val x.toNat)

/-- A key and a value written at a position of a slice, and the value's exponent at an address outside it. -/
structure State.Appends (s t : State) (slice fmt p ea : Nat) (key value : List Dy) : Prop where
  within : Within { mem := true, poison := true } s t
  key : t.HoldsVec slice fmt false p key
  value : t.HoldsVec slice fmt true p value
  exp : t.mem.read ea = BitVec.ofInt 8 (intForm (t.readVec slice fmt true p).1).1
  rest : ∀ a, ¬(slice ≤ a ∧ a < slice + sliceBytes fmt) → a ≠ ea → t.mem.read a = s.mem.read a

/-- The key and the value written, then the exponent of the value as it is stored. -/
theorem State.appends {ea : Nat} {key value : List Dy} (hf : fmt ∈ kvFormats) (hp : p < 16) (hkey : key.length = 128) (hvalue : value.length = 128)
    (hea : slice + sliceBytes fmt ≤ ea) (hdev : slice + sliceBytes fmt + 64 ≤ 0x020000000000) (hdevE : ea < 0x020000000000)
    (hu : u = (s.writeVec slice fmt false p key).writeVec slice fmt true p value) :
    s.Appends (u.wrBytes ea [BitVec.ofInt 8 (intForm (u.readVec slice fmt true p).1).1]) slice fmt p ea key value := by
  have hk := State.writeVec_writes (s := s) (value := false) hf hkey hp hdev
  have hv := State.writeVec_writes (s := s.writeVec slice fmt false p key) (value := true) hf hvalue hp hdev
  rw [← hu] at hv
  have hwritten : ∀ bs, (u.wrBytes ea bs).mem = u.mem.writeBytes ea bs := fun bs => by rw [State.wrBytes_device u hdevE]
  have hother : ∀ (b : Byte) a, a ≠ ea → (u.wrBytes ea [b]).mem.read a = u.mem.read a := fun b a ha => by
    rw [hwritten]
    exact Memory.read_writeBytes_other _ (by rw [List.length_singleton]; omega)
  have hvec : ∀ (b : Byte) v a, inVec slice fmt v p a → (u.wrBytes ea [b]).mem.read a = u.mem.read a := fun b v a ha =>
    hother b a (by have := (ha.inSlice hf hp).2; omega)
  constructor
  case within => exact hk.within.trans (hv.within.trans (Within.wrBytes_device u hdevE _))
  case key => exact (hk.holds.congr (fun a ha => hv.rest a (ha.not_value hp))).congr (hvec _ _)
  case value => exact hv.holds.congr (hvec _ _)
  case exp =>
    rw [State.readVec_congr (hvec _ _), hwritten, Memory.read_writeBytes, dif_pos (by rw [List.length_singleton]; omega)]
    simp
  case rest =>
    intro a ha hne
    rw [hother _ a hne, hv.rest a (fun h => ha (h.inSlice hf hp)), hk.rest a (fun h => ha (h.inSlice hf hp))]

theorem kvappend_answers {key value : List W32} {l : Lane} {n : Nat} (hon : s.pwr.off = false) (hp : (s.site k).poisonIn = false)
    (hd : s.doesKv k 2 f = true) (hl : s.laneAt k = some l) (hn : s.localFrame (s.scoreAt k) (s.seq l.idx) (l.pos / 16) = some n)
    (hh : f.head.toNat < kvHeads (s.scoreAt k).kvMode) (hf : kvFmt (s.scoreAt k).kvMode ∈ kvFormats)
    (hroom : (n * kvHeads (s.scoreAt k).kvMode + f.head.toNat + 1) * sliceBytes (kvFmt (s.scoreAt k).kvMode) ≤ 0x380000)
    (hkey : key.length = 128) (hvalue : value.length = 128) (hkfin : key.all finite32 = true) (hvfin : value.all finite32 = true) :
    Answers (.kvappend k f key value) s { mem := true, poison := true } (fun t =>
      s.Appends t (sliceAt k (s.scoreAt k).kvMode n f.head.toNat).1 (kvFmt (s.scoreAt k).kvMode) (l.pos % 16)
        ((sliceAt k (s.scoreAt k).kvMode n f.head.toNat).2 + l.pos % 16) (fp32Vals key) (fp32Vals value)) := by
  have hsite := siteBase_lt (State.isSite_of_acts (Bool.and_eq_true_iff.1 hd).2)
  have hlarge := sliceBytes_ge _ hf
  have hpos : l.pos % 16 < 16 := Nat.mod_lt _ (by decide)
  have hslices : (n * kvHeads (s.scoreAt k).kvMode + f.head.toNat + 1) * 2176 ≤ 0x380000 :=
    (Nat.mul_le_mul_left _ hlarge).trans hroom
  rw [Nat.succ_mul] at hroom
  have happ := State.appends (s := s) (slice := (sliceAt k (s.scoreAt k).kvMode n f.head.toNat).1)
    (ea := (sliceAt k (s.scoreAt k).kvMode n f.head.toNat).2 + l.pos % 16) (key := fp32Vals key) (value := fp32Vals value) hf hpos
    (by simpa [fp32Vals] using hkey) (by simpa [fp32Vals] using hvalue)
    (by unfold sliceAt; omega) (by unfold sliceAt; omega) (by unfold sliceAt; omega) rfl
  refine .of_act_eq (exec_kvappend k f key value s) hon ?_ happ.within happ
  simp only [hd, hl, hn, hkfin, hvfin, State.takePoison_clean hp, if_neg (Nat.not_le.2 hh), Bool.not_true, Bool.false_eq_true, if_false,
    Bool.and_true, if_true]
  rfl

end Sys2Proof.Machine
end

section
/-! The statement of the attention of KV cores settled. -/

namespace Sys2Proof.Machine

/-- Settles O45: each operation leaves the records of its core and its site as its rule makes them, and KVAPPEND the bytes of a slice. That the
score scale stands at the address register (log entry 33), how a ring's words are laid out (log entry 34) and which positions a core's key set
holds (log entry 45) are the model's choice. -/
theorem kvCoresAttend : Obligations.KvCoresAttend := by
  intro s k f r h fmt hon hp hr hh hfmt
  subst hr hh hfmt
  refine ⟨fun q code v hd hcode hq hv hfin => ?_, fun key value l n p slice hd hl hn hpos hslice hlt hf hroom hkey hvalue hkfin hvfin => ?_,
    fun l sg hd hl hok hsg hfin hclean hkeys => ?_, fun l hd hl hbad => score_addressFault hon hd hl hbad,
    fun l i m e ws hd hl hclean hws hi hvals hm he => ?_, fun l e hd hl hg he hden => ?_, finish_follower, zero_answers hon⟩
  · exact (qload_answers hon hp hd hcode hq hv hfin).imp (fun t ht => ⟨ht.kv, ht.site, ht.others⟩)
  · subst hpos hslice
    exact (kvappend_answers hon hp hd hl hn hlt hf hroom hkey hvalue hkfin hvfin).imp (fun t ht =>
      ⟨ht.key.elems, ht.value.elems, fun hmx => ⟨ht.key.scales hmx, ht.value.scales hmx⟩, ht.exp, ht.rest⟩)
  · refine (score_answers hon hd hl hok hsg hfin hclean hkeys).imp (fun t ht => ?_)
    rw [ht.kv, ht.site]
    simp only [getD_setAt_self]
    exact ⟨rfl, rfl, rfl, fun g hg => getD_setAt_ne hg _ _ _, trivial, rfl, ht.others⟩
  · subst hws
    refine (expsum_answers hon hd hl hclean hvals).imp (fun t ht => ?_)
    rw [ht.kv, ht.site]
    simp only [getD_setAt_self]
    refine ⟨?_, he, trivial, fun hring => by simp [hring], fun hring => ?_, ht.others⟩
    · have hsum : (s.allSums k f.head.toNat l)[i]? = some (s.attended k f.head.toNat i l m e) := by
        rw [State.allSums, List.getElem?_map, List.getElem?_range hi, Option.map_some, State.headSums_some hm he]
      simp only [List.getD, List.getElem?_map, hsum]
      rfl
    · simp only [hring, if_true, List.zip_map', List.flatMap_map]
      rfl
  · exact (finish_answers hon hd hl hg he hden).imp (fun t ht => ⟨ht.here, ht.others⟩)

end Sys2Proof.Machine
end

section
/-! SUPPORT. The operations of prefill cores (R205–R210, R216, R218, R224). -/

namespace Sys2Proof.Machine

variable {s t : State} {k : Nat} {f : PfField} {o : BitVec 5}

theorem exec_pload (k : Nat) (f : PfField) (x : PfOperand) (s : State) : exec (.pload k f x) s = execPload k f x s := rfl
theorem exec_pscore (k : Nat) (f : PfField) (s : State) : exec (.pscore k f) s = execPscore k f s := rfl
theorem exec_pexpsum (k : Nat) (f : PfField) (s : State) : exec (.pexpsum k f) s = execPexpsum k f s := rfl
theorem exec_pfinish (k : Nat) (f : PfField) (o : BitVec 5) (s : State) : exec (.pfinish k f o) s = execPfinish k f o s := rfl
theorem exec_ringsend (k : Nat) (f : PfField) (a n : Nat) (s : State) : exec (.ringsend k f a n) s = execRingsend k f a n s := rfl
theorem exec_dense (k : Nat) (f : PfField) (o : BitVec 5) (xs : List W32) (rows : List (List W32)) (s : State) :
    exec (.dense k f o xs rows) s = execDense k f o xs rows s := rfl

/-! ## Scratch records -/

/-- `t` is `s` with the scratch record of one prefill core made `x`. -/
structure State.PfMade (s t : State) (k : Nat) (x : PfScratch) : Prop where
  within : Within { pfs := true } s t
  here : t.pf k = x
  others : ∀ j, j ≠ k → t.pf j = s.pf j

theorem State.updPf_made (s : State) (k : Nat) (g : PfScratch → PfScratch) : s.PfMade (s.updPf k g) k (g (s.pf k)) :=
  ⟨.updPf _ _ _, State.pf_updPf _ _ _, fun _ hj => State.pf_updPf_ne _ _ hj⟩

/-- `t` is `s` with the records of one site and its prefill core made `r` and `x`. -/
structure State.PfSiteMade (s t : State) (k : Nat) (r : SiteSt) (x : PfScratch) : Prop where
  within : Within { sites := true, pfs := true } s t
  site : t.site k = r
  pf : t.pf k = x
  others : ∀ j, j ≠ k → t.pf j = s.pf j ∧ t.site j = s.site j

/-- The core's record made, then its site's. -/
theorem State.PfMade.updSite {x : PfScratch} (h : s.PfMade t k x) (g : SiteSt → SiteSt) :
    s.PfSiteMade (t.updSite k g) k (g (s.site k)) x := by
  have hmade := t.updSite_made k g
  have hsite : ∀ j, t.site j = s.site j := fun j => h.within.view (fun v => v.site j) (fun _ _ => rfl)
  have hpf : ∀ j, (t.updSite k g).pf j = t.pf j := fun j => hmade.within.view (fun v => v.pf j) (fun _ _ => rfl)
  exact ⟨h.within.mono.trans hmade.within.mono, hmade.here.trans (congrArg g (hsite k)), (hpf k).trans h.here,
    fun j hj => ⟨(hpf j).trans (h.others j hj), (hmade.others j hj).trans (hsite j)⟩⟩

/-- The core's record made, and words handed to the router. -/
theorem State.PfMade.toRouter {x : PfScratch} (h : s.PfMade t k x) (ws : List W64) :
    s.PfSiteMade (t.toRouter k ws) k { s.site k with outbox := (s.site k).outbox ++ ws } x := h.updSite _

/-- Both records made, and the core's made again. -/
theorem State.PfSiteMade.updPf {r : SiteSt} {x : PfScratch} (h : s.PfSiteMade t k r x) (g : PfScratch → PfScratch) :
    s.PfSiteMade (t.updPf k g) k r (g x) := by
  have hmade := t.updPf_made k g
  have hsite : ∀ j, (t.updPf k g).site j = t.site j := fun j => hmade.within.view (fun v => v.site j) (fun _ _ => rfl)
  exact ⟨h.within.trans hmade.within.mono, (hsite k).trans h.site, hmade.here.trans (congrArg g h.pf),
    fun j hj => ⟨(hmade.others j hj).trans (h.others j hj).1, (hsite j).trans (h.others j hj).2⟩⟩

/-! ## PLOAD (R205, R216) -/

/-- The record that a query block begins: its lane, and its queries in integer form. -/
def State.queryScratch (s : State) (k : Nat) (next : Bool) (lane code : Nat) (vs : List (List W32)) : PfScratch :=
  { lane := s.queryLane k next lane, q := vs.map (fun v => intForm (operandVals code v).1) }

theorem pload_query {next : Bool} {lane count : Nat} (hon : s.pwr.off = false) (hp : (s.site k).poisonIn = false) (hd : s.doesPf k 1 f = true)
    (hf : pfFmtOk f = true) (hfin : ∀ v ∈ s.queryVecs k f.opfmt.toNat count, (operandVals f.opfmt.toNat v).2 = true) :
    Answers (.pload k f (.query next lane count)) s { sites := true, pfs := true } (fun t => s.PfSiteMade t k
      { s.site k with inbox := (s.site k).inbox.drop ((count * 128 * elemBytes f.opfmt.toNat + 7) / 8) }
      (s.queryScratch k next lane f.opfmt.toNat (s.queryVecs k f.opfmt.toNat count))) := by
  have hbegin := s.updPf_made k (fun _ => { lane := s.queryLane k next lane })
  generalize hu : s.updPf k (fun _ => { lane := s.queryLane k next lane }) = u at hbegin
  have hsite : u.site k = s.site k := hbegin.within.view (fun v => v.site k) (fun _ _ => rfl)
  have htaken := hbegin.updSite (fun r => { r with inbox := r.inbox.drop ((count * 128 * elemBytes f.opfmt.toNat + 7) / 8) })
  generalize ht : u.updSite k _ = t at htaken
  have hmade := htaken.updPf (fun x => { x with
    q := (s.queryVecs k f.opfmt.toNat count).map (fun v => intForm (operandVals f.opfmt.toNat v).1) })
  have hforms : (s.queryVecs k f.opfmt.toNat count).foldl (fun (a : List (Int × List Int) × State) v =>
      (a.1 ++ [(if (operandVals f.opfmt.toNat v).2 then (intForm (operandVals f.opfmt.toNat v).1, a.2)
          else (a.2.pfFormat k).freeForm v.length).1],
        (if (operandVals f.opfmt.toNat v).2 then (intForm (operandVals f.opfmt.toNat v).1, a.2)
          else (a.2.pfFormat k).freeForm v.length).2)) ([], t) =
      ((s.queryVecs k f.opfmt.toNat count).map (fun v => intForm (operandVals f.opfmt.toNat v).1), t) :=
    foldl_concat_of_const (fun v hv acc => by rw [if_pos (hfin v hv)])
  refine .of_act_eq (exec_pload k f _ s) hon ?_ hmade.within hmade
  simp only [hd, hf, Bool.and_true, Bool.not_true, Bool.false_eq_true, if_false]
  rw [hu, State.pfPoison_clean ((congrArg SiteSt.poisonIn hsite).trans hp), ht, hforms]

/-- The integer forms of the keys or the values of a slice. -/
def State.sliceForms (s : State) (a fmt : Nat) (value : Bool) : List (Int × List Int) :=
  (List.range 16).map (fun p => intForm (s.readVec a fmt value p).1)

/-- The operand of PLOAD that names the keys or the values of a slice. -/
def sliceOperand (value : Bool) : PfOperand := if value then .value else .key

/-- A core's record with the keys or the values of a block. -/
def PfScratch.withForms (x : PfScratch) (value : Bool) (forms : List (Int × List Int)) : PfScratch :=
  if value then { x with v := forms } else { x with k := forms }

section
variable {fmt : Nat} {value : Bool} (hon : s.pwr.off = false) (hd : s.doesPf k 1 f = true) (hf : pfFmtOk f = true)
include hon hd hf

theorem pload_slice (hslice : s.sweepSlice (s.operandAt k f.areg) = some fmt)
    (hclean : s.poisoned (s.operandAt k f.areg) (sliceBytes fmt) = false)
    (hfin : ∀ p < 16, (s.readVec (s.operandAt k f.areg) fmt value p).2 = true) :
    Answers (.pload k f (sliceOperand value)) s { pfs := true } (fun t =>
      s.PfMade t k ((s.pf k).withForms value (s.sliceForms (s.operandAt k f.areg) fmt value))) := by
  have hmade := s.updPf_made k (·.withForms value (s.sliceForms (s.operandAt k f.areg) fmt value))
  have hall : ((List.range 16).map (fun p => s.readVec (s.operandAt k f.areg) fmt value p)).all (·.2) = true := by
    simpa [List.all_map] using hfin
  have hforms : ((List.range 16).map (fun p => s.readVec (s.operandAt k f.areg) fmt value p)).map (fun v => intForm v.1) =
      s.sliceForms (s.operandAt k f.areg) fmt value := List.map_map
  refine .of_act_eq (exec_pload k f _ s) hon ?_ hmade.within hmade
  have hacts : ¬(!(s.doesPf k 1 f && pfFmtOk f)) = true := by simp [hd, hf]
  cases value
  all_goals
    refine (if_neg hacts).trans ?_
    simp only [sliceOperand, hslice, State.pfRead_clean hclean, Bool.false_eq_true, if_false, if_true]
    exact (congrArg (fun v : State => v.updPf k _) (if_pos hall)).trans (by rw [← hforms]; rfl)

theorem pload_addressFault (hnone : s.sweepSlice (s.operandAt k f.areg) = none) :
    exec (.pload k f .key) s = .next (s.addressFault k) ∧ exec (.pload k f .value) s = .next (s.addressFault k) :=
  ⟨(exec_pload k f _ s).trans (act_of_within hon (by simp [hd, hf, hnone]) (s.addressFault_within k)),
    (exec_pload k f _ s).trans (act_of_within hon (by simp [hd, hf, hnone]) (s.addressFault_within k))⟩

end

/-! ## PSCORE and PEXPSUM (R207–R210, R218) -/

/-- The maxima of a core raised by a block. -/
def State.raisedMaxima (s : State) (k : Nat) (f : PfField) (sg : W32) : List (Option Int) :=
  (s.pf k).q.zipIdx.map (fun q => maxOpt ((s.pf k).m.getD q.2 none) (maxInt? ((s.realPairs k f).map (fun e => scoreOf sg q.1 e.2.1))))

/-- The largest score of query `i` over the cores of the lane. -/
def State.laneMax (s : State) (k i : Nat) : Option Int := ((s.pfGroup k).map (fun j => (s.pf j).m.getD i none)).foldl maxOpt none

/-- The largest exponent over the cores of the lane. -/
def State.laneTop (s : State) (k : Nat) : Option Int := ((s.pfGroup k).map (fun j => (s.pf j).e)).foldl maxOpt none

/-- The sums of query `i` with the terms of a block's pairs added under the maxima `m` and `e`. -/
def State.pairTerms (s : State) (k : Nat) (f : PfField) (sg : W32) (q : (Int × List Int) × Nat) (m e : Int) : List Int × Int :=
  (s.realPairs k f).foldl (fun a x => attendTerm m e a (scoreOf sg q.1 x.2.1, x.2.2.1, x.2.2.2))
    ((s.pf k).num.getD q.2 (List.replicate 128 0), (s.pf k).den.getD q.2 0)

/-- The sums of query `i` after a block: with its terms added, or as they were without both maxima. -/
def State.pairSums (s : State) (k : Nat) (f : PfField) (sg : W32) (q : (Int × List Int) × Nat) : List Int × Int :=
  match s.laneMax k q.2, s.laneTop k with
  | some m, some e => s.pairTerms k f sg q m e
  | _, _ => ((s.pf k).num.getD q.2 (List.replicate 128 0), (s.pf k).den.getD q.2 0)

theorem State.pairSums_some {sg : W32} {q : (Int × List Int) × Nat} {m e : Int} (hm : s.laneMax k q.2 = some m) (he : s.laneTop k = some e) :
    s.pairSums k f sg q = s.pairTerms k f sg q m e := by
  unfold State.pairSums
  rw [hm, he]

section
variable (hon : s.pwr.off = false) (hf : pfFmtOk f = true)
include hon hf

theorem pscore_answers {sg : W32} (hd : s.doesPf k 2 f = true) (hsg : s.sigmaAt k f.areg = some sg) (hfin : finite32 sg = true) :
    Answers (.pscore k f) s { pfs := true } (fun t => s.PfMade t k { s.pf k with
      m := s.raisedMaxima k f sg, e := maxOpt (s.pf k).e (maxInt? ((s.realPairs k f).map (fun e => e.2.2.1))) }) := by
  have hmade := s.updPf_made k (fun x => { x with
    m := x.q.zipIdx.map (fun q => maxOpt (x.m.getD q.2 none) (maxInt? ((s.realPairs k f).map (fun e => scoreOf sg q.1 e.2.1))))
    e := maxOpt x.e (maxInt? ((s.realPairs k f).map (fun e => e.2.2.1))) })
  exact .of_act_eq (exec_pscore k f s) hon (by simp [hd, hf, hsg, hfin]) hmade.within hmade

theorem pexpsum_answers {sg : W32} (hd : s.doesPf k 3 f = true) (hsg : s.sigmaAt k f.areg = some sg) (hfin : finite32 sg = true) :
    Answers (.pexpsum k f) s { pfs := true } (fun t => s.PfMade t k { s.pf k with
      num := ((s.pf k).q.zipIdx.map (s.pairSums k f sg)).map (·.1), den := ((s.pf k).q.zipIdx.map (s.pairSums k f sg)).map (·.2) }) := by
  refine .of_act_within (exec_pexpsum k f s) hon ?_ ?_
  all_goals simp only [hd, hf, hsg, hfin, Bool.and_true, Bool.not_true, Bool.false_eq_true, if_false]
  · exact .updPf _ _ _
  · exact s.updPf_made k _

theorem prefill_addressFault (hsg : s.sigmaAt k f.areg = none) :
    (s.doesPf k 2 f = true → exec (.pscore k f) s = .next (s.addressFault k)) ∧
    (s.doesPf k 3 f = true → exec (.pexpsum k f) s = .next (s.addressFault k)) :=
  ⟨fun hd => (exec_pscore k f s).trans (act_of_within hon (by simp [hd, hf, hsg]) (s.addressFault_within k)),
    fun hd => (exec_pexpsum k f s).trans (act_of_within hon (by simp [hd, hf, hsg]) (s.addressFault_within k))⟩

end

/-! ## PFINISH, RINGSEND and DENSE (R81, R210, R224) -/

/-- The sums of query `i` over the cores of the lane. -/
def State.laneSums (s : State) (k i : Nat) : List Int × Int :=
  (s.pfGroup k).foldl (fun b j =>
    ((b.1.zip ((s.pf j).num.getD i (List.replicate 128 0))).map (fun y => y.1 + y.2), b.2 + (s.pf j).den.getD i 0)) (List.replicate 128 0, 0)

/-- The outputs of every query: the merged sums divided. -/
def State.laneOuts (s : State) (k : Nat) (e : Int) : List (List W32) :=
  (List.range (s.pf k).q.length).map (fun i => (s.laneSums k i).1.map (attendOut e (s.laneSums k i).2))

section
variable (hon : s.pwr.off = false)
include hon

theorem pfinish_answers {e : Int} (hd : s.doesPf k 4 f = true) (ho : pfOutOk o = true) (he : s.laneTop k = some e)
    (hden : ∀ i < (s.pf k).q.length, (s.laneSums k i).2 ≠ 0) :
    Answers (.pfinish k f o) s { sites := true, pfs := true } (fun t => s.PfSiteMade t k
      { s.site k with outbox := (s.site k).outbox ++ outWords o.toNat (s.laneOuts k e).flatten } { s.pf k with out := s.laneOuts k e }) := by
  have hmade := (s.updPf_made k (fun x => { x with out := s.laneOuts k e })).toRouter (outWords o.toNat (s.laneOuts k e).flatten)
  have houts : (List.range (s.pf k).q.length).foldl (fun (a : List (List W32) × State) i =>
      (a.1 ++ [(a.2.divide (s.laneTop k) (s.laneSums k i).1 (s.laneSums k i).2).1],
        (a.2.divide (s.laneTop k) (s.laneSums k i).1 (s.laneSums k i).2).2)) ([], s) = (s.laneOuts k e, s) :=
    foldl_concat_of_const (fun i hi acc => by rw [he, State.divide_some _ (hden i (List.mem_range.1 hi))])
  refine .of_act_eq (exec_pfinish k f o s) hon ?_ hmade.within hmade
  simp only [hd, ho, Bool.and_true, Bool.not_true, Bool.false_eq_true, if_false]
  exact congrArg (fun out : List (List W32) × State =>
    (out.2.updPf k (fun x => { x with out := out.1 })).toRouter k (outWords o.toNat out.1.flatten)) houts

section
variable {addr len : Nat} (hd : s.doesPf k 5 f = true)
include hd

theorem ringsend_answers (hok : ∀ i < len, s.okByte (addr + i) = true) (hclean : s.poisoned addr len = false) :
    Answers (.ringsend k f addr len) s { sites := true } (fun t => s.Sends t k (wordsOf (s.windowBytesOf addr len))) := by
  have hsend := s.toRouter_sends k (wordsOf (s.windowBytesOf addr len))
  have hall : (List.range len).all (fun i => s.okByte (addr + i)) = true := List.all_eq_true.2 (fun i hi => hok i (List.mem_range.1 hi))
  exact .of_act_eq (exec_ringsend k f addr len s) hon (by simp only [hd, hall, State.pfRead_clean hclean, Bool.not_true, Bool.false_eq_true, if_false])
    hsend.within hsend

theorem ringsend_addressFault {i : Nat} (hi : i < len) (hbad : s.okByte (addr + i) = false) :
    exec (.ringsend k f addr len) s = .next (s.addressFault k) := by
  have hall : (List.range len).all (fun i => s.okByte (addr + i)) = false := List.all_eq_false.2 ⟨i, List.mem_range.2 hi, by simp [hbad]⟩
  exact (exec_ringsend k f addr len s).trans (act_of_within hon (by simp [hd, hall]) (s.addressFault_within k))

end

theorem dense_answers {xs : List W32} {rows : List (List W32)} (hp : (s.site k).poisonIn = false) (hd : s.doesPf k 6 f = true)
    (hf : pfFmtOk f = true) (ho : pfOutOk o = true) (hxs : (operandVals f.opfmt.toNat xs).2 = true)
    (hrows : ∀ w ∈ rows, (operandVals f.opfmt.toNat w).2 = true) :
    Answers (.dense k f o xs rows) s { sites := true, pfs := true } (fun t => s.PfSiteMade t k
      { s.site k with outbox := (s.site k).outbox ++ outWords o.toNat (rows.map (denseRow f.opfmt.toNat xs)) }
      { s.pf k with out := [rows.map (denseRow f.opfmt.toNat xs)] }) := by
  have hmade := (s.updPf_made k (fun x => { x with out := [rows.map (denseRow f.opfmt.toNat xs)] })).toRouter
    (outWords o.toNat (rows.map (denseRow f.opfmt.toNat xs)))
  have hall : rows.all (fun w => (operandVals f.opfmt.toNat w).2) = true := List.all_eq_true.2 hrows
  exact .of_act_eq (exec_dense k f o xs rows s) hon
    (by simp only [hd, hf, ho, hxs, hall, State.pfPoison_clean hp, Bool.and_true, Bool.not_true, Bool.false_eq_true, if_false, if_true])
    hmade.within hmade

end

end Sys2Proof.Machine
end

section
/-! The statement of the attention of prefill cores settled. -/

namespace Sys2Proof.Machine

/-- Settles O47: each operation leaves the records of its core and its site as its rule makes them. That a query block begins a new attention
(log entry 45) and that the score scale stands at the address register (log entry 33) are the model's choice. -/
theorem prefillCoresAttend : Obligations.PrefillCoresAttend := by
  intro s k f hon hp
  refine ⟨fun hd hf => ⟨fun next lane count vs hvs hfin => ?_, fun a fmt ha hslice hclean => ?_, pload_addressFault hon hd hf⟩,
    fun sg hd hf hsg hfin => ?_, fun sg hd hf hsg hfin => ?_, fun hf hsg => prefill_addressFault hon hf hsg,
    fun o e sums hd ho he hsums hden => ?_, fun addr len hd => ⟨fun hok hclean => ?_, fun i hi hbad => ringsend_addressFault hon hd hi hbad⟩,
    fun o xs rows hd hf ho hxs hrows => ?_⟩
  · subst hvs
    exact (pload_query hon hp hd hf hfin).imp (fun t ht => ⟨ht.pf, ht.site, ht.others⟩)
  · subst ha
    exact ⟨fun hfin => (pload_slice (value := false) hon hd hf hslice hclean hfin).imp (fun t ht => ⟨ht.here, ht.others⟩),
      fun hfin => (pload_slice (value := true) hon hd hf hslice hclean hfin).imp (fun t ht => ⟨ht.here, ht.others⟩)⟩
  · refine (pscore_answers hon hf hd hsg hfin).imp (fun t ht => ?_)
    rw [ht.here]
    exact ⟨fun i q hq => getD_zipIdx_map hq _ _, rfl, rfl, rfl, rfl, ht.others⟩
  · refine (pexpsum_answers hon hf hd hsg hfin).imp (fun t ht => ?_)
    rw [ht.here]
    refine ⟨fun i q m e hq hm he => ?_, rfl, rfl, ht.others⟩
    simp only [List.map_map]
    rw [getD_zipIdx_map hq, getD_zipIdx_map hq]
    exact State.pairSums_some hm he
  · obtain rfl : sums = s.laneSums k := funext hsums
    refine (pfinish_answers hon hd ho he hden).imp (fun t ht => ?_)
    rw [ht.pf, ht.site]
    exact ⟨rfl, rfl, fun j hj => (ht.others j hj).symm⟩
  · exact (ringsend_answers hon hd hok hclean).imp (fun t ht => ⟨ht.here, ht.others⟩)
  · refine (dense_answers hon hp hd hf ho hxs hrows).imp (fun t ht => ?_)
    rw [ht.pf, ht.site]
    exact ⟨rfl, rfl, fun j hj => (ht.others j hj).symm⟩

end Sys2Proof.Machine
end

section
/-! SUPPORT. Sets of vales: what they list, and what is left of one after vales are taken from it. -/

namespace Sys2Proof.Machine

/-- A set lists the vales whose bit it has. -/
@[simp] theorem mem_valesOf {m : BitVec 84} {v : Nat} : v ∈ valesOf m ↔ valeBit m v = true := by
  unfold valesOf valeBit
  rw [List.mem_filter, List.mem_range]
  exact and_iff_right_of_imp BitVec.lt_of_getLsbD

/-- A vale taken from a set leaves the others. -/
theorem valeBit_clrVale (m : BitVec 84) (v w : Nat) : valeBit (clrVale m v) w = (valeBit m w && decide (w ≠ v)) := by
  unfold valeBit clrVale
  by_cases hw : w < 84
  · have hbit : (decide (w < v) || !decide (w - v = 0)) = decide (w ≠ v) := by
      rw [Bool.eq_iff_iff]; simp; omega
    simpa [hw] using congrArg (m.getLsbD w && ·) hbit
  · simp [BitVec.getLsbD_of_ge m w (Nat.le_of_not_lt hw)]

theorem valeBit_foldl_clrVale (vs : List Nat) (m : BitVec 84) (w : Nat) :
    valeBit (vs.foldl clrVale m) w = (valeBit m w && decide (w ∉ vs)) := by
  induction vs generalizing m with
  | nil => simp
  | cons v vs ih => simp [ih, valeBit_clrVale, Bool.and_assoc]

end Sys2Proof.Machine
end

section
/-! SUPPORT. The end of a statistics tick, and the calibration pause and its end (R281, R283, R284, R348). -/

namespace Sys2Proof.Machine

variable {s : State}

theorem exec_statisticsTickEnd (s : State) : exec .statisticsTickEnd s = execStatisticsTickEnd s := rfl
theorem exec_calibrationPause (s : State) : exec .calibrationPause s = execCalibrationPause s := rfl
theorem exec_calibrationPauseEnd (s : State) : exec .calibrationPauseEnd s = execCalibrationPauseEnd s := rfl

/-! ## The end of a statistics tick -/

theorem State.announcePause_within (s : State) : Within { fab := true } s s.announcePause := by
  unfold State.announcePause
  split
  · exact (Within.foldl _ (fun _ _ => State.sendFrame_within _ _) _ _).trans rfl
  · exact .refl _ _

theorem State.askPause_within (s : State) : Within { fab := true } s s.askPause := by
  unfold State.askPause
  exact .ite (.refl _ _) (.ite s.announcePause_within (State.sendFrame_within _ _))

/-- The vales whose statistics tick is over, due. -/
def State.statsOver (s : State) : State :=
  { s with sens := { s.sens with statDone := s.sens.statDone ||| s.sens.statOver, statOver := 0 } }

theorem statisticsTickEnd_answers (hon : s.pwr.off = false) (hover : s.sens.statOver ≠ 0) :
    Answers .statisticsTickEnd s { sens := true, fab := true } (fun t =>
      t.sens = s.statsOver.sens ∧ (s.nv.profileShared = false → t.fab = s.fab)) := by
  have hask : Within { fab := true } s.statsOver (if s.nv.profileShared then s.statsOver.askPause else s.statsOver) :=
    .ite s.statsOver.askPause_within (.refl _ _)
  refine .of_act_eq (exec_statisticsTickEnd s) hon (if_neg hover) (Within.trans (t := s.statsOver) rfl hask.mono)
    ⟨hask.view State.sens (fun _ _ => rfl), fun hshared => ?_⟩
  show State.fab (if s.nv.profileShared then s.statsOver.askPause else s.statsOver) = s.fab
  rw [hshared]
  rfl

/-! ## New codes -/

/-- An array whose measured offsets are in force. -/
def Arr.retrimmed (a : Arr) : Arr := { a with trims := a.trimOffs }

theorem Arr.retrimmed_idem (a : Arr) : a.retrimmed.retrimmed = a.retrimmed := rfl

/-- The footprint of new codes. -/
def loading : Foot := { nv := true, arrs := true, convs := true, sens := true }

theorem Within.updConv (s : State) (c : Nat) (f : Conv → Conv) : Within { convs := true } s (s.updConv c f) := rfl

theorem State.updClusters_within (s : State) (v : Nat) (f : Conv → Conv) : Within { convs := true } s (s.updClusters v f) :=
  .foldl _ (fun _ _ => .updConv _ _ _) _ _

/-- The reference code of a converter taken, or the cluster counted as skipped. -/
def State.takeRef (s : State) (c : Nat) : State :=
  match (s.conv c).stat with
  | some r => { s with nv := { s.nv with refCodes := s.nv.refCodes.set 0 c (BitVec.ofNat 10 r) } }
  | none => { s with sens := { s.sens with skipped := satInc s.sens.skipped } }

theorem State.takeRef_within (s : State) (c : Nat) : Within { nv := true, sens := true } s (s.takeRef c) := by
  unfold State.takeRef
  split <;> rfl

/-- The reference codes of a vale's clusters taken. -/
def State.takeRefs (s : State) (v : Nat) : State := (List.range 32).foldl (fun t i => t.takeRef (32 * v + i)) s

theorem State.takeRefs_within (s : State) (v : Nat) : Within { nv := true, sens := true } s (s.takeRefs v) :=
  .foldl _ (fun _ _ => State.takeRef_within _ _) _ _

theorem State.loadCodes_eq (s : State) (v : Nat) : s.loadCodes v = { ((s.takeRefs v).updClusters v (fun c => { c with stat := none })) with
    arrs := (s.takeRefs v).arrs.mapVals {} (fun n a => if siteVale (n / 17) = v then a.retrimmed else a) } := rfl

theorem Within.withArrs (s : State) (x : Sparse Arr) : Within loading s { s with arrs := x } := rfl

theorem State.loadCodes_within (s : State) (v : Nat) : Within loading s (s.loadCodes v) :=
  ((s.takeRefs_within v).mono.trans ((s.takeRefs v).updClusters_within v _).mono).trans (.withArrs _ _)

/-- New codes in a vale put its arrays' offsets into force, and no other's. -/
theorem State.get_arrs_loadCodes (s : State) (v n : Nat) : ((s.loadCodes v).arrs.get {} n : Arr) =
    if siteVale (n / 17) = v then (s.arrs.get {} n).retrimmed else s.arrs.get {} n := by
  have harrs : (s.takeRefs v).arrs = s.arrs := (s.takeRefs_within v).view State.arrs (fun _ _ => rfl)
  rw [State.loadCodes_eq, harrs]
  exact Sparse.get_mapVals (fun m (a : Arr) => if siteVale (m / 17) = v then a.retrimmed else a) (fun _ => ite_self ({} : Arr)) _ _

theorem State.get_arrs_foldl_loadCodes (vs : List Nat) (s : State) (n : Nat) : ((vs.foldl State.loadCodes s).arrs.get {} n : Arr) =
    if siteVale (n / 17) ∈ vs then (s.arrs.get {} n).retrimmed else s.arrs.get {} n := by
  induction vs generalizing s with
  | nil => rfl
  | cons v vs ih =>
    rw [List.foldl_cons, ih, State.get_arrs_loadCodes]
    by_cases hv : siteVale (n / 17) = v <;> simp [hv, Arr.retrimmed_idem]

/-! ## The pause -/

theorem calibrationPause_answers (hon : s.pwr.off = false) (hhere : s.pauseHere = true) :
    Answers .calibrationPause s { nv := true, arrs := true, eng := true, convs := true, sens := true, fab := true } (fun t =>
      t.eng = { s.eng with state := 3, resume := s.eng.state, calPauseDue := false, pauseEnd := s.time + 34000 } ∧
      t.sens.pausing = s.calDue ∧ t.sens.calPauseTick = some s.tick ∧
      t.fab = { s.fab with pauseAt := none, pitch := if s.held then s.fab.pitch else s.fab.pitch + 34000 } ∧
      ∀ n, (t.arrs.get {} n : Arr) = if valeBit s.calDue (siteVale (n / 17)) then (s.arrs.get {} n).retrimmed else s.arrs.get {} n) := by
  have hload : Within loading s ((valesOf s.calDue).foldl State.loadCodes s) := .foldl _ State.loadCodes_within _ _
  refine .of_act_eq (exec_calibrationPause s) hon (if_pos hhere) (hload.mono.trans rfl) ⟨?_, rfl, rfl, ?_, fun n => ?_⟩
  · exact congrArg (fun e : Eng => { e with state := 3, resume := s.eng.state, calPauseDue := false, pauseEnd := s.time + 34000 })
      (hload.view State.eng (fun _ _ => rfl))
  · exact congrArg (fun f : Fab => { f with pauseAt := none, pitch := if s.held then f.pitch else f.pitch + 34000 })
      (hload.view State.fab (fun _ _ => rfl))
  · simpa only [mem_valesOf] using State.get_arrs_foldl_loadCodes (valesOf s.calDue) s n

/-! ## Its end -/

/-- The footprint of vales calibrated where no VALE_POWER waits. -/
def calibrating : Foot := { pwr := true, sens := true }

/-- `t` is `s` with the vales of a list calibrated: their due bits are clear, and nothing else of the supply is changed. -/
structure State.Calibrates (s t : State) (vs : List Nat) : Prop where
  within : Within calibrating s t
  pwr : t.pwr = { s.pwr with uncal := vs.foldl clrVale s.pwr.uncal }
  due : t.sens.due = vs.foldl clrVale s.sens.due

theorem State.calibrated_calibrates (hwait : s.pwr.onDue = []) (v : Nat) : s.Calibrates (s.calibrated v) [v] := by
  unfold State.calibrated
  rw [hwait]
  exact ⟨rfl, rfl, rfl⟩

theorem State.foldl_calibrated_calibrates (vs : List Nat) (hwait : s.pwr.onDue = []) : s.Calibrates (vs.foldl State.calibrated s) vs := by
  induction vs generalizing s with
  | nil => exact ⟨.refl _ _, rfl, rfl⟩
  | cons v vs ih =>
    have hv := State.calibrated_calibrates hwait v
    have hvs := ih (s := s.calibrated v) (by rw [hv.pwr]; exact hwait)
    exact ⟨hv.within.trans hvs.within, by rw [List.foldl_cons, hvs.pwr, hv.pwr]; rfl, by rw [List.foldl_cons, hvs.due, hv.due]; rfl⟩

theorem State.stagesBelow_congr {t : State} (h : t.boot = s.boot) (c : Nat) : t.stagesBelow c = s.stagesBelow c := by
  unfold State.stagesBelow State.stageDone
  rw [h]

/-- A stage finished, or done before, is done. -/
theorem State.stageDone_when_finish (s : State) (b : Bool) {c : Nat} (hc : c < 10) (hb : b = true ∨ s.stageDone c = true) :
    (s.when b (·.finish c)).stageDone c = true := by
  unfold State.when
  split
  · simp [State.finish, State.stageDone, hc]
  · next h => exact hb.resolve_left h

theorem State.when_finish_within (s : State) (b : Bool) (c : Nat) : Within { boot := true } s (s.when b (·.finish c)) :=
  .ite rfl (.refl _ _)

/-- The vales a pause served calibrated, at the time of its end. -/
def State.pauseServed (s : State) : State :=
  (valesOf s.sens.pausing).foldl State.calibrated { s with time := maxTime s.time s.eng.pauseEnd }

/-- The pause over: the vales it served calibrated, and issue where it stopped. -/
def State.pauseOver (s : State) : State :=
  { s.pauseServed with
    sens := { s.pauseServed.sens with pausing := 0 }
    eng := { s.pauseServed.eng with state := s.pauseServed.eng.resume, resume := 0 } }

/-- What the end of a pause leaves where no VALE_POWER waits for it. -/
structure State.PauseEnds (s t : State) : Prop where
  within : Within { time := true, pwr := true, eng := true, sens := true } s t
  eng : t.eng = { s.eng with state := s.eng.resume, resume := 0 }
  pausing : t.sens.pausing = 0
  due : ∀ v, valeBit s.sens.pausing v = true → valeBit t.sens.due v = false
  uncal : ∀ v, valeBit s.sens.pausing v = true → valeBit t.pwr.uncal v = false

theorem State.pauseOver_ends (hwait : s.pwr.onDue = []) : s.PauseEnds s.pauseOver := by
  have hcal : State.Calibrates { s with time := maxTime s.time s.eng.pauseEnd } s.pauseServed (valesOf s.sens.pausing) :=
    State.foldl_calibrated_calibrates _ hwait
  have hclear (m : BitVec 84) (v : Nat) (hv : valeBit s.sens.pausing v = true) :
      valeBit ((valesOf s.sens.pausing).foldl clrVale m) v = false := by
    rw [valeBit_foldl_clrVale, decide_eq_false (not_not_intro (mem_valesOf.2 hv)), Bool.and_false]
  refine ⟨?_, congrArg (fun e : Eng => { e with state := e.resume, resume := 0 }) (hcal.within.view State.eng (fun _ _ => rfl)), rfl,
    fun v hv => ?_, fun v hv => ?_⟩
  · exact (Within.trans (t := { s with time := maxTime s.time s.eng.pauseEnd }) (by rfl) hcal.within.mono).trans (u := s.pauseOver) (by rfl)
  · show valeBit s.pauseServed.sens.due v = false
    rw [hcal.due]
    exact hclear _ v hv
  · show valeBit s.pauseServed.pwr.uncal v = false
    rw [hcal.pwr]
    exact hclear _ v hv

/-- The pause over, and start-up's stage CALIBRATION complete where it was the next. -/
def State.pauseFinished (s : State) : State :=
  s.pauseOver.when (s.pauseOver.stagesBelow 7 && !s.pauseOver.stageDone 7) (·.finish 7)

theorem State.pauseFinished_stageDone (h : s.pauseOver.stagesBelow 7 = true) : s.pauseFinished.stageDone 7 = true := by
  refine State.stageDone_when_finish _ _ (by decide) ?_
  rw [h]
  cases s.pauseOver.stageDone 7 <;> simp

theorem calibrationPauseEnd_answers (hon : s.pwr.off = false) (hpause : s.eng.state = 3) (habort : s.eng.abortDue = none)
    (hwait : s.pwr.onDue = []) :
    Answers .calibrationPauseEnd s { time := true, pwr := true, boot := true, eng := true, sens := true } (fun t =>
      t.time = maxTime s.time s.eng.pauseEnd ∧ t.eng = { s.eng with state := s.eng.resume, resume := 0 } ∧ t.sens.pausing = 0 ∧
      (∀ v, valeBit s.sens.pausing v = true → valeBit t.sens.due v = false ∧ valeBit t.pwr.uncal v = false) ∧
      (s.stagesBelow 7 = true → t.stageDone 7 = true)) := by
  have hends := s.pauseOver_ends hwait
  have hfin : Within { boot := true } s.pauseOver s.pauseFinished := s.pauseOver.when_finish_within _ 7
  have heng := (hfin.view State.eng (fun _ _ => rfl)).trans hends.eng
  have hsens : s.pauseFinished.sens = s.pauseOver.sens := hfin.view State.sens (fun _ _ => rfl)
  have hpwr : s.pauseFinished.pwr = s.pauseOver.pwr := hfin.view State.pwr (fun _ _ => rfl)
  refine .of_actAt_eq (t := s.pauseFinished) (exec_calibrationPauseEnd s) hon ?_ (hends.within.mono.trans hfin.mono)
    ⟨if_pos hpause, heng, (congrArg Sens.pausing hsens).trans hends.pausing, fun v hv => ⟨?_, ?_⟩, fun hbelow => ?_⟩
  · rw [if_pos hpause]
    extract_lets s1 s2 s3
    split
    · next h => exact nomatch habort.symm.trans ((congrArg Eng.abortDue heng).symm.trans h)
    · rfl
  · show valeBit s.pauseFinished.sens.due v = false
    rw [hsens]
    exact hends.due v hv
  · show valeBit s.pauseFinished.pwr.uncal v = false
    rw [hpwr]
    exact hends.uncal v hv
  · have hboot := hends.within.view State.boot (fun _ _ => rfl)
    exact State.pauseFinished_stageDone ((State.stagesBelow_congr hboot 7).trans hbelow)

end Sys2Proof.Machine
end

section
/-! SUPPORT. Margin scans and ages (R278, R280, R287, R289). -/

namespace Sys2Proof.Machine

variable {s t u : State} {k p : Nat}

theorem exec_marginScan (k p rg weak : Nat) (s : State) : exec (.marginScan k p rg weak) s = execMarginScan k p rg weak s := rfl
theorem exec_arrayAgeDue (k p : Nat) (s : State) : exec (.arrayAgeDue k p) s = execArrayAgeDue k p s := rfl

/-- The footprint of a scan's last row group. -/
def scanningEnds : Foot := { nv := true, arrs := true, sens := true, flt := true }

/-- `t` is `s` with the record of one array made `a`, and what a scan's end counts and logs. -/
structure State.ArrMade (s t : State) (k p : Nat) (a : Arr) : Prop where
  within : Within scanningEnds s t
  here : t.arr k p = a
  others : ∀ n, n ≠ arrKey k p → t.arrs.get {} n = s.arrs.get {} n

theorem State.get_arrs_updArr_ne (s : State) {k p n : Nat} (f : Arr → Arr) (h : n ≠ arrKey k p) :
    (s.updArr k p f).arrs.get {} n = s.arrs.get {} n :=
  (Sparse.get_upd _ _ _ _).trans (if_neg h)

theorem State.updArr_made (s : State) (k p : Nat) (f : Arr → Arr) : s.ArrMade (s.updArr k p f) k p (f (s.arr k p)) :=
  ⟨.updArr _ _ _ _, State.arr_updArr _ _ _ _, fun _ hn => State.get_arrs_updArr_ne _ _ hn⟩

theorem State.ArrMade.trans {a b : Arr} (h : s.ArrMade t k p a) (h' : t.ArrMade u k p b) : s.ArrMade u k p b :=
  ⟨h.within.trans h'.within, h'.here, fun n hn => (h'.others n hn).trans (h.others n hn)⟩

/-- What changes no array leaves what was made. -/
theorem State.ArrMade.keep {a : Arr} (h : s.ArrMade t k p a) (hw : Within scanningEnds t u) (harrs : u.arrs = t.arrs) :
    s.ArrMade u k p a :=
  have hget (n : Nat) : (u.arrs.get {} n : Arr) = t.arrs.get {} n := by rw [harrs]
  ⟨h.within.trans hw, (hget _).trans h.here, fun n hn => (hget n).trans (h.others n hn)⟩

/-- An array's record with its due and its worn bit replaced. -/
def Arr.withDue (a : Arr) (due worn : Bool) : Arr := { a with due := due, worn := worn }

/-- An array marked due is due, worn or not, and as it was in everything else (R289). -/
theorem State.markDue_made (s : State) (k p : Nat) : ∃ x, s.ArrMade (s.markDue k p) k p ((s.arr k p).withDue true x) := by
  unfold State.markDue
  extract_lets worn s1
  refine ⟨(s.arr k p).worn || worn, ?_⟩
  have hmade : s.ArrMade s1 k p ((s.arr k p).withDue true ((s.arr k p).worn || worn)) := s.updArr_made k p _
  split
  · exact hmade.keep rfl rfl
  · exact hmade

/-- An array's record at the end of a scan that found `w` weak cells (R278). -/
def Arr.scanned (a : Arr) (w : Nat) : Arr :=
  { a with scanRg := 0, scanWeak := 0, weak := BitVec.ofNat 16 (min w 65535), scans := a.scans + 1 }

/-- Whether `w` weak cells make an array due (R280): more than its baseline by over the limit, in a tile that holds something. -/
def State.overLimit (s : State) (k p w : Nat) : Bool :=
  decide ((s.arr k p).baseline.toNat + s.sens.weakLimit.toNat < w) && !(s.holdsNothing k)

/-- The weak count of an array taken, and the array marked due where it newly is. -/
def State.countWeak (s : State) (k p w : Nat) : State :=
  let s1 := s.updArr k p (Arr.scanned · w)
  if (s.arr k p).baseline.toNat + s.sens.weakLimit.toNat < w ∧ !(s.holdsNothing k) ∧ !(s.arr k p).due then s1.markDue k p else s1

theorem State.countWeak_made (s : State) (k p w : Nat) :
    ∃ x, s.ArrMade (s.countWeak k p w) k p (((s.arr k p).scanned w).withDue ((s.arr k p).due || s.overLimit k p w) x) := by
  have hscan := s.updArr_made k p (Arr.scanned · w)
  unfold State.countWeak
  extract_lets s1
  split
  · next h =>
    have hdue : ((s.arr k p).due || s.overLimit k p w) = true := by simp [State.overLimit, h]
    obtain ⟨x, hmark⟩ := s1.markDue_made k p
    rw [hscan.here] at hmark
    rw [hdue]
    exact ⟨x, hscan.trans hmark⟩
  · next h =>
    have hdue : ((s.arr k p).due || s.overLimit k p w) = (s.arr k p).due := by
      cases hd : (s.arr k p).due
      · simpa [State.overLimit, hd] using h
      · rfl
    rw [hdue]
    exact ⟨(s.arr k p).worn, hscan⟩

/-- A pass ended where every array it covers is scanned (R279). -/
def State.endPass (s : State) : State :=
  if s.passArrays.all (fun e => decide (s.sens.passes.toNat < (s.arr e.1 e.2).scans)) then
    { s with sens := { s.sens with
      passes := s.sens.passes + 1, passTicks := BitVec.ofNat 32 (s.tick - s.sens.passStart), passStart := s.tick } }
  else s

theorem State.endPass_within (s : State) : Within { sens := true } s s.endPass := .ite rfl (.refl _ _)

section
variable (hon : s.pwr.off = false)
include hon

/-- A row group before the last is counted (R278). -/
theorem marginScan_rowGroup {rg weak : Nat} (hscan : s.mayScan k p = true) (hrg : rg = (s.arr k p).scanRg) (hlast : rg < 15) :
    Answers (.marginScan k p rg weak) s { arrs := true } (fun t =>
      t.arr k p = { s.arr k p with scanRg := rg + 1, scanWeak := (s.arr k p).scanWeak + weak } ∧
      ∀ n, n ≠ arrKey k p → t.arrs.get {} n = s.arrs.get {} n) :=
  .of_act_eq (t := s.updArr k p (fun a => { a with scanRg := rg + 1, scanWeak := a.scanWeak + weak })) (exec_marginScan k p rg weak s) hon
    (by simp [hscan, ← hrg, hlast]) (.updArr _ _ _ _) ⟨State.arr_updArr _ _ _ _, fun _ hn => State.get_arrs_updArr_ne _ _ hn⟩

/-- The last row group ends the scan: its count is the array's, which it may make due (R278, R280). -/
theorem marginScan_last {rg weak : Nat} (hscan : s.mayScan k p = true) (hrg : rg = (s.arr k p).scanRg) (hlast : 15 ≤ rg) :
    Answers (.marginScan k p rg weak) s scanningEnds (fun t => ∃ x, s.ArrMade t k p
      (((s.arr k p).scanned ((s.arr k p).scanWeak + weak)).withDue
        ((s.arr k p).due || s.overLimit k p ((s.arr k p).scanWeak + weak)) x)) := by
  obtain ⟨x, hweak⟩ := s.countWeak_made k p ((s.arr k p).scanWeak + weak)
  have hpass := (s.countWeak k p ((s.arr k p).scanWeak + weak)).endPass_within
  have hmade := hweak.keep hpass.mono (hpass.view State.arrs (fun _ _ => rfl))
  exact .of_act_eq (exec_marginScan k p rg weak s) hon ((if_pos (by simp [hscan, ← hrg])).trans (if_neg (Nat.not_lt.2 hlast)))
    hmade.within ⟨x, hmade⟩

theorem arrayAgeDue_answers (hp : p < 17) (hage : s.sens.maxAge.toNat ≤ s.ageOf k p) (hholds : s.holdsNothing k = false) :
    Answers (.arrayAgeDue k p) s { arrs := true } (fun t =>
      t.arr k p = { s.arr k p with due := true } ∧ ∀ n, n ≠ arrKey k p → t.arrs.get {} n = s.arrs.get {} n) :=
  .of_act_eq (t := s.updArr k p (fun a => { a with due := true })) (exec_arrayAgeDue k p s) hon (by simp [hp, hage, hholds])
    (.updArr _ _ _ _) ⟨State.arr_updArr _ _ _ _, fun _ hn => State.get_arrs_updArr_ne _ _ hn⟩

end

end Sys2Proof.Machine
end

section
/-! The statement of calibration pauses and margin scans settled. -/

namespace Sys2Proof.Machine

/-- Settles O16: the vales a pause serves take their offsets one by one and are calibrated one by one; a scan changes one array. -/
theorem calibrationAndScans : Obligations.CalibrationAndScans := by
  refine ⟨fun s hon => ⟨statisticsTickEnd_answers hon, fun hhere => ?_, fun hpause habort hwait => ?_⟩, fun s hon =>
    ⟨fun site p rg weak hscan hrg hlast => marginScan_rowGroup hon hscan hrg hlast, fun site p rg weak hscan hrg hlast => ?_,
      fun site p hp hage hholds => arrayAgeDue_answers hon hp hage hholds⟩⟩
  · refine (calibrationPause_answers hon hhere).imp (fun t ⟨heng, hpausing, htick, hfab, harrs⟩ =>
      ⟨heng, hpausing, htick, hfab, fun n hn => ?_, fun n _ hn => ?_⟩)
    · rw [harrs, hn]; rfl
    · rw [harrs, hn]; rfl
  · exact (calibrationPauseEnd_answers hon hpause habort hwait).imp (fun t ⟨htime, heng, hpausing, hcal, hstage⟩ =>
      ⟨htime, heng, hpausing, fun v _ => hcal v, hstage⟩)
  · refine (marginScan_last hon hscan hrg hlast).imp (fun t ⟨x, hmade⟩ => ?_)
    rw [hmade.here]
    exact ⟨rfl, rfl, rfl, hmade.others⟩

end Sys2Proof.Machine
end

section
/-! SUPPORT. The defect map written, and the fault commands on a site that holds nothing (R303, R308, R309, R311). -/

namespace Sys2Proof.Machine

variable {s : State} {b : CmdBlock} {k n : Nat} {codes : List (Nat × BitVec 4)}

theorem exec_fltRemap (b : CmdBlock) (s : State) : exec (.fltRemap b) s = execFltRemap b s := rfl
theorem exec_fltMapout (b : CmdBlock) (s : State) : exec (.fltMapout b) s = execFltMapout b s := rfl

/-! ## The map written (R309, R311) -/

/-- Writing the map changes the map and its version, the votes of reserves, and which variants are STALE. -/
theorem State.writeMap_within (s : State) (codes : List (Nat × BitVec 4)) :
    Within { nv := true, sites := true, vars := true } s (s.writeMap codes) := rfl

theorem State.writeMap_defectVersion (s : State) (codes : List (Nat × BitVec 4)) :
    (s.writeMap codes).nv.defectVersion = s.nv.defectVersion + 1 := rfl

/-- A site written with one code reads it, whatever reserves are mapped out beside it (R313). -/
theorem State.siteCode_writeMap (s : State) {c : BitVec 4} (hmem : (k, c) ∈ codes) (hone : ∀ e ∈ codes, e.1 = k → e.2 = c) :
    (s.writeMap codes).siteCode k = c := by
  have hlast : ∀ m : Sparse (Option (BitVec 4)), (codes.foldl (fun m e => m.set none e.1 (some e.2)) m).get none k = some c := fun m => by
    have hfold := Sparse.get_foldSet (d := none) Prod.fst Prod.snd (some c) k (codes.map (Prod.map id some)) m
      (List.forall_mem_map.2 (fun e he hk => congrArg some (hone e he hk)))
    rw [List.foldl_map] at hfold
    exact hfold.trans (if_pos ⟨_, List.mem_map_of_mem hmem, rfl⟩)
  unfold State.siteCode State.writeMap State.makeStale
  dsimp only
  rw [List.foldl_append, hlast, Option.getD_some]

/-! ## A site marked by a fault command (R308, R309) -/

/-- What is lost with a core is marked in the entries of its sequences alone (R303). -/
theorem State.loseCore_within (s : State) (k : Nat) : Within { seqs := true } s (s.loseCore k) :=
  .foldl _ (fun _ _ => .updSeq _ _ _) _ _

/-- A fault command accepted and its map written; where the site is a KV core, the entries that lose KV state with it are marked. -/
def State.marked (s : State) (b : CmdBlock) (code : Byte) (k : Nat) (codes : List (Nat × BitVec 4)) : State :=
  let t := (s.opened b code).writeMap codes
  if siteType k = 2 then t.loseCore k else t

/-- What a fault command that moves nothing changes. -/
def marking : Foot := { nv := true, sites := true, vars := true, seqs := true, fab := true, chans := true, hif := true }

theorem State.marked_after_writeMap (s : State) (b : CmdBlock) (code : Byte) (k : Nat) (codes : List (Nat × BitVec 4)) :
    Within { seqs := true } ((s.opened b code).writeMap codes) (s.marked b code k codes) :=
  .ite (State.loseCore_within _ k) (.refl _ _)

theorem State.marked_within (s : State) (b : CmdBlock) (code : Byte) (k : Nat) (codes : List (Nat × BitVec 4)) :
    Within marking s (s.marked b code k codes) :=
  (s.opened_within b code).mono.trans ((State.writeMap_within _ codes).mono.trans (s.marked_after_writeMap b code k codes).mono)

/-- `t` has the defect map of `s` raised by one version, and each site written with one code reads it. -/
structure State.WritesMap (s t : State) (codes : List (Nat × BitVec 4)) : Prop where
  version : t.nv.defectVersion = s.nv.defectVersion + 1
  code : ∀ k c, (k, c) ∈ codes → (∀ e ∈ codes, e.1 = k → e.2 = c) → t.siteCode k = c

/-- The command's completion leaves the map as it was written. -/
theorem State.marked_complete_writesMap (s : State) (b : CmdBlock) (code : Byte) (k : Nat) (codes : List (Nat × BitVec 4)) :
    s.WritesMap ((s.marked b code k codes).complete b.channel code b.cseq 0 0) codes := by
  have hnv : ((s.marked b code k codes).complete b.channel code b.cseq 0 0).nv = ((s.opened b code).writeMap codes).nv :=
    ((State.complete_within _ _ _ _ _ _).view State.nv (fun _ _ => rfl)).trans
      ((s.marked_after_writeMap b code k codes).view State.nv (fun _ _ => rfl))
  have hopen : (s.opened b code).nv = s.nv := (s.opened_within b code).view State.nv (fun _ _ => rfl)
  refine ⟨?_, fun j c hmem hone => ?_⟩
  · rw [hnv, State.writeMap_defectVersion, hopen]
  · unfold State.siteCode
    rw [hnv]
    exact State.siteCode_writeMap _ hmem hone

/-- An accepted fault command that only marks a site before it completes answers with the map written. -/
theorem Answers.of_marked {M : Foot} {i : CmdInfo} {c : Instr} {f : State → State}
    (hc : exec c s = act M (fun s => s.accept i false false b f) s) (hon : s.pwr.off = false) (hacc : s.accepts i false false b)
    (hch : b.channel ∈ [0, 1, 18])
    (hf : ∀ u, s.Arrives u → f u = (u.marked b i.code k codes).complete b.channel i.code b.cseq 0 0)
    (hM : ∀ a b, State.only M a (State.only marking a b) = State.only marking a b := by intros; rfl) :
    Answers c s marking (s.WritesMap · codes) := by
  refine .of_accepted hc hon hacc hch (fun u hu => ?_) (hM := hM)
  rw [hf u hu]
  obtain ⟨hversion, hcode⟩ := u.marked_complete_writesMap b i.code k codes
  have hnv : u.nv.defectVersion = s.nv.defectVersion := hu.view (fun v => v.nv.defectVersion) (fun _ _ => rfl)
  exact ⟨(u.marked_within b i.code k codes).trans (State.complete_within _ _ _ _ _ _).mono, hnv ▸ hversion, hcode⟩

/-! ## FLT_REMAP and FLT_MAPOUT -/

/-- What the fault commands check is as it was before the command arrived. -/
theorem State.Arrives.faultChecks {u : State} (h : s.Arrives u) :
    u.held = s.held ∧ u.faultBusy = s.faultBusy ∧ u.deadSite = s.deadSite ∧ u.wornSite = s.wornSite ∧ u.siteCode = s.siteCode ∧
    u.replaces = s.replaces ∧ u.pwr = s.pwr ∧ u.gensAt = s.gensAt := by
  obtain ⟨_, _, rfl⟩ := h
  exact ⟨rfl, rfl, rfl, rfl, rfl, rfl, rfl, rfl⟩

/-- Nothing is moved from a site where no generation holds anything (R309). -/
theorem State.remapMove_of_gensAt_nil (h : s.gensAt k = []) : s.remapMove b k n = s.complete b.channel 0x38 b.cseq 0 0 :=
  if_pos (.inl (by rw [h]; rfl))

/-- A replacement is another site than the one it replaces. -/
theorem State.ne_of_replaces (h : s.replaces k n = true) : n ≠ k :=
  of_decide_eq_true (Bool.and_eq_true_iff.1 h).2

/-- The codes that a remap writes: the site FAILED, and the RESERVE tile that replaces a weight tile GOOD (R309). -/
def remapCodes (k n : Nat) : List (Nat × BitVec 4) := if siteType k = 1 then [(k, 3), (n, 0)] else [(k, 3)]

/-- FLT_REMAP of a site that holds nothing. -/
theorem fltRemap_answers (hon : s.pwr.off = false) (hheld : s.held = true) (hbusy : s.faultBusy = false)
    (hacc : s.accepts ⟨0x38, false, [0, 1]⟩ false false b) (hk : siteArg b 0 = some k) (hn : siteArg b 2 = some n)
    (hbad : (s.deadSite k || s.wornSite k) = true) (hrep : s.replaces k n = true) (hlit : valeBit s.pwr.dark (siteVale n) = false)
    (hgens : s.gensAt k = []) : Answers (.fltRemap b) s marking (s.WritesMap · (remapCodes k n)) := by
  refine .of_marked (k := k) (exec_fltRemap b s) hon hacc (mem_operator_of_pf (State.accepts_channel hacc)) (fun u hu => ?_)
  obtain ⟨held, busy, dead, worn, -, rep, pwr, gens⟩ := hu.faultChecks
  have hmarked : (u.marked b 0x38 k (remapCodes k n)).gensAt k = [] :=
    ((u.marked_within b 0x38 k _).view (State.gensAt · k) (fun _ _ => rfl)).trans ((congrFun gens k).trans hgens)
  simp only [hk, hn, held, hheld, dead, worn, hbad, rep, hrep, pwr, hlit, busy, hbusy, Bool.not_true, Bool.false_eq_true, if_false]
  exact State.remapMove_of_gensAt_nil hmarked

/-- FLT_MAPOUT of a dead or RESERVE site that holds nothing. -/
theorem fltMapout_answers (hon : s.pwr.off = false) (hheld : s.held = true) (hbusy : s.faultBusy = false)
    (hacc : s.accepts ⟨0x39, false, [0, 1]⟩ false false b) (hk : siteArg b 0 = some k) (hbad : s.deadSite k = true ∨ s.siteCode k = 1)
    (hgens : s.gensAt k = []) : Answers (.fltMapout b) s marking (s.WritesMap · [(k, 3)]) := by
  refine .of_marked (k := k) (exec_fltMapout b s) hon hacc (mem_operator_of_pf (State.accepts_channel hacc)) (fun u hu => ?_)
  obtain ⟨held, busy, dead, -, code, -, -, gens⟩ := hu.faultChecks
  have hbad' : (s.deadSite k || s.siteCode k == 1) = true := by simpa using hbad
  simp only [hk, held, hheld, dead, code, hbad', busy, hbusy, gens, hgens, List.isEmpty_nil, Bool.not_true, Bool.false_eq_true, if_false]
  rfl

end Sys2Proof.Machine
end

section
/-! The statement of the fault commands settled. -/

namespace Sys2Proof.Machine

/-- Settles O27: with nothing to move, a fault command writes the map and completes; the replacement, another site than the dead one, takes
its own code. -/
theorem faultCommandsWriteTheDefectMap : Obligations.FaultCommandsWriteTheDefectMap := by
  intro s b hon hheld hbusy
  refine ⟨fun k n hacc hk hn hbad hrep hlit hgens => ?_, fun k hacc hk hbad hgens => ?_⟩
  · have hne := State.ne_of_replaces hrep
    obtain ⟨t, he, hw, hversion, hcode⟩ := fltRemap_answers hon hheld hbusy hacc hk hn hbad hrep hlit hgens
    refine ⟨t, he, hw.mono, hcode k 3 ?_ ?_, fun htile => hcode n 0 ?_ ?_, hversion⟩
    · unfold remapCodes; split <;> simp
    · unfold remapCodes; split <;> simp [hne]
    · simp [remapCodes, htile]
    · simp [remapCodes, htile, hne.symm]
  · obtain ⟨t, he, hw, hversion, hcode⟩ := fltMapout_answers hon hheld hbusy hacc hk hbad hgens
    exact ⟨t, he, hw.mono, hcode k 3 (by simp) (by simp), hversion⟩

end Sys2Proof.Machine
end

section
/-! SUPPORT. The link layer: acknowledgements, retransmission, credits, and window frames (R324, R336, R341). -/

namespace Sys2Proof.Machine

variable {s t : State} {n : Nat}

theorem exec_linkAck (n : Nat) (lseq : W32) (s : State) : exec (.linkAck n lseq) s = execLinkAck n lseq s := rfl
theorem exec_retransmissionRequest (n : Nat) (lseq : W32) (s : State) :
    exec (.retransmissionRequest n lseq) s = execRetransmissionRequest n lseq s := rfl
theorem exec_retransmitTimeout (n : Nat) (s : State) : exec (.retransmitTimeout n) s = execRetransmitTimeout n s := rfl
theorem exec_linkCredit (n cls credits : Nat) (s : State) : exec (.linkCredit n cls credits) s = execLinkCredit n cls credits s := rfl
theorem exec_windowFrame (n : Nat) (f : Frame) (s : State) : exec (.windowFrame n f) s = execWindowFrame n f s := rfl

/-! ## One port changed -/

/-- `t` is `s` with one port made `p`, and with the window data that had been received. -/
structure State.SetsPort (s t : State) (n : Nat) (p : Port) : Prop where
  here : t.port n = p
  others : ∀ m, m ≠ n → t.port m = s.port m
  winGot : t.fab.winGot = s.fab.winGot

theorem State.updPort_setsPort (s : State) (n : Nat) (g : Port → Port) : s.SetsPort (s.updPort n g) n (g (s.port n)) :=
  ⟨State.port_updPort _ _ _, fun _ hm => State.port_updPort_ne _ _ hm, rfl⟩

/-- A command whose effect is on one port answers that port changed. -/
theorem Answers.of_updPort {c : Instr} {f : State → State} {g : Port → Port} (hc : exec c s = act { fab := true } f s)
    (hon : s.pwr.off = false) (hf : f s = s.updPort n g) : Answers c s { fab := true } (s.SetsPort · n (g (s.port n))) :=
  .of_act_eq hc hon hf (.updPort _ _ _) (s.updPort_setsPort n g)

/-! ## Acknowledgement and retransmission (R324) -/

/-- A frame is kept past a cumulative acknowledgement exactly where its number is at most half a circle ahead of it. -/
theorem lseq_after_iff (a b : W32) : (a - b - 1).toNat < 2 ^ 31 ↔
    b.toNat < a.toNat ∧ a.toNat - b.toNat ≤ 2 ^ 31 ∨ a.toNat < b.toNat ∧ a.toNat + 2 ^ 31 ≤ b.toNat := by
  bv_omega

theorem linkAck_answers (hon : s.pwr.off = false) (hn : n < 24) (lseq : W32) :
    Answers (.linkAck n lseq) s { fab := true } (s.SetsPort · n { s.port n with
      replay := (s.port n).replay.filter (fun f => decide ((f.lseq - lseq - 1).toNat < 2 ^ 31)) }) :=
  .of_updPort (exec_linkAck n lseq s) hon (if_pos (decide_eq_true hn))

/-- The frames of a replay buffer from a link sequence number on. -/
def Port.since (p : Port) (lseq : W32) : List Frame := p.replay.filter (fun f => decide ((f.lseq - lseq).toNat < 2 ^ 31))

theorem retransmissionRequest_answers (hon : s.pwr.off = false) (hn : n < 24) (hup : (s.port n).state = 3) (lseq : W32) :
    Answers (.retransmissionRequest n lseq) s { fab := true } (s.SetsPort · n { s.port n with
      out := (s.port n).out ++ (s.port n).since lseq
      retrans := satAdd (s.port n).retrans ((s.port n).since lseq).length }) :=
  .of_updPort (exec_retransmissionRequest n lseq s) hon (if_pos (decide_eq_true ⟨hn, hup⟩))

/-- A port that sends its oldest unacknowledged frame again. -/
def Port.resent (p : Port) : Port := match p.replay with
  | [] => p
  | f :: _ => { p with out := p.out ++ [f], retrans := satInc p.retrans }

theorem retransmitTimeout_answers (hon : s.pwr.off = false) (hn : n < 24) (hup : (s.port n).state = 3) :
    Answers (.retransmitTimeout n) s { fab := true } (s.SetsPort · n (s.port n).resent) :=
  .of_updPort (exec_retransmitTimeout n s) hon (if_pos (decide_eq_true ⟨hn, hup⟩))

theorem Port.resent_cons {p : Port} {f : Frame} {rest : List Frame} (h : p.replay = f :: rest) :
    p.resent = { p with out := p.out ++ [f], retrans := satInc p.retrans } := by
  unfold Port.resent
  rw [h]

/-! ## Credits (R336) -/

/-- `q` is `p` after `k` frames of class `c` left it and the frames `ws` were left waiting. -/
structure Port.Sends (p q : Port) (c k : Nat) (ws : List Frame) : Prop where
  waiting : q.wait = p.wait ++ ws
  credit : q.credits.getD c 0 + k = p.credits.getD c 0
  classes : q.credits.length = p.credits.length
  sent : q.out.length = p.out.length + k
  kept : q.replay.length = p.replay.length + k
  numbered : q.nextLseq = p.nextLseq + BitVec.ofNat 32 k

theorem Port.Sends.refl (p : Port) (c : Nat) : p.Sends p c 0 [] :=
  ⟨(List.append_nil _).symm, rfl, rfl, rfl, rfl, (BitVec.add_zero _).symm⟩

theorem Port.Sends.trans {p q r : Port} {c i j : Nat} {ws xs : List Frame} (h : p.Sends q c i ws) (h' : q.Sends r c j xs) :
    p.Sends r c (i + j) (ws ++ xs) where
  waiting := by rw [h'.waiting, h.waiting, List.append_assoc]
  credit := by have := h.credit; have := h'.credit; omega
  classes := h'.classes.trans h.classes
  sent := by rw [h'.sent, h.sent, Nat.add_assoc]
  kept := by rw [h'.kept, h.kept, Nat.add_assoc]
  numbered := by rw [h'.numbered, h.numbered, BitVec.add_assoc, BitVec.ofNat_add]

variable {p : Port} {f : Frame} {c : Nat}

/-- Without a credit of its class a frame waits. -/
theorem Port.push_waits (hf : f.cls.toNat = c) (hc : c ≠ 0) (h0 : p.credits.getD c 0 = 0) : p.Sends (p.push f) c 0 [f] := by
  subst hf
  unfold Port.push
  dsimp only
  rw [if_neg hc, if_pos h0]
  exact ⟨rfl, rfl, rfl, rfl, rfl, (BitVec.add_zero _).symm⟩

/-- With one it is sent, and kept until it is acknowledged. -/
theorem Port.push_sends (hf : f.cls.toNat = c) (hc : c ≠ 0) (hlen : c < p.credits.length) (h0 : p.credits.getD c 0 ≠ 0) :
    p.Sends (p.push f) c 1 [] := by
  subst hf
  unfold Port.push
  dsimp only
  rw [if_neg hc, if_neg h0]
  refine ⟨(List.append_nil _).symm, ?_, List.length_set, List.length_append, List.length_append, rfl⟩
  show (p.credits.set _ _).getD _ 0 + 1 = _
  rw [List.getD_eq_getElem?_getD, List.getElem?_set_self hlen]
  exact Nat.succ_pred_eq_of_ne_zero h0

/-- Of frames of one class as many are sent, in order, as there are credits, and the rest wait. -/
theorem Port.foldl_push_sends (hc : c ≠ 0) {fs : List Frame} (hfs : ∀ f ∈ fs, f.cls.toNat = c) (p : Port) (hlen : c < p.credits.length) :
    p.Sends (fs.foldl Port.push p) c (min (p.credits.getD c 0) fs.length) (fs.drop (min (p.credits.getD c 0) fs.length)) := by
  induction fs generalizing p with
  | nil =>
    rw [List.length_nil, Nat.min_zero]
    exact .refl p c
  | cons f fs ih =>
    obtain ⟨hf, hrest⟩ := List.forall_mem_cons.1 hfs
    by_cases h0 : p.credits.getD c 0 = 0
    · have hstep := Port.push_waits hf hc h0
      have hcredit : (p.push f).credits.getD c 0 = 0 := by have := hstep.credit; omega
      have hfold := hstep.trans (ih hrest (p.push f) (hstep.classes ▸ hlen))
      rw [hcredit] at hfold
      rw [h0]
      simpa using hfold
    · have hstep := Port.push_sends hf hc hlen h0
      have hmin : min (p.credits.getD c 0) (f :: fs).length = 1 + min ((p.push f).credits.getD c 0) fs.length := by
        have := hstep.credit
        rw [List.length_cons]
        omega
      have hfold := hstep.trans (ih hrest (p.push f) (hstep.classes ▸ hlen))
      rw [hmin, Nat.add_comm 1, List.foldl_cons, List.drop_succ_cons, Nat.add_comm]
      exact hfold

/-- Frames of one class wait in the order they are sent in. -/
theorem Port.sortWait_of_cls {l : List Frame} (h : ∀ f ∈ l, f.cls.toNat = c) : Port.flush.sortWait l = l := by
  unfold Port.flush.sortWait
  by_cases hc : c = 1
  · have hone : ∀ f ∈ l, f.cls = 1 := fun f hf => BitVec.eq_of_toNat_eq ((h f hf).trans hc)
    rw [List.filter_eq_self.2 (fun f hf => beq_iff_eq.2 (hone f hf)),
      List.filter_eq_nil_iff.2 (fun f hf => by simp [hone f hf]), List.append_nil]
  · have hother : ∀ f ∈ l, f.cls ≠ 1 := fun f hf he => hc ((h f hf).symm.trans (congrArg BitVec.toNat he))
    rw [List.filter_eq_nil_iff.2 (fun f hf => by simpa using hother f hf),
      List.filter_eq_self.2 (fun f hf => by simpa using hother f hf), List.nil_append]

/-- Credits of the class of the frames that wait let as many of them go. -/
theorem Port.flush_sends (hc : c ≠ 0) (hlen : c < p.credits.length) (hwait : ∀ f ∈ p.wait, f.cls.toNat = c) :
    ({ p with wait := [] } : Port).Sends p.flush c (min (p.credits.getD c 0) p.wait.length)
      (p.wait.drop (min (p.credits.getD c 0) p.wait.length)) := by
  unfold Port.flush
  rw [Port.sortWait_of_cls hwait]
  exact Port.foldl_push_sends hc hwait { p with wait := [] } hlen

/-- A port with credits of a class returned. -/
def Port.credited (p : Port) (cls credits : Nat) : Port := { p with credits := p.credits.set cls (p.credits.getD cls 0 + credits) }

theorem Port.credited_getD (credits : Nat) (hlen : c < p.credits.length) :
    (p.credited c credits).credits.getD c 0 = p.credits.getD c 0 + credits := by
  unfold Port.credited
  rw [List.getD_eq_getElem?_getD, List.getElem?_set_self hlen]
  rfl

/-- LINK_CREDIT where the frames that wait are of its class. -/
theorem Port.credited_flush_sends {k : Nat} (credits : Nat) (hc : c ≠ 0) (hlen : c < p.credits.length)
    (hwait : ∀ f ∈ p.wait, f.cls.toNat = c) (hk : k = min (p.credits.getD c 0 + credits) p.wait.length) :
    ({ p.credited c credits with wait := [] } : Port).Sends (p.credited c credits).flush c k (p.wait.drop k) := by
  have hlen' : c < (p.credited c credits).credits.length := by rwa [Port.credited, List.length_set]
  have h := Port.flush_sends (p := p.credited c credits) hc hlen' hwait
  rw [Port.credited_getD credits hlen] at h
  rw [hk]
  exact h

theorem linkCredit_answers (hon : s.pwr.off = false) (hn : n < 24) {cls : Nat} (h1 : 1 ≤ cls) (h3 : cls ≤ 3) (credits : Nat) :
    Answers (.linkCredit n cls credits) s { fab := true } (s.SetsPort · n ((s.port n).credited cls credits).flush) :=
  .of_updPort (exec_linkCredit n cls credits s) hon (if_pos (decide_eq_true ⟨hn, h1, h3⟩))

/-! ## Window frames (R341, R342) -/

/-- What a port refuses of a window frame: an illegal one, one of another kind, and any on an uplink or a long link. -/
abbrev State.refusesWindow (s : State) (n : Nat) (f : Frame) : Prop :=
  (!frameLegal f) = true ∨ f.kind ≠ 1 ∨ portRole s.lock.plan n = 7 ∨ (s.port n).isLong = true

/-- A window frame one hop further, its CRC formed anew. -/
def hopped (f : Frame) : Frame := { f with hops := f.hops + 1, crc := ({ f with hops := f.hops + 1 } : Frame).crcOf }

theorem State.port_serves (hn : n < 24) (hup : (s.port n).state = 3) : ¬(24 ≤ n ∨ (s.port n).state ≠ 3) :=
  not_or.2 ⟨hn.not_ge, not_not.2 hup⟩

section
variable (hon : s.pwr.off = false) (hn : n < 24) (hup : (s.port n).state = 3)
include hon hn hup

/-- A refused window frame is counted at its port, and dropped. -/
theorem windowFrame_refused (hbad : s.refusesWindow n f) :
    Answers (.windowFrame n f) s { fab := true } (s.SetsPort · n { s.port n with crcDrops := satInc (s.port n).crcDrops }) :=
  .of_updPort (g := fun p => { p with crcDrops := satInc p.crcDrops }) (exec_windowFrame n f s) hon
    ((if_neg (State.port_serves hn hup)).trans (if_pos hbad))

/-- One for this device is kept for the deadline of its slot. -/
theorem windowFrame_kept (hok : ¬s.refusesWindow n f) (hdst : f.dst.toNat = s.device) :
    Answers (.windowFrame n f) s { fab := true } (fun t => t.fab = { s.fab with
      winGot := s.fab.winGot ++ [(f.arg.toNat, f.tag.toNat, f.offset.toNat, f.payload)]
      winPoisoned := if f.flags.getLsbD 0 then s.fab.winPoisoned ++ [(f.arg.toNat, f.tag.toNat)] else s.fab.winPoisoned }) :=
  .of_act_eq (exec_windowFrame n f s) hon ((if_neg (State.port_serves hn hup)).trans ((if_neg hok).trans (if_pos hdst))) rfl rfl

/-- One for another device of the basin goes on by the first port of its direction's window set. -/
theorem windowFrame_forwarded (hok : ¬s.refusesWindow n f) {r m : Nat} {rest : List Nat} (hdst : f.dst.toNat ≠ s.device)
    (hbasin : f.dst.toNat / 64 = s.device / 64) (hhops : f.hops.toNat < 3) (hr : s.routeRole f.dst.toNat = some r)
    (hm : s.windowSet r = m :: rest) :
    Answers (.windowFrame n f) s { fab := true } (s.SetsPort · m { s.port m with out := (s.port m).out ++ [hopped f] }) := by
  refine .of_updPort (g := fun p => { p with out := p.out ++ [hopped f] }) (exec_windowFrame n f s) hon ?_
  refine (if_neg (State.port_serves hn hup)).trans ((if_neg hok).trans ((if_neg hdst).trans ((if_pos ⟨hbasin, hhops⟩).trans ?_)))
  rw [hr]
  dsimp only
  rw [hm]
  rfl

end

end Sys2Proof.Machine
end

section
/-! SUPPORT. The bytes of a window as its flits carry them (R340): every flit of a window that came whole carries its part of them, and where a
byte is missing a flit is poisoned. -/

namespace Sys2Proof.Machine

variable {s : State} {slot tag len : Nat} {bs : List Byte}

/-! ## A list of options -/

/-- What is read part by part is read whole exactly where every part is. -/
theorem mapM_eq_some_iff {α β : Type} {f : α → Option β} {l : List α} {ys : List β} : l.mapM f = some ys ↔ l.map f = ys.map some := by
  induction l generalizing ys with
  | nil => cases ys <;> simp
  | cons a l ih =>
    rw [List.mapM_cons]
    cases ys with
    | nil => simp [Option.bind_eq_some_iff]
    | cons y ys => simp [Option.bind_eq_some_iff, ih]

/-- It is missing exactly where a part is. -/
theorem mapM_eq_none_iff {α β : Type} {f : α → Option β} {l : List α} : l.mapM f = none ↔ ∃ a ∈ l, f a = none := by
  induction l with
  | nil => simp
  | cons a l ih =>
    rw [List.mapM_cons, List.exists_mem_cons_iff, ← ih]
    cases f a <;> cases l.mapM f <;> simp

/-! ## Words of a byte list -/

/-- Pieces of a list whose first part fills `i` of them are the pieces of that part and those of the rest. -/
theorem chunksOf_append {α : Type} {n : Nat} (hn : n ≠ 0) (j : Nat) (bs : List α) : ∀ {i : Nat} {as : List α}, as.length = n * i →
    chunksOf n (i + j) (as ++ bs) = chunksOf n i as ++ chunksOf n j bs
  | 0, as, h => by
    rw [List.eq_nil_of_length_eq_zero h, Nat.zero_add]
    rfl
  | i + 1, as, h => by
    have hle : n ≤ as.length := by rw [h]; exact Nat.le_mul_of_pos_right n i.succ_pos
    have hne : as ≠ [] := List.ne_nil_of_length_pos (by omega)
    have hdrop : (as.drop n).length = n * i := by rw [List.length_drop, h, Nat.mul_succ]; omega
    rw [Nat.succ_add]
    simp [chunksOf, hne, List.take_append_of_le_length hle, List.drop_append_of_le_length hle, chunksOf_append hn j bs hdrop]

theorem chunksOf_nil {α : Type} (n i : Nat) : chunksOf n i ([] : List α) = [] := by cases i <;> rfl

/-- The words of bytes that fill whole words, and of what follows them. -/
theorem wordsOf_append {as : List Byte} {i : Nat} (h : as.length = 8 * i) (bs : List Byte) : wordsOf (as ++ bs) = wordsOf as ++ wordsOf bs := by
  have hfuel : (as ++ bs).length / 8 + 1 = i + (bs.length / 8 + 1) := by rw [List.length_append, h]; omega
  have hfuel' : as.length / 8 + 1 = i + 1 := by rw [h]; omega
  have has : chunksOf 8 (i + 1) as = chunksOf 8 i as := by
    have happ := chunksOf_append (n := 8) (by decide) 1 [] h
    rwa [List.append_nil, chunksOf_nil, List.append_nil] at happ
  unfold wordsOf
  rw [hfuel, hfuel', has, chunksOf_append (by decide) _ bs h, List.filterMap_append]

/-- The words of a byte list are those of its parts of 32 bytes, one after the other. -/
theorem flatMap_wordsOf_parts : ∀ (m : Nat) (bs : List Byte), bs.length ≤ 32 * m →
    (List.range m).flatMap (fun i => wordsOf ((bs.drop (32 * i)).take 32)) = wordsOf bs
  | 0, bs, h => by
    have hnil : bs = [] := List.eq_nil_of_length_eq_zero (by omega)
    subst hnil
    rfl
  | m + 1, bs, h => by
    have ih := flatMap_wordsOf_parts m (bs.drop 32) (by rw [List.length_drop]; omega)
    have hparts : (List.range (m + 1)).flatMap (fun i => wordsOf ((bs.drop (32 * i)).take 32)) =
        wordsOf (bs.take 32) ++ wordsOf (bs.drop 32) := by
      rw [List.range_succ_eq_map, List.flatMap_cons, List.flatMap_map, ← ih]
      simp only [List.drop_drop, Nat.mul_succ, Nat.add_comm, Nat.mul_zero, List.drop_zero]
    rw [hparts]
    by_cases hlong : 32 ≤ bs.length
    · rw [← wordsOf_append (i := 4) (by rw [List.length_take]; omega), List.take_append_drop]
    · have hrest : bs.drop 32 = [] := List.drop_eq_nil_of_le (by omega)
      rw [hrest, List.take_of_length_le (by omega)]
      exact List.append_nil _

/-! ## Parts of a window -/

/-- The byte of a window received for a slot at an offset, none where it is missing. -/
def State.windowByte (s : State) (slot tag i : Nat) : Option Byte :=
  (s.fab.winGot.filter (fun e => decide (e.1 = slot ∧ e.2.1 = tag))).findSome? (fun e =>
    if e.2.2.1 ≤ i then e.2.2.2[i - e.2.2.1]? else none)

/-- A part of a window is read byte by byte. -/
theorem State.windowPart_eq (s : State) (slot tag start n : Nat) :
    s.windowPart slot tag start n = (List.range n).mapM (fun i => s.windowByte slot tag (start + i)) := rfl

/-- A window that came whole has its bytes in order. -/
theorem State.windowData_eq_some_iff : s.windowData slot tag len = some bs ↔ (List.range len).map (s.windowByte slot tag) = bs.map some := by
  unfold State.windowData
  rw [State.windowPart_eq, mapM_eq_some_iff]
  simp only [Nat.zero_add]

theorem State.windowData_length (h : s.windowData slot tag len = some bs) : bs.length = len := by
  have hlen := congrArg List.length (State.windowData_eq_some_iff.1 h)
  simpa using hlen.symm

/-- So has every part of it. -/
theorem State.windowPart_of_windowData (h : s.windowData slot tag len = some bs) {a n : Nat} (hn : a + n ≤ len) :
    s.windowPart slot tag a n = some ((bs.drop a).take n) := by
  rw [State.windowPart_eq, mapM_eq_some_iff, List.map_take, List.map_drop, ← State.windowData_eq_some_iff.1 h]
  apply List.ext_getElem <;> simp; omega

/-- A window in which a byte is missing. -/
theorem State.windowData_eq_none_iff : s.windowData slot tag len = none ↔ ∃ i < len, s.windowByte slot tag i = none := by
  unfold State.windowData
  rw [State.windowPart_eq, mapM_eq_none_iff]
  simp only [List.mem_range, Nat.zero_add]

/-! ## The flits (R340) -/

/-- Flit `i` of a window. -/
def State.windowFlit (s : State) (slot tag len i : Nat) : List W64 × Bool :=
  match s.windowPart slot tag (32 * i) (min 32 (len - 32 * i)) with
  | some bs => (wordsOf bs, s.fab.winPoisoned.contains (slot, tag))
  | none => (List.replicate ((min 32 (len - 32 * i) + 7) / 8) 0, true)

theorem State.windowFlits_eq (s : State) (slot : Nat) (w : Nat × Nat × List Nat) :
    s.windowFlits slot w = (List.range ((w.2.1 + 31) / 32)).map (s.windowFlit slot w.1 w.2.1) := rfl

/-- The flit of a part that came whole carries its words, with the window's mark. -/
theorem State.windowFlit_some {i : Nat} (h : s.windowPart slot tag (32 * i) (min 32 (len - 32 * i)) = some bs) :
    s.windowFlit slot tag len i = (wordsOf bs, s.fab.winPoisoned.contains (slot, tag)) := by
  unfold State.windowFlit
  rw [h]

/-- One of which a byte is missing is poisoned. -/
theorem State.windowFlit_none {i : Nat} (h : s.windowPart slot tag (32 * i) (min 32 (len - 32 * i)) = none) :
    (s.windowFlit slot tag len i).2 = true := by
  unfold State.windowFlit
  rw [h]

/-- The flits of a window that came whole. -/
theorem State.windowFlits_of_windowData {w : Nat × Nat × List Nat} (h : s.windowData slot w.1 w.2.1 = some bs) :
    s.windowFlits slot w = (List.range ((w.2.1 + 31) / 32)).map (fun i =>
      (wordsOf ((bs.drop (32 * i)).take 32), s.fab.winPoisoned.contains (slot, w.1))) := by
  rw [State.windowFlits_eq]
  refine List.map_congr_left (fun i hi => ?_)
  have hi' := List.mem_range.1 hi
  have hlen := State.windowData_length h
  have htake : (bs.drop (32 * i)).take (min 32 (w.2.1 - 32 * i)) = (bs.drop (32 * i)).take 32 := by
    rw [List.take_eq_take_iff, List.length_drop]
    omega
  rw [State.windowFlit_some (State.windowPart_of_windowData h (by omega)), htake]

/-- They carry its words, unpoisoned where no frame of it came with its poison mark. -/
theorem State.windowFlits_whole {w : Nat × Nat × List Nat} (h : s.windowData slot w.1 w.2.1 = some bs)
    (hmark : s.fab.winPoisoned.contains (slot, w.1) = false) :
    (s.windowFlits slot w).flatMap (·.1) = wordsOf bs ∧ (s.windowFlits slot w).any (·.2) = false := by
  have hlen := State.windowData_length h
  rw [State.windowFlits_of_windowData h, hmark]
  refine ⟨?_, by simp⟩
  rw [List.flatMap_map]
  exact flatMap_wordsOf_parts _ bs (by omega)

/-- A window in which a byte is missing has a poisoned flit. -/
theorem State.windowFlits_poisoned {w : Nat × Nat × List Nat} (h : s.windowData slot w.1 w.2.1 = none) :
    (s.windowFlits slot w).any (·.2) = true := by
  obtain ⟨i, hi, hmiss⟩ := State.windowData_eq_none_iff.1 h
  have hpart : s.windowPart slot w.1 (32 * (i / 32)) (min 32 (w.2.1 - 32 * (i / 32))) = none := by
    rw [State.windowPart_eq, mapM_eq_none_iff]
    exact ⟨i % 32, List.mem_range.2 (by omega), by rwa [Nat.div_add_mod]⟩
  rw [State.windowFlits_eq, List.any_map, List.any_eq_true]
  exact ⟨i / 32, List.mem_range.2 (by omega), State.windowFlit_none hpart⟩

end Sys2Proof.Machine
end

section
/-! SUPPORT. The deadline of a slot: its windows delivered to their sites (R339, R340; at once, or by express ports at one flit an NCLK, log
entry 26). -/

namespace Sys2Proof.Machine

variable {s t u : State} {k slot : Nat} {fs : List (List W64 × Bool)} {w : Nat × Nat × List Nat} {v : VariantImage}

theorem exec_windowDeadline (slot : Nat) (s : State) : exec (.windowDeadline slot) s = execWindowDeadline slot s := rfl

/-! ## One site -/

/-- A flit, with its place in its window, on its way to a bound port attachment site (R175). -/
def State.expressFlit (s : State) (k : Nat) (e : (List W64 × Bool) × Nat) : Flit :=
  { dest := .router k 6, due := s.eng.clkOf (siteHalf k) + e.2 * nclkTime s.clk.plan (siteHalf k), words := e.1.1, poisoned := e.1.2 }

/-- Whether a site is bound is read off the running variant. -/
theorem State.portBound_within (h : Within { sites := true, mesh := true } s t) (k : Nat) : t.portBound k = s.portBound k :=
  h.view (State.portBound · k) (fun _ _ => rfl)

theorem State.expressFlit_within (h : Within { sites := true, mesh := true } s t) (k : Nat) : t.expressFlit k = s.expressFlit k :=
  h.view (State.expressFlit · k) (fun _ _ => rfl)

theorem State.windowFlits_within (h : Within { sites := true, mesh := true } s t) (slot : Nat) (w : Nat × Nat × List Nat) :
    t.windowFlits slot w = s.windowFlits slot w :=
  h.view (State.windowFlits · slot w) (fun _ _ => rfl)

theorem State.deliverTo_bound (h : s.portBound k = true) (fs : List (List W64 × Bool)) :
    s.deliverTo fs k = { s with mesh := { s.mesh with flits := s.mesh.flits ++ fs.zipIdx.map (s.expressFlit k) } } := if_pos h

theorem State.deliverTo_unbound (h : s.portBound k = false) (fs : List (List W64 × Bool)) :
    s.deliverTo fs k = s.updSite k (fun r => { r with inbox := r.inbox ++ fs.flatMap (·.1), poisonIn := r.poisonIn || fs.any (·.2) }) :=
  if_neg (by simp [h])

/-- `t` is `s` after deliveries, none of them to site `k`. -/
structure State.Passes (s t : State) (k : Nat) : Prop where
  within : Within { sites := true, mesh := true } s t
  site : t.site k = s.site k
  flits : s.mesh.flits ⊆ t.mesh.flits

theorem State.Passes.refl (s : State) (k : Nat) : s.Passes s k := ⟨.refl _ _, rfl, List.Subset.refl _⟩

theorem State.Passes.trans (h : s.Passes t k) (h' : t.Passes u k) : s.Passes u k :=
  ⟨h.within.trans h'.within, h'.site.trans h.site, List.Subset.trans h.flits h'.flits⟩

theorem State.Passes.foldl {α : Type} {f : State → α → State} {l : List α}
    (hf : ∀ (t : State), ∀ a ∈ l, t.Passes (f t a) k) (s : State) :
    s.Passes (l.foldl f s) k := by
  induction l generalizing s with
  | nil => exact .refl s k
  | cons a l ih => exact (hf s a List.mem_cons_self).trans (ih (fun t b hb => hf t b (List.mem_cons_of_mem _ hb)) _)

/-- `t` is `s` after deliveries, of which `fs` alone went to site `k`. -/
structure State.Delivers (s t : State) (fs : List (List W64 × Bool)) (k : Nat) : Prop where
  within : Within { sites := true, mesh := true } s t
  unbound : s.portBound k = false →
    (t.site k).inbox = (s.site k).inbox ++ fs.flatMap (·.1) ∧ (t.site k).poisonIn = ((s.site k).poisonIn || fs.any (·.2))
  bound : s.portBound k = true → t.site k = s.site k ∧ ∀ e ∈ fs.zipIdx, s.expressFlit k e ∈ t.mesh.flits

theorem State.Passes.delivers (h : s.Passes t k) (h' : t.Delivers u fs k) : s.Delivers u fs k where
  within := h.within.trans h'.within
  unbound hb := by
    have := h'.unbound ((State.portBound_within h.within k).trans hb)
    rwa [h.site] at this
  bound hb := by
    have := h'.bound ((State.portBound_within h.within k).trans hb)
    rwa [h.site, State.expressFlit_within h.within] at this

theorem State.Delivers.passes (h : s.Delivers t fs k) (h' : t.Passes u k) : s.Delivers u fs k where
  within := h.within.trans h'.within
  unbound hb := by rw [h'.site]; exact h.unbound hb
  bound hb := ⟨h'.site.trans (h.bound hb).1, fun e he => h'.flits ((h.bound hb).2 e he)⟩

/-! ## The deliveries of a deadline -/

theorem State.deliverTo_delivers (s : State) (fs : List (List W64 × Bool)) (k : Nat) : s.Delivers (s.deliverTo fs k) fs k := by
  cases hb : s.portBound k with
  | true =>
    rw [State.deliverTo_bound hb]
    exact ⟨rfl, fun h => (nomatch hb.symm.trans h), fun _ => ⟨rfl, fun e he => List.mem_append_right _ (List.mem_map_of_mem he)⟩⟩
  | false =>
    rw [State.deliverTo_unbound hb]
    exact ⟨.updSite _ _ _, fun _ => by rw [State.site_updSite]; exact ⟨rfl, rfl⟩, fun h => (nomatch hb.symm.trans h)⟩

/-- A delivery to another site. -/
theorem State.deliverTo_passes (s : State) (fs : List (List W64 × Bool)) {j : Nat} (hj : k ≠ j) : s.Passes (s.deliverTo fs j) k := by
  cases hb : s.portBound j with
  | true =>
    rw [State.deliverTo_bound hb]
    exact ⟨rfl, rfl, List.subset_append_left _ _⟩
  | false =>
    rw [State.deliverTo_unbound hb]
    exact ⟨.updSite _ _ _, State.site_updSite_ne _ _ hj, List.Subset.refl _⟩

/-- A window that does not go to a site. -/
theorem State.deliverWindow_passes (s : State) (slot : Nat) (hk : k ∉ w.2.2) : s.Passes (s.deliverWindow slot w) k :=
  .foldl (fun t j hj => t.deliverTo_passes _ (fun e : k = j => hk (e ▸ hj))) s

/-- A window that goes to a site once. -/
theorem State.deliverWindow_delivers (s : State) (slot : Nat) (hk : k ∈ w.2.2) (hnodup : w.2.2.Nodup) :
    s.Delivers (s.deliverWindow slot w) (s.windowFlits slot w) k := by
  obtain ⟨before, after, he⟩ := List.append_of_mem hk
  rw [he] at hnodup
  obtain ⟨-, hafter, hdisj⟩ := List.nodup_append.1 hnodup
  have hb : ∀ j ∈ before, k ≠ j := fun j hj e => hdisj j hj k List.mem_cons_self e.symm
  have ha : ∀ j ∈ after, k ≠ j := fun j hj e => (List.nodup_cons.1 hafter).1 (e ▸ hj)
  unfold State.deliverWindow
  rw [he, List.foldl_append, List.foldl_cons]
  exact (State.Passes.foldl (fun t j hj => t.deliverTo_passes _ (hb j hj)) s).delivers
    ((State.deliverTo_delivers _ _ _).passes (.foldl (fun t j hj => t.deliverTo_passes _ (ha j hj)) _))

/-- Every window of the running variant delivered. -/
def State.deliverWindows (s : State) (v : VariantImage) (slot : Nat) : State :=
  v.windows.foldl (fun (t : State) w => t.deliverWindow slot w) s

theorem State.deliverTo_within (s : State) (fs : List (List W64 × Bool)) (k : Nat) :
    Within { sites := true, mesh := true } s (s.deliverTo fs k) := (s.deliverTo_delivers fs k).within

theorem State.deliverWindows_within (s : State) (v : VariantImage) (slot : Nat) :
    Within { sites := true, mesh := true } s (s.deliverWindows v slot) :=
  .foldl _ (fun t _ => .foldl _ (fun _ _ => State.deliverTo_within _ _ _) _ t) _ _

/-- A site that receives one window of the running variant has exactly that window's flits delivered. -/
theorem State.deliverWindows_delivers (s : State) (slot : Nat) (hw : v.windows.filter (fun x => x.2.2.contains k) = [w])
    (hnodup : w.2.2.Nodup) : s.Delivers (s.deliverWindows v slot) (s.windowFlits slot w) k := by
  obtain ⟨before, after, he, hbefore, hmem, hafter⟩ := List.filter_eq_cons_iff.1 hw
  have hb : ∀ x ∈ before, k ∉ x.2.2 := fun x hx => by simpa using hbefore x hx
  have ha : ∀ x ∈ after, k ∉ x.2.2 := fun x hx => by simpa using List.filter_eq_nil_iff.1 hafter x hx
  have hfirst := State.Passes.foldl (f := fun (t : State) w => t.deliverWindow slot w)
    (fun t x hx => t.deliverWindow_passes slot (hb x hx)) s
  unfold State.deliverWindows
  rw [he, List.foldl_append, List.foldl_cons, ← State.windowFlits_within hfirst.within]
  exact hfirst.delivers ((State.deliverWindow_delivers _ _ (by simpa using hmem) hnodup).passes
    (.foldl (fun t x hx => t.deliverWindow_passes slot (ha x hx)) _))

/-! ## The slot closed -/

/-- The windows of a slot forgotten, and those that were missing counted at the lowest port of an UP direction (log entry 26). -/
def State.closeSlot (s : State) (plan : W32) (slot missing : Nat) : State :=
  let t := { s with fab := { s.fab with
    winGot := s.fab.winGot.filter (fun e => decide (e.1 ≠ slot))
    winPoisoned := s.fab.winPoisoned.filter (fun e => decide (e.1 ≠ slot)) } }
  match (List.range 24).find? (fun n => decide (1 ≤ portRole plan n ∧ portRole plan n ≤ 6)) with
  | some n => t.updPort n (fun p => { p with winMissing := satAdd p.winMissing missing })
  | none => t

theorem State.closeSlot_within (s : State) (plan : W32) (slot missing : Nat) : Within { fab := true } s (s.closeSlot plan slot missing) := by
  unfold State.closeSlot
  split <;> rfl

theorem State.closeSlot_winGot (s : State) (plan : W32) (slot missing : Nat) :
    (s.closeSlot plan slot missing).fab.winGot = s.fab.winGot.filter (fun e => decide (e.1 ≠ slot)) := by
  unfold State.closeSlot
  split <;> rfl

/-- What a deadline leaves: the windows of the running variant delivered and the slot closed. -/
def State.deadline (s : State) (v : VariantImage) (slot : Nat) : State :=
  (s.deliverWindows v slot).closeSlot s.lock.plan slot (v.windows.filter (fun w => (s.windowData slot w.1 w.2.1).isNone)).length

theorem State.deadline_within (s : State) (v : VariantImage) (slot : Nat) :
    Within { sites := true, mesh := true, fab := true } s (s.deadline v slot) :=
  (s.deliverWindows_within v slot).mono.trans (State.closeSlot_within _ _ _ _).mono

theorem State.deadline_winGot (s : State) (v : VariantImage) (slot : Nat) :
    (s.deadline v slot).fab.winGot = s.fab.winGot.filter (fun e => decide (e.1 ≠ slot)) := by
  unfold State.deadline
  rw [State.closeSlot_winGot, (s.deliverWindows_within v slot).view State.fab (fun _ _ => rfl)]

/-- The deadline leaves sites and mesh as the deliveries do. -/
theorem State.deadline_site (s : State) (v : VariantImage) (slot k : Nat) : (s.deadline v slot).site k = (s.deliverWindows v slot).site k :=
  (State.closeSlot_within _ _ _ _).view (State.site · k) (fun _ _ => rfl)

theorem State.deadline_mesh (s : State) (v : VariantImage) (slot : Nat) : (s.deadline v slot).mesh = (s.deliverWindows v slot).mesh :=
  (State.closeSlot_within _ _ _ _).view State.mesh (fun _ _ => rfl)

/-- WINDOW_DEADLINE where no stall holds the slots. -/
theorem windowDeadline_answers (hon : s.pwr.off = false) (hv : s.runImg = some v) (hstall : s.sync.stalled = false) (slot : Nat) :
    Answers (.windowDeadline slot) s { sites := true, mesh := true, fab := true } (fun t => t = s.deadline v slot) := by
  refine .of_act_eq (exec_windowDeadline slot s) hon ?_ (s.deadline_within v slot) rfl
  rw [hv]
  exact if_neg (by simp [hstall])

/-- No slot starts in a stall (R186). -/
theorem windowDeadline_stalled (hstall : s.sync.stalled = true) (slot : Nat) : exec (.windowDeadline slot) s = .next s := by
  refine (exec_windowDeadline slot s).trans (act_of_eq_self ?_)
  split
  · rfl
  · exact if_pos hstall

end Sys2Proof.Machine
end

section
/-! SUPPORT. The pitch point of a lockstep group's member (R345, R347). -/

namespace Sys2Proof.Machine

variable {s : State} {v : VariantImage} {late : Nat}

theorem exec_pitchPoint (late : Nat) (s : State) : exec (.pitchPoint late) s = execPitchPoint late s := rfl

/-- The next pitch point: one step and the guard further. -/
def State.nextPitch (s : State) (v : VariantImage) : State :=
  { s with fab := { s.fab with pitch := s.fab.pitch + BitVec.ofNat 64 (stepCounts v) + s.fab.guard.zeroExtend 64 } }

/-- A step that is skipped: no lane of it commits (R347). -/
def Desc.skipped (d : Desc) : Desc :=
  { d with empty := true, lanes := d.lanes.map (fun l => if l.ran then { l with ran := false, outcome := 0x02 } else l) }

theorem Desc.skipped_ran (d : Desc) : ∀ l ∈ d.skipped.lanes, l.ran = false := by
  intro l hl
  obtain ⟨l', -, rfl⟩ := List.mem_map.1 hl
  split
  · rfl
  · next h => exact Bool.eq_false_of_not_eq_true h

theorem Desc.skipped_length (d : Desc) : d.skipped.lanes.length = d.lanes.length := List.length_map _

/-- The step of a slip skipped, and the slip counted. -/
def State.slipped (s : State) : State := { s with fab := { s.fab with slips := satInc s.fab.slips, slipping := true }, cur := s.cur.skipped }

section
variable (hon : s.pwr.off = false) (hpitch : s.atPitch = true) (hv : s.runImg = some v)
include hon hpitch hv

/-- A step at most 17 counts late begins at its pitch point. -/
theorem pitchPoint_begins (hlate : late ≤ 17) : Answers (.pitchPoint late) s { time := true, fab := true }
    (fun t => t.time = maxTime s.time (s.pitchTime late) ∧ t.fab = (s.nextPitch v).fab) := by
  refine .of_actAt_eq (t := s.nextPitch v) (exec_pitchPoint late s) hon ?_ rfl ⟨if_pos hpitch, rfl⟩
  rw [hv]
  exact (if_pos hpitch).trans (if_neg hlate.not_gt)

/-- A later one is skipped. -/
theorem pitchPoint_slips (hlate : 17 < late) : Answers (.pitchPoint late) s { time := true, cur := true, fab := true }
    (fun t => t.time = maxTime s.time (s.pitchTime late) ∧ t.fab = (s.nextPitch v).slipped.fab ∧ t.cur = s.cur.skipped) := by
  refine .of_actAt_eq (t := (s.nextPitch v).slipped) (exec_pitchPoint late s) hon ?_ rfl ⟨if_pos hpitch, rfl, rfl⟩
  rw [hv]
  exact (if_pos hpitch).trans (if_pos hlate)

end

end Sys2Proof.Machine
end

section
/-! The statements of the links, the windows and the configuration at reset settled. -/

namespace Sys2Proof.Machine

/-- Settles O8: GCTL_WREGION is clear after reset, and every dimension of both shapes is 1 to 16. -/
theorem lockedFieldsLegalAtReset : Obligations.LockedFieldsLegalAtReset :=
  (Locked.legal_iff _).2 ⟨by decide, by decide, by decide⟩

/-- Settles O60: each link command changes its port alone, and a deadline delivers each window to its sites. That an express port takes one
flit an NCLK from the deadline on is the model's choice (log entry 26). -/
theorem linksWindowsAndPitchPoints : Obligations.LinksWindowsAndPitchPoints := by
  intro s n hon hn
  refine ⟨fun lseq => ?_, fun lseq hup => ?_, fun f rest hup hreplay => ?_, fun cls credits k h1 h3 hlen hwait hk => ?_,
    fun f hup hlegal hkind hrole hlong hdst => ?_, fun f hup hbad => ?_,
    fun f r m rest hup hlegal hkind hrole hlong hdst hbasin hhops hr hm => ?_, fun slot v hv hstall => ?_,
    fun slot w _ hmiss => State.windowFlits_poisoned hmiss, fun slot hstall => windowDeadline_stalled hstall slot,
    fun late v hpitch hv => ⟨pitchPoint_begins hon hpitch hv, fun hlate => ?_⟩⟩
  · refine (linkAck_answers hon hn lseq).imp (fun t h => ⟨h.here.trans ?_, h.others⟩)
    simp only [lseq_after_iff]
  · refine (retransmissionRequest_answers hon hn hup lseq).imp (fun t h => ?_)
    rw [h.here]
    exact ⟨rfl, rfl, h.others⟩
  · exact (retransmitTimeout_answers hon hn hup).imp (fun t h => ⟨h.here.trans (Port.resent_cons hreplay), h.others⟩)
  · have hsends := Port.credited_flush_sends credits (Nat.one_le_iff_ne_zero.1 h1) (by omega) hwait hk
    refine (linkCredit_answers hon hn h1 h3 credits).imp (fun t h => ?_)
    have hcredit := hsends.credit.trans (Port.credited_getD credits (by omega))
    rw [h.here]
    exact ⟨hsends.waiting, Nat.eq_sub_of_add_eq hcredit, hsends.sent, hsends.kept, hsends.numbered, h.others⟩
  · have hok : ¬s.refusesWindow n f := by simp [hlegal, hkind, hrole, hlong]
    exact windowFrame_kept hon hn hup hok hdst
  · rw [← Bool.not_eq_true'] at hbad
    exact (windowFrame_refused hon hn hup hbad).imp (fun t h => ⟨h.here, h.winGot⟩)
  · have hok : ¬s.refusesWindow n f := by simp [hlegal, hkind, hrole, hlong]
    exact (windowFrame_forwarded hon hn hup hok hdst hbasin hhops hr hm).imp (fun t h => ⟨h.here, h.others, h.winGot⟩)
  · refine (windowDeadline_answers hon hv hstall slot).imp (fun t h => ?_)
    rw [h, State.deadline_winGot, State.deadline_mesh]
    refine ⟨rfl, fun w bs => State.windowFlits_whole, fun w k hw hnodup => ?_⟩
    have hdelivers := s.deliverWindows_delivers slot hw hnodup
    rw [State.deadline_site]
    exact ⟨hdelivers.unbound, hdelivers.bound⟩
  · refine (pitchPoint_slips hon hpitch hv hlate).imp (fun t ⟨htime, hfab, hcur⟩ => ?_)
    rw [hfab, hcur]
    exact ⟨htime, rfl, rfl, rfl, Desc.skipped_ran _, Desc.skipped_length _⟩

end Sys2Proof.Machine
end

section
/-! SUPPORT. What words on channels change, in full (R372, R382): the channels, the interrupts raised, and of the fabric its ports and its count
of unroutable frames. -/

namespace Sys2Proof.Machine

variable {s t u : State}

/-- `t` is `s` but for the channels, the interrupts raised, the ports and the count of unroutable frames. -/
def State.Says (s t : State) : Prop :=
  ∃ ports n irqs chans, t = { s with
    fab := { s.fab with ports := ports, unroutable := n }, hif := { s.hif with irqs := irqs }, chans := chans }

theorem State.Says.refl (s : State) : s.Says s := ⟨s.fab.ports, s.fab.unroutable, s.hif.irqs, s.chans, rfl⟩

theorem State.Says.trans (h : s.Says t) (h' : t.Says u) : s.Says u := by
  obtain ⟨_, _, _, _, rfl⟩ := h
  obtain ⟨_, _, _, _, rfl⟩ := h'
  exact ⟨_, _, _, _, rfl⟩

/-- What does not look at any of these is as it was. -/
theorem State.Says.view {α : Type} (h : s.Says t) (v : State → α)
    (hv : ∀ ports n irqs chans, v { s with
      fab := { s.fab with ports := ports, unroutable := n }, hif := { s.hif with irqs := irqs }, chans := chans } = v s) : v t = v s := by
  obtain ⟨_, _, _, _, rfl⟩ := h
  exact hv _ _ _ _

theorem State.Says.within (h : s.Says t) : Within saying s t := by
  obtain ⟨_, _, _, _, rfl⟩ := h
  rfl

theorem State.Says.updChan (s : State) (c : Nat) (f : Chan → Chan) : s.Says (s.updChan c f) :=
  ⟨s.fab.ports, s.fab.unroutable, s.hif.irqs, _, rfl⟩

theorem State.Says.irq (s : State) (fn vec : Nat) : s.Says (s.irq fn vec) := ⟨s.fab.ports, s.fab.unroutable, _, s.chans, rfl⟩

theorem State.sendFrame_says (s : State) (f : Frame) : s.Says (s.sendFrame f) := by
  unfold State.sendFrame
  split
  · exact ⟨_, s.fab.unroutable, s.hif.irqs, s.chans, rfl⟩
  · exact ⟨s.fab.ports, _, s.hif.irqs, s.chans, rfl⟩

theorem State.msgIrq_says (s : State) (c : Nat) : s.Says (s.msgIrq c) := by
  unfold State.msgIrq
  split
  · exact .irq _ _ _
  · split
    · exact .irq _ _ _
    · split
      · exact .irq _ _ _
      · exact .refl _

theorem State.fmWord_says (s : State) (c : Nat) (w : W64) : s.Says (s.fmWord c w) :=
  (State.Says.updChan s c _).trans (State.sendFrame_says _ _)

theorem State.pump_says (s : State) (c : Nat) : s.Says (s.pump c) := by
  unfold State.pump
  dsimp only
  split
  · split
    · exact (State.Says.updChan _ _ _).trans (State.fmWord_says _ _ _)
    · exact .refl _
  · split
    · exact .refl _
    · split
      · exact (State.Says.updChan _ _ _).trans (State.msgIrq_says _ _)
      · exact .refl _

theorem State.sendWord_says (s : State) (c : Nat) (w : W64) : s.Says (s.sendWord c w) := by
  unfold State.sendWord
  split
  · exact .updChan _ _ _
  · exact (State.Says.updChan _ _ _).trans (State.pump_says _ _)

theorem State.event_says (s : State) (rs : List Receiver) (code : Byte) (arg : Nat) : s.Says (s.event rs code arg) := by
  unfold State.event
  induction rs generalizing s with
  | nil => exact .refl _
  | cons r rs ih => exact (State.sendWord_says _ _ _).trans (ih _)

theorem State.opened_says (s : State) (b : CmdBlock) (code : Byte) : s.Says (s.opened b code) :=
  (State.Says.updChan _ _ _).trans (State.sendWord_says _ _ _)

theorem State.complete_says (s : State) (c : Nat) (code : Byte) (cseq : BitVec 4) (status : Byte) (detail : BitVec 40) :
    s.Says (s.complete c code cseq status detail) := by
  unfold State.complete
  split
  · exact (State.Says.updChan _ _ _).trans (State.sendWord_says _ _ _)
  · exact .refl _

end Sys2Proof.Machine
end

section
/-! SUPPORT. A mailbox channel: words in, words out, and the next queued word placed (R371, R372, R380). -/

namespace Sys2Proof.Machine

variable {s t u : State} {c : Nat} {w : W64}

/-- The channel changed alone: it reads `h`, and every other one as before. -/
structure State.SetsChan (s t : State) (c : Nat) (h : Chan) : Prop where
  here : t.chan c = h
  others : ∀ d, d ≠ c → t.chan d = s.chan d

/-- A channel changed in a state with the channels of `s`. -/
theorem State.SetsChan.updChan (f : Chan → Chan) (hu : u.chans = s.chans := by rfl) : s.SetsChan (u.updChan c f) c (f (s.chan c)) := by
  have hchan : ∀ d, u.chan d = s.chan d := fun d => by unfold State.chan; rw [hu]
  exact ⟨by rw [State.chan_updChan, hchan], fun d hd => (u.chan_updChan_ne f hd).trans (hchan d)⟩

/-- Two changes that make the same of a channel are one. -/
theorem State.updChan_congr {f g : Chan → Chan} (h : f (s.chan c) = g (s.chan c)) : s.updChan c f = s.updChan c g := by
  unfold State.updChan Sparse.upd
  rw [show f (Sparse.get {} s.chans c) = g (Sparse.get {} s.chans c) from h]

/-! ## Words in -/

/-- A word stored in MBX_IN. -/
def Chan.store (h : Chan) (w : W64) : Chan := { h with inWord := w, inFull := true }

/-- A word discarded because another waits. -/
def Chan.overran (h : Chan) : Chan := { h with overrun := true }

/-- A word that no check of its own rejects waits in a channel that is free. -/
theorem State.arrive_free (hfree : (s.chan c).inFull = false) (hok : s.wordReason c w = none) :
    s.arrive c w = s.updChan c (·.store w) := by
  unfold State.arrive
  rw [if_neg (by simp [hfree]), hok]
  exact State.updChan_congr (if_neg (by simp [hfree]))

/-- A word that finds another waiting is discarded. -/
theorem State.arrive_full (hfull : (s.chan c).inFull = true) : s.arrive c w = s.updChan c Chan.overran := by
  unfold State.arrive
  rw [if_pos hfull]
  exact State.updChan_congr (if_pos hfull)

/-! ## Words out -/

/-- A word taken from MBX_OUT. -/
def Chan.taken (h : Chan) : Chan := { h with outWord := 0, outFull := false }

/-- A word of the queue placed in MBX_OUT, the rest left queued. -/
def Chan.place (h : Chan) (w : W64) (rest : List W64) : Chan :=
  { h with queue := rest, outWord := w, outFull := true, outCnt := h.outCnt + 1 }

/-- With no word that may go, nothing is placed. -/
theorem State.pump_none (h : takeWord s.boot.ready (s.chan c).queue = none) : s.pump c = s := by
  unfold State.pump
  dsimp only
  rw [h]
  split
  · rfl
  · split <;> rfl

/-- The BMC takes no interrupt (Table 12.6). -/
theorem State.msgIrq_bmc (h : c = 18 ∨ c = 19) : s.msgIrq c = s := by
  rcases h with rfl | rfl <;> rfl

/-- The next word that may go is placed in a free MBX_OUT of the BMC. -/
theorem State.pump_bmc {rest : List W64} (hc : c = 18 ∨ c = 19) (hfree : (s.chan c).outFull = false)
    (h : takeWord s.boot.ready (s.chan c).queue = some (w, rest)) :
    s.pump c = s.updChan c (·.place w rest) := by
  unfold State.pump
  dsimp only
  rw [if_neg (by omega), if_neg (by simp [hfree]), h]
  exact State.msgIrq_bmc hc

end Sys2Proof.Machine
end

section
/-! SUPPORT. Answers on the management bus (R379–R381, R414, R462). -/

namespace Sys2Proof.Machine

variable {s t : State} {bind : Binding} {m : Foot}

theorem exec_setEndpointId (bind : Binding) (owner eid : Byte) (s : State) :
    exec (.setEndpointId bind owner eid) s = execSetEndpointId bind owner eid s := rfl
theorem exec_getEndpointId (bind : Binding) (s : State) : exec (.getEndpointId bind) s = execGetEndpointId bind s := rfl
theorem exec_getMctpVersionSupport (bind : Binding) (m : Byte) (s : State) :
    exec (.getMctpVersionSupport bind m) s = execGetMctpVersionSupport bind m s := rfl
theorem exec_getMessageTypeSupport (bind : Binding) (s : State) :
    exec (.getMessageTypeSupport bind) s = execGetMessageTypeSupport bind s := rfl
theorem exec_getVendorDefinedMessageSupport (bind : Binding) (selector : Byte) (s : State) :
    exec (.getVendorDefinedMessageSupport bind selector) s = execGetVendorDefinedMessageSupport bind selector s := rfl
theorem exec_getEndpointUuid (bind : Binding) (s : State) : exec (.getEndpointUuid bind) s = execGetEndpointUuid bind s := rfl
theorem exec_mctpVendorMessage (secured : Bool) (vendor : BitVec 16) (w : W64) (s : State) :
    exec (.mctpVendorMessage secured vendor w) s = execMctpVendorMessage secured vendor w s := rfl
theorem exec_mctpAck (secured : Bool) (s : State) : exec (.mctpAck secured) s = execMctpAck secured s := rfl
theorem exec_pldmBase (bind : Binding) (command : Byte) (s : State) : exec (.pldmBase bind command) s = execPldmBase bind command s := rfl
theorem exec_pldmPlatformMonitoring (bind : Binding) (n : BitVec 16) (s : State) :
    exec (.pldmPlatformMonitoring bind n) s = execPldmPlatformMonitoring bind n s := rfl
theorem exec_pldmFruData (bind : Binding) (s : State) : exec (.pldmFruData bind) s = execPldmFruData bind s := rfl
theorem exec_pldmFirmwareUpdate (bind : Binding) (img : FwImage) (s : State) :
    exec (.pldmFirmwareUpdate bind img) s = execPldmFirmwareUpdate bind img s := rfl

theorem State.when_pos {b : Bool} (h : b = true) (f : State → State) : s.when b f = f s := if_pos h

/-! ## MCTP control (R379) -/

/-- The EID of a binding set, with the owner that assigned it. -/
def Hif.withEid (h : Hif) (bind : Binding) (owner eid : Byte) : Hif :=
  match bind with
  | .smbus => { h with eidSmbus := eid, ownerSmbus := owner }
  | .i3c => { h with eidI3c := eid, ownerI3c := owner }

/-- The EID of one binding is set, and not that of the other. -/
theorem State.eid_withEid (s : State) (bind o : Binding) (owner eid : Byte) (code cc : Byte) (body : List Byte) :
    (({ s with hif := s.hif.withEid bind owner eid } : State).mctpReply code cc body).eid o = if o = bind then eid else s.eid o := by
  cases bind <;> cases o <;> rfl

/-- An EID that names an endpoint is assigned. -/
theorem setEndpointId_assigns (hon : s.pwr.off = false) (hrom : s.stageDone 0 = true) {owner eid : Byte} (h0 : eid ≠ 0) (hff : eid ≠ 0xFF) :
    Answers (.setEndpointId bind owner eid) s { hif := true } (fun t =>
      t.eid bind = eid ∧ t.hif.mctpOut = [0x00, 1, 0, 0, eid, 0] ∧ (∀ o, o ≠ bind → t.eid o = s.eid o)) := by
  refine .of_act_eq (t := ({ s with hif := s.hif.withEid bind owner eid } : State).mctpReply 1 0 [0, eid, 0]) (exec_setEndpointId ..) hon
    ((State.when_pos hrom _).trans ((if_neg (not_or.2 ⟨h0, hff⟩)).trans ?_)) rfl ⟨?_, rfl, fun o ho => ?_⟩
  · cases bind <;> rfl
  · rw [State.eid_withEid, if_pos rfl]
  · rw [State.eid_withEid, if_neg ho]

/-- The EIDs 0x00 and 0xFF are no endpoint's. -/
theorem setEndpointId_refuses (hon : s.pwr.off = false) (hrom : s.stageDone 0 = true) {owner eid : Byte} (h : eid = 0 ∨ eid = 0xFF) :
    Answers (.setEndpointId bind owner eid) s { hif := true } (fun t => t.hif = { s.hif with mctpOut := [0x00, 1, 2] }) :=
  .of_act_eq (t := s.mctpReply 1 2 []) (exec_setEndpointId ..) hon ((State.when_pos hrom _).trans (if_pos h)) rfl rfl

/-- The versions of the base protocol and of control messages. -/
theorem getMctpVersionSupport_base (hon : s.pwr.off = false) (hrom : s.stageDone 0 = true) {ty : Byte} (h : ty = 0 ∨ ty = 0xFF) :
    Answers (.getMctpVersionSupport bind ty) s { hif := true } (fun t =>
      t.hif = { s.hif with mctpOut := [0x00, 4, 0, 1, 0xF1, 0xF3, 0xFF, 0] }) :=
  .of_act_eq (t := s.mctpReply 4 0 [1, 0xF1, 0xF3, 0xFF, 0]) (exec_getMctpVersionSupport ..) hon
    ((State.when_pos hrom _).trans (if_pos h.symm)) rfl rfl

/-- A message type that the device does not list has no version. -/
theorem getMctpVersionSupport_unlisted (hon : s.pwr.off = false) (hrom : s.stageDone 0 = true) {ty : Byte}
    (h : ty ∉ [0x00, 0x01, 0x05, 0x06, 0x7E, 0xFF]) :
    Answers (.getMctpVersionSupport bind ty) s { hif := true } (fun t => t.hif = { s.hif with mctpOut := [0x00, 4, 0x80] }) := by
  have hbase : ¬(ty = 0xFF ∨ ty = 0) := by
    rintro (rfl | rfl) <;> exact h (by decide)
  have hlist : ¬mctpTypes.contains ty = true := fun hc =>
    h (List.mem_append_left [0xFF] (List.contains_iff_mem.1 hc))
  exact .of_act_eq (t := s.mctpReply 4 0x80 []) (exec_getMctpVersionSupport ..) hon
    ((State.when_pos hrom _).trans ((if_neg hbase).trans (if_neg hlist))) rfl rfl

/-! ## Vendor-defined messages (R380, R401) -/

theorem State.bmcOpen_of {secured : Bool} (hrom : s.stageDone 0 = true) (h : secured = true → (s.spdm 18).isOpen = true) :
    s.bmcOpen secured = true := by
  cases secured with
  | false => simp [State.bmcOpen, hrom]
  | true => simp [State.bmcOpen, hrom, h rfl]

theorem bmcChan_bmc (secured : Bool) : bmcChan secured = 18 ∨ bmcChan secured = 19 := by
  cases secured
  · exact .inr rfl
  · exact .inl rfl

/-- A message of this vendor puts its word into the channel of the BMC. -/
theorem mctpVendorMessage_stores {secured : Bool} {w : W64} (hon : s.pwr.off = false) (hopen : s.bmcOpen secured = true)
    (hfree : (s.chan (bmcChan secured)).inFull = false) (hok : s.wordReason (bmcChan secured) w = none) :
    Answers (.mctpVendorMessage secured 0x1F6C w) s { chans := true } (fun t =>
      s.SetsChan t (bmcChan secured) ((s.chan (bmcChan secured)).store w)) :=
  .of_act_eq (exec_mctpVendorMessage ..) hon ((State.when_pos (by rw [hopen]; rfl) _).trans (State.arrive_free hfree hok))
    (.updChan _ _ _) (.updChan _)

/-- An acknowledgement answers what the channel of the BMC does next, its slot freed. -/
theorem mctpAck_pumps {secured : Bool} {P : State → Prop} (hon : s.pwr.off = false) (hopen : s.bmcOpen secured = true)
    (hpump : (s.updChan (bmcChan secured) Chan.taken).pump (bmcChan secured) = t) (hw : Within { chans := true } s t) (hP : P t) :
    Answers (.mctpAck secured) s { chans := true } P :=
  .of_act_eq (exec_mctpAck ..) hon ((State.when_pos hopen _).trans hpump) hw hP

/-- With no word that may go, an acknowledged slot is left free. -/
theorem mctpAck_frees {secured : Bool} (hon : s.pwr.off = false) (hopen : s.bmcOpen secured = true)
    (h : takeWord s.boot.ready (s.chan (bmcChan secured)).queue = none) :
    Answers (.mctpAck secured) s { chans := true } (fun t => t.chan (bmcChan secured) = (s.chan (bmcChan secured)).taken) := by
  refine mctpAck_pumps hon hopen (State.pump_none ?_) (.updChan _ _ _) (State.chan_updChan _ _ _)
  rw [State.chan_updChan]
  exact h

/-- The next word that may go is placed in an acknowledged slot. -/
theorem mctpAck_places {secured : Bool} {w : W64} {rest : List W64} (hon : s.pwr.off = false) (hopen : s.bmcOpen secured = true)
    (h : takeWord s.boot.ready (s.chan (bmcChan secured)).queue = some (w, rest)) :
    Answers (.mctpAck secured) s { chans := true } (fun t =>
      t.chan (bmcChan secured) = (s.chan (bmcChan secured)).place w rest) := by
  have hqueue : takeWord s.boot.ready ((s.updChan (bmcChan secured) Chan.taken).chan (bmcChan secured)).queue = some (w, rest) := by
    rw [State.chan_updChan]
    exact h
  refine mctpAck_pumps hon hopen (State.pump_bmc (bmcChan_bmc _) (by rw [State.chan_updChan]; rfl) hqueue)
    ((Within.updChan _ _ _).trans (.updChan _ _ _)) ?_
  rw [State.chan_updChan, State.chan_updChan]
  rfl

/-! ## PLDM (R381, R414, R462) -/

/-- From the end of stage ROM on and out of recovery mode, PLDM types 0, 2 and 4 are answered. -/
theorem State.pldmOpen_of (hrom : s.stageDone 0 = true) (hrec : s.boot.recovery = false) : s.pldmOpen = true := by
  simp [State.pldmOpen, hrom, hrec]

/-- A sensor is read, or named by no number. -/
theorem pldmPlatformMonitoring_answers (hon : s.pwr.off = false) (hopen : s.pldmOpen = true) (n : BitVec 16) :
    Answers (.pldmPlatformMonitoring bind n) s { hif := true } (fun t => t.hif = { s.hif with
      pldmOut := match s.sensorReading n.toNat with
        | some x => [0x01, 2, 0x11, 0] ++ leBytes 8 x
        | none => [0x01, 2, 0x11, 0x80] }) := by
  cases hx : s.sensorReading n.toNat with
  | some x =>
    exact .of_act_eq (t := s.pldmReply 2 0x11 0 (leBytes 8 x)) (exec_pldmPlatformMonitoring ..) hon
      ((State.when_pos hopen _).trans (by rw [hx])) rfl rfl
  | none =>
    exact .of_act_eq (t := s.pldmReply 2 0x11 0x80 []) (exec_pldmPlatformMonitoring ..) hon
      ((State.when_pos hopen _).trans (by rw [hx])) rfl rfl

/-- An image is judged whole, and begins to be written only where it passes. -/
theorem pldmFirmwareUpdate_answers (hon : s.pwr.off = false) (img : FwImage) (h : s.boot.ready = true ∨ s.boot.recovery = true) :
    Answers (.pldmFirmwareUpdate bind img) s { hif := true, sec := true } (fun t =>
      t.hif = { s.hif with pldmOut := [0x01, 5, 0x18, s.imageVerdict img] } ∧
      t.sec = { s.sec with fwWrite := if s.imageVerdict img = 0 then s.sec.fwWrite ++ [(img, none)] else s.sec.fwWrite }) := by
  have hserve : (s.boot.ready || s.boot.recovery) = true := by simpa using h
  by_cases hv : s.imageVerdict img = 0
  · exact .of_act_eq (t := (s.startWrite img none).pldmReply 5 0x18 (s.imageVerdict img) []) (exec_pldmFirmwareUpdate ..) hon
      ((State.when_pos hserve _).trans (congrArg (fun u : State => u.pldmReply 5 0x18 (s.imageVerdict img) []) (if_pos hv))) rfl
      ⟨rfl, by rw [if_pos hv]; rfl⟩
  · exact .of_act_eq (t := s.pldmReply 5 0x18 (s.imageVerdict img) []) (exec_pldmFirmwareUpdate ..) hon
      ((State.when_pos hserve _).trans (congrArg (fun u : State => u.pldmReply 5 0x18 (s.imageVerdict img) []) (if_neg hv))) rfl
      ⟨rfl, by rw [if_neg hv]; rfl⟩

end Sys2Proof.Machine
end

section
/-! The statement of the management bus settled. -/

namespace Sys2Proof.Machine

/-- Settles O54: each request is answered in the host interface alone, and a vendor-defined message or its acknowledgement reaches one
channel. The encodings are the model's choice (log entry 41). -/
theorem theManagementBusAnswers : Obligations.TheManagementBusAnswers := by
  intro s bind hon hrom
  refine ⟨fun owner eid h0 hff => setEndpointId_assigns hon hrom h0 hff, fun owner eid h => setEndpointId_refuses hon hrom h, ?_,
    fun ty h => getMctpVersionSupport_base hon hrom h, fun ty h => getMctpVersionSupport_unlisted hon hrom h, ?_, ?_, ?_,
    fun secured w c hc hs hfree hok => ?_, fun secured c hc hs => ?_, fun hrec => ?_,
    fun img h => pldmFirmwareUpdate_answers hon img h⟩
  · exact .of_act_eq (exec_getEndpointId ..) hon (State.when_pos hrom _) rfl rfl
  · exact .of_act_eq (exec_getMessageTypeSupport ..) hon (State.when_pos hrom _) rfl rfl
  · exact .of_act_eq (exec_getVendorDefinedMessageSupport ..) hon ((State.when_pos hrom _).trans (if_pos rfl)) rfl rfl
  · exact .of_act_eq (exec_getEndpointUuid ..) hon (State.when_pos hrom _) rfl ⟨rfl, rfl⟩
  · obtain rfl : c = bmcChan secured := hc
    exact (mctpVendorMessage_stores hon (State.bmcOpen_of hrom hs) hfree hok).imp (fun t h => ⟨h.here, h.others⟩)
  · obtain rfl : c = bmcChan secured := hc
    exact ⟨fun h => mctpAck_frees hon (State.bmcOpen_of hrom hs) h, fun w rest h => mctpAck_places hon (State.bmcOpen_of hrom hs) h⟩
  · have hopen := State.pldmOpen_of hrom hrec
    refine ⟨?_, fun n x hx => ?_, fun n hx => ?_, ?_⟩
    · exact .of_act_eq (exec_pldmBase ..) hon ((State.when_pos hopen _).trans (if_pos rfl)) rfl rfl
    · exact (pldmPlatformMonitoring_answers hon hopen n).imp (fun t h => by rw [h, hx])
    · exact (pldmPlatformMonitoring_answers hon hopen n).imp (fun t h => by rw [h, hx])
    · exact .of_act_eq (exec_pldmFruData ..) hon (State.when_pos hopen _) rfl rfl

end Sys2Proof.Machine
end

section
/-! SUPPORT. Mailbox accesses and doorbells (R355, R360, R361, R363, R365, R371, R372, R466, R467). -/

namespace Sys2Proof.Machine

variable {s t u : State} {m : Foot} {c p : Nat} {v w : W64}

theorem exec_mbxInWrite (c : Nat) (w : W64) (s : State) : exec (.mbxInWrite c w) s = execMbxInWrite c w s := rfl
theorem exec_mbxOutRead (c : Nat) (s : State) : exec (.mbxOutRead c) s = execMbxOutRead c s := rfl
theorem exec_descTail (part : Sys2Proof.Part) (v : W64) (s : State) : exec (.descTail part v) s = execDescTail part v s := rfl
theorem exec_rqTail (p : Nat) (part : Sys2Proof.Part) (v : W64) (s : State) : exec (.rqTail p part v) s = execRqTail p part v s := rfl
theorem exec_outHead (p : Nat) (v : W64) (s : State) : exec (.outHead p v) s = execOutHead p v s := rfl
theorem exec_noticeHead (part : Sys2Proof.Part) (v : W64) (s : State) : exec (.noticeHead part v) s = execNoticeHead part v s := rfl

/-- What holds is not shut out. -/
theorem not_bnot_eq_true {b : Bool} (h : b = true) : ¬(!b) = true := by simp [h]

/-! ## Latched halves (R467) -/

/-- The latched halves of 32-bit reads replaced. -/
def State.withLatches (s : State) (l : Sparse (Option HalfLatch)) : State := { s with hif := { s.hif with latches := l } }

/-- An access of a channel cancels at most a latched half. -/
theorem State.unlatchChan_eq (s : State) (c : Nat) : ∃ l, s.unlatchChan c = s.withLatches l := by
  unfold State.unlatchChan
  split
  · exact ⟨_, rfl⟩
  · split
    · exact ⟨_, rfl⟩
    · exact ⟨s.hif.latches, rfl⟩

/-! ## The mailbox -/

/-- A channel of the device that, where it is a partition's, lies behind an open window (R355). -/
def State.reaches (s : State) (c : Nat) : Prop := c < 22 ∧ (2 ≤ c → c < 18 → s.vfOpen (c - 2) = true)

/-- The test a mailbox access makes of its channel's window passes. -/
theorem State.reaches.not_shut (h : s.reaches c) (l : Sparse (Option HalfLatch)) :
    ¬(decide (2 ≤ c ∧ c < 18) && !((s.withLatches l).vfOpen (c - 2))) = true := by
  have hopen : 2 ≤ c → c < 18 → (s.withLatches l).vfOpen (c - 2) = true := h.2
  simpa using hopen

/-- A word written to a channel that is reached arrives there. -/
theorem mbxInWrite_arrives {P : State → Prop} (hon : s.pwr.off = false) (hc : s.reaches c)
    (h : ∀ l, ∃ t, (s.withLatches l).arrive c w = t ∧ Within { chans := true, hif := true } s t ∧ P t) :
    Answers (.mbxInWrite c w) s { chans := true, hif := true } P := by
  obtain ⟨l, hl⟩ := s.unlatchChan_eq c
  obtain ⟨t, harrive, hw, hP⟩ := h l
  refine .of_act_eq (exec_mbxInWrite c w s) hon ?_ hw hP
  dsimp only
  rw [hl, if_neg (Nat.not_le.2 hc.1), if_neg (hc.not_shut l), harrive]

/-- A word that the channel can take is stored, and waits. -/
theorem mbxInWrite_stores (hon : s.pwr.off = false) (hc : s.reaches c) (hfree : (s.chan c).inFull = false)
    (hok : s.wordReason c w = none) :
    Answers (.mbxInWrite c w) s { chans := true, hif := true } (fun t =>
      s.SetsChan t c ((s.chan c).store w) ∧ t.hif = { s.hif with latches := t.hif.latches }) :=
  mbxInWrite_arrives hon hc (fun l => ⟨_, State.arrive_free (s := s.withLatches l) hfree hok,
    Within.trans (t := s.withLatches l) rfl (.updChan _ _ _), .updChan _, rfl⟩)

/-- A word that finds another waiting is discarded, with in_overrun set. -/
theorem mbxInWrite_overruns (hon : s.pwr.off = false) (hc : s.reaches c) (hfull : (s.chan c).inFull = true) :
    Answers (.mbxInWrite c w) s { chans := true, hif := true } (fun t => s.SetsChan t c (s.chan c).overran) :=
  mbxInWrite_arrives hon hc (fun l => ⟨_, State.arrive_full (s := s.withLatches l) hfull,
    Within.trans (t := s.withLatches l) rfl (.updChan _ _ _), .updChan _⟩)

/-- The word that a read of MBX_OUT returns. -/
def State.returns (s : State) (w : W64) : State := { s with hif := { s.hif with readData := w } }

/-- A read of MBX_OUT with nothing queued returns the word and clears the register. -/
theorem mbxOutRead_clears (hon : s.pwr.off = false) (hc : s.reaches c) (hq : (s.chan c).queue = []) :
    Answers (.mbxOutRead c) s { chans := true, hif := true } (fun t =>
      t.hif.readData = (s.chan c).outWord ∧ s.SetsChan t c (s.chan c).taken) := by
  obtain ⟨l, hl⟩ := s.unlatchChan_eq c
  have hnone : takeWord s.boot.ready ((((s.withLatches l).returns (s.chan c).outWord).updChan c Chan.taken).chan c).queue = none := by
    rw [State.chan_updChan]
    exact congrArg _ hq
  refine .of_act_eq (t := ((s.withLatches l).returns (s.chan c).outWord).updChan c Chan.taken) (exec_mbxOutRead c s) hon ?_
    (Within.trans (t := (s.withLatches l).returns (s.chan c).outWord) rfl (.updChan _ _ _)) ⟨rfl, .updChan _⟩
  dsimp only
  rw [hl, if_neg (Nat.not_le.2 hc.1), if_neg (hc.not_shut l)]
  exact State.pump_none hnone

/-! ## The descriptor and notice rings -/

/-- DESC_TAIL moved. -/
def State.setDescTail (s : State) (n : W32) : State := { s with hif := { s.hif with descTail := n } }

/-- A tail that neither overruns nor withdraws (R360). -/
def State.takesTail (s : State) (n : W32) : Prop :=
  (n - s.hif.descHead).toNat ≤ s.hif.descEntries.toNat ∧ (n - s.hif.descTail).toNat ≤ s.hif.descEntries.toNat

/-- While the engine runs, a legal tail is taken, and the entries are fetched later. -/
theorem descTail_taken (hon : s.pwr.off = false) (hopen : s.blockOpen = true) (hn : s.takesTail (v.truncate 32)) (hrun : s.held = false) :
    Answers (.descTail .whole v) s { hif := true } (fun t =>
      t.hif = { s.hif with descTail := v.truncate 32, latches := t.hif.latches }) := by
  exact .of_act_eq (t := (s.unlatch 0).setDescTail (v.truncate 32)) (exec_descTail ..) hon
    ((if_neg (not_bnot_eq_true hopen)).trans ((if_pos hn).trans (if_neg (ne_true_of_eq_false hrun)))) rfl rfl

/-- Any other tail sets tail_error. -/
theorem descTail_error (hon : s.pwr.off = false) (hopen : s.blockOpen = true) (hn : ¬s.takesTail (v.truncate 32)) :
    Answers (.descTail .whole v) s { hif := true } (fun t => t.hif = { s.hif with descTailErr := true, latches := t.hif.latches }) := by
  exact .of_act_eq (t := { s.unlatch 0 with hif := { (s.unlatch 0).hif with descTailErr := true } }) (exec_descTail ..) hon
    ((if_neg (not_bnot_eq_true hopen)).trans (if_neg hn)) rfl rfl

/-- NOTICE_HEAD is taken as written. -/
theorem noticeHead_taken (hon : s.pwr.off = false) (hopen : s.blockOpen = true) :
    Answers (.noticeHead .whole v) s { hif := true } (fun t =>
      t.hif = { s.hif with notHead := v.truncate 32, latches := t.hif.latches }) :=
  .of_act_eq (t := { s.unlatch 0 with hif := { (s.unlatch 0).hif with notHead := v.truncate 32 } }) (exec_noticeHead ..) hon
    (if_pos hopen) rfl rfl

/-! ## The rings of an owner -/

/-- The rings of one owner changed alone: they read `r`, and every other owner is as before. -/
structure State.SetsRings (s t : State) (p : Nat) (r : Rings) : Prop where
  here : t.part p = { s.part p with rings := r }
  others : ∀ q, q ≠ p → t.part q = s.part q

theorem State.SetsRings.refl (s : State) (p : Nat) : s.SetsRings s p (s.part p).rings := ⟨rfl, fun _ _ => rfl⟩

theorem State.SetsRings.of_parts {r : Rings} (h : s.SetsRings t p r) (hu : u.parts = t.parts := by rfl) : s.SetsRings u p r := by
  have hpart : ∀ q, u.part q = t.part q := fun q => by unfold State.part; rw [hu]
  exact ⟨(hpart p).trans h.here, fun q hq => (hpart q).trans (h.others q hq)⟩

/-- The rings changed once more. -/
theorem State.SetsRings.updRings {r : Rings} (h : s.SetsRings t p r) (f : Rings → Rings) : s.SetsRings (t.updRings p f) p (f r) := by
  refine ⟨?_, fun q hq => (t.part_updPart_ne _ hq).trans (h.others q hq)⟩
  rw [State.updRings, State.part_updPart, h.here]

theorem State.SetsRings.rings {r : Rings} (h : s.SetsRings t p r) : (t.part p).rings = r := congrArg Part.rings h.here

theorem Within.updRings (s : State) (p : Nat) (f : Rings → Rings) (hm : m.parts = true := by rfl) : Within m s (s.updRings p f) :=
  .updPart s p _ hm

/-- The rings of an owner changed after its access cancelled a latched half. -/
theorem State.SetsRings.doorbell (s : State) (p : Nat) (f : Rings → Rings) :
    s.SetsRings ((s.unlatchOwner p).updRings p f) p (f (s.part p).rings) :=
  (State.SetsRings.of_parts (u := s.unlatchOwner p) (.refl s p)).updRings f

theorem Within.doorbell (s : State) (p : Nat) (f : Rings → Rings) :
    Within { parts := true, hif := true } s ((s.unlatchOwner p).updRings p f) :=
  (Within.unlatch s _).trans (.updRings _ _ _)

/-- A request tail is taken as written. -/
theorem rqTail_taken (hon : s.pwr.off = false) (hopen : s.ownerOpen p = true) :
    Answers (.rqTail p .whole v) s { parts := true, hif := true } (fun t =>
      s.SetsRings t p { (s.part p).rings with rqTail := v.truncate 32 }) :=
  .of_act_eq (t := (s.unlatchOwner p).updRings p (fun q => { q with rqTail := v.truncate 32 })) (exec_rqTail ..) hon
    (if_neg (not_bnot_eq_true hopen)) (.doorbell _ _ _) (.doorbell _ _ _)

/-- An empty spill has nothing to drain. -/
theorem State.drain_of_empty (h : (s.part p).rings.spill = []) (fuel : Nat) : s.drain p fuel = s := by
  cases fuel with
  | zero => rfl
  | succ fuel =>
    unfold State.drain
    rw [h]

/-- An output head is taken as written; nothing more moves while output has failed or nothing is spilled. -/
theorem outHead_taken (hon : s.pwr.off = false) (hopen : s.ownerOpen p = true)
    (h : (s.part p).rings.outHostErr = true ∨ (s.part p).rings.spill = []) :
    Answers (.outHead p v) s { parts := true, hif := true } (fun t => s.SetsRings t p { (s.part p).rings with outHead := v }) := by
  have hset := State.SetsRings.doorbell s p (fun q => { q with outHead := v })
  refine .of_act_eq (exec_outHead ..) hon ((if_neg (not_bnot_eq_true hopen)).trans ?_) (.doorbell _ _ _) hset
  rcases h with herr | hspill
  · exact if_pos ((congrArg Rings.outHostErr hset.rings).trans herr)
  · exact (congrArg (ite _ _) (State.drain_of_empty ((congrArg Rings.spill hset.rings).trans hspill) _)).trans (ite_self _)

end Sys2Proof.Machine
end

section
/-! The statement of the mailbox and the doorbells settled. -/

namespace Sys2Proof.Machine

/-- Settles O31: each access reaches one channel, one owner's rings or the interface's own registers, and cancels at most a latched half. -/
theorem mailboxAndDoorbells : Obligations.MailboxAndDoorbells := by
  refine ⟨fun s c w hon hc hopen => ?_, fun s v hon hopen => ⟨fun hhead htail hrun => descTail_taken hon hopen ⟨hhead, htail⟩ hrun,
    fun hn => descTail_error hon hopen hn, ?_, fun p hp => ?_, fun p hp herr => ?_, fun p hp _ hspill => ?_, noticeHead_taken hon hopen⟩⟩
  · have hreach : s.reaches c := ⟨hc, hopen⟩
    exact ⟨fun hfree hok => (mbxInWrite_stores hon hreach hfree hok).imp (fun t ⟨h, hhif⟩ => ⟨h.here, h.others, hhif⟩),
      fun hfull => (mbxInWrite_overruns hon hreach hfull).imp (fun t h => ⟨h.here, h.others⟩),
      fun hq => (mbxOutRead_clears hon hreach hq).imp (fun t ⟨hread, h⟩ => ⟨hread, h.here, h.others⟩)⟩
  · exact .of_act_eq (t := s.unlatch 0) (exec_descTail ..) hon rfl (.unlatch _ _) rfl
  · exact (rqTail_taken hon hp).imp (fun t h => ⟨h.here, h.others⟩)
  · exact (outHead_taken hon hp (.inl herr)).imp (fun t h => ⟨h.here, h.others⟩)
  · exact (outHead_taken hon hp (.inr hspill)).imp (fun t h => ⟨by rw [h.rings], by rw [h.rings], h.others⟩)

end Sys2Proof.Machine
end

section
/-! SUPPORT. The request rings (R361–R363, R366, R367): a record fetched, a request pending with its notice, an output write that failed. -/

namespace Sys2Proof.Machine

variable {s t u : State} {m : Foot} {p : Nat} {e : PendReq}

theorem exec_requestFetch (err : Bool) (s : State) : exec (.requestFetch err) s = execRequestFetch err s := rfl
theorem exec_requestPending (p : Nat) (s : State) : exec (.requestPending p) s = execRequestPending p s := rfl
theorem exec_outputWriteError (p : Nat) (s : State) : exec (.outputWriteError p) s = execOutputWriteError p s := rfl

/-- A notice is written to the host and counted, with an interrupt or none; it reaches nothing else. -/
theorem State.notice_eq (s : State) (p : Nat) (e : PendReq) : ∃ host irqs, s.notice p e = { s with
    host := host, hif := { s.hif with notTail := s.hif.notTail + 1, irqs := irqs } } := by
  unfold State.notice
  dsimp only
  split
  · exact ⟨_, _, rfl⟩
  · exact ⟨_, s.hif.irqs, rfl⟩

/-- A request's notice moves the notice tail, and leaves the rings. -/
theorem State.notice_spec (s : State) (p : Nat) (e : PendReq) :
    Within { host := true, hif := true } s (s.notice p e) ∧ (s.notice p e).parts = s.parts ∧
    (s.notice p e).hif.notTail = s.hif.notTail + 1 := by
  obtain ⟨host, irqs, he⟩ := s.notice_eq p e
  rw [he]
  exact ⟨rfl, rfl, rfl⟩

/-! ## REQUEST_FETCH -/

/-- The request ring of an author disabled by a completion error (R383). -/
def Rings.failRequests (q : Rings) : Rings := { q with rqEnable := false, rqHostErr := true }

/-- A completion error disables the ring of the author whose turn it is. -/
theorem requestFetch_fails (hon : s.pwr.off = false) (hroom : s.noticeRoom = true) (hnext : s.nextAuthor = some p) :
    Answers (.requestFetch true) s { parts := true } (fun t => s.SetsRings t p (s.part p).rings.failRequests) := by
  refine .of_act_eq (t := s.updRings p Rings.failRequests) (exec_requestFetch true s) hon ?_ (.updRings _ _ _)
    ((State.SetsRings.refl s p).updRings _)
  rw [if_neg (not_bnot_eq_true hroom), hnext]
  rfl

/-- The head of a request ring moved. -/
def Rings.advance (q : Rings) : Rings := { q with rqHead := q.rqHead + 1 }

/-- A request added to those an author has fetched. -/
def Rings.receive (q : Rings) (e : PendReq) : Rings := { q with reqs := q.reqs ++ [e] }

/-- A record taken from the head of the ring: the head moved, the author's vector fired, the turn passed on. -/
def State.takeHead (s : State) (p : Nat) : State :=
  let u := s.updRings p Rings.advance
  let v := if p < 16 then u.irq (ownerFn p) 2 else u
  { v with hif := { v.hif with nextOwner := (owners.idxOf p + 1) % 17 } }

theorem State.takeHead_spec (s : State) (p : Nat) :
    Within { parts := true, hif := true } s (s.takeHead p) ∧ (s.takeHead p).hif.notTail = s.hif.notTail ∧
    s.SetsRings (s.takeHead p) p (s.part p).rings.advance := by
  have hset := (State.SetsRings.refl s p).updRings Rings.advance
  have hw : Within { parts := true, hif := true } s (s.updRings p Rings.advance) := .updRings _ _ _
  unfold State.takeHead
  dsimp only
  split
  · exact ⟨hw.trans rfl, rfl, hset.of_parts⟩
  · exact ⟨hw.trans rfl, rfl, hset.of_parts⟩

/-- The request that a fetched record without a prompt becomes. -/
def State.headPending (s : State) (p : Nat) : PendReq := { pos := (s.part p).rings.rqHead, req := s.headRequest p, pending := true }

/-- A record of any kind but ADMIT is pending as soon as it is fetched. -/
theorem State.fetchOne_of_not_admit (h : (s.headRequest p).kind ≠ 1) : s.fetchOne p =
    ((s.takeHead p).updRings p (·.receive (s.headPending p))).notice p (s.headPending p) :=
  if_neg h

/-- The next record round-robin is fetched, and becomes pending with its notice. -/
theorem requestFetch_fetches (hon : s.pwr.off = false) (hroom : s.noticeRoom = true) (hnext : s.nextAuthor = some p)
    (hkind : (s.headRequest p).kind ≠ 1) :
    Answers (.requestFetch false) s { host := true, parts := true, hif := true } (fun t =>
      s.SetsRings t p ((s.part p).rings.advance.receive (s.headPending p)) ∧ t.hif.notTail = s.hif.notTail + 1) := by
  obtain ⟨hw, htail, hset⟩ := s.takeHead_spec p
  obtain ⟨hwn, hparts, hnotice⟩ :=
    ((s.takeHead p).updRings p (·.receive (s.headPending p))).notice_spec p (s.headPending p)
  refine .of_act_eq (exec_requestFetch false s) hon ?_ (hw.mono.trans ((Within.updRings _ _ _).trans hwn.mono))
    ⟨(hset.updRings _).of_parts hparts, hnotice.trans (congrArg (· + 1) htail)⟩
  rw [if_neg (not_bnot_eq_true hroom), hnext]
  exact State.fetchOne_of_not_admit hkind

/-! ## REQUEST_PENDING -/

/-- The prompt of a request copied into its author's area (R362). -/
def State.copyPrompt (s : State) (e : PendReq) : State :=
  match e.prompt with
  | some (a, n) => s.wrBytes a (s.rdBytes e.req.promptAddr n)
  | none => s

theorem State.copyPrompt_within (s : State) (e : PendReq) : Within { mem := true, host := true, poison := true } s (s.copyPrompt e) := by
  unfold State.copyPrompt
  split
  · exact .wrBytes _ _ _
  · exact .refl _ _

/-- The requests of an author with those at one position pending. -/
def Rings.pend (q : Rings) (pos : W32) : Rings :=
  { q with reqs := q.reqs.map (fun e => if e.pos = pos then { e with pending := true } else e) }

theorem State.makePending_eq (s : State) (p : Nat) (e : PendReq) :
    s.makePending p e = ((s.copyPrompt e).updRings p (·.pend e.pos)).notice p { e with pending := true } := rfl

/-- The oldest fetched request whose prompt is being copied becomes pending with its notice. -/
theorem requestPending_answers (hon : s.pwr.off = false) (hfind : (s.part p).rings.reqs.find? (fun r => !r.pending) = some e) :
    Answers (.requestPending p) s { mem := true, host := true, poison := true, parts := true, hif := true } (fun t =>
      s.SetsRings t p ((s.part p).rings.pend e.pos) ∧ t.hif.notTail = s.hif.notTail + 1) := by
  have hcopy := s.copyPrompt_within e
  have hset := (State.SetsRings.of_parts (u := s.copyPrompt e) (.refl s p) (hcopy.view State.parts (fun _ _ => rfl))).updRings
    (·.pend e.pos)
  obtain ⟨hwn, hparts, hnotice⟩ := ((s.copyPrompt e).updRings p (·.pend e.pos)).notice_spec p { e with pending := true }
  have htail : (s.copyPrompt e).hif.notTail = s.hif.notTail := hcopy.view (fun v => v.hif.notTail) (fun _ _ => rfl)
  refine .of_act_eq (exec_requestPending p s) hon ?_ (hcopy.mono.trans ((Within.updRings _ _ _).trans hwn.mono))
    ⟨hset.of_parts hparts, hnotice.trans (congrArg (· + 1) htail)⟩
  rw [hfind]
  exact s.makePending_eq p e

/-! ## OUTPUT_WRITE_ERROR -/

/-- The batch last written taken back to the head of the spill, with host_error set (R367). -/
def Rings.takeBack (q : Rings) : Rings :=
  { q with outHostErr := true, spill := q.lastBatch :: q.spill, lastBatch := [], outTail := q.outTail - BitVec.ofNat 64 q.lastBatch.length }

theorem outputWriteError_answers (hon : s.pwr.off = false) (hlast : (s.part p).rings.lastBatch ≠ []) :
    Answers (.outputWriteError p) s { parts := true } (fun t => s.SetsRings t p (s.part p).rings.takeBack) := by
  refine .of_act_eq (exec_outputWriteError p s) hon (if_neg ?_) (.updRings _ _ _) ((State.SetsRings.refl s p).updRings Rings.takeBack)
  simpa using hlast

end Sys2Proof.Machine
end

section
/-! SUPPORT. HOST_COPY and PEER_LOST (R225, R351, R377). -/

namespace Sys2Proof.Machine

variable {s t u : State} {m : Foot} {b : CmdBlock} {c : Copy} {i : CmdInfo} {sec fl : Bool}

theorem exec_hostCopy (b : CmdBlock) (s : State) : exec (.hostCopy b) s = execHostCopy b s := rfl
theorem exec_hostCopyComplete (ch : Nat) (cseq : BitVec 4) (fault : Option Nat) (s : State) :
    exec (.hostCopyComplete ch cseq fault) s = execHostCopyComplete ch cseq fault s := rfl
theorem exec_peerLost (b : CmdBlock) (s : State) : exec (.peerLost b) s = execPeerLost b s := rfl

/-! ## A copy begun -/

/-- The copy that a HOST_COPY of the operator names. -/
def copyOf (b : CmdBlock) : Copy := { channel := b.channel, cseq := b.cseq, src := b.par 0 8, dst := b.par 8 8, len := b.par 16 8 }

/-- A copy added to those in progress. -/
def State.beginCopy (s : State) (c : Copy) : State := { s with hif := { s.hif with copies := s.hif.copies ++ [c] } }

/-- The length of a copy is legal (R377). -/
def copyLength (n : Nat) : Prop := 64 ≤ n ∧ n ≤ 2 ^ 30 ∧ n % 64 = 0

/-- A HOST_COPY of the operator from the host that keeps its rules is opened, and its copy begins. -/
theorem State.hostCopy_begins (ho : chanOwner b.channel = 31) (hlen : copyLength (b.par 16 8))
    (hsrc : inHost (b.par 0 8) (b.par 16 8) = true) (hdst : s.inDramReach 31 (b.par 8 8) (b.par 16 8) = true) :
    s.hostCopy b = (s.opened b 0x40).beginCopy (copyOf b) := by
  obtain ⟨hmin, hmax, hmod⟩ := hlen
  have hreach : ¬(!((inHost (b.par 0 8) (b.par 16 8) && s.inDramReach (chanOwner b.channel) (b.par 8 8) (b.par 16 8)) ||
      (inHost (b.par 8 8) (b.par 16 8) && s.inDramReach (chanOwner b.channel) (b.par 0 8) (b.par 16 8)))) = true := by
    simp [ho, hsrc, hdst]
  have hlegal : ¬(b.par 16 8 < 64 ∨ 2 ^ 30 < b.par 16 8 ∨ b.par 16 8 % 64 ≠ 0) := by omega
  unfold State.hostCopy
  dsimp only
  rw [if_neg hreach, if_neg hlegal]
  rfl

/-- An accepted HOST_COPY of the operator stays open as a copy in progress. -/
theorem hostCopy_answers (hon : s.pwr.off = false) (hch : b.channel < 2) (hacc : s.accepts ⟨0x40, false, [0, 1] ++ vfChans⟩ false false b)
    (hlen : copyLength (b.par 16 8)) (hsrc : inHost (b.par 0 8) (b.par 16 8) = true)
    (hdst : s.inDramReach 31 (b.par 8 8) (b.par 16 8) = true) :
    Answers (.hostCopy b) s { nv := true, fab := true, chans := true, hif := true } (fun t =>
      t.hif.copies = s.hif.copies ++ [copyOf b]) := by
  have hop : b.channel ∈ [0, 1, 18] := by
    have h01 : b.channel = 0 ∨ b.channel = 1 := by omega
    rcases h01 with h | h <;> simp [h]
  refine .of_accepted (exec_hostCopy b s) hon hacc hop (fun u hu => ?_)
  have hreach : u.inDramReach 31 (b.par 8 8) (b.par 16 8) = true := (hu.view (State.inDramReach · 31 _ _) (fun _ _ => rfl)).trans hdst
  have hcopies : (u.opened b 0x40).hif.copies = s.hif.copies :=
    ((u.opened_says b 0x40).view (fun v => v.hif.copies) (fun _ _ _ _ => rfl)).trans (hu.view (fun v => v.hif.copies) (fun _ _ => rfl))
  rw [State.hostCopy_begins (chanOwner_eq_operator hop) hlen hsrc hreach]
  exact ⟨(u.opened_within b 0x40).mono.trans rfl, congrArg (· ++ [copyOf b]) hcopies⟩

/-! ## A copy complete -/

/-- A copy taken from those in progress. -/
def State.dropCopy (s : State) (c : Copy) : State := { s with hif := { s.hif with copies := s.hif.copies.filter (fun k => k != c) } }

/-- HOST_COPY_COMPLETE of a copy in progress: all its bytes moved, and its COMPLETE sent. -/
theorem hostCopyComplete_moves {P : State → Prop} (hon : s.pwr.off = false)
    (hfind : s.hif.copies.find? (fun k => decide (k.channel = c.channel ∧ k.cseq = c.cseq)) = some c)
    (hw : Within m s (s.dropCopy c)) (hmove : Within m (s.dropCopy c) ((s.dropCopy c).moveBytes c c.len))
    (hsay : Within m ((s.dropCopy c).moveBytes c c.len) (((s.dropCopy c).moveBytes c c.len).complete c.channel 0x40 c.cseq 0 0))
    (hP : P (((s.dropCopy c).moveBytes c c.len).complete c.channel 0x40 c.cseq 0 0))
    (hM : ∀ a b, State.only { mem := true, host := true, poison := true, fab := true, chans := true, hif := true } a (State.only m a b) =
      State.only m a b := by intros; rfl) :
    Answers (.hostCopyComplete c.channel c.cseq none) s m P := by
  refine .of_act_eq (exec_hostCopyComplete ..) hon ?_ (hw.trans (hmove.trans hsay)) hP hM
  rw [hfind]
  rfl

/-- A copy from the host leaves the source's bytes at the destination in device memory, and every other byte there. -/
theorem hostCopyComplete_fromHost (hon : s.pwr.off = false)
    (hfind : s.hif.copies.find? (fun k => decide (k.channel = c.channel ∧ k.cseq = c.cseq)) = some c)
    (hlo : 0x020000000000 ≤ c.src) (hhi : c.src < 0x030000000000) :
    Answers (.hostCopyComplete c.channel c.cseq none) s { mem := true, poison := true, fab := true, chans := true, hif := true } (fun t =>
      ∀ a, t.mem.read a = if c.dst ≤ a ∧ a < c.dst + c.len then s.host.read (a - c.dst + (c.src - 0x020000000000)) else s.mem.read a) := by
  have hmove : (s.dropCopy c).moveBytes c c.len = { s.dropCopy c with
      mem := Sparse.copyRange 0#8 s.mem s.host (c.src - 0x020000000000) c.dst c.len
      poison := s.poison.filter (fun x => !decide (c.dst ≤ x ∧ x < c.dst + c.len)) } := if_pos ⟨hlo, hhi⟩
  refine hostCopyComplete_moves hon hfind rfl (by rw [hmove]; rfl) (State.complete_within _ _ _ _ _ _).mono (fun a => ?_)
  rw [State.complete_mem, hmove]
  exact Sparse.get_copyRange _ _ _ _ _ _

/-- A copy to the host leaves the source's bytes at the destination in host memory, and every other byte there. -/
theorem hostCopyComplete_toHost (hon : s.pwr.off = false)
    (hfind : s.hif.copies.find? (fun k => decide (k.channel = c.channel ∧ k.cseq = c.cseq)) = some c) (hsrc : c.src < 0x020000000000) :
    Answers (.hostCopyComplete c.channel c.cseq none) s { host := true, fab := true, chans := true, hif := true } (fun t =>
      ∀ a, t.host.read a = if c.dst - 0x020000000000 ≤ a ∧ a < c.dst - 0x020000000000 + c.len then
        s.mem.read (a - (c.dst - 0x020000000000) + c.src) else s.host.read a) := by
  have hmove : (s.dropCopy c).moveBytes c c.len = { s.dropCopy c with
      host := Sparse.copyRange 0#8 s.host s.mem c.src (c.dst - 0x020000000000) c.len } := if_neg (fun h => Nat.not_le.2 hsrc h.1)
  refine hostCopyComplete_moves hon hfind rfl (by rw [hmove]; rfl) (State.complete_within _ _ _ _ _ _).mono (fun a => ?_)
  rw [(State.complete_says _ _ _ _ _ _).view State.host (fun _ _ _ _ => rfl), hmove]
  exact Sparse.get_copyRange _ _ _ _ _ _

/-! ## A command that the fabric manager may send too (R382) -/

/-- What the arrival of an accepted command can change: the channel, the sending inbox's signal word, and the counter recorded. -/
def accepting : Foot := { nv := true, mem := true, host := true, poison := true, parts := true, chans := true }

theorem State.takeIn_within_accepting (s : State) (c : Nat) : Within accepting s (s.takeIn c) := by
  unfold State.takeIn
  have hin := Within.updChan (m := accepting) s c (fun h => { h with inFull := false, inCnt := h.inCnt + 1 })
  dsimp only
  split
  · exact hin.trans (.wrBytes _ _ _)
  · split
    · exact hin.trans (.wrBytes _ _ _)
    · exact hin

theorem State.recordCounter_within_accepting (s : State) (b : CmdBlock) : Within accepting s (s.recordCounter b) := by
  unfold State.recordCounter
  split
  · split
    · exact .updPart _ _ _
    · rfl
  · exact .refl _ _

/-- An accepted command runs its own checks on a state that its arrival has changed, on whatever channel it came. -/
theorem State.accept_accepting (h : s.accepts i sec fl b) (k : State → State) :
    ∃ u, Within accepting s u ∧ s.accept i sec fl b k = k u := by
  refine ⟨_, (s.takeIn_within_accepting b.channel).trans ((s.takeIn b.channel).recordCounter_within_accepting b), ?_⟩
  unfold State.accept State.acceptBlock
  rw [h]

/-! ## A lost peer -/

/-- A peer recorded as lost. -/
def State.recordLost (s : State) (d : Nat) : State :=
  { s with fab := { s.fab with lost := d :: s.fab.lost.filter (fun x => decide (x ≠ d)) } }

/-- The group broken that held a peer: it must be formed again (R351). -/
def State.breakGroup (s : State) (d : Nat) : State :=
  { s with fab := { s.fab with regroup := true, aligned := false, peers := s.fab.peers.filter (fun x => decide (x ≠ d)) } }

/-- The ring sequences with pages on the device due to end FAULT_ABORTED (R225). -/
def State.endRingSeqs (s : State) : State :=
  (s.seqsWhere (fun q => decide (2 ≤ q.state.toNat ∧ q.state.toNat ≤ 5 ∧ 2 ≤ q.req.ringSize ∧ 0 < q.length))).foldl
    (fun (u : State) i => u.updSeq i (fun q => { q with endDue := 0x19 })) s

theorem State.endRingSeqs_within (s : State) : Within { seqs := true } s s.endRingSeqs := .foldl _ (fun _ _ => .updSeq _ _ _) _ _

/-- Whether the device's group holds a peer. -/
def State.groupHas (s : State) (d : Nat) : Bool := s.fab.member && (s.fab.peers.contains d || decide (s.fab.master.toNat = d))

/-- What the loss of a peer does to the fabric and to the sequences. -/
def State.losePeer (s : State) (d : Nat) : State :=
  if (s.recordLost d).groupHas d then ((s.recordLost d).breakGroup d).endRingSeqs else s.recordLost d

theorem State.losePeer_within (s : State) (d : Nat) : Within { seqs := true, fab := true } s (s.losePeer d) := by
  have hlost : Within { seqs := true, fab := true } s (s.recordLost d) := rfl
  unfold State.losePeer
  split
  · exact hlost.trans (Within.trans (t := (s.recordLost d).breakGroup d) rfl (State.endRingSeqs_within _).mono)
  · exact hlost

/-- The peer is recorded as lost, and the group that held it is broken. -/
theorem State.losePeer_fab (s : State) (d : Nat) : d ∈ (s.losePeer d).fab.lost ∧
    (s.groupHas d = true → (s.losePeer d).fab.regroup = true ∧ (s.losePeer d).fab.aligned = false) := by
  have hsame : (s.recordLost d).groupHas d = s.groupHas d := rfl
  unfold State.losePeer
  rw [hsame]
  split
  · have hfab : (((s.recordLost d).breakGroup d).endRingSeqs).fab = ((s.recordLost d).breakGroup d).fab :=
      (State.endRingSeqs_within _).view State.fab (fun _ _ => rfl)
    rw [hfab]
    exact ⟨List.mem_cons_self, fun _ => ⟨rfl, rfl⟩⟩
  · next hno => exact ⟨List.mem_cons_self, fun h => absurd h hno⟩

/-- PEER_LOST of another device of the basin, by the operator or by the fabric manager. -/
theorem peerLost_answers (hon : s.pwr.off = false) (hacc : s.accepts ⟨0x48, false, [0, 20]⟩ false false b) (hd : b.par 0 2 ≤ 1023)
    (hself : b.par 0 2 ≠ s.device) :
    Answers (.peerLost b) s
      { nv := true, mem := true, host := true, poison := true, seqs := true, parts := true, fab := true, chans := true, hif := true } (fun t =>
      b.par 0 2 ∈ t.fab.lost ∧ (s.groupHas (b.par 0 2) = true → t.fab.regroup = true ∧ t.fab.aligned = false)) := by
  obtain ⟨u, hu, hk⟩ := State.accept_accepting hacc (fun t =>
    if 1023 < b.par 0 2 ∨ b.par 0 2 = t.device then t.result b 0x48 4
    else ((t.opened b 0x48).losePeer (b.par 0 2)).complete b.channel 0x48 b.cseq 0 0)
  have hdev : u.device = s.device := hu.view State.device (fun _ _ => rfl)
  have hlegal : ¬(1023 < b.par 0 2 ∨ b.par 0 2 = u.device) := by rw [hdev]; omega
  rw [if_neg hlegal] at hk
  have hopen := u.opened_says b 0x48
  have hdone := ((u.opened b 0x48).losePeer (b.par 0 2)).complete_says b.channel 0x48 b.cseq 0 0
  obtain ⟨hlost, hgroup⟩ := (u.opened b 0x48).losePeer_fab (b.par 0 2)
  have hhas : (u.opened b 0x48).groupHas (b.par 0 2) = s.groupHas (b.par 0 2) :=
    (hopen.view (State.groupHas · (b.par 0 2)) (fun _ _ _ _ => rfl)).trans (hu.view (State.groupHas · (b.par 0 2)) (fun _ _ => rfl))
  refine .of_act_eq (exec_peerLost b s) hon hk
    (hu.mono.trans (hopen.within.mono.trans ((State.losePeer_within _ _).mono.trans hdone.within.mono))) ⟨?_, fun h => ?_⟩
  · rw [hdone.view (fun v => v.fab.lost) (fun _ _ _ _ => rfl)]
    exact hlost
  · rw [hdone.view (fun v => v.fab.regroup) (fun _ _ _ _ => rfl), hdone.view (fun v => v.fab.aligned) (fun _ _ _ _ => rfl)]
    exact hgroup (hhas.trans h)

end Sys2Proof.Machine
end

section
/-! The statement of requests, copies and lost peers settled. -/

namespace Sys2Proof.Machine

/-- Settles O33: a request command changes one author's rings and the notice tail, a copy the bytes of its destination alone, a lost peer the
fabric and the sequences of rings. -/
theorem requestsAndCopies : Obligations.RequestsAndCopies := by
  refine ⟨fun s hon => ⟨fun p hroom hnext => ?_, fun p hroom hnext hkind => ?_, fun p e hfind => ?_, fun p hlast => ?_⟩,
    fun s hon => ⟨fun b hch hacc hmin hmax hmod hsrc hdst => hostCopy_answers hon hch hacc ⟨hmin, hmax, hmod⟩ hsrc hdst,
      fun c hfind hlo hhi => ?_, fun c hfind hsrc => ?_, fun b hacc hd hself => ?_⟩⟩
  · exact (requestFetch_fails hon hroom hnext).imp (fun t h => ⟨h.here, h.others⟩)
  · exact (requestFetch_fetches hon hroom hnext hkind).imp (fun t ⟨h, htail⟩ => 
      ⟨congrArg Rings.rqHead h.rings, congrArg Rings.reqs h.rings, htail, h.others⟩)
  · exact (requestPending_answers hon hfind).imp (fun t ⟨h, htail⟩ => ⟨congrArg Rings.reqs h.rings, htail, h.others⟩)
  · exact (outputWriteError_answers hon hlast).imp (fun t h => 
      ⟨congrArg Rings.outHostErr h.rings, congrArg Rings.spill h.rings, congrArg Rings.lastBatch h.rings, h.others⟩)
  · refine (hostCopyComplete_fromHost hon hfind hlo hhi).imp (fun t h => ⟨fun i hi => ?_, fun a ha => (h a).trans (if_neg ha)⟩)
    rw [h, if_pos (by omega), Nat.add_sub_cancel_left, Nat.add_comm]
  · refine (hostCopyComplete_toHost hon hfind hsrc).imp (fun t h => ⟨fun i hi => ?_, fun a ha => (h a).trans (if_neg ha)⟩)
    rw [h, if_pos (by omega), Nat.add_sub_cancel_left, Nat.add_comm]
  · refine (peerLost_answers hon hacc hd hself).imp (fun t ⟨hlost, hgroup⟩ => ⟨hlost, fun hmem hpeer => hgroup ?_⟩)
    simp [State.groupHas, hmem, hpeer]

end Sys2Proof.Machine
end

section
/-! SUPPORT. What the resets of partitions leave of the link and of the descriptors fetched, and what they do while the engine runs
(R248, R249, R396, R397, R459). -/

namespace Sys2Proof.Machine

variable {s t u : State} {p : Nat} {ps : List Nat}

/-! ## The link and the fetched descriptors, in every operation of a partition reset -/

/-- What a reset of the link or of the physical function sets and no partition reset changes: the descriptors fetched, the link's width,
PERST_N. -/
abbrev State.link (s : State) : List RawDesc × BitVec 4 × Bool := (s.srv.fetched, s.hif.linkWidth, s.hif.perst)

/-- A fold of steps that each leave a view of the state leaves it. -/
theorem foldl_keeps {α β : Type} {g : State → α → State} (v : State → β) (l : List α) (s : State)
    (hg : ∀ s a, v (g s a) = v s := by intros; rfl) : v (l.foldl g s) = v s := by
  induction l generalizing s with
  | nil => rfl
  | cons a l ih => exact (ih _).trans (hg _ _)

theorem State.Says.link (h : s.Says t) : t.link = s.link := h.view State.link (fun _ _ _ _ => rfl)

theorem State.freePrefix_link (s : State) (x : Nat) : (s.freePrefix x).link = s.link := by
  unfold State.freePrefix
  dsimp only
  split <;> rfl

theorem State.releaseFrames_link (s : State) (i : Nat) : (s.releaseFrames i).link = s.link := by
  unfold State.releaseFrames
  extract_lets q s1 s2 s3 s4 src s5
  have h1 : s1.link = s.link := foldl_keeps State.link _ _
  have h2 : s2.link = s1.link := foldl_keeps State.link _ _
  have h3 : s3.link = s2.link := foldl_keeps State.link _ _
  have h5 : s5.link = s.link := h3.trans (h2.trans h1)
  split
  · exact (State.freePrefix_link _ _).trans h5
  · exact h5

theorem State.renumber_link (s : State) (p : Nat) : (s.renumber p).link = s.link := foldl_keeps State.link _ _

theorem State.endSeq_link (s : State) (i : Nat) (st : Byte) (inLane : Bool) : (s.endSeq i st inLane).link = s.link := by
  unfold State.endSeq
  extract_lets q h s1 s2 s3 src s4 s5
  have h1 : s1.link = s.link := by cases inLane <;> rfl
  have h2 : s2.link = s1.link := State.releaseFrames_link _ _
  have h3 : s3.link = s2.link := by
    show (if q.adpBound then _ else _ : State).link = _
    split <;> rfl
  have h5 : s5.link = s.link := h3.trans (h2.trans h1)
  split
  · exact (State.renumber_link _ _).trans h5
  · exact h5

theorem State.policyCheck_link (s : State) (p : Nat) : (s.policyCheck p).link = s.link := by
  refine foldl_keeps State.link _ _ (fun t i => ?_)
  dsimp only
  split
  · exact State.endSeq_link _ _ _ _
  · rfl

theorem State.setConfig_link (p : Nat) (s : State) (e : PartCfg × Nat × BitVec 4) : (State.setConfig p s e).link = s.link := by
  unfold State.setConfig
  extract_lets c old s1 src s2 s3
  have h3 : s3.link = s.link := by
    show (if c.minKeyRank ≠ old.minKeyRank ∨ c.queryFmt ≠ old.queryFmt then _ else _ : State).link = _
    split
    · exact State.policyCheck_link s2 p
    · rfl
  exact (State.complete_says _ _ _ _ _ _).link.trans ((State.event_says _ _ _ _).link.trans h3)

theorem State.applyConfig_link (s : State) (p : Nat) : (s.applyConfig p).link = s.link :=
  foldl_keeps State.link _ _ (fun t e => State.setConfig_link p t e)

theorem State.cancelAll_link (s : State) (p : Nat) : (s.cancelAll p).link = s.link := by
  unfold State.cancelAll
  extract_lets own s1
  have h1 : s1.link = s.link := foldl_keeps State.link _ _ (fun t i => State.endSeq_link t i _ _)
  refine (foldl_keeps State.link _ _ (fun t i => ?_)).trans h1
  extract_lets q t1
  show t1.link = t.link
  show (if q.handleHeld then _ else _ : State).link = _
  split
  · exact foldl_keeps State.link _ _
  · rfl

theorem State.applyReset_link (s : State) (p : Nat) : (s.applyReset p).link = s.link := by
  unfold State.applyReset
  split
  · rfl
  · extract_lets s0 c wasBlocked s1 s2 fab hif nv s3 s4
    have h0 : s0.link = s.link := (State.cancelAll_link _ _).trans (State.applyConfig_link _ _)
    have hfree : s3.link = s.link := h0
    have hslots : s4.link = s.link := hfree
    split
    · exact h0
    · split
      · exact (State.event_says _ _ _ _).link.trans hslots
      · exact hslots

/-! ## A reset requested (R459) -/

/-- A partition's record with a reset that waits: the one that waited already, or one behind the records that wait. -/
def Part.awaitReset (q : Part) : Part := { q with resetDue := some (q.resetDue.getD (false, q.cfgDue.length, [])) }

/-- A partition reset requested, where the partition is not being zeroed. -/
def State.requestReset (s : State) (p : Nat) : State := if (s.part p).zeroing.isSome then s else s.updPart p Part.awaitReset

theorem State.requestReset_of_unzeroed (h : (s.part p).zeroing = none) : s.requestReset p = s.updPart p Part.awaitReset :=
  if_neg (by simp [h])

theorem State.requestReset_within (s : State) (p : Nat) : Within { parts := true } s (s.requestReset p) := .ite (.refl _ _) (.updPart _ _ _)

theorem State.part_requestReset_ne (s : State) {q : Nat} (h : q ≠ p) : (s.requestReset p).part q = s.part q := by
  unfold State.requestReset
  split
  · rfl
  · exact s.part_updPart_ne _ h

/-- What of a record a requested reset does not set is as it was. -/
theorem State.requestReset_keeps {α : Type} {v : Part → α} (hv : ∀ q : Part, v q.awaitReset = v q) (s : State) (p q : Nat) :
    v ((s.requestReset p).part q) = v (s.part q) := by
  by_cases h : q = p
  · subst h
    unfold State.requestReset
    split
    · rfl
    · rw [State.part_updPart, hv]
  · rw [s.part_requestReset_ne h]

/-- The resets of some partitions requested. -/
def State.requestResets (s : State) (ps : List Nat) : State := ps.foldl State.requestReset s

theorem State.requestResets_within (s : State) (ps : List Nat) : Within { parts := true } s (s.requestResets ps) :=
  .foldl _ State.requestReset_within _ _

/-- A partition named, or one whose reset waits already, has a reset waiting, where it is not being zeroed. -/
theorem State.resetDue_requestResets (hz : (s.part p).zeroing = none) (h : p ∈ ps ∨ (s.part p).resetDue.isSome = true) :
    ((s.requestResets ps).part p).resetDue.isSome = true := by
  unfold State.requestResets
  induction ps generalizing s with
  | nil => exact h.resolve_left List.not_mem_nil
  | cons q ps ih =>
    have hz' : ((s.requestReset q).part p).zeroing = none := (State.requestReset_keeps (v := Part.zeroing) (fun _ => rfl) s q p).trans hz
    refine ih hz' ?_
    by_cases e : p = q
    · subst e
      rw [State.requestReset_of_unzeroed hz, State.part_updPart]
      exact .inr rfl
    · rw [s.part_requestReset_ne e]
      exact h.imp_left (fun hmem => (List.mem_cons.1 hmem).resolve_left e)

/-! ## The resets of some partitions -/

/-- In a hold each requested reset is resolved at once. -/
theorem State.resetParts_link (s : State) (ps : List Nat) : (s.resetParts ps).link = s.link := by
  have hreq : (s.requestResets ps).link = s.link := (s.requestResets_within ps).view State.link (fun _ _ => rfl)
  show (if (s.requestResets ps).held then ps.foldl State.applyReset (s.requestResets ps) else s.requestResets ps : State).link = s.link
  split
  · exact (foldl_keeps State.link _ _ State.applyReset_link).trans hreq
  · exact hreq

/-- While the engine runs, they are only requested. -/
theorem State.resetParts_running (h : s.held = false) (ps : List Nat) : s.resetParts ps = s.requestResets ps := by
  have hw := s.requestResets_within ps
  have hrun : ¬(s.requestResets ps).held = true := by
    rw [hw.view State.held (fun _ _ => rfl), h]
    exact Bool.false_ne_true
  refine (congrArg (State.only _ s) (if_neg hrun)).trans ?_
  exact (hw.mono).symm

end Sys2Proof.Machine
end

section
/-! SUPPORT. The resets of the link and of functions (R354, R355, R455, R457, R459). -/

namespace Sys2Proof.Machine

variable {s t u : State} {p : Nat} {kind : BitVec 4}

theorem exec_linkReset (cause : LinkCause) (s : State) : exec (.linkReset cause) s = execLinkReset cause s := rfl
theorem exec_pfFlr (s : State) : exec .pfFlr s = execPfFlr s := rfl
theorem exec_vfFlr (p : Nat) (s : State) : exec (.vfFlr p) s = execVfFlr p s := rfl
theorem exec_vfEnableClear (s : State) : exec .vfEnableClear s = execVfEnableClear s := rfl
theorem exec_vfEnableSet (s : State) : exec .vfEnableSet s = execVfEnableSet s := rfl
theorem exec_perstNDeassert (width : BitVec 4) (s : State) : exec (.perstNDeassert width) s = execPerstNDeassert width s := rfl
theorem exec_pcieLinkUp (width : BitVec 4) (s : State) : exec (.pcieLinkUp width) s = execPcieLinkUp width s := rfl

theorem State.spdm_updSpdm_ne (s : State) {c d : Nat} (f : Spdm → Spdm) (h : d ≠ c) : (s.updSpdm c f).spdm d = s.spdm d := by
  unfold State.spdm State.updSpdm; rw [Sparse.get_upd, if_neg h]

/-! ## The physical function (R457) -/

/-- `u` is `s` with the physical function cleared, and the partitions not yet reset. -/
structure State.FunctionCleared (s u : State) (kind : BitVec 4) : Prop where
  within : Within .functions s u
  boot : u.boot = { s.boot with resetKind := kind }
  eng : u.eng = { s.eng with hold := true }
  mem : u.mem = s.mem.zero hostSyncPage 0x1000
  sync : u.sync.wdogSteps = 4 ∧ u.sync.hmon = [0, 0, 0, 0] ∧ u.sync.mirrorEn = false
  link : u.link = ([], s.hif.linkWidth, s.hif.perst)
  doorbells : u.hif.vfEnable = false ∧ u.hif.descEnable = false ∧ u.hif.descHead = 0 ∧ u.hif.descTail = 0 ∧ u.hif.notEnable = false
  rings : (u.part 31).rings = {}
  chans : u.chan 0 = {} ∧ u.chan 1 = {}
  spdm : u.spdm 0 = {} ∧ u.spdm 1 = {}

/-- A reset of the function clears it, and resets the partitions and the operator's sequences. -/
theorem State.functionReset_clears (s : State) (kind : BitVec 4) :
    ∃ u ps, s.functionReset kind = u.resetParts ps ∧ s.FunctionCleared u kind := by
  unfold State.functionReset
  extract_lets boot hif srv eng s1 s2 s3 s4
  refine ⟨s4, _, rfl, ?_, rfl, rfl, rfl, ⟨rfl, rfl, rfl⟩, rfl, ⟨rfl, rfl, rfl, rfl, rfl⟩, ?_, ⟨?_, ?_⟩, ⟨?_, ?_⟩⟩
  · exact Within.trans (t := s2) rfl rfl
  · exact congrArg Part.rings (s1.part_updPart 31 (fun q => { q with rings := {} }))
  · exact ((s2.updChan 0 (fun _ => {})).chan_updChan_ne (c := 1) (fun _ => {}) (by decide)).trans (s2.chan_updChan 0 (fun _ => {}))
  · exact (s2.updChan 0 (fun _ => {})).chan_updChan 1 (fun _ => {})
  · exact ((s3.updSpdm 0 _).spdm_updSpdm_ne _ (by decide)).trans (s3.spdm_updSpdm 0 _)
  · exact (s3.updSpdm 0 _).spdm_updSpdm 1 _

theorem State.functionReset_within (s : State) (kind : BitVec 4) : Within .functions s (s.functionReset kind) := by
  obtain ⟨u, ps, he, h⟩ := s.functionReset_clears kind
  rw [he]
  exact h.within.trans (Within.only _ u _).mono

/-- What a reset of the function leaves; the link is as it was. -/
theorem State.functionReset_resets (s : State) (kind : BitVec 4) : s.functionsReset kind (s.functionReset kind) ∧
    (s.functionReset kind).hif.linkWidth = s.hif.linkWidth ∧ (s.functionReset kind).hif.perst = s.hif.perst := by
  obtain ⟨u, ps, he, h⟩ := s.functionReset_clears kind
  obtain ⟨hwdog, hmon, hmirror⟩ := h.sync
  have hread : ∀ a, (u.resetParts ps).mem.read a =
      if hostSyncPage ≤ a ∧ a < hostSyncPage + 0x1000 then 0#8 else s.mem.read a := fun a =>
    (congrArg (Memory.read · a) h.mem).trans (Memory.read_zero _ _ _ _)
  have hlink : (u.resetParts ps).link = ([], s.hif.linkWidth, s.hif.perst) := (u.resetParts_link ps).trans h.link
  rw [he]
  refine ⟨⟨h.boot, h.eng, fun a hlo hhi => (hread a).trans (if_pos ⟨hlo, hhi⟩), fun a ha => (hread a).trans (if_neg ha),
    hwdog, hmon, hmirror, congrArg (·.1) hlink, fun hrun => ?_⟩, congrArg (·.2.1) hlink, congrArg (·.2.2) hlink⟩
  have hrunning : u.held = false := (congrArg (fun e : Eng => e.state == 0) h.eng).trans hrun
  have hw := u.requestResets_within ps
  obtain ⟨hvf, hdesc, hhead, htail, hnot⟩ := h.doorbells
  obtain ⟨hchan0, hchan1⟩ := h.chans
  obtain ⟨hspdm0, hspdm1⟩ := h.spdm
  have hhif : (u.requestResets ps).hif = u.hif := hw.view State.hif (fun _ _ => rfl)
  have hrings : ((u.requestResets ps).part 31).rings = (u.part 31).rings :=
    foldl_keeps (fun s => (s.part 31).rings) _ _ (fun s q => State.requestReset_keeps (v := Part.rings) (fun _ => rfl) s q 31)
  rw [State.resetParts_running hrunning, hhif, hrings]
  exact ⟨hvf, hdesc, hhead, htail, hnot, h.rings, (hw.view (State.chan · 0) (fun _ _ => rfl)).trans hchan0,
    (hw.view (State.chan · 1) (fun _ _ => rfl)).trans hchan1, (hw.view (State.spdm · 0) (fun _ _ => rfl)).trans hspdm0,
    (hw.view (State.spdm · 1) (fun _ _ => rfl)).trans hspdm1⟩

/-! ## LINK_RESET and PF_FLR -/

/-- The link down, PERST_N held where it is the cause. -/
def State.linkDown (s : State) (cause : LinkCause) : State :=
  { s with hif := { s.hif with linkWidth := 0, perst := s.hif.perst || decide (cause = .perst) } }

/-- In recovery mode the endpoint alone retrains. -/
theorem linkReset_recovering (hon : s.pwr.off = false) (hrec : s.boot.recovery = true) (cause : LinkCause) :
    Answers (.linkReset cause) s { hif := true } (fun t => t.hif = (s.linkDown cause).hif) :=
  .of_act_eq (t := s.linkDown cause) (exec_linkReset cause s) hon (if_pos hrec) rfl rfl

/-- Out of it a LINK reset takes the link down and resets the functions. -/
theorem linkReset_resets (hon : s.pwr.off = false) (hrec : s.boot.recovery = false) (cause : LinkCause) :
    Answers (.linkReset cause) s .functions (fun t =>
      s.functionsReset 4 t ∧ t.hif.linkWidth = 0 ∧ (cause = .perst → t.hif.perst = true)) := by
  obtain ⟨hreset, hwidth, hperst⟩ := (s.linkDown cause).functionReset_resets 4
  refine .of_act_eq (exec_linkReset cause s) hon (if_neg (ne_true_of_eq_false hrec))
    (Within.trans (t := s.linkDown cause) rfl ((s.linkDown cause).functionReset_within 4)) ⟨hreset, hwidth, fun hcause => ?_⟩
  refine hperst.trans ?_
  simp [State.linkDown, hcause]

theorem pfFlr_resets (hon : s.pwr.off = false) : Answers .pfFlr s .functions (s.functionsReset 5) :=
  .of_act_eq (exec_pfFlr s) hon rfl (s.functionReset_within 5) (s.functionReset_resets 5).1

/-! ## Partitions (R455, R459) -/

/-- VF enable clear. -/
def State.disableVfs (s : State) : State := { s with hif := { s.hif with vfEnable := false } }

/-- VF enable cleared, and the resets of all configured partitions requested. -/
theorem vfEnableClear_running (hon : s.pwr.off = false) (hrun : s.held = false) :
    Answers .vfEnableClear s { parts := true, hif := true } (fun t =>
      t.hif = { s.hif with vfEnable := false } ∧
      ∀ p < 16, s.configured p = true → (s.part p).zeroing = none → (t.part p).resetDue.isSome = true) := by
  have hw := s.disableVfs.requestResets_within s.tenants
  refine .of_act_eq (exec_vfEnableClear s) hon (State.resetParts_running (s := s.disableVfs) hrun _)
    (Within.trans (t := s.disableVfs) rfl hw.mono)
    ⟨hw.view State.hif (fun _ _ => rfl), fun p hp hconf hz => State.resetDue_requestResets hz (.inl ?_)⟩
  exact List.mem_filter.2 ⟨List.mem_range.2 hp, hconf⟩

/-- A VF_FLR requests the reset of its partition alone. -/
theorem vfFlr_running (hon : s.pwr.off = false) (hp : p < 16) (hconf : s.configured p = true) (hrun : s.held = false)
    (hz : (s.part p).zeroing = none) :
    Answers (.vfFlr p) s { parts := true } (fun t => t.part p = (s.part p).awaitReset ∧ ∀ q, q ≠ p → t.part q = s.part q) := by
  have hc : (decide (p < 16) && s.configured p) = true := by simp [hp, hconf]
  have hreq : s.resetParts [p] = s.updPart p Part.awaitReset :=
    (State.resetParts_running hrun _).trans (State.requestReset_of_unzeroed hz)
  exact .of_act_eq (exec_vfFlr p s) hon ((State.when_pos hc _).trans hreq) (.updPart _ _ _)
    ⟨s.part_updPart p _, fun q hq => s.part_updPart_ne _ hq⟩

end Sys2Proof.Machine
end

section
/-! The statement of the resets of the link and of functions settled. -/

namespace Sys2Proof.Machine

/-- Settles O13: a reset of the function clears it and resets the partitions, of which nothing reaches the link or the engine; while the engine
runs the partitions' resets are only requested. -/
theorem linkAndFunctionResets : Obligations.LinkAndFunctionResets := by
  intro s hon
  refine ⟨fun cause hrec => linkReset_recovering hon hrec cause, fun cause hrec => linkReset_resets hon hrec cause, pfFlr_resets hon,
    fun width => ?_, fun width hperst => ?_, ?_, fun hrun => vfEnableClear_running hon hrun, fun p hp hconf hrun hz => ?_⟩
  · exact .of_act_eq (exec_perstNDeassert width s) hon rfl rfl rfl
  · exact .of_act_eq (t := { s with hif := { s.hif with linkWidth := width } }) (exec_pcieLinkUp width s) hon
      (State.when_pos (by rw [hperst]; rfl) _) rfl rfl
  · exact .of_act_eq (exec_vfEnableSet s) hon rfl rfl rfl
  · exact (vfFlr_running hon hp hconf hrun hz).imp (fun t ⟨hdue, hothers⟩ => ⟨congrArg Part.resetDue hdue, hothers⟩)

end Sys2Proof.Machine
end

section
/-! SUPPORT. The committed fields of the locked configuration (R452): register writes and commits leave them. -/

namespace Sys2Proof.Machine

/-- Every part of the locked configuration that is committed in one is committed in another, with the same fields (R452). -/
def Locked.KeptIn (l k : Locked) : Prop :=
  (l.cGlobal = true → k.cGlobal = true ∧ k.wBase = l.wBase ∧ k.wSize = l.wSize) ∧
  (l.cStep = true → k.cStep = true ∧ k.vBase = l.vBase ∧ k.vSize = l.vSize) ∧
  (l.cFabric = true → k.cFabric = true ∧ k.plan = l.plan ∧ k.topo = l.topo)

theorem Locked.KeptIn.refl (l : Locked) : l.KeptIn l := ⟨fun h => ⟨h, rfl, rfl⟩, fun h => ⟨h, rfl, rfl⟩, fun h => ⟨h, rfl, rfl⟩⟩

theorem Locked.KeptIn.of_eq {l k : Locked} (h : k = l) : l.KeptIn k := h ▸ .refl l

/-! ## The three parts changed while they are not committed, or committed -/

/-- Changed fields of a part that is not committed touch no committed field. -/
theorem Locked.KeptIn.withRegion {l : Locked} (h : ¬l.cGlobal = true) (b z : BitVec 10) : l.KeptIn { l with wBase := b, wSize := z } :=
  ⟨fun hc => absurd hc h, fun hc => ⟨hc, rfl, rfl⟩, fun hc => ⟨hc, rfl, rfl⟩⟩

theorem Locked.KeptIn.withVarea {l : Locked} (h : ¬l.cStep = true) (b z : BitVec 10) : l.KeptIn { l with vBase := b, vSize := z } :=
  ⟨fun hc => ⟨hc, rfl, rfl⟩, fun hc => absurd hc h, fun hc => ⟨hc, rfl, rfl⟩⟩

theorem Locked.KeptIn.withFabric {l : Locked} (h : ¬l.cFabric = true) (p : W32) (t : BitVec 33) : l.KeptIn { l with plan := p, topo := t } :=
  ⟨fun hc => ⟨hc, rfl, rfl⟩, fun hc => ⟨hc, rfl, rfl⟩, fun hc => absurd hc h⟩

/-- A commit changes no field that a commit locks. -/
theorem Locked.KeptIn.commitGlobal (l : Locked) : l.KeptIn { l with cGlobal := true } :=
  ⟨fun _ => ⟨rfl, rfl, rfl⟩, fun hc => ⟨hc, rfl, rfl⟩, fun hc => ⟨hc, rfl, rfl⟩⟩

theorem Locked.KeptIn.commitStep (l : Locked) : l.KeptIn { l with cStep := true } :=
  ⟨fun hc => ⟨hc, rfl, rfl⟩, fun _ => ⟨rfl, rfl, rfl⟩, fun hc => ⟨hc, rfl, rfl⟩⟩

theorem Locked.KeptIn.commitFabric (l : Locked) : l.KeptIn { l with cFabric := true, recPlan := some l.plan, recTopo := l.topo } :=
  ⟨fun hc => ⟨hc, rfl, rfl⟩, fun hc => ⟨hc, rfl, rfl⟩, fun _ => ⟨rfl, rfl, rfl⟩⟩

/-! ## Register writes -/

variable {s t : State}

theorem State.writeGctl_kept (s : State) (o : Nat) (part : Sys2Proof.Part) (v : W64) : s.lock.KeptIn (s.writeGctl o part v).lock := by
  unfold State.writeGctl
  split
  · split
    · exact .refl _
    · next hc => exact .withRegion hc _ _
  · split
    · exact .refl _
    · dsimp only
      split <;> exact .refl _

theorem State.writeStep_kept (s : State) (o : Nat) (part : Sys2Proof.Part) (v : W64) : s.lock.KeptIn (s.writeStep o part v).lock := by
  unfold State.writeStep
  split
  · next h =>
    have hc : ¬s.lock.cStep = true := by simp at h; simp [h.2]
    exact .withVarea hc _ _
  · exact .refl _

theorem State.writeFabOne_kept (s : State) (o : Nat) (part : Sys2Proof.Part) (v : W64) : s.lock.KeptIn (s.writeFabOne o part v).lock := by
  unfold State.writeFabOne
  dsimp only
  split
  · split
    · exact .refl _
    · next hc => exact .withFabric hc _ s.lock.topo
  split
  · split
    · exact .refl _
    · next hc => exact .withFabric hc s.lock.plan _
  split
  · exact .of_eq (State.align_lock _)
  split <;> exact .refl _

theorem State.writeFab_kept (s : State) (o : Nat) (part : Sys2Proof.Part) (v : W64) : s.lock.KeptIn (s.writeFab o part v).lock := by
  unfold State.writeFab
  split
  · exact .refl _
  · exact .refl _
  · exact .refl _
  · exact .refl _
  · exact State.writeFabOne_kept s o part v

theorem State.writePf_kept (s : State) (o : Nat) (part : Sys2Proof.Part) (v : W64) : s.lock.KeptIn (s.writePf o part v).lock := by
  unfold State.writePf
  split
  · exact .refl _
  split
  · exact State.writeGctl_kept s _ part v
  split
  · exact State.writeStep_kept s _ part v
  split
  · exact .of_eq (State.writeMbx_lock part v s _)
  split
  · exact .of_eq (State.writeSync_lock part v s _)
  split
  · exact .of_eq (State.writeSens_lock part v s _)
  split
  · exact State.writeFab_kept s _ part v
  split
  · exact .of_eq (State.writeSec_lock part v s _)
  · exact .refl _

/-! ## Commands -/

/-- What acts leaves the committed fields where its effect does. -/
theorem act_kept {m : Foot} {f : State → State} (hf : s.lock.KeptIn (f s).lock) (h : act m f s = .next t) : s.lock.KeptIn t.lock := by
  rw [act_eq] at h
  cases h
  split
  · exact .refl _
  · show s.lock.KeptIn (bif m.lock then (f s).lock else s.lock)
    cases m.lock
    · exact .refl _
    · exact hf

theorem execRegisterWrite_kept {fn : Func} {bar : Bar} {o : Nat} {part : Sys2Proof.Part} {v : W64}
    (h : execRegisterWrite fn bar o part v s = .next t) : s.lock.KeptIn t.lock := by
  refine act_kept ?_ h
  dsimp only
  split
  · exact State.writePf_kept (s.unlatch (Func.key fn)) _ part v
  · exact .of_eq (State.writeVf_lock part v (s.unlatch (Func.key fn)) _ _)
  · exact .of_eq (State.writeWindow_lock part v (s.unlatch (Func.key fn)) _)
  · exact .refl _
  · exact .refl _

theorem execCommitGlobal_kept (h : execCommitGlobal s = .next t) : s.lock.KeptIn t.lock := by
  refine act_kept ?_ h
  dsimp only
  split
  · exact .commitGlobal s.lock
  · exact .refl _

theorem execCommitStep_kept (h : execCommitStep s = .next t) : s.lock.KeptIn t.lock := by
  refine act_kept ?_ h
  dsimp only
  split
  · exact .commitStep s.lock
  · exact .refl _

theorem execCommitFabric_kept (h : execCommitFabric s = .next t) : s.lock.KeptIn t.lock := by
  refine act_kept ?_ h
  dsimp only
  split
  · exact .refl _
  · split
    · rw [State.trainPorts_lock]
      exact .commitFabric s.lock
    · rw [foldl_updPort_lock]
      exact .commitFabric s.lock

/-- No command but a reset changes a committed field: of the others only a register write and the commits reach the locked configuration. -/
theorem exec_kept {c : Instr} (hr : c.isReset = false) (h : exec c s = .next t) : s.lock.KeptIn t.lock := by
  cases hl : locks c with
  | false => exact .of_eq (exec_lock_of_not_locks hr hl h)
  | true =>
    unfold locks at hl
    split at hl
    · exact execRegisterWrite_kept h
    · exact execCommitGlobal_kept h
    · exact execCommitStep_kept h
    · exact execCommitFabric_kept h
    · exact nomatch hl

end Sys2Proof.Machine
end

section
/-! SUPPORT. The four commands that act in OFF too (R432, R433, R455, R473, R477), and what holds of every command: that it answers, and that it
leaves the queue. -/

namespace Sys2Proof.Machine

variable {s t : State} {c : Instr}

/-- The commands whose own rule says what they do in OFF, one by one. -/
theorem special_cases (h : special c = true) :
    (∃ env, c = .powerOnReset env) ∨ c = .vauxFalls ∨ (∃ k code, c = .thermalTrip k code) ∨ ∃ mv us, c = .overvoltageCut mv us := by
  unfold special at h
  split at h <;> simp_all

/-! ## What each of them answers -/

/-- The state after a power-on reset, with or without REFCLK. -/
def State.poweredOn (s : State) (env : BootEnv) : State := if env.refclk then (s.wipe true 0).romLock env else s.wipe true 0

theorem exec_powerOnReset (env : BootEnv) (s : State) :
    exec (.powerOnReset env) s = .next (if s.mayStart then State.only .all s (s.poweredOn env) else s) := by
  show execPowerOnReset env s = _
  unfold execPowerOnReset
  split <;> rfl

/-- The state after the fall of VAUX. -/
def State.unpowered (s : State) : State :=
  { s.goOff s.pwr.offCause with
    thm := { s.thm with tripN := true }
    pwr := { (s.goOff s.pwr.offCause).pwr with vauxUp := false } }

theorem exec_vauxFalls (s : State) : exec .vauxFalls s = .next s.unpowered := rfl

/-- The state after a thermal trip. -/
def State.tripped (s : State) : State := { s.goOff .trip with thm := { s.thm with tripN := false } }

theorem exec_thermalTrip (k code : Nat) (s : State) : exec (.thermalTrip k code) s =
    .next (if (s.pwr.off && s.pwr.offCause != .powerFail) = false ∧ k < 2688 ∧ 700 ≤ code then s.tripped else s) := by
  show execThermalTrip k code s = _
  unfold execThermalTrip
  cases s.pwr.off && s.pwr.offCause != .powerFail with
  | true => rfl
  | false =>
    simp only [true_and, Bool.false_eq_true, if_false]
    split <;> rfl

theorem exec_overvoltageCut {mv : Nat} (h : mv ≤ 80000) (us : Nat) : exec (.overvoltageCut mv us) s =
    act { pwr := true } (fun s => s.when (decide (72000 < mv ∧ 10 ≤ us)) (·.goOff .overvoltage)) s :=
  if_neg (Nat.not_lt.2 h)

theorem exec_overvoltageCut_beyond {mv : Nat} (h : 80000 < mv) (us : Nat) : exec (.overvoltageCut mv us) s = .fault .beyondRatings :=
  if_pos h

/-! ## What holds of every command -/

/-- A command within the ratings answers a next state (R473). -/
theorem exec_answers (h : c.rated = true) : ∃ t, exec c s = .next t := by
  cases hs : special c with
  | false =>
    obtain ⟨m, f, he, -⟩ | ⟨m, now, f, he, -⟩ := exec_acts c hs
    · exact ⟨_, (he s).trans (act_eq m f s)⟩
    · exact ⟨_, (he s).trans (actAt_eq m now f s)⟩
  | true =>
    obtain ⟨env, rfl⟩ | rfl | ⟨k, code, rfl⟩ | ⟨mv, us, rfl⟩ := special_cases hs
    · exact ⟨_, exec_powerOnReset env s⟩
    · exact ⟨_, exec_vauxFalls s⟩
    · exact ⟨_, exec_thermalTrip k code s⟩
    · exact ⟨_, (exec_overvoltageCut (of_decide_eq_true h) us).trans (act_eq _ _ s)⟩

/-- The only command beyond the ratings is an overvoltage above 80 V. -/
theorem exec_of_unrated (h : c.rated = false) : exec c s = .fault .beyondRatings := by
  unfold Instr.rated at h
  split at h
  · exact exec_overvoltageCut_beyond (Nat.not_le.1 (of_decide_eq_false h)) _
  · exact nomatch h

theorem exec_not_refused (c : Instr) (s : State) (r : Refusal) : exec c s ≠ .refused r := by
  cases h : c.rated with
  | true =>
    obtain ⟨t, ht⟩ := exec_answers (s := s) h
    rw [ht]
    exact nofun
  | false =>
    rw [exec_of_unrated h]
    exact nofun

/-- The queue is in no footprint: a command that answers leaves it as it is. -/
theorem exec_pending (h : exec c s = .next t) : t.pending = s.pending := by
  cases hs : special c with
  | false =>
    obtain ⟨m, f, he, -⟩ | ⟨m, now, f, he, -⟩ := exec_acts c hs
    · exact act_pending (he s ▸ h)
    · exact actAt_view State.pending (fun _ _ _ => rfl) (he s ▸ h)
  | true =>
    obtain ⟨env, rfl⟩ | rfl | ⟨k, code, rfl⟩ | ⟨mv, us, rfl⟩ := special_cases hs
    · cases (exec_powerOnReset env s).symm.trans h
      split <;> rfl
    · cases (exec_vauxFalls s).symm.trans h
      rfl
    · cases (exec_thermalTrip k code s).symm.trans h
      split <;> rfl
    · rcases Nat.lt_or_ge 80000 mv with hmv | hmv
      · exact nomatch (exec_overvoltageCut_beyond hmv us).symm.trans h
      · exact act_pending ((exec_overvoltageCut hmv us).symm.trans h)

/-- An idle count leaves the queue. -/
@[simp] theorem State.idle_pending (s : State) : s.idle.pending = s.pending := by
  unfold State.idle
  split <;> rfl

theorem actAt_off {m : Foot} {now : State → W64} {f : State → State} (h : s.pwr.off = true) : actAt m now f s = .next s := by
  rw [actAt_eq, if_pos h]

end Sys2Proof.Machine
end

section
/-! The statements of the queue, the ratings, OFF and the committed configuration settled. -/

namespace Sys2Proof.Machine

/-- Settles O3: the one queue, first in first out, is the model's choice (log entry 1); an idle count finds it empty, and a command acts on
its rest, which it leaves. -/
theorem queueFirstInFirstOut : Obligations.QueueFirstInFirstOut := by
  intro s t h
  cases hp : s.pending with
  | nil =>
    cases (step_of_empty hp).symm.trans h
    rw [State.idle_pending, hp]
    rfl
  | cons c rest =>
    rw [step_of_cons hp] at h
    exact exec_pending h

/-- Settles O4: every command but one acts whatever its operands are, and that one up to 80 V (R473). -/
theorem ratedCommandsAnswer : Obligations.RatedCommandsAnswer :=
  fun c s => ⟨exec_answers, exec_not_refused c s⟩

/-- Settles O5: that power returns through start-up alone is R432 and R433; which commands OFF leaves to act is the model's (log entry 8). -/
theorem offActsOnNothing : Obligations.OffActsOnNothing := by
  intro c s hoff hrated hpor hvaux htrip
  cases hs : special c with
  | false =>
    obtain ⟨m, f, he, -⟩ | ⟨m, now, f, he, -⟩ := exec_acts c hs
    · exact (he s).trans (act_off hoff)
    · exact (he s).trans (actAt_off hoff)
  | true =>
    obtain ⟨env, rfl⟩ | rfl | ⟨k, code, rfl⟩ | ⟨mv, us, rfl⟩ := special_cases hs
    · exact absurd rfl (hpor env)
    · exact absurd rfl hvaux
    · exact absurd rfl (htrip k code)
    · exact (exec_overvoltageCut (of_decide_eq_true hrated) us).trans (act_off hoff)

/-- Settles O6: the front command is no reset, so it leaves every committed field; the queue's rest is no part of the configuration. -/
theorem committedFieldsStayLocked : Obligations.CommittedFieldsStayLocked := by
  intro s t c rest hp hr h
  rw [step_of_cons hp] at h
  exact exec_kept (s := { s with pending := rest }) hr h

end Sys2Proof.Machine
end

section
/-! JTAG (R415): the instructions that drive pins, by the debug scope; its statement settled. -/

namespace Sys2Proof.Machine

variable {s : State}

theorem exec_bypass (s : State) : exec .bypass s = execBypass s := rfl
theorem exec_idcode (s : State) : exec .idcode s = execIdcode s := rfl
theorem exec_samplePreload (s : State) : exec .samplePreload s = execSamplePreload s := rfl
theorem exec_extest (s : State) : exec .extest s = execExtest s := rfl
theorem exec_clamp (s : State) : exec .clamp s = execClamp s := rfl
theorem exec_highz (s : State) : exec .highz s = execHighz s := rfl
theorem exec_ieee1687Access (active : Bool) (s : State) : exec (.ieee1687Access active) s = execIeee1687Access active s := rfl

theorem State.jtagIr_within (s : State) (ir : JtagIr) (data : W32) (pins : Bool) : Within { jtag := true } s (s.jtagIr ir data pins) := rfl

theorem State.boardIr_of_board (h : s.sec.scope = 1) (ir : JtagIr) : s.boardIr ir = s.jtagIr ir 0 true := if_pos h

/-- Without scope BOARD an instruction that drives pins selects BYPASS. -/
theorem State.boardIr_of_other (h : s.sec.scope ≠ 1) (ir : JtagIr) : s.boardIr ir = s.jtagIr .bypass 0 false := if_neg h

/-- An instruction that drives pins takes them under scope BOARD, and is not selected under any other scope. -/
theorem boardIr_answers {c : Instr} {ir : JtagIr} (hc : exec c s = act { jtag := true } (·.boardIr ir) s) (hon : s.pwr.off = false)
    (hir : JtagIr.bypass ≠ ir) :
    Answers c s { jtag := true } (fun t =>
      (s.sec.scope = 1 → t.jtag.ir = ir ∧ t.jtag.pinsTaken = true) ∧
      (s.sec.scope ≠ 1 → t.jtag.ir ≠ ir ∧ t.jtag.pinsTaken = false) ∧ t.jtag.access1687 = false) := by
  by_cases h : s.sec.scope = 1
  · exact .of_act_eq hc hon (State.boardIr_of_board h ir) (s.jtagIr_within _ _ _) ⟨fun _ => ⟨rfl, rfl⟩, fun hn => absurd h hn, rfl⟩
  · exact .of_act_eq hc hon (State.boardIr_of_other h ir) (s.jtagIr_within _ _ _) ⟨fun hb => absurd hb h, fun _ => ⟨hir, rfl⟩, rfl⟩

/-- The network of IEEE 1687 opens under scope INTERNAL, and is not selected under any other scope. -/
theorem ieee1687Access_answers (hon : s.pwr.off = false) (active : Bool) :
    Answers (.ieee1687Access active) s { jtag := true } (fun t =>
      (s.sec.scope = 2 → t.jtag.ir = .ieee1687 ∧ t.jtag.access1687 = active) ∧
      (s.sec.scope ≠ 2 → t.jtag.ir ≠ .ieee1687 ∧ t.jtag.access1687 = false) ∧ t.jtag.pinsTaken = false) := by
  by_cases h : s.sec.scope = 2
  · exact .of_act_eq (t := { s with jtag := _ }) (exec_ieee1687Access active s) hon (if_pos h) rfl ⟨fun _ => ⟨rfl, rfl⟩, fun hn => absurd h hn, rfl⟩
  · exact .of_act_eq (exec_ieee1687Access active s) hon (if_neg h) (s.jtagIr_within _ _ _) ⟨fun hi => absurd hi h, fun _ => ⟨nofun, rfl⟩, rfl⟩

/-- Settles O55: three instructions are offered in every state, the others by the scope. -/
theorem jtagInstructionsNeedTheirScope : Obligations.JtagInstructionsNeedTheirScope := by
  intro s hon
  refine ⟨?_, ?_, ?_, ?_, ?_, ?_, ieee1687Access_answers hon⟩
  · exact .of_act_eq (exec_bypass s) hon rfl (s.jtagIr_within _ _ _) ⟨rfl, rfl, rfl⟩
  · exact .of_act_eq (exec_idcode s) hon rfl (s.jtagIr_within _ _ _) ⟨rfl, rfl, rfl, rfl⟩
  · exact .of_act_eq (exec_samplePreload s) hon rfl (s.jtagIr_within _ _ _) ⟨rfl, rfl, rfl⟩
  · exact boardIr_answers (exec_extest s) hon nofun
  · exact boardIr_answers (exec_clamp s) hon nofun
  · exact boardIr_answers (exec_highz s) hon nofun

end Sys2Proof.Machine
end

section
/-! SUPPORT. The death of sites (R307, Table 10.6): what it changes, and that a dead site stays dead. -/

namespace Sys2Proof.Machine

variable {s t u : State} {m : Foot}

/-- An abort, with or without a hold, changes the engine, the steps, the mesh's entry, the sync unit and the sequences alone. -/
theorem State.abortNow_within (s : State) (hold : Bool) : Within aborting s (s.abortNow hold) := by
  have h0 : Within aborting s (if hold then s.stopHeld else s) := .ite rfl (.refl _ _)
  have h1 := h0.trans (.foldl (fun (t : State) i => t.updSeq i (fun q => { q with replay := true })) (fun _ _ => .updSeq _ _ _) s.inFlight _)
  cases hold
  · exact h1.trans rfl
  · exact h1.trans rfl

theorem State.abortStep_changes (s : State) (hold : Bool) : Within aborting s (s.abortStep hold) :=
  .ite rfl (.ite rfl (.ite rfl (s.abortNow_within hold)))

theorem State.stopInstall_within (s : State) (entry k p : Nat) :
    Within { arrs := true, wgt := true, fab := true, chans := true, hif := true } s (s.stopInstall entry k p) := by
  unfold State.stopInstall
  split
  · exact .refl _ _
  · extract_lets w s1
    have h1 : Within { arrs := true, wgt := true, fab := true, chans := true, hif := true } s s1 := rfl
    exact (h1.trans (s1.cutSessions_spec _).1.mono).trans (State.complete_within _ _ _ _ _ _).mono

theorem State.installDeath_within (s : State) (k p : Nat) :
    Within { arrs := true, wgt := true, fab := true, chans := true, hif := true } s (s.installDeath k p) := by
  unfold State.installDeath
  split
  · exact .refl _ _
  · split
    · split
      · exact s.stopInstall_within _ _ _
      · exact .refl _ _
    · exact .refl _ _

/-- The record of a site that dies. -/
def SiteSt.dead (r : SiteSt) : SiteSt := { r with fstate := 3, copyActive := false, nextValid := false }

/-- What a death changes beside the record of its site. -/
def Foot.death : Foot := { Foot.dying with sites := false }

/-- A death marks the record of its site, and then touches no site's record. -/
theorem State.siteDie_alive {k : Nat} (h : (s.site k).fstate ≠ 3) (cls : Byte) (p : Nat) :
    Within .death (s.updSite k SiteSt.dead) (s.siteDie k cls p) := by
  unfold State.siteDie
  rw [if_neg h]
  extract_lets x y running s1 s2 open_ src s3 s4 s5
  have h2 : Within .death s1 s2 := Within.trans (t := s1.log cls x y p 0 3) rfl (State.event_within _ _ _ _).mono
  have h3 : Within .death s2 s3 := rfl
  have h4 : Within .death s3 s4 := Within.trans (.ite (s3.loseCore_within k).mono (.refl _ s3)) rfl
  have h5 : Within .death s4 s5 := .ite (s4.abortStep_changes true).mono (.refl _ s4)
  exact h2.trans (h3.trans (h4.trans (h5.trans (s5.installDeath_within k p).mono)))

/-- A dead site does not die again. -/
theorem State.siteDie_dead {k : Nat} (h : (s.site k).fstate = 3) (cls : Byte) (p : Nat) : s.siteDie k cls p = s := if_pos h

theorem State.siteDie_within (s : State) (k : Nat) (cls : Byte) (p : Nat) : Within .dying s (s.siteDie k cls p) := by
  by_cases h : (s.site k).fstate = 3
  · rw [State.siteDie_dead h]
    exact .refl _ _
  · exact Within.trans (.updSite _ _ _) (State.siteDie_alive h cls p).mono

theorem State.killAll_within (s : State) (ks : List Nat) (cls : Byte) : Within .dying s (s.killAll ks cls) :=
  .foldl _ (fun t k => t.siteDie_within k cls 0x1F) ks s

/-- What lies outside the site records leaves them. -/
theorem Within.site (h : Within m s t) (k : Nat) (hm : m.sites = false := by rfl) : t.site k = s.site k :=
  h.view (State.site · k) (fun _ _ => by simp [State.only, State.site, hm])

theorem State.siteDie_fstate (s : State) (k : Nat) (cls : Byte) (p : Nat) : ((s.siteDie k cls p).site k).fstate = 3 := by
  by_cases h : (s.site k).fstate = 3
  · rwa [State.siteDie_dead h]
  · rw [(State.siteDie_alive h cls p).site, State.site_updSite]
    rfl

/-- A dead site stays dead when another one dies. -/
theorem State.siteDie_stays {j : Nat} (h : (s.site j).fstate = 3) (k : Nat) (cls : Byte) (p : Nat) :
    ((s.siteDie k cls p).site j).fstate = 3 := by
  by_cases hk : (s.site k).fstate = 3
  · rwa [State.siteDie_dead hk]
  · rw [(State.siteDie_alive hk cls p).site, State.site_updSite_if]
    split
    · rfl
    · exact h

theorem State.killAll_stays {j : Nat} (ks : List Nat) (cls : Byte) (h : (s.site j).fstate = 3) : ((s.killAll ks cls).site j).fstate = 3 := by
  induction ks generalizing s with
  | nil => exact h
  | cons k ks ih => exact ih (State.siteDie_stays h k cls 0x1F)

/-- Every site of the list is dead. -/
theorem State.killAll_kills (cls : Byte) {ks : List Nat} {k : Nat} (hk : k ∈ ks) (s : State) : ((s.killAll ks cls).site k).fstate = 3 := by
  induction ks generalizing s with
  | nil => exact nomatch hk
  | cons j ks ih =>
    obtain rfl | hk := List.mem_cons.1 hk
    · exact State.killAll_stays ks cls (s.siteDie_fstate k cls 0x1F)
    · exact ih hk _

end Sys2Proof.Machine
end

section
/-! The references and the nodes of the mesh (R307, R424, R425); their statement settled. -/

namespace Sys2Proof.Machine

variable {s : State}

theorem exec_holdoverEnter (s : State) : exec .holdoverEnter s = execHoldoverEnter s := rfl
theorem exec_relock (s : State) : exec .relock s = execRelock s := rfl
theorem exec_frefLoss (s : State) : exec .frefLoss s = execFrefLoss s := rfl
theorem exec_frefReturn (s : State) : exec .frefReturn s = execFrefReturn s := rfl
theorem exec_nodeDecouple (cluster : Nat) (s : State) : exec (.nodeDecouple cluster) s = execNodeDecouple cluster s := rfl

/-- A change of the clock's record that is reported. -/
theorem State.clk_event_within (s : State) (c : Clk) (rs : List Receiver) (code : Byte) (arg : Nat) :
    Within { clk := true, fab := true, chans := true, hif := true } s (({ s with clk := c } : State).event rs code arg) :=
  Within.trans (t := { s with clk := c }) rfl (State.event_within _ _ _ _).mono

@[simp] theorem State.event_clk (s : State) (rs : List Receiver) (code : Byte) (arg : Nat) : (s.event rs code arg).clk = s.clk :=
  (s.event_within rs code arg).view State.clk (fun _ _ => rfl)

theorem holdoverEnter_counts (hon : s.pwr.off = false) (h0 : s.stageDone 0 = true) (hh : s.clk.holdover = false) :
    Answers .holdoverEnter s { clk := true, fab := true, chans := true, hif := true } (fun t =>
      t.clk = { s.clk with holdover := true, refPresent := false, refLosses := satInc s.clk.refLosses }) :=
  .of_act_eq (exec_holdoverEnter s) hon (if_pos (by rw [h0, hh]; rfl)) (s.clk_event_within _ _ _ _) (State.event_clk _ _ _ _)

theorem relock_ends (hon : s.pwr.off = false) (hh : s.clk.holdover = true) :
    Answers .relock s { clk := true, fab := true, chans := true, hif := true } (fun t =>
      t.clk = { s.clk with holdover := false, refPresent := true }) :=
  .of_act_eq (exec_relock s) hon (if_pos hh) (s.clk_event_within _ _ _ _) (State.event_clk _ _ _ _)

/-- A decoupled node noted (R425). -/
def State.decouple (s : State) (cluster : Nat) : State :=
  { s with clk := { s.clk with decoupled := s.clk.decoupled + 1, decoupledSet := cluster :: s.clk.decoupledSet } }

/-- A node decoupled: its cluster dies. -/
theorem nodeDecouple_kills {cluster : Nat} (hon : s.pwr.off = false) (hc : cluster < 2688) (hl : s.clk.refLocked = true)
    (hn : s.clk.decoupledSet.contains cluster = false) :
    Answers (.nodeDecouple cluster) s { Foot.dying with clk := true } (fun t =>
      t.clk = { s.clk with decoupled := s.clk.decoupled + 1, decoupledSet := cluster :: s.clk.decoupledSet } ∧
      ∀ k ∈ clusterSites cluster, (t.site k).fstate = 3) := by
  have hd : Within { Foot.dying with clk := true } s (s.decouple cluster) := rfl
  have hk := (s.decouple cluster).killAll_within (clusterSites cluster) 0x08
  exact .of_act_eq (exec_nodeDecouple cluster s) hon (if_pos ⟨hc, hl, by rw [hn]; rfl⟩) (hd.trans hk.mono)
    ⟨hk.view State.clk (fun _ _ => rfl), fun _ hm => State.killAll_kills 0x08 hm _⟩

/-- Settles O17: the reference and FREF are records of the clock, and a lost node kills the sites of its cluster one by one. -/
theorem referencesAndNodes : Obligations.ReferencesAndNodes := by
  intro s hon
  refine ⟨holdoverEnter_counts hon, relock_ends hon, ?_, ?_, fun cluster => nodeDecouple_kills hon⟩
  · exact .of_act_eq (t := { s with clk := _ }) (exec_frefLoss s) hon rfl rfl rfl
  · exact .of_act_eq (t := { s with clk := _ }) (exec_frefReturn s) hon rfl rfl rfl

end Sys2Proof.Machine
end

section
/-! SUPPORT. Rate causes (R427), and emergencies of vales (R439, R440). -/

namespace Sys2Proof.Machine

variable {s t : State} {v : Nat}

/-! ## Sets of vales -/

theorem valeBit_or (a b : BitVec 84) (v : Nat) : valeBit (a ||| b) v = (valeBit a v || valeBit b v) := BitVec.getLsbD_or

theorem lt_of_valeBit {m : BitVec 84} (h : valeBit m v = true) : v < 84 := by
  by_contra hv
  exact absurd (BitVec.getLsbD_of_ge m v (Nat.le_of_not_lt hv)) (by rw [show m.getLsbD v = true from h]; exact nofun)

theorem valeBit_setVale_self (m : BitVec 84) (h : v < 84) : valeBit (setVale m v) v = true := by
  simp [valeBit, setVale, h]

theorem valeBit_setVale_ne (m : BitVec 84) {w : Nat} (h : w ≠ v) : valeBit (setVale m v) w = valeBit m w := by
  have hw : (1#84 <<< v).getLsbD w = false := by
    simp only [BitVec.getLsbD_shiftLeft, BitVec.getLsbD_one]
    rcases Nat.lt_or_ge w v with h' | h'
    · simp [h']
    · simp [show w - v ≠ 0 by omega]
  simp [valeBit, setVale, hw]

theorem valeBit_setVale_of (m : BitVec 84) {w : Nat} (h : valeBit m w = true) : valeBit (setVale m v) w = true := by
  rw [setVale, valeBit_or, h, Bool.true_or]

/-! ## Rate causes -/

/-- A cause set or cleared in both halves. -/
structure Clk.BothCause (k : Clk) (bit : Nat) (on : Bool) : Prop where
  west : k.causeW.getLsbD bit = on
  east : k.causeE.getLsbD bit = on

/-- The causes of a half with one of them set or cleared. -/
def causeBit (old : BitVec 4) (bit : Nat) (on : Bool) : BitVec 4 := if on then old ||| (1#4 <<< bit) else old &&& ~~~(1#4 <<< bit)

theorem getLsbD_causeBit (old : BitVec 4) {bit : Nat} (h : bit < 4) (on : Bool) : (causeBit old bit on).getLsbD bit = on := by
  cases on <;> simp [causeBit, h]

/-- The footprint of a rate cause. -/
def causing : Foot := { clk := true, fab := true, chans := true, hif := true }

theorem State.setCause_within (s : State) (h : Half) (bit : Nat) (on : Bool) : Within causing s (s.setCause h bit on) := by
  unfold State.setCause
  extract_lets old new_ s1
  split
  · exact .refl _ _
  · cases h
    · exact s.clk_event_within _ _ _ _
    · exact s.clk_event_within _ _ _ _

theorem State.setCause_west (s : State) {bit : Nat} (h : bit < 4) (on : Bool) :
    (s.setCause .west bit on).clk.causeW.getLsbD bit = on ∧ (s.setCause .west bit on).clk.causeE = s.clk.causeE := by
  unfold State.setCause
  extract_lets old new_ s1
  split
  · next he => exact ⟨he, rfl⟩
  · rw [State.event_clk]
    exact ⟨getLsbD_causeBit s.clk.causeW h on, rfl⟩

theorem State.setCause_east (s : State) {bit : Nat} (h : bit < 4) (on : Bool) :
    (s.setCause .east bit on).clk.causeE.getLsbD bit = on ∧ (s.setCause .east bit on).clk.causeW = s.clk.causeW := by
  unfold State.setCause
  extract_lets old new_ s1
  split
  · next he => exact ⟨he, rfl⟩
  · rw [State.event_clk]
    exact ⟨getLsbD_causeBit s.clk.causeE h on, rfl⟩

theorem State.setBoth_within (s : State) (bit : Nat) (on : Bool) : Within causing s (s.setBoth bit on) :=
  (s.setCause_within _ _ _).trans (State.setCause_within _ _ _ _)

theorem State.setBoth_causes (s : State) {bit : Nat} (h : bit < 4) (on : Bool) : (s.setBoth bit on).clk.BothCause bit on := by
  obtain ⟨hw, -⟩ := s.setCause_west h on
  obtain ⟨he, hw'⟩ := (s.setCause .west bit on).setCause_east h on
  exact ⟨by rw [State.setBoth, hw', hw], he⟩

/-! ## Emergencies -/

/-- The footprint of a vale's emergency. -/
def alarming : Foot := { thm := true, wgt := true, eng := true, fab := true, chans := true, hif := true }

/-- Whether the running variant uses a vale, so that the device sets the hold (R439). -/
def State.valeUsed (s : State) (v : Nat) : Bool := s.running && s.bankUses s.eng.bank v

/-- The thermal record with a vale in emergency: stopped at once, or when the hold begins that it waits for. -/
def Thm.alarmed (r : Thm) (v : Nat) (wait : Bool) : Thm :=
  { r with
    emergencies := satInc r.emergencies
    emerg := setVale r.emerg v
    coolTicks := r.coolTicks.set 0 v 0
    stopped := if wait then r.stopped else setVale r.stopped v
    stopAtHold := if wait then setVale r.stopAtHold v else r.stopAtHold }

/-- A vale's sessions suspended or resumed, and reported. -/
theorem State.suspend_within (s : State) (v : Nat) (on : Bool) (code : Byte) (arg : Nat) :
    Within { wgt := true, fab := true, chans := true, hif := true } s ((s.suspendVale v on).event [.pf, .bmc] code arg) :=
  Within.trans (t := s.suspendVale v on) rfl (State.event_within _ _ _ _).mono

/-- A powered vale that is not in emergency enters it. -/
theorem State.emergencyIn_enters (hu : s.interiorUp v = true) (he : valeBit s.thm.emerg v = false) :
    Within alarming s (s.emergencyIn v) ∧ (s.emergencyIn v).thm = s.thm.alarmed v (s.valeUsed v && !s.held) ∧
    (s.emergencyIn v).eng = { s.eng with hold := s.eng.hold || s.valeUsed v } := by
  have hw := s.suspend_within v true 0x31 (256 + v)
  have hthm := hw.view State.thm (fun _ _ => rfl)
  have heng := hw.view State.eng (fun _ _ => rfl)
  unfold State.emergencyIn
  rw [if_neg (by simp [he, hu])]
  extract_lets used wait s1
  exact ⟨Within.trans (t := s1) hw.mono rfl, congrArg (Thm.alarmed · v wait) hthm,
    congrArg (fun e : Eng => { e with hold := e.hold || used }) heng⟩

/-- Else nothing happens. -/
theorem State.emergencyIn_idle (h : ¬(s.interiorUp v = true ∧ valeBit s.thm.emerg v = false)) : s.emergencyIn v = s := by
  refine if_pos ?_
  cases hu : s.interiorUp v <;> cases he : valeBit s.thm.emerg v <;> simp_all

theorem State.emergencyIn_within (s : State) (v : Nat) : Within alarming s (s.emergencyIn v) := by
  by_cases h : s.interiorUp v = true ∧ valeBit s.thm.emerg v = false
  · exact (State.emergencyIn_enters h.1 h.2).1
  · rw [State.emergencyIn_idle h]
    exact .refl _ _

/-- No vale leaves emergency when one enters it. -/
theorem State.emergencyIn_stays {w : Nat} (h : valeBit s.thm.emerg w = true) (v : Nat) : valeBit (s.emergencyIn v).thm.emerg w = true := by
  by_cases hv : s.interiorUp v = true ∧ valeBit s.thm.emerg v = false
  · rw [(State.emergencyIn_enters hv.1 hv.2).2.1]
    exact valeBit_setVale_of _ h
  · rwa [State.emergencyIn_idle hv]

/-- A powered vale is in emergency after it enters. -/
theorem State.emergencyIn_emerg (hv : v < 84) (hu : s.interiorUp v = true) : valeBit (s.emergencyIn v).thm.emerg v = true := by
  cases he : valeBit s.thm.emerg v with
  | true => exact State.emergencyIn_stays he v
  | false =>
    rw [(State.emergencyIn_enters hu he).2.1]
    exact valeBit_setVale_self _ hv

theorem State.emergencies_within (vs : List Nat) (s : State) : Within alarming s (vs.foldl State.emergencyIn s) :=
  .foldl _ State.emergencyIn_within vs s

/-- Every powered vale of a list is in emergency after they enter, with those that were. -/
theorem State.emergencies_emerg {vs : List Nat} {w : Nat} (hw : w < 84) (h : valeBit s.thm.emerg w = true ∨ w ∈ vs ∧ s.interiorUp w = true) :
    valeBit (vs.foldl State.emergencyIn s).thm.emerg w = true := by
  induction vs generalizing s with
  | nil => exact h.resolve_right (fun hm => nomatch hm.1)
  | cons v vs ih =>
    have hup : (s.emergencyIn v).interiorUp w = s.interiorUp w := (s.emergencyIn_within v).view (State.interiorUp · w) (fun _ _ => rfl)
    refine ih ?_
    rcases h with h | ⟨hm, hu⟩
    · exact .inl (State.emergencyIn_stays h v)
    · obtain rfl | hm := List.mem_cons.1 hm
      · exact .inl (State.emergencyIn_emerg hw hu)
      · exact .inr ⟨hm, hup.trans hu⟩

/-- Where nothing waits for a repair, none starts. -/
theorem State.pumpRepairs_of_idle (he : s.flt.exchanging = []) (hm : s.flt.move = none) (hr : s.flt.respares = []) : s.pumpRepairs = s := by
  simp only [State.pumpRepairs, he, hm, hr, List.foldl_nil]

end Sys2Proof.Machine
end

section
/-! The thermal states (R437–R440); their statement settled. -/

namespace Sys2Proof.Machine

variable {s : State}

theorem exec_throttleExit (h : Half) (s : State) : exec (.throttleExit h) s = execThrottleExit h s := rfl
theorem exec_emergencyEnter (vale : Nat) (s : State) : exec (.emergencyEnter vale) s = execEmergencyEnter vale s := rfl
theorem exec_emergencyExit (vale : Nat) (s : State) : exec (.emergencyExit vale) s = execEmergencyExit vale s := rfl

/-- A change of the thermal record with a cause set or cleared. -/
theorem State.thm_setCause_within (s : State) (r : Thm) (h : Half) (bit : Nat) (on : Bool) :
    Within { clk := true, thm := true, fab := true, chans := true, hif := true } s (({ s with thm := r } : State).setCause h bit on) :=
  Within.trans (t := { s with thm := r }) rfl (State.setCause_within _ _ _ _).mono

@[simp] theorem State.setCause_thm (s : State) (h : Half) (bit : Nat) (on : Bool) : (s.setCause h bit on).thm = s.thm :=
  (s.setCause_within h bit on).view State.thm (fun _ _ => rfl)

theorem throttleExit_west (hon : s.pwr.off = false) (h2 : s.thm.westState = 2) (h64 : 64 ≤ s.thm.belowW) :
    Answers (.throttleExit .west) s { clk := true, thm := true, fab := true, chans := true, hif := true } (fun t =>
      t.thm = { s.thm with westState := 0 } ∧ t.clk.causeW.getLsbD 0 = false ∧ t.clk.causeE = s.clk.causeE) :=
  .of_act_eq (exec_throttleExit .west s) hon (if_pos ⟨h2, h64⟩) (s.thm_setCause_within _ _ _ _)
    ⟨State.setCause_thm _ _ _ _, State.setCause_west _ (by decide) _⟩

theorem throttleExit_east (hon : s.pwr.off = false) (h2 : s.thm.eastState = 2) (h64 : 64 ≤ s.thm.belowE) :
    Answers (.throttleExit .east) s { clk := true, thm := true, fab := true, chans := true, hif := true } (fun t =>
      t.thm = { s.thm with eastState := 0 } ∧ t.clk.causeE.getLsbD 0 = false ∧ t.clk.causeW = s.clk.causeW) :=
  .of_act_eq (exec_throttleExit .east s) hon (if_pos ⟨h2, h64⟩) (s.thm_setCause_within _ _ _ _)
    ⟨State.setCause_thm _ _ _ _, State.setCause_east _ (by decide) _⟩

/-- A confirmed urgent reading at or above the emergency code puts its powered vale into emergency. -/
theorem emergencyEnter_enters {vale c : Nat} {thr : BitVec 10} (hon : s.pwr.off = false) (hv : vale < 84) (hc : c < 32)
    (hthr : 640 ≤ thr.toNat) (hx : (s.conv (32 * vale + c)).crossed = some (0, thr, true)) (hu : s.interiorUp vale = true)
    (he : valeBit s.thm.emerg vale = false) :
    Answers (.emergencyEnter vale) s alarming (fun t =>
      t.thm = s.thm.alarmed vale (s.valeUsed vale && !s.held) ∧ t.eng = { s.eng with hold := s.eng.hold || s.valeUsed vale }) := by
  obtain ⟨hw, hthm, heng⟩ := State.emergencyIn_enters hu he
  refine .of_act_eq (exec_emergencyEnter vale s) hon (State.when_pos ?_ _) hw ⟨hthm, heng⟩
  rw [decide_eq_true hv, Bool.true_and, List.any_eq_true]
  refine ⟨c, List.mem_range.2 hc, ?_⟩
  rw [hx]
  simpa [BitVec.le_def] using hthr

/-- The thermal record with a vale out of emergency. -/
def Thm.cooled (r : Thm) (v : Nat) : Thm :=
  { r with emerg := clrVale r.emerg v, stopped := clrVale r.stopped v, stopAtHold := clrVale r.stopAtHold v, coolTicks := r.coolTicks.set 0 v 0 }

/-- A vale's emergency ended and reported, its sessions resumed. -/
def State.endEmergency (s : State) (v : Nat) : State :=
  (({ s with thm := s.thm.cooled v } : State).suspendVale v false).event [.pf, .bmc] 0x31 v

theorem State.endEmergency_within (s : State) (v : Nat) :
    Within { thm := true, wgt := true, fab := true, chans := true, hif := true } s (s.endEmergency v) :=
  Within.trans (t := { s with thm := s.thm.cooled v }) rfl (State.suspend_within _ _ _ _ _).mono

/-- Where no repair waits, a powered vale that has cooled down is due for calibration. -/
theorem emergencyExit_exits {vale : Nat} (hon : s.pwr.off = false) (he : valeBit s.thm.emerg vale = true)
    (h64 : 64 ≤ s.thm.coolTicks.get 0 vale) (hu : s.interiorUp vale = true) (hx : s.flt.exchanging = []) (hm : s.flt.move = none)
    (hr : s.flt.respares = []) :
    Answers (.emergencyExit vale) s { thm := true, pwr := true, wgt := true, sens := true, fab := true, chans := true, hif := true }
      (fun t => t.thm = s.thm.cooled vale ∧ valeBit t.sens.due vale = true ∧ valeBit t.pwr.uncal vale = true) := by
  have hw := s.endEmergency_within vale
  have hflt : (s.endEmergency vale).flt = s.flt := hw.view State.flt (fun _ _ => rfl)
  have hup : (s.endEmergency vale).interiorUp vale = true := (hw.view (State.interiorUp · vale) (fun _ _ => rfl)).trans hu
  have hthm : (s.endEmergency vale).thm = s.thm.cooled vale :=
    (State.suspend_within _ _ _ _ _).view State.thm (fun _ _ => rfl)
  have hidle : ((s.endEmergency vale).makeDue (setVale 0 vale)).pumpRepairs = (s.endEmergency vale).makeDue (setVale 0 vale) :=
    State.pumpRepairs_of_idle (by show (s.endEmergency vale).flt.exchanging = []; rw [hflt, hx])
      (by show (s.endEmergency vale).flt.move = none; rw [hflt, hm]) (by show (s.endEmergency vale).flt.respares = []; rw [hflt, hr])
  have hbit := valeBit_setVale_self 0 (lt_of_valeBit he)
  refine .of_act_eq (exec_emergencyExit vale s) hon ((if_pos (by rw [he, decide_eq_true h64]; rfl)).trans ((if_pos hup).trans hidle))
    (Within.trans hw.mono rfl) ⟨hthm, ?_, ?_⟩
  · show valeBit ((s.endEmergency vale).sens.due ||| setVale 0 vale) vale = true
    rw [valeBit_or, hbit, Bool.or_true]
  · show valeBit ((s.endEmergency vale).pwr.uncal ||| setVale 0 vale) vale = true
    rw [valeBit_or, hbit, Bool.or_true]

/-- Settles O18: THROTTLE clears the thermal cause of its half, an emergency enters and leaves the sets of vales. -/
theorem thermalStates : Obligations.ThermalStates := by
  intro s hon
  refine ⟨throttleExit_west hon, throttleExit_east hon, fun vale c thr hv hc hthr hx hu he => ?_,
    fun vale he h64 hu hx hm hr => emergencyExit_exits hon he h64 hu hx hm hr⟩
  refine (emergencyEnter_enters hon hv hc hthr hx hu he).imp (fun t ⟨hthm, heng⟩ => ?_)
  rw [hthm]
  refine ⟨valeBit_setVale_self _ hv, rfl, fun w _ hw => valeBit_setVale_ne _ hw, fun hheld => ?_, heng⟩
  simp [Thm.alarmed, hheld, valeBit_setVale_self _ hv]

end Sys2Proof.Machine
end

section
/-! SUPPORT. The protection of the coolant loop (R427, R436, R439), STANDBY entered (R433), and the supply (R431, R432, R473, R477). -/

namespace Sys2Proof.Machine

variable {s : State}

theorem exec_coolantRateCause (c : CoolCause) (s : State) : exec (.coolantRateCause c) s = execCoolantRateCause c s := rfl
theorem exec_coolantCauseClear (c : CoolCause) (s : State) : exec (.coolantCauseClear c) s = execCoolantCauseClear c s := rfl
theorem exec_coolantFail (s : State) : exec .coolantFail s = execCoolantFail s := rfl
theorem exec_coolantFailClear (s : State) : exec .coolantFailClear s = execCoolantFailClear s := rfl
theorem exec_coolantFailTimeout (s : State) : exec .coolantFailTimeout s = execCoolantFailTimeout s := rfl
theorem exec_supplyLimit (amps us : Nat) (s : State) : exec (.supplyLimit amps us) s = execSupplyLimit amps us s := rfl
theorem exec_supplyLimitClear (s : State) : exec .supplyLimitClear s = execSupplyLimitClear s := rfl
theorem exec_powerFail (mv us : Nat) (s : State) : exec (.powerFail mv us) s = execPowerFail mv us s := rfl
theorem exec_railFault (vale : Nat) (s : State) : exec (.railFault vale) s = execRailFault vale s := rfl

/-! ## The coolant's rate cause -/

/-- The footprint of a cause with the coolant's record. -/
def cooling : Foot := { clk := true, cool := true, fab := true, chans := true, hif := true }

/-- `t` is `s` with this record of the coolant, and its cause set or cleared in both halves. -/
structure State.CoolCauses (s t : State) (r : Cool) (on : Bool) : Prop where
  within : Within cooling s t
  cool : t.cool = r
  causes : t.clk.BothCause 1 on

/-- The coolant's record changed, then its cause set or cleared in both halves. -/
theorem State.cool_setBoth (s : State) (r : Cool) (on : Bool) : s.CoolCauses (({ s with cool := r } : State).setBoth 1 on) r on := by
  have hw := ({ s with cool := r } : State).setBoth_within 1 on
  exact ⟨Within.trans (t := { s with cool := r }) rfl hw.mono, hw.view State.cool (fun _ _ => rfl), State.setBoth_causes _ (by decide) on⟩

/-- The same with an event between. -/
theorem State.cool_event_setBoth (s : State) (r : Cool) (code : Byte) (arg : Nat) (on : Bool) :
    s.CoolCauses ((({ s with cool := r } : State).event [.pf, .bmc] code arg).setBoth 1 on) r on := by
  have he := State.event_within { s with cool := r } [.pf, .bmc] code arg
  have hw := State.setBoth_within (({ s with cool := r } : State).event [.pf, .bmc] code arg) 1 on
  exact ⟨Within.trans (t := { s with cool := r }) rfl (Within.trans he.mono hw.mono),
    (hw.view State.cool (fun _ _ => rfl)).trans (he.view State.cool (fun _ _ => rfl)), State.setBoth_causes _ (by decide) on⟩

theorem coolantRateCause_inletHigh (hon : s.pwr.off = false) (h8 : 8 ≤ s.cool.hotInletTicks) (hc : s.cool.causeInlet = false) :
    Answers (.coolantRateCause .inletHigh) s cooling (fun t =>
      t.cool = { s.cool with causeInlet := true, inletClearTicks := 0 } ∧ t.clk.causeW.getLsbD 1 = true ∧ t.clk.causeE.getLsbD 1 = true) := by
  obtain ⟨hw, hcool, h⟩ := s.cool_setBoth { s.cool with causeInlet := true, inletClearTicks := 0 } true
  exact .of_act_eq (exec_coolantRateCause .inletHigh s) hon (if_pos ⟨h8, by rw [hc]; rfl⟩) hw ⟨hcool, h.west, h.east⟩

theorem coolantRateCause_flowLow (hon : s.pwr.off = false) (h8 : 8 ≤ s.cool.lowFlowTicks) (hc : s.cool.causeFlow = false) :
    Answers (.coolantRateCause .flowLow) s cooling (fun t =>
      t.cool = { s.cool with causeFlow := true, flowClearTicks := 0 } ∧ t.clk.causeW.getLsbD 1 = true ∧ t.clk.causeE.getLsbD 1 = true) := by
  obtain ⟨hw, hcool, h⟩ := s.cool_event_setBoth { s.cool with causeFlow := true, flowClearTicks := 0 } 0x32 3 true
  exact .of_act_eq (exec_coolantRateCause .flowLow s) hon (if_pos ⟨h8, by rw [hc]; rfl⟩) hw ⟨hcool, h.west, h.east⟩

/-- A condition that has cleared is cleared in the record, if it was set. -/
theorem State.when_causeInlet (h64 : 64 ≤ s.cool.inletClearTicks) :
    s.when (s.cool.causeInlet && decide (64 ≤ s.cool.inletClearTicks)) (fun s => { s with cool := { s.cool with causeInlet := false } }) =
      { s with cool := { s.cool with causeInlet := false } } := by
  cases hc : s.cool.causeInlet with
  | true => exact State.when_pos (decide_eq_true h64) _
  | false =>
    show s = _
    rw [← hc]

theorem State.when_causeFlow (h64 : 64 ≤ s.cool.flowClearTicks) :
    s.when (s.cool.causeFlow && decide (64 ≤ s.cool.flowClearTicks)) (fun s => { s with cool := { s.cool with causeFlow := false } }) =
      { s with cool := { s.cool with causeFlow := false } } := by
  cases hc : s.cool.causeFlow with
  | true => exact State.when_pos (decide_eq_true h64) _
  | false =>
    show s = _
    rw [← hc]

/-- The coolant's cause clears with its last condition. -/
theorem coolantCauseClear_inletHigh (hon : s.pwr.off = false) (h64 : 64 ≤ s.cool.inletClearTicks) (hf : s.cool.causeFlow = false) :
    Answers (.coolantCauseClear .inletHigh) s cooling (fun t =>
      t.cool = { s.cool with causeInlet := false } ∧ t.clk.causeW.getLsbD 1 = false ∧ t.clk.causeE.getLsbD 1 = false) := by
  obtain ⟨hw, hcool, h⟩ := s.cool_setBoth { s.cool with causeInlet := false } false
  refine .of_act_eq (exec_coolantCauseClear .inletHigh s) hon ?_ hw ⟨hcool, h.west, h.east⟩
  dsimp only
  rw [State.when_causeInlet h64]
  exact if_neg (by simp [hf])

theorem coolantCauseClear_flowLow (hon : s.pwr.off = false) (h64 : 64 ≤ s.cool.flowClearTicks) (hi : s.cool.causeInlet = false) :
    Answers (.coolantCauseClear .flowLow) s cooling (fun t =>
      t.cool = { s.cool with causeFlow := false } ∧ t.clk.causeW.getLsbD 1 = false ∧ t.clk.causeE.getLsbD 1 = false) := by
  obtain ⟨hw, hcool, h⟩ := s.cool_setBoth { s.cool with causeFlow := false } false
  refine .of_act_eq (exec_coolantCauseClear .flowLow s) hon ?_ hw ⟨hcool, h.west, h.east⟩
  dsimp only
  rw [State.when_causeFlow h64]
  exact if_neg (by simp [hi])

/-! ## Coolant fail -/

/-- A change of the coolant's record that is reported. -/
theorem State.cool_event_within (s : State) (r : Cool) (code : Byte) (arg : Nat) :
    Within { cool := true, fab := true, chans := true, hif := true } s (({ s with cool := r } : State).event [.pf, .bmc] code arg) :=
  Within.trans (t := { s with cool := r }) rfl (State.event_within _ _ _ _).mono

@[simp] theorem State.event_cool (s : State) (rs : List Receiver) (code : Byte) (arg : Nat) : (s.event rs code arg).cool = s.cool :=
  (s.event_within rs code arg).view State.cool (fun _ _ => rfl)

theorem coolantFail_enters (hon : s.pwr.off = false) (hf : s.cool.fail = false)
    (h : 8 ≤ s.cool.veryLowTicks ∨ (s.cool.leakA = true ∧ s.cool.leakB = true)) :
    Answers .coolantFail s { thm := true, cool := true, wgt := true, eng := true, fab := true, chans := true, hif := true } (fun t =>
      t.cool = { s.cool with fail := true, failTicks := 0, failClearTicks := 0 } ∧
      (∀ v < 84, s.interiorUp v = true → valeBit t.thm.emerg v = true)) := by
  have hev := s.cool_event_within { s.cool with fail := true, failTicks := 0, failClearTicks := 0 } 0x32 5
  have hem := State.emergencies_within (List.range 84)
    (({ s with cool := { s.cool with fail := true, failTicks := 0, failClearTicks := 0 } } : State).event [.pf, .bmc] 0x32 5)
  refine .of_act_eq (exec_coolantFail s) hon (if_pos (by simpa [hf] using h)) (Within.trans hev.mono hem.mono)
    ⟨(hem.view State.cool (fun _ _ => rfl)).trans (State.event_cool _ _ _ _), fun v hv hu => ?_⟩
  exact State.emergencies_emerg hv (.inr ⟨List.mem_range.2 hv, (hev.view (State.interiorUp · v) (fun _ _ => rfl)).trans hu⟩)

theorem coolantFailClear_ends (hon : s.pwr.off = false) (hf : s.cool.fail = true) (h64 : 64 ≤ s.cool.failClearTicks) :
    Answers .coolantFailClear s { cool := true, fab := true, chans := true, hif := true } (fun t =>
      t.cool = { s.cool with fail := false, failTicks := 0 }) :=
  .of_act_eq (exec_coolantFailClear s) hon (if_pos (by rw [hf, decide_eq_true h64]; rfl)) (s.cool_event_within _ _ _)
    (State.event_cool _ _ _ _)

/-! ## STANDBY -/

/-- The footprint of STANDBY entered. -/
def standing : Foot :=
  { clk := true, thm := true, pwr := true, mem := true, poison := true, acc24 := true, acc48 := true, shadow := true, sites := true,
    banks := true, eng := true, cur := true, nxt := true, kvs := true, pfs := true, outl := true, frames := true, sweeps := true,
    convs := true, fab := true }

/-- What STANDBY does once the interiors are lost. -/
def State.standDown (u : State) : State :=
  let s1 := u.loseRings.dropPorts
  { s1 with
    banks := []
    cur := {}, nxt := {}
    eng := { s1.eng with running := false, state := 0 }
    clk := { s1.clk with refLocked := false }
    thm := { s1.thm with emerg := 0, stopped := 0, stopAtHold := 0 }
    pwr := { s1.pwr with state := 0b011, interiors := 0, ringUp := false } }

theorem State.enterStandby_eq (s : State) : s.enterStandby = ((List.range 84).foldl State.loseInterior s).standDown := rfl

theorem State.standDown_within (u : State) : Within standing u u.standDown := rfl

/-- The footprint of an interior that loses its power. -/
def losing : Foot :=
  { mem := true, poison := true, acc24 := true, acc48 := true, shadow := true, kvs := true, pfs := true, sites := true }

theorem State.loseInterior_within (s : State) (v : Nat) : Within losing s (s.loseInterior v) := rfl

theorem State.loseInteriors_within (vs : List Nat) (s : State) : Within losing s (vs.foldl State.loseInterior s) :=
  .foldl _ State.loseInterior_within vs s

/-- What STANDBY leaves: every rail outside the always-on domain and the DRAM is down. -/
structure State.StandsBy (s t : State) : Prop where
  within : Within standing s t
  pwr : t.pwr = { s.pwr with state := 0b011, interiors := 0, ringUp := false }
  banks : t.banks = []
  refLocked : t.clk.refLocked = false
  eng : t.eng = { s.eng with running := false, state := 0 }

/-- Once the interiors are lost. -/
theorem State.standDown_standsBy {u : State} (h : Within losing s u) : s.StandsBy u.standDown := by
  have hpwr : u.pwr = s.pwr := h.view State.pwr (fun _ _ => rfl)
  have heng : u.eng = s.eng := h.view State.eng (fun _ _ => rfl)
  exact ⟨Within.trans h.mono u.standDown_within, congrArg (fun p : Pwr => { p with state := 0b011, interiors := 0, ringUp := false }) hpwr,
    rfl, rfl, congrArg (fun e : Eng => { e with running := false, state := 0 }) heng⟩

theorem State.enterStandby_standsBy (s : State) : s.StandsBy s.enterStandby := by
  rw [State.enterStandby_eq]
  exact State.standDown_standsBy (State.loseInteriors_within _ s)

/-- The step of a running engine aborted with a hold, or the hold set of an engine at rest. -/
def State.holdNow (s : State) : State := if s.held then { s with eng := { s.eng with hold := true } } else s.abortNow true

theorem State.holdNow_within (s : State) : Within aborting s s.holdNow := .ite rfl (s.abortNow_within true)

theorem State.holdNow_holds (s : State) : s.holdNow.eng.hold = true := by
  unfold State.holdNow
  split
  · rfl
  · exact Bool.or_true _

/-- The sequences that have frames, pages or a prefix, which a loss of the sites' power ends (R433). -/
def State.pageHolders (s : State) : List Nat :=
  s.seqsWhere (fun q => q.state != 0 && (!q.frames.isEmpty || !q.sweep.isEmpty || !(s.prefixReads q).isEmpty))

/-- They end FAULT_ABORTED at the next boundary. -/
def State.endPageHolders (s : State) : State :=
  s.pageHolders.foldl (fun (t : State) i => t.updSeq i (fun q => { q with endDue := 0x19 })) s

theorem State.endPageHolders_within (s : State) : Within { seqs := true } s s.endPageHolders := .foldl _ (fun _ _ => .updSeq _ _ _) _ _

/-- Coolant fail that lasts 810 ticks is STANDBY as if commanded, whatever would refuse the command. -/
theorem coolantFailTimeout_standby (hon : s.pwr.off = false) (hf : s.cool.fail = true) (h810 : 810 ≤ s.cool.failTicks)
    (hst : s.pwr.state ≠ 0b011) :
    Answers .coolantFailTimeout s { standing with mesh := true, sync := true, seqs := true } (fun t =>
      t.pwr.state = 0b011 ∧ t.pwr.interiors = 0 ∧ t.pwr.ringUp = false ∧ t.pwr.dramUp = s.pwr.dramUp ∧ t.banks = [] ∧
      t.eng.hold = true ∧ t.eng.state = 0) := by
  have hh := s.holdNow_within
  have hq := s.holdNow.endPageHolders_within
  obtain ⟨hw, hpwr, hbanks, -, heng⟩ := s.holdNow.endPageHolders.enterStandby_standsBy
  have hpwr' := (hq.view State.pwr (fun _ _ => rfl)).trans (hh.view State.pwr (fun _ _ => rfl))
  have heng' := hq.view State.eng (fun _ _ => rfl)
  rw [hpwr'] at hpwr
  rw [heng'] at heng
  refine .of_act_eq (t := s.holdNow.endPageHolders.enterStandby) (exec_coolantFailTimeout s) hon
    (if_pos (by simpa [hf, h810] using hst)) (Within.trans hh.mono (Within.trans hq.mono hw.mono)) ?_
  exact ⟨by rw [hpwr], by rw [hpwr], by rw [hpwr], by rw [hpwr], hbanks, by rw [heng]; exact s.holdNow_holds, by rw [heng]⟩

/-! ## The supply -/

/-- The footprint of a supply limit. -/
def supplying : Foot := { clk := true, pwr := true, fab := true, chans := true, hif := true }

/-- `t` is `s` with this record of the supply, and its cause set or cleared in both halves. -/
structure State.SupplyCauses (s t : State) (r : Pwr) (on : Bool) : Prop where
  within : Within supplying s t
  pwr : t.pwr = r
  causes : t.clk.BothCause 2 on

/-- The supply's record changed and reported, then its cause set or cleared in both halves. -/
theorem State.pwr_event_setBoth (s : State) (r : Pwr) (arg : Nat) (on : Bool) :
    s.SupplyCauses ((({ s with pwr := r } : State).event [.pf, .bmc] 0x35 arg).setBoth 2 on) r on := by
  have he := State.event_within { s with pwr := r } [.pf, .bmc] 0x35 arg
  have hw := State.setBoth_within (({ s with pwr := r } : State).event [.pf, .bmc] 0x35 arg) 2 on
  exact ⟨Within.trans (t := { s with pwr := r }) rfl (Within.trans he.mono hw.mono),
    (hw.view State.pwr (fun _ _ => rfl)).trans (he.view State.pwr (fun _ _ => rfl)), State.setBoth_causes _ (by decide) on⟩

theorem supplyLimit_limits {amps : Nat} (us : Nat) (hon : s.pwr.off = false) (ha : 500 < amps) (hus : 50 ≤ us) (hl : s.pwr.limit = false) :
    Answers (.supplyLimit amps us) s supplying (fun t =>
      t.pwr = { s.pwr with limit := true, limits := satInc s.pwr.limits, limitTicks := 0 } ∧
      t.clk.causeW.getLsbD 2 = true ∧ t.clk.causeE.getLsbD 2 = true) := by
  obtain ⟨hw, hpwr, h⟩ := s.pwr_event_setBoth { s.pwr with limit := true, limits := satInc s.pwr.limits, limitTicks := 0 } 2 true
  refine .of_act_eq (exec_supplyLimit amps us s) hon ?_ hw ⟨hpwr, h.west, h.east⟩
  dsimp only
  rw [if_pos (show 450 ≤ amps by omega), if_pos ⟨ha, hus, by rw [hl]; rfl⟩]

theorem supplyLimitClear_clears (hon : s.pwr.off = false) (hl : s.pwr.limit = true) (h810 : 810 ≤ s.pwr.limitTicks) :
    Answers .supplyLimitClear s supplying (fun t =>
      t.pwr = { s.pwr with limit := false } ∧ t.clk.causeW.getLsbD 2 = false ∧ t.clk.causeE.getLsbD 2 = false) := by
  obtain ⟨hw, hpwr, h⟩ := s.pwr_event_setBoth { s.pwr with limit := false } 3 false
  exact .of_act_eq (exec_supplyLimitClear s) hon (if_pos (by rw [hl, decide_eq_true h810]; rfl)) hw ⟨hpwr, h.west, h.east⟩

/-! ## OFF -/

/-- Every rail down, with its cause. -/
theorem State.goOff_within (s : State) (c : OffCause) : Within { pwr := true } s (s.goOff c) := rfl

/-- A power fail aborts the step in its fill or its slots, then every rail goes down. -/
theorem powerFail_off {mv us : Nat} (hon : s.pwr.off = false) (hmv : mv < 55000) (hus : 10 ≤ us) :
    Answers (.powerFail mv us) s { aborting with pwr := true } (fun t =>
      t.pwr = { s.pwr with off := true, offCause := .powerFail, interiors := 0, ringUp := false, dramUp := false } ∧
      (s.eng.state = 1 ∨ s.eng.state = 2 → t.eng.aborts = s.eng.aborts + 1 ∧ t.cur = {} ∧ t.nxt = {})) := by
  have hw := s.abortStep_within
  have hpwr := hw.view State.pwr (fun _ _ => rfl)
  refine .of_act_eq (exec_powerFail mv us s) hon (State.when_pos (decide_eq_true ⟨hmv, hus⟩) _)
    (Within.trans hw.mono (State.goOff_within _ _).mono) ⟨?_, fun hst => ?_⟩
  · exact congrArg (fun p : Pwr => { p with off := true, offCause := .powerFail, interiors := 0, ringUp := false, dramUp := false }) hpwr
  · have habort : s.abortStep false = s.abortNow false := by
      unfold State.abortStep
      rcases hst with h | h <;> rw [h] <;> rfl
    obtain ⟨-, heng, hcur, hnxt⟩ := s.abortNow_aborted
    rw [habort]
    exact ⟨by show (s.abortNow false).eng.aborts = _; rw [heng]; rfl, hcur, hnxt⟩

theorem overvoltageCut_off {mv us : Nat} (hon : s.pwr.off = false) (h72 : 72000 < mv) (h80 : mv ≤ 80000) (hus : 10 ≤ us) :
    Answers (.overvoltageCut mv us) s { pwr := true } (fun t =>
      t.pwr = { s.pwr with off := true, offCause := .overvoltage, interiors := 0, ringUp := false, dramUp := false }) :=
  .of_act_eq (exec_overvoltageCut h80 us) hon (State.when_pos (decide_eq_true ⟨h72, hus⟩) _) (s.goOff_within _) rfl

/-- A trip, also of a power-fail sequence that has not ended yet (Table 17.3). -/
theorem thermalTrip_trips {k code : Nat} (h : s.pwr.off = false ∨ s.pwr.offCause = .powerFail) (hk : k < 2688) (hc : 700 ≤ code) :
    Answers (.thermalTrip k code) s { thm := true, pwr := true } (fun t =>
      t.pwr = { s.pwr with off := true, offCause := .trip, interiors := 0, ringUp := false, dramUp := false } ∧
      t.thm = { s.thm with tripN := false }) := by
  have hgo : (s.pwr.off && s.pwr.offCause != .powerFail) = false := by rcases h with h | h <;> rw [h] <;> simp
  exact ⟨s.tripped, (exec_thermalTrip k code s).trans (congrArg _ (if_pos ⟨hgo, hk, hc⟩)), rfl, rfl, rfl⟩

/-- A faulted rail kills its interior. -/
theorem railFault_kills {vale : Nat} (hon : s.pwr.off = false) (hv : vale < 84) (hu : s.interiorUp vale = true) :
    Answers (.railFault vale) s { Foot.dying with pwr := true } (fun t =>
      t.pwr.railFaults = satInc s.pwr.railFaults ∧ ∀ k ∈ interiorSites vale, (t.site k).fstate = 3) := by
  have h1 : Within { Foot.dying with pwr := true } s { s with pwr := { s.pwr with railFaults := satInc s.pwr.railFaults } } := rfl
  have hk := State.killAll_within { s with pwr := { s.pwr with railFaults := satInc s.pwr.railFaults } } (interiorSites vale) 0x08
  have he := State.event_within (({ s with pwr := { s.pwr with railFaults := satInc s.pwr.railFaults } } : State).killAll
    (interiorSites vale) 0x08) [.pf, .bmc] 0x35 4
  refine .of_act_eq (exec_railFault vale s) hon (if_pos ⟨hv, hu⟩) (h1.trans (Within.trans hk.mono he.mono)) ⟨?_, fun k hm => ?_⟩
  · rw [he.view State.pwr (fun _ _ => rfl), hk.view State.pwr (fun _ _ => rfl)]
  · rw [he.site k]
    exact State.killAll_kills 0x08 hm _

/-- Settles O19: that a trip acts in OFF after a power fail is the model's (log entry 8). -/
theorem coolantAndSupplyProtection : Obligations.CoolantAndSupplyProtection := by
  refine ⟨fun s hon => ⟨coolantRateCause_inletHigh hon, coolantRateCause_flowLow hon, coolantCauseClear_inletHigh hon,
    coolantCauseClear_flowLow hon, coolantFail_enters hon, coolantFailClear_ends hon, coolantFailTimeout_standby hon⟩,
    fun s => ⟨fun amps us hon => supplyLimit_limits us hon, supplyLimitClear_clears, fun mv us hon => powerFail_off hon,
      fun mv us hon => overvoltageCut_off hon, fun mv us h => exec_overvoltageCut_beyond h us, fun k code h => thermalTrip_trips h,
      ⟨s.unpowered, exec_vauxFalls s, rfl, rfl, rfl⟩, fun vale hon => railFault_kills hon⟩⟩

end Sys2Proof.Machine
end

section
/-! SUPPORT. What the stages from FIRMWARE on leave of a start (R446, R460), and what resets restart (Table 15.4, R455–R463). -/

namespace Sys2Proof.Machine

variable {s t u : State}

/-! ## The stages from FIRMWARE on -/

/-- The footprint of the stages FIRMWARE to RAILS. -/
def booting : Foot := { pwr := true, boot := true, nv := true, parts := true, fab := true, chans := true, hif := true, sec := true }

/-- `t` is a later point of the start of `s`: the engine still off or on, READY or not, with the reset and the restarts that led to it, stage ROM as
it was, and the records and keys. -/
structure State.Boots (s t : State) : Prop where
  within : Within booting s t
  off : t.pwr.off = s.pwr.off
  ready : t.boot.ready = s.boot.ready
  resetKind : t.boot.resetKind = s.boot.resetKind
  restarts : t.boot.restarts = s.boot.restarts
  rom : t.stageDone 0 = s.stageDone 0
  opKey : t.nv.opKey = s.nv.opKey
  roots : t.nv.roots = s.nv.roots
  partCfgs : t.nv.partCfgs = s.nv.partCfgs
  minSvn : t.nv.minSvn = s.nv.minSvn

theorem State.Boots.trans (h : s.Boots t) (h' : t.Boots u) : s.Boots u :=
  ⟨h.within.trans h'.within, h'.off.trans h.off, h'.ready.trans h.ready, h'.resetKind.trans h.resetKind, h'.restarts.trans h.restarts,
    h'.rom.trans h.rom, h'.opKey.trans h.opKey, h'.roots.trans h.roots, h'.partCfgs.trans h.partCfgs, h'.minSvn.trans h.minSvn⟩

/-- A change that each of these shows to be none of theirs. -/
theorem State.Boots.of_fields (within : Within booting s t := by rfl) (off : t.pwr.off = s.pwr.off := by rfl)
    (ready : t.boot.ready = s.boot.ready := by rfl) (resetKind : t.boot.resetKind = s.boot.resetKind := by rfl)
    (restarts : t.boot.restarts = s.boot.restarts := by rfl) (rom : t.stageDone 0 = s.stageDone 0 := by rfl)
    (opKey : t.nv.opKey = s.nv.opKey := by rfl) (roots : t.nv.roots = s.nv.roots := by rfl)
    (partCfgs : t.nv.partCfgs = s.nv.partCfgs := by rfl) (minSvn : t.nv.minSvn = s.nv.minSvn := by rfl) : s.Boots t :=
  ⟨within, off, ready, resetKind, restarts, rom, opKey, roots, partCfgs, minSvn⟩

/-- A change outside the records of power, start-up and the non-volatile state. -/
theorem State.Boots.of_same (h : Within booting s t) (hp : t.pwr = s.pwr := by rfl) (hb : t.boot = s.boot := by rfl)
    (hn : t.nv = s.nv := by rfl) : s.Boots t :=
  ⟨h, by rw [hp], by rw [hb], by rw [hb], by rw [hb], by rw [State.stageDone, State.stageDone, hb], by rw [hn], by rw [hn], by rw [hn], by rw [hn]⟩

theorem State.Boots.event (s : State) (rs : List Receiver) (code : Byte) (arg : Nat) : s.Boots (s.event rs code arg) :=
  have h := s.event_within rs code arg
  .of_same h.mono (h.view State.pwr (fun _ _ => rfl)) (h.view State.boot (fun _ _ => rfl)) (h.view State.nv (fun _ _ => rfl))

/-- A stage complete leaves the others. -/
theorem State.stageDone_finish (s : State) (c d : Nat) : (s.finish c).stageDone d = (s.stageDone d || (decide (d < 10) && decide (d = c))) := by
  simp only [State.stageDone, State.finish, BitVec.getLsbD_or, BitVec.getLsbD_shiftLeft, BitVec.getLsbD_one]
  congr 1
  rw [Bool.eq_iff_iff]
  simp
  omega

theorem State.stageDone_finish_self (s : State) {c : Nat} (h : c < 10) : (s.finish c).stageDone c = true := by
  simp [State.stageDone_finish, h]

theorem State.stageDone_finish_ne (s : State) {c d : Nat} (h : d ≠ c) : (s.finish c).stageDone d = s.stageDone d := by
  simp [State.stageDone_finish, h]

theorem State.Boots.finish (s : State) {c : Nat} (h : 0 ≠ c) : s.Boots (s.finish c) :=
  .of_fields (rom := s.stageDone_finish_ne h)

theorem State.loadRecords_within (s : State) : Within { parts := true } s s.loadRecords :=
  .foldl _ (fun t p => by
    split
    · exact .updPart _ _ _
    · exact .ite (.updPart _ _ _) (.refl _ _)) _ _

theorem State.Boots.loadRecords (s : State) : s.Boots s.loadRecords :=
  have h := s.loadRecords_within
  .of_same h.mono (h.view State.pwr (fun _ _ => rfl)) (h.view State.boot (fun _ _ => rfl)) (h.view State.nv (fun _ _ => rfl))

/-- What stage FIRMWARE and those after it come to: recovery mode, a stop, or the rails up. -/
theorem State.bootFirmware_boots (s : State) (env : BootEnv) (hang : Bool) : s.Boots (s.bootFirmware env hang) := by
  have hrecover : ∀ cause, s.Boots (State.recover { s with boot := { s.boot with forceRcvyLow := env.forceRcvyLow } } cause) :=
    fun _ => .of_fields
  unfold State.bootFirmware
  extract_lets b0 s0 f1 n0 s1 b1 s2
  have h0 : s.Boots s0 := .of_fields
  have h1 : s0.Boots s1 := (State.Boots.finish s0 (c := 1) (by decide)).trans .of_fields
  have h2 : s1.Boots s2 := (State.Boots.loadRecords s1).trans (.finish _ (by decide))
  clear_value s2
  split
  · exact hrecover 6
  split
  · exact hrecover 7
  split
  · exact hrecover _
  split
  · exact (h0.trans h1).trans (State.Boots.trans .of_fields (.event _ _ _ _))
  · refine (h0.trans (h1.trans h2)).trans ?_
    split
    · exact (State.Boots.finish s2 (c := 3) (by decide)).trans .of_fields
    · exact State.Boots.trans .of_fields (.event _ _ _ _)

/-! ## What a reset clears and keeps -/

/-- `t` is `s` after a reset: what is volatile cleared, the array cells, the host's memory and the keys kept, nothing committed. -/
structure State.Cleared (s t : State) : Prop where
  cells : t.cells = s.cells
  host : t.host = s.host
  mem : t.mem = []
  poison : t.poison = []
  seqs : t.seqs = []
  vars : t.vars = []
  banks : t.banks = []
  acc24 : t.acc24 = []
  acc48 : t.acc48 = []
  eng : t.eng = {}
  sync : t.sync = {}
  mesh : t.mesh = {}
  off : t.pwr.off = false
  ready : t.boot.ready = false
  opKey : t.nv.opKey = s.nv.opKey
  roots : t.nv.roots = s.nv.roots
  partCfgs : t.nv.partCfgs = s.nv.partCfgs
  minSvn : t.nv.minSvn = s.nv.minSvn
  lock : t.lock = { plan := s.lock.recPlan.getD 0x03333000, topo := s.lock.recTopo, recPlan := s.lock.recPlan, recTopo := s.lock.recTopo }

/-- The wipe of a reset, with stage ROM complete or not. -/
theorem State.wipe_cleared (s : State) (power : Bool) (kind : BitVec 4) : s.Cleared (s.wipe power kind) :=
  ⟨rfl, rfl, rfl, rfl, rfl, rfl, rfl, rfl, rfl, rfl, rfl, rfl, rfl, rfl, rfl, rfl, rfl, rfl, rfl⟩

theorem State.Cleared.boots (h : s.Cleared t) (hb : t.Boots u) : s.Cleared u where
  cells := (hb.within.view State.cells (fun _ _ => rfl)).trans h.cells
  host := (hb.within.view State.host (fun _ _ => rfl)).trans h.host
  mem := (hb.within.view State.mem (fun _ _ => rfl)).trans h.mem
  poison := (hb.within.view State.poison (fun _ _ => rfl)).trans h.poison
  seqs := (hb.within.view State.seqs (fun _ _ => rfl)).trans h.seqs
  vars := (hb.within.view State.vars (fun _ _ => rfl)).trans h.vars
  banks := (hb.within.view State.banks (fun _ _ => rfl)).trans h.banks
  acc24 := (hb.within.view State.acc24 (fun _ _ => rfl)).trans h.acc24
  acc48 := (hb.within.view State.acc48 (fun _ _ => rfl)).trans h.acc48
  eng := (hb.within.view State.eng (fun _ _ => rfl)).trans h.eng
  sync := (hb.within.view State.sync (fun _ _ => rfl)).trans h.sync
  mesh := (hb.within.view State.mesh (fun _ _ => rfl)).trans h.mesh
  off := hb.off.trans h.off
  ready := hb.ready.trans h.ready
  opKey := hb.opKey.trans h.opKey
  roots := hb.roots.trans h.roots
  partCfgs := hb.partCfgs.trans h.partCfgs
  minSvn := hb.minSvn.trans h.minSvn
  lock := (hb.within.view State.lock (fun _ _ => rfl)).trans h.lock

/-! ## Power-on (R455, R477) -/

/-- A start whose REFCLK is present at stage ROM's end: device time 0, the straps sampled. -/
def State.romEnd (s : State) (env : BootEnv) : State :=
  ({ s with time := 0, clk := { s.clk with refPresent := true }, boot := { s.boot with maddr := env.maddr } } : State).finish 0

theorem State.romLock_boots (s : State) (env : BootEnv) : (s.romEnd env).Boots (s.romLock env) := State.bootFirmware_boots _ _ _

theorem State.romEnd_cleared (s : State) (env : BootEnv) : s.Cleared ((s.wipe true 0).romEnd env) :=
  ⟨rfl, rfl, rfl, rfl, rfl, rfl, rfl, rfl, rfl, rfl, rfl, rfl, rfl, rfl, rfl, rfl, rfl, rfl, rfl⟩

/-- A power-on clears what is volatile, and completes stage ROM at device time 0 where REFCLK is present. -/
theorem State.poweredOn_spec (s : State) (env : BootEnv) :
    s.Cleared (s.poweredOn env) ∧ (s.poweredOn env).time = 0 ∧ (s.poweredOn env).stageDone 0 = env.refclk := by
  unfold State.poweredOn
  cases env.refclk with
  | true =>
    have hb := (s.wipe true 0).romLock_boots env
    exact ⟨(s.romEnd_cleared env).boots hb, hb.within.view State.time (fun _ _ => rfl),
      hb.rom.trans (State.stageDone_finish_self _ (by decide))⟩
  | false => exact ⟨s.wipe_cleared true 0, rfl, by simp [State.stageDone, State.wipe]⟩

/-! ## Device resets (R455, R456, R461, R463) -/

/-- A device reset restarts at stage FIRMWARE. -/
theorem State.deviceReset_spec (s : State) (kind : BitVec 4) (env : BootEnv) (hang : Bool) :
    s.restarted kind (s.deviceReset kind env hang) ∧ (s.deviceReset kind env hang).boot.restarts = s.boot.restarts := by
  have hb : ((s.wipe false kind).finish 0).Boots (s.deviceReset kind env hang) := State.bootFirmware_boots _ _ _
  have hw : s.Cleared ((s.wipe false kind).finish 0) :=
    ⟨rfl, rfl, rfl, rfl, rfl, rfl, rfl, rfl, rfl, rfl, rfl, rfl, rfl, rfl, rfl, rfl, rfl, rfl, rfl⟩
  have h := hw.boots hb
  exact ⟨⟨hb.within.view State.time (fun _ _ => rfl), h.cells, h.host, h.mem, h.poison, h.seqs, h.vars, h.banks, h.acc24, h.acc48, h.eng, h.sync,
    h.mesh, h.off, h.ready, hb.resetKind, hb.rom.trans (State.stageDone_finish_self _ (by decide)), h.opKey, h.roots, h.lock⟩, hb.restarts⟩

/-- A reset looks at no more of the state before it than these components. -/
theorem State.restarted_of_eq {kind : BitVec 4} (h : u.restarted kind t) (htime : u.time = s.time) (hcells : u.cells = s.cells)
    (hhost : u.host = s.host) (hkey : u.nv.opKey = s.nv.opKey) (hroots : u.nv.roots = s.nv.roots) (hlock : u.lock = s.lock) :
    s.restarted kind t := by
  unfold State.restarted at h ⊢
  rwa [htime, hcells, hhost, hkey, hroots, hlock] at h

/-- A boot restart is a device reset that is counted. -/
theorem State.bootRestart_spec (s : State) (env : BootEnv) :
    s.restarted 3 (s.bootRestart env) ∧ (s.bootRestart env).boot.restarts = satInc s.boot.restarts := by
  unfold State.bootRestart
  extract_lets near b0 s1
  exact s1.deviceReset_spec 3 env _

end Sys2Proof.Machine
end

section
/-! The statements of power-on and of the device resets settled. -/

namespace Sys2Proof.Machine

variable {s : State}

theorem exec_sysRstNReset (lowNs : Nat) (env : BootEnv) (s : State) : exec (.sysRstNReset lowNs env) s = execSysRstNReset lowNs env s := rfl
theorem exec_devReset (b : CmdBlock) (env : BootEnv) (s : State) : exec (.devReset b env) s = execDevReset b env s := rfl
theorem exec_bootWatchdogExpiry (env : BootEnv) (s : State) : exec (.bootWatchdogExpiry env) s = execBootWatchdogExpiry env s := rfl
theorem exec_recoveryUpdateRestart (env : BootEnv) (s : State) : exec (.recoveryUpdateRestart env) s = execRecoveryUpdateRestart env s := rfl

/-- Settles O10: a wipe clears the volatile state, and no stage of start-up touches what it keeps. -/
theorem powerOnClearsAllButTheNonVolatile : Obligations.PowerOnClearsAllButTheNonVolatile := by
  intro env s hmay
  obtain ⟨h, htime, hrom⟩ := s.poweredOn_spec env
  refine ⟨State.only .all s (s.poweredOn env), (exec_powerOnReset env s).trans (congrArg _ (if_pos hmay)), .only _ _ _, ?_⟩
  exact ⟨htime, h.cells, h.host, h.mem, h.poison, h.seqs, h.vars, h.banks, h.acc24, h.acc48, h.eng, h.sync, h.mesh, h.off, h.ready, h.lock, h.opKey,
    h.roots, h.partCfgs, h.minSvn, hrom⟩

theorem sysRstNReset_restarts (hon : s.pwr.off = false) (env : BootEnv) {lowNs : Nat} (h : 10000 ≤ lowNs) :
    Answers (.sysRstNReset lowNs env) s .all (State.restarted s 1) := by
  refine .of_act (exec_sysRstNReset lowNs env s) hon ?_
  rw [State.when_pos (decide_eq_true h)]
  exact (s.deviceReset_spec 1 env false).1

/-- The secure channels of the operator and the BMC, on which critical commands come, are two of the operator's three. -/
theorem mem_operator_of_critical {c : Nat} (h : c ∈ [0, 18]) : c ∈ [0, 1, 18] :=
  (show [0, 18] ⊆ [0, 1, 18] by decide) h

/-- DEV_RESET restarts the state that has taken the command; the result sent before the reset is lost with the channels. -/
theorem devReset_restarts (hon : s.pwr.off = false) (env : BootEnv) {b : CmdBlock} (hacc : s.accepts ⟨0x68, true, [0, 18]⟩ false false b)
    (hb : b.par 0 1 = 1) : Answers (.devReset b env) s .all (State.restarted s 2) := by
  obtain ⟨u, hu, he⟩ := State.accept_arrives hacc (mem_operator_of_critical (State.accepts_channel hacc)) (fun t =>
    if b.par 0 1 = 1 then (t.result b 0x68 0).deviceReset 2 env false else t.result b 0x68 1)
  have hr := u.result_within b 0x68 0
  refine .of_act (exec_devReset b env s) hon ?_
  rw [he, if_pos hb]
  refine State.restarted_of_eq ((u.result b 0x68 0).deviceReset_spec 2 env false).1 ?_ ?_ ?_ ?_ ?_ ?_
  · exact (hr.view State.time (fun _ _ => rfl)).trans (hu.view State.time (fun _ _ => rfl))
  · exact (hr.view State.cells (fun _ _ => rfl)).trans (hu.view State.cells (fun _ _ => rfl))
  · exact (hr.view State.host (fun _ _ => rfl)).trans (hu.view State.host (fun _ _ => rfl))
  · exact (hr.view (fun s => s.nv.opKey) (fun _ _ => rfl)).trans (hu.view (fun s => s.nv.opKey) (fun _ _ => rfl))
  · exact (hr.view (fun s => s.nv.roots) (fun _ _ => rfl)).trans (hu.view (fun s => s.nv.roots) (fun _ _ => rfl))
  · exact hr.lock.trans (hu.view State.lock (fun _ _ => rfl))

/-- Settles O12: every device reset is the same restart, with its kind, and those that the boot starts itself are counted. -/
theorem deviceResetsRestartAtFirmware : Obligations.DeviceResetsRestartAtFirmware := by
  intro s env hon
  refine ⟨fun lowNs h => sysRstNReset_restarts hon env h, fun b hacc hb => devReset_restarts hon env hacc hb, ?_, fun hrec hupd => ?_⟩
  · exact .of_act (exec_bootWatchdogExpiry env s) hon (s.bootRestart_spec env)
  · refine .of_act (exec_recoveryUpdateRestart env s) hon ?_
    rw [State.when_pos (by rw [hrec, hupd]; rfl)]
    exact s.bootRestart_spec env

end Sys2Proof.Machine
end

section
/-! SUPPORT. The stages of start-up and the golden copies (R126, R423, R446–R451). -/

namespace Sys2Proof.Machine

variable {s t : State}

theorem exec_meshLock (env : BootEnv) (s : State) : exec (.meshLock env) s = execMeshLock env s := rfl
theorem exec_coolantConfirmed (vote : VoteInput) (s : State) : exec (.coolantConfirmed vote) s = execCoolantConfirmed vote s := rfl
theorem exec_integrityCheck (s : State) : exec .integrityCheck s = execIntegrityCheck s := rfl
theorem exec_dramInit (trained : BitVec 16) (s : State) : exec (.dramInit trained) s = execDramInit trained s := rfl
theorem exec_ready (s : State) : exec .ready s = execReady s := rfl
theorem exec_goldenRebuild (s : State) : exec .goldenRebuild s = execGoldenRebuild s := rfl

/-! ## Stage LOCK -/

/-- Vales added to a set stay in it. -/
theorem valeBit_foldl_setVale (vs : List Nat) (g : Nat → Nat) {m : BitVec 84} {v : Nat} (hv : v < 84)
    (h : valeBit m v = true ∨ ∃ x ∈ vs, g x = v) : valeBit (vs.foldl (fun a x => setVale a (g x)) m) v = true := by
  induction vs generalizing m with
  | nil => exact h.resolve_right (fun ⟨_, hx, _⟩ => nomatch hx)
  | cons y vs ih =>
    refine ih ?_
    rcases h with h | ⟨x, hx, rfl⟩
    · exact .inl (valeBit_setVale_of m h)
    · obtain rfl | hx := List.mem_cons.1 hx
      · exact .inl (valeBit_setVale_self m hv)
      · exact .inr ⟨x, hx, rfl⟩

theorem State.stageDone_of_below {c d : Nat} (h : s.stagesBelow c = true) (hd : d < c) : s.stageDone d = true :=
  List.all_eq_true.1 h d (List.mem_range.2 hd)

/-- The state with stage LOCK complete: the mesh locked to REFCLK, the interiors of column vx 0 up. -/
def State.locked (s : State) : State :=
  { s.finish 4 with
    clk := { s.clk with refPresent := true, refLocked := true }
    pwr := { s.pwr with interiors := (List.range 12).foldl (fun (a : BitVec 84) vy => setVale a (7 * vy)) s.pwr.interiors }
    cool := { s.cool with goodTicks := 0 } }

theorem meshLock_locks {env : BootEnv} (hon : s.pwr.off = false) (href : env.refclk = true) (hrec : s.boot.recovery = false)
    (hb : s.stagesBelow 4 = true) (h4 : s.stageDone 4 = false) (hstop : s.boot.stopped = false) :
    Answers (.meshLock env) s { clk := true, pwr := true, cool := true, boot := true } (fun t =>
      t.clk = { s.clk with refPresent := true, refLocked := true } ∧ t.boot = { s.boot with done := s.boot.done ||| 0x010 } ∧
      (∀ vy < 12, valeBit t.pwr.interiors (7 * vy) = true) ∧ t.cool = { s.cool with goodTicks := 0 }) := by
  have h0 : s.stageDone 0 = true := State.stageDone_of_below hb (by decide)
  have hlock : (State.stagesBelow { s with clk := { s.clk with refPresent := true } } 4 &&
      !State.stageDone { s with clk := { s.clk with refPresent := true } } 4 && !s.boot.stopped) = true := by
    rw [show State.stagesBelow { s with clk := { s.clk with refPresent := true } } 4 = true from hb,
      show State.stageDone { s with clk := { s.clk with refPresent := true } } 4 = false from h4, hstop]
    rfl
  refine .of_act_eq (t := s.locked) (exec_meshLock env s) hon ?_ rfl ⟨rfl, rfl, fun vy hvy => ?_, rfl⟩
  · dsimp only
    rw [if_neg (by simp [href, hrec]), if_neg (by simp [h0]), if_pos hlock]
    rfl
  · exact valeBit_foldl_setVale _ (7 * ·) (by omega) (.inr ⟨vy, List.mem_range.2 hvy, rfl⟩)

/-! ## Stages COOLANT and VOTE -/

/-- The footprint of the neighbour vote (R313): deaths, and the defect map. -/
def voting : Foot := { Foot.dying with nv := true }

theorem State.reconcile_within (s : State) (bringUp : Bool) (k : Nat) : Within voting s (s.reconcile bringUp k) := by
  unfold State.reconcile
  split
  · exact (s.siteDie_within k 0x08 0x1F).mono
  split
  · split
    · rfl
    · exact .updSite _ _ _
  · exact .refl _ _

theorem State.runVote_within (s : State) (v : VoteInput) (bringUp : Bool) (under : Nat → Bool) : Within voting s (s.runVote v bringUp under) :=
  .foldl _ (fun t k => t.reconcile_within bringUp k) _ _

/-- The state with stage COOLANT complete and every interior and the DRAM up, before the vote. -/
def State.cooledUp (s : State) : State := { s.finish 5 with pwr := { s.pwr with interiors := BitVec.allOnes 84, dramUp := true } }

theorem valeBit_allOnes {v : Nat} (h : v < 84) : valeBit (BitVec.allOnes 84) v = true :=
  BitVec.getLsbD_allOnes.trans (decide_eq_true h)

theorem coolantConfirmed_votes {vote : VoteInput} (hon : s.pwr.off = false) (hb : s.stagesBelow 5 = true) (h5 : s.stageDone 5 = false)
    (h8 : 8 ≤ s.cool.goodTicks) :
    Answers (.coolantConfirmed vote) s { voting with pwr := true, boot := true, sens := true } (fun t =>
      t.stageDone 5 = true ∧ t.stageDone 6 = true ∧ t.pwr.dramUp = true ∧ (∀ v < 84, valeBit t.pwr.interiors v = true) ∧
      (∀ v < 84, valeBit t.pwr.uncal v = true ∧ valeBit t.sens.due v = true)) := by
  have hv := s.cooledUp.runVote_within vote true (fun _ => true)
  have hboot : (s.cooledUp.runVote vote true (fun _ => true)).stageDone 5 = true :=
    (hv.view (State.stageDone · 5) (fun _ _ => rfl)).trans (State.stageDone_finish_self s (by decide))
  have hpwr := hv.view State.pwr (fun _ _ => rfl)
  have h1 : Within { voting with pwr := true, boot := true, sens := true } s s.cooledUp := rfl
  refine .of_act_eq (t := ((s.cooledUp.runVote vote true (fun _ => true)).finish 6).makeDue (BitVec.allOnes 84)) (exec_coolantConfirmed vote s) hon
    (if_pos (by rw [hb, h5, decide_eq_true h8]; rfl)) (h1.trans (Within.trans hv.mono rfl)) ⟨?_, ?_, ?_, fun v hlt => ?_, fun v hlt => ⟨?_, ?_⟩⟩
  · exact (State.stageDone_finish_ne _ (by decide)).trans hboot
  · exact State.stageDone_finish_self _ (by decide)
  · exact congrArg Pwr.dramUp hpwr
  · show valeBit (s.cooledUp.runVote vote true (fun _ => true)).pwr.interiors v = true
    rw [hpwr]
    exact valeBit_allOnes hlt
  · exact (valeBit_or _ _ v).trans (by rw [valeBit_allOnes hlt, Bool.or_true])
  · exact (valeBit_or _ _ v).trans (by rw [valeBit_allOnes hlt, Bool.or_true])

/-! ## Stage INTEGRITY -/

/-- An array with its read CRC stored and compared with the record. -/
def Arr.checked (a : Arr) (crc : W32) : Arr := { a with acrc := crc, unverified := a.cut || decide (crc ≠ a.recCrc) }

theorem Arr.checked_checked (a : Arr) (crc : W32) : (a.checked crc).checked crc = a.checked crc := rfl

/-- One array of the pass. -/
def State.checkArray (s : State) (n : Nat) : State := s.updArr (n / 17) (n % 17) (·.checked (s.crcOf (n / 17) (n % 17)))

theorem arrKey_div_mod (n : Nat) : arrKey (n / 17) (n % 17) = n := Nat.div_add_mod' n 17

theorem State.checkArray_get (s : State) (n m : Nat) :
    (s.checkArray n).arrs.get {} m = if m = n then (s.arrs.get {} m).checked (s.crcOf (m / 17) (m % 17)) else s.arrs.get {} m := by
  have h := Sparse.get_upd (d := ({} : Arr)) s.arrs (arrKey (n / 17) (n % 17)) m (·.checked (s.crcOf (n / 17) (n % 17)))
  rw [arrKey_div_mod] at h
  refine Eq.trans ?_ (h.trans ?_)
  · rw [State.checkArray, State.updArr, arrKey_div_mod]
  · split
    · next e => rw [e]
    · rfl

/-- A read CRC looks at the cells alone. -/
theorem State.crcOf_congr (h : t.cells = s.cells) (k p : Nat) : t.crcOf k p = s.crcOf k p := by
  unfold State.crcOf State.imageOf
  rw [h]

/-- Every array of a list is checked, and no other one changes; the cells are read alone. -/
theorem State.checkArrays_get (ns : List Nat) (s : State) (m : Nat) :
    (ns.foldl State.checkArray s).arrs.get {} m =
      if m ∈ ns then (s.arrs.get {} m).checked (s.crcOf (m / 17) (m % 17)) else s.arrs.get {} m := by
  induction ns generalizing s with
  | nil => exact (if_neg List.not_mem_nil).symm
  | cons n ns ih =>
    have hcrc : (s.checkArray n).crcOf (m / 17) (m % 17) = s.crcOf (m / 17) (m % 17) := State.crcOf_congr rfl _ _
    rw [List.foldl_cons, ih, State.checkArray_get, hcrc]
    by_cases hm : m = n
    · rw [if_pos hm, if_pos (List.mem_cons.2 (.inl hm)), Arr.checked_checked, ite_self]
    · rw [if_neg hm]
      simp only [List.mem_cons, hm, false_or]

theorem integrityCheck_checks (hon : s.pwr.off = false) (hb : s.stagesBelow 8 = true) (h8 : s.stageDone 8 = false) :
    Answers .integrityCheck s { boot := true, arrs := true } (fun t =>
      t.boot = { s.boot with done := s.boot.done ||| 0x100 } ∧
      (∀ k p, p < 17 → arrKey k p ∈ s.knownArrays → (t.arr k p).acrc = s.crcOf k p ∧
        (t.arr k p).unverified = ((s.arr k p).cut || decide (s.crcOf k p ≠ (s.arr k p).recCrc))) ∧
      (∀ n, n ∉ s.knownArrays → t.arrs.get {} n = s.arrs.get {} n)) := by
  have hw := Within.foldl (m := { arrs := true }) State.checkArray (fun t _ => Within.updArr t _ _ _) s.knownArrays (s.finish 8)
  have hget := State.checkArrays_get s.knownArrays (s.finish 8)
  refine .of_act_eq (t := s.knownArrays.foldl State.checkArray (s.finish 8)) (exec_integrityCheck s) hon (if_pos (by rw [hb, h8]; rfl))
    (Within.trans (t := s.finish 8) rfl hw.mono) ⟨hw.view State.boot (fun _ _ => rfl), fun k p hp hk => ?_, fun n hn => ?_⟩
  · have hdiv : arrKey k p / 17 = k := by unfold arrKey; omega
    have hmod : arrKey k p % 17 = p := by unfold arrKey; omega
    have h := hget (arrKey k p)
    rw [if_pos hk, hdiv, hmod] at h
    rw [State.arr, h]
    exact ⟨rfl, rfl⟩
  · rw [hget, if_neg hn]
    rfl

/-! ## Stage DRAM and READY -/

theorem dramInit_zeroes {trained : BitVec 16} (hon : s.pwr.off = false) (h5 : s.stageDone 5 = true) (h9 : s.stageDone 9 = false) :
    Answers (.dramInit trained) s { boot := true, mem := true, poison := true } (fun t =>
      t.boot = { s.boot with done := s.boot.done ||| 0x200, stacksOk := trained } ∧
      (∀ a, t.mem.read a = if a < 0x00C000000000 then 0 else s.mem.read a)) := by
  refine .of_act_eq (t := { (s.zeroMem 0 0x00C000000000).finish 9 with boot := _ }) (exec_dramInit trained s) hon
    (if_pos (by rw [h5, h9]; rfl)) rfl ⟨rfl, fun a => ?_⟩
  exact (Memory.read_zero s.mem 0 0x00C000000000 a).trans (by simp)

/-- The state with READY reached: IDLE_HOLD, with the engine held. -/
def State.atReady (s : State) : State :=
  { s with
    boot := { s.boot with ready := true, readyTime := s.time }
    nv := { s.nv with minSvn := if s.nv.minSvn < s.nv.fwSvn then s.nv.fwSvn else s.nv.minSvn }
    eng := { s.eng with hold := true, state := 0, stepNumber := 0 }
    pwr := { s.pwr with state := 0b010 } }

/-- READY reached: IDLE_HOLD with the engine held, and the security version raised to the firmware's. -/
structure State.ReachesReady (s t : State) : Prop where
  boot : t.boot = { s.boot with ready := true, readyTime := s.time }
  eng : t.eng = { s.eng with hold := true, state := 0, stepNumber := 0 }
  pwr : t.pwr = { s.pwr with state := 0b010 }
  nv : t.nv = { s.nv with minSvn := if s.nv.minSvn < s.nv.fwSvn then s.nv.fwSvn else s.nv.minSvn }

theorem ready_reached (hon : s.pwr.off = false) (hb : s.stagesBelow 10 = true) (hr : s.boot.ready = false) (hrec : s.boot.recovery = false) :
    Answers .ready s { pwr := true, boot := true, nv := true, eng := true, fab := true, chans := true, hif := true }
      s.ReachesReady := by
  have hw : Within saying s.atReady ((List.range 22).foldl State.pump (s.atReady.event [.pf, .bmc] 0x08 0)) :=
    (State.event_within _ _ _ _).trans (.foldl _ State.pump_within _ _)
  exact .of_act_eq (exec_ready s) hon (if_pos (by rw [hb, hr, hrec]; rfl)) (Within.trans (t := s.atReady) rfl hw.mono)
    ⟨hw.view State.boot (fun _ _ => rfl), hw.view State.eng (fun _ _ => rfl), hw.view State.pwr (fun _ _ => rfl),
      hw.view State.nv (fun _ _ => rfl)⟩

/-! ## Golden copies -/

/-- The footprint of golden copies rebuilt. -/
def rebuilding : Foot := { mem := true, host := true, poison := true }

theorem State.rebuildOne_within (s : State) (g : GenArray) : Within rebuilding s (s.rebuildOne g) := by
  unfold State.rebuildOne
  exact .ite (.wrBytes _ _ _) (.refl _ _)

theorem State.imageOf_length (s : State) (k p : Nat) : (s.imageOf k p).length = 0x41800 := by
  simp [State.imageOf, Sparse.getList, imageBytes]

/-- A copy rebuilt leaves the bytes outside it. -/
theorem State.rebuildOne_read (s : State) (g : GenArray) {a : Nat} (h : ¬(g.golden ≤ a ∧ a < g.golden + 0x41800)) :
    (s.rebuildOne g).mem.read a = s.mem.read a := by
  unfold State.rebuildOne
  dsimp only
  split
  · exact State.read_wrBytes_other s _ _ _ (by rwa [State.imageOf_length])
  · rfl

/-- The copies of one generation rebuilt, where its golden area is in service. -/
def State.rebuildGen (s : State) (g : Gen) : State := if s.okDram g.goldenBase g.goldenSize then g.arrays.foldl State.rebuildOne s else s

theorem State.rebuildGen_within (s : State) (g : Gen) : Within rebuilding s (s.rebuildGen g) :=
  .ite (.foldl _ State.rebuildOne_within _ _) (.refl _ _)

/-- Updates that leave a byte, one by one, leave it together. -/
theorem foldl_read {α : Type} (f : State → α → State) {a : Nat} {l : List α} (hf : ∀ x ∈ l, ∀ s, (f s x).mem.read a = s.mem.read a) (s : State) :
    (l.foldl f s).mem.read a = s.mem.read a := by
  induction l generalizing s with
  | nil => rfl
  | cons x l ih => exact (ih (fun y hy => hf y (List.mem_cons_of_mem x hy)) _).trans (hf x List.mem_cons_self s)

theorem State.rebuildGen_read (s : State) (g : Gen) {a : Nat} (h : ∀ e ∈ g.arrays, ¬(e.golden ≤ a ∧ a < e.golden + 0x41800)) :
    (s.rebuildGen g).mem.read a = s.mem.read a := by
  unfold State.rebuildGen
  split
  · exact foldl_read _ (fun e he t => t.rebuildOne_read e (h e he)) s
  · rfl

/-- The generations whose golden copies are rebuilt: DORMANT or half programmed. -/
def State.rebuildable (s : State) : List Gen := [s.wgt.genA, s.wgt.genB].filter (fun g => g.state == 6 || g.state == 7)

theorem goldenRebuild_rebuilds (hon : s.pwr.off = false) (hr : s.boot.ready = true) (hg : s.lock.cGlobal = true)
    (hd : s.boot.goldenRebuilt = false)
    (hin : ∀ g ∈ [s.wgt.genA, s.wgt.genB], g.state = 6 ∨ g.state = 7 → s.inWregion g.goldenBase g.goldenSize = true) :
    Answers .goldenRebuild s { boot := true, mem := true, host := true, poison := true } (fun t =>
      t.boot = { s.boot with goldenRebuilt := true } ∧
      (∀ a, (∀ g ∈ [s.wgt.genA, s.wgt.genB], ∀ e ∈ g.arrays, ¬(e.golden ≤ a ∧ a < e.golden + 0x41800)) →
        t.mem.read a = s.mem.read a)) := by
  have hall : s.rebuildable.all (fun g => s.inWregion g.goldenBase g.goldenSize) = true := by
    refine List.all_eq_true.2 (fun g hm => ?_)
    obtain ⟨hm, hst⟩ := List.mem_filter.1 hm
    exact hin g hm (by simpa using hst)
  have hw : Within rebuilding s (s.rebuildable.foldl State.rebuildGen s) := .foldl _ State.rebuildGen_within _ _
  have hboot := hw.view State.boot (fun _ _ => rfl)
  refine .of_act_eq (t := { s.rebuildable.foldl State.rebuildGen s with
      boot := { (s.rebuildable.foldl State.rebuildGen s).boot with goldenRebuilt := true } }) (exec_goldenRebuild s) hon
    (if_pos (by rw [hr, hg, hd]; exact hall)) (Within.trans hw.mono rfl) ⟨?_, fun a ha => ?_⟩
  · exact congrArg (fun b : Boot => { b with goldenRebuilt := true }) hboot
  · exact foldl_read _ (fun g hm t => t.rebuildGen_read g (ha g (List.mem_of_mem_filter hm))) s

/-- Settles O11: each stage by its own command. -/
theorem startUpStagesComplete : Obligations.StartUpStagesComplete := by
  intro s hon
  exact ⟨fun env href hrec hb h4 hstop => meshLock_locks hon href hrec hb h4 hstop,
    fun vote hb h5 h8 => coolantConfirmed_votes hon hb h5 h8, fun hb h8 => integrityCheck_checks hon hb h8,
    fun trained h5 h9 => dramInit_zeroes hon h5 h9, fun hb hr hrec => (ready_reached hon hb hr hrec).imp (fun _ h => ⟨h.boot, h.eng, h.pwr, h.nv⟩),
    fun hr hg hd hin => goldenRebuild_rebuilds hon hr hg hd hin⟩

end Sys2Proof.Machine
end

section
/-! SUPPORT. What the accesses of a function leave of the latched halves of its 32-bit reads (R467). -/

namespace Sys2Proof.Machine

variable {s t u : State} {part : Sys2Proof.Part} {v : W64}

/-! ## What leaves every latched half as it is -/

theorem State.updChan_latches (s : State) (c : Nat) (f : Chan → Chan) : (s.updChan c f).hif.latches = s.hif.latches := rfl

theorem State.updPort_latches (s : State) (n : Nat) (f : Port → Port) : (s.updPort n f).hif.latches = s.hif.latches := rfl

theorem State.updRings_latches (s : State) (p : Nat) (f : Rings → Rings) : (s.updRings p f).hif.latches = s.hif.latches := rfl

theorem State.Says.latches (h : s.Says t) : t.hif.latches = s.hif.latches := h.view (fun x => x.hif.latches) (fun _ _ _ _ => rfl)

theorem State.wrBytes_latches (s : State) (a : Nat) (bs : List Byte) : (s.wrBytes a bs).hif.latches = s.hif.latches :=
  (Within.wrBytes (m := { mem := true, host := true, poison := true }) s a bs).view (fun x => x.hif.latches) (fun _ _ => rfl)

theorem State.fetchDescs_latches (n : W64) (fuel : Nat) (s : State) : (s.fetchDescs n fuel).hif.latches = s.hif.latches := by
  induction fuel generalizing s with
  | zero => rfl
  | succ fuel ih =>
    unfold State.fetchDescs
    split
    · rfl
    · exact ih _

theorem State.ringWrite_latches (s : State) (p : Nat) (b : List Byte) : (s.ringWrite p b).hif.latches = s.hif.latches := by
  unfold State.ringWrite
  dsimp only
  split <;> rfl

theorem State.drain_latches (p fuel : Nat) (s : State) : (s.drain p fuel).hif.latches = s.hif.latches := by
  induction fuel generalizing s with
  | zero => rfl
  | succ fuel ih =>
    unfold State.drain
    split
    · rfl
    · split
      · rw [ih, State.updRings_latches, State.ringWrite_latches]
      · rfl

theorem State.align_latches (s : State) : s.align.hif.latches = s.hif.latches := by
  unfold State.align
  dsimp only
  repeat' split
  all_goals rfl

theorem State.mbxIn_latches (s : State) (c : Nat) (w : W64) : (s.mbxIn c w).hif.latches = s.hif.latches := rfl

/-- A word taken from a channel other than the fabric manager's signals no inbox. -/
theorem State.takeIn_latches (s : State) {c : Nat} (hc : c < 18) : (s.takeIn c).hif.latches = s.hif.latches := by
  have h20 : c ≠ 20 := by omega
  have h21 : c ≠ 21 := by omega
  simp only [State.takeIn, if_neg h20, if_neg h21, State.updChan_latches]

theorem State.arrive_latches (s : State) {c : Nat} (hc : c < 18) (w : W64) : (s.arrive c w).hif.latches = s.hif.latches := by
  unfold State.arrive
  split
  · rfl
  split
  · rw [(State.sendWord_says _ _ _).latches, State.takeIn_latches _ hc, State.mbxIn_latches]
  · rfl

theorem State.foldl_latches {α : Type} (f : State → α → State) (hf : ∀ u a, (f u a).hif.latches = u.hif.latches) (l : List α) (s : State) :
    (l.foldl f s).hif.latches = s.hif.latches := by
  induction l generalizing s with
  | nil => rfl
  | cons a l ih => exact (ih _).trans (hf _ _)

theorem State.foldl_updPort_latches (g : Port → Port) (l : List Nat) (s : State) :
    (l.foldl (fun (u : State) n => u.updPort n g) s).hif.latches = s.hif.latches :=
  State.foldl_latches _ (fun u n => u.updPort_latches n g) l s

theorem State.trainPorts_latches (s : State) : s.trainPorts.hif.latches = s.hif.latches :=
  State.foldl_latches _ (fun u n => by split <;> rfl) _ s

/-! ## Register writes -/

theorem State.writeDescCfg_latches (s : State) : (s.writeDescCfg part v).hif.latches = s.hif.latches := by
  unfold State.writeDescCfg
  dsimp only
  split
  · rfl
  · split
    · exact State.fetchDescs_latches _ _ _
    · rfl

theorem State.writeGctl_latches (s : State) (o : Nat) : (s.writeGctl o part v).hif.latches = s.hif.latches := by
  unfold State.writeGctl
  dsimp only
  repeat' split
  all_goals rfl

theorem State.writeStep_latches (s : State) (o : Nat) : (s.writeStep o part v).hif.latches = s.hif.latches := by
  unfold State.writeStep
  split <;> rfl

theorem State.writeMbx_latches (s : State) (o : Nat) : (s.writeMbx o part v).hif.latches = s.hif.latches := by
  unfold State.writeMbx
  dsimp only
  repeat' split
  all_goals rfl

theorem Hif.writeNoticeCfg_latches (h : Hif) : (h.writeNoticeCfg part v).latches = h.latches := by
  unfold Hif.writeNoticeCfg
  dsimp only
  split <;> rfl

theorem State.writeSync_latches (s : State) (o : Nat) : (s.writeSync o part v).hif.latches = s.hif.latches := by
  simp only [State.writeSync, apply_ite (fun u : State => u.hif.latches), State.writeDescCfg_latches, State.updRings_latches,
    Hif.writeNoticeCfg_latches, ite_self]

theorem State.writeSens_latches (s : State) (o : Nat) : (s.writeSens o part v).hif.latches = s.hif.latches := by
  simp only [State.writeSens, apply_ite (fun u : State => u.hif.latches), ite_self]

theorem State.writeFabOne_latches (s : State) (o : Nat) : (s.writeFabOne o part v).hif.latches = s.hif.latches := by
  simp only [State.writeFabOne, apply_ite (fun u : State => u.hif.latches), State.align_latches, ite_self]

theorem State.writeFab_latches (s : State) (o : Nat) : (s.writeFab o part v).hif.latches = s.hif.latches := by
  unfold State.writeFab
  split
  · rfl
  · rfl
  · rfl
  · rfl
  · exact s.writeFabOne_latches o

theorem State.writeSec_latches (s : State) (o : Nat) : (s.writeSec o part v).hif.latches = s.hif.latches := by
  simp only [State.writeSec, apply_ite (fun u : State => u.hif.latches), ite_self]

theorem State.writePf_latches (s : State) (o : Nat) : (s.writePf o part v).hif.latches = s.hif.latches := by
  simp only [State.writePf, apply_ite (fun u : State => u.hif.latches), State.writeGctl_latches, State.writeStep_latches,
    State.writeMbx_latches, State.writeSync_latches, State.writeSens_latches, State.writeFab_latches, State.writeSec_latches, ite_self]

theorem State.writeVf_latches (s : State) (p o : Nat) : (s.writeVf p o part v).hif.latches = s.hif.latches := by
  simp only [State.writeVf, apply_ite (fun u : State => u.hif.latches), State.updChan_latches, State.updRings_latches, ite_self]

theorem State.writeWindow_latches (s : State) (a : Nat) : (s.writeWindow a part v).hif.latches = s.hif.latches := by
  simp only [State.writeWindow, apply_ite (fun u : State => u.hif.latches), State.wrBytes_latches, ite_self]

end Sys2Proof.Machine
end

section
/-! PROOF. O57: 32-bit reads by halves (R467). -/

namespace Sys2Proof.Machine

variable {s t u : State} {fn : Func} {part : Sys2Proof.Part} {v : W64} {m : Foot} {k : Nat}

theorem exec_halfReadLatch (fn : Func) (bar : Bar) (o : Nat) (s : State) : exec (.halfReadLatch fn bar o) s = execHalfReadLatch fn bar o s := rfl
theorem exec_unsupportedRequest (fn : Func) (bar : Bar) (o z : Nat) (w : Bool) (s : State) :
    exec (.unsupportedRequest fn bar o z w) s = execUnsupportedRequest fn bar o z w s := rfl

/-! ## What every access cancels -/

/-- The latched half of a function is cancelled, and no other latch changes. -/
structure State.Cancels (s t : State) (k : Nat) : Prop where
  latches : t.hif.latches = s.hif.latches.set none k none

theorem State.Cancels.get (h : s.Cancels t k) : t.hif.latches.get none k = none := by
  rw [h.latches, Sparse.get_set_self]

theorem State.Cancels.of_latches (h : t.hif.latches = (s.unlatch k).hif.latches) : s.Cancels t k := ⟨h⟩

/-- A command that acts on the host interface cancels what its effect cancels. -/
theorem cancelled_of_act {f : State → State} (hon : s.pwr.off = false) (hf : s.Cancels (f s) k) (h : act m f s = .next t)
    (hm : m.hif = true) : t.hif.latches.get none k = none := by
  rw [act_on hon] at h
  cases h
  simp only [State.only, hm, cond_true]
  exact hf.get

/-- The channel of a function is its own. -/
theorem State.unlatchChan_of_access {c : Nat} (s : State) (h : (if c < 2 then some Func.pf else if c < 18 then some (.vf (c - 1)) else none) = some fn) :
    c < 18 ∧ s.unlatchChan c = s.unlatch (Func.key fn) := by
  unfold State.unlatchChan
  split at h
  case isTrue hc => cases h; exact ⟨by omega, if_pos hc⟩
  case isFalse hc =>
    split at h
    case isTrue hc' => cases h; exact ⟨hc', (if_neg hc).trans (if_pos hc')⟩
    case isFalse => cases h

/-- The doorbells of an owner are its function's. -/
theorem State.unlatchOwner_of_access {p : Nat} (s : State) (h : (if p < 16 then some (Func.vf (p + 1)) else some .pf) = some fn) :
    s.unlatchOwner p = s.unlatch (Func.key fn) := by
  unfold State.unlatchOwner
  split at h
  case isTrue hp => cases h; rw [if_pos hp]; rfl
  case isFalse hp => cases h; rw [if_neg hp]; rfl

section Accesses

variable (hon : s.pwr.off = false)
include hon

theorem mbxInWrite_cancels {c : Nat} {w : W64} (hc : c < 18 ∧ s.unlatchChan c = s.unlatch k) (h : execMbxInWrite c w s = .next t) :
    t.hif.latches.get none k = none := by
  refine cancelled_of_act hon ?_ h rfl
  dsimp only
  rw [hc.2]
  split
  · exact .of_latches rfl
  split
  · exact .of_latches rfl
  · exact .of_latches (State.arrive_latches _ hc.1 w)

theorem mbxOutRead_cancels {c : Nat} (hc : s.unlatchChan c = s.unlatch k) (h : execMbxOutRead c s = .next t) :
    t.hif.latches.get none k = none := by
  refine cancelled_of_act hon ?_ h rfl
  dsimp only
  rw [hc]
  split
  · exact .of_latches rfl
  split
  · exact .of_latches rfl
  · exact .of_latches (State.pump_says _ _).latches

theorem rqTail_cancels {p : Nat} (hp : s.unlatchOwner p = s.unlatch k) (h : execRqTail p part v s = .next t) :
    t.hif.latches.get none k = none := by
  refine cancelled_of_act hon ?_ h rfl
  dsimp only
  rw [hp]
  split
  · unfold State.when
    split <;> exact .of_latches rfl
  · split <;> exact .of_latches rfl

theorem outHead_cancels {p : Nat} (hp : s.unlatchOwner p = s.unlatch k) (h : execOutHead p v s = .next t) :
    t.hif.latches.get none k = none := by
  refine cancelled_of_act hon ?_ h rfl
  dsimp only
  rw [hp]
  split
  · unfold State.when
    split <;> exact .of_latches rfl
  · split
    · exact .of_latches rfl
    · exact .of_latches (State.drain_latches _ _ _)

theorem descTail_cancels (h : execDescTail part v s = .next t) : t.hif.latches.get none 0 = none := by
  refine cancelled_of_act hon ?_ h rfl
  dsimp only
  split
  · exact .of_latches rfl
  split
  · exact .of_latches rfl
  split
  · split
    · exact .of_latches (State.fetchDescs_latches _ _ _)
    · exact .of_latches rfl
  · exact .of_latches rfl

theorem noticeHead_cancels (h : execNoticeHead part v s = .next t) : t.hif.latches.get none 0 = none := by
  refine cancelled_of_act hon ?_ h rfl
  dsimp only
  split
  · exact .of_latches rfl
  · split <;> exact .of_latches rfl

theorem syncHsig_cancels {n : Nat} (h : execSyncHsig n part v s = .next t) : t.hif.latches.get none 0 = none := by
  refine cancelled_of_act hon ?_ h rfl
  dsimp only
  split
  case isTrue hn =>
    have hdev := hostSyncPage_device (of_decide_eq_true (Bool.and_eq_true _ _ ▸ hn).1)
    exact .of_latches (((s.unlatch 0).signalWord_within_device hdev _).view (fun x => x.hif.latches) (fun _ _ => rfl))
  case isFalse => exact .of_latches rfl

theorem stepHoldSet_cancels (h : execStepHoldSet s = .next t) : t.hif.latches.get none 0 = none := by
  refine cancelled_of_act hon ?_ h rfl
  unfold State.when
  split <;> exact .of_latches rfl

theorem stepHoldClear_cancels (h : execStepHoldClear s = .next t) : t.hif.latches.get none 0 = none := by
  refine cancelled_of_act hon ?_ h rfl
  unfold State.when
  split <;> exact .of_latches rfl

theorem commitGlobal_cancels (h : execCommitGlobal s = .next t) : t.hif.latches.get none 0 = none := by
  refine cancelled_of_act hon ?_ h rfl
  dsimp only
  split <;> exact .of_latches rfl

theorem commitStep_cancels (h : execCommitStep s = .next t) : t.hif.latches.get none 0 = none := by
  refine cancelled_of_act hon ?_ h rfl
  dsimp only
  split <;> exact .of_latches rfl

theorem commitFabric_cancels (h : execCommitFabric s = .next t) : t.hif.latches.get none 0 = none := by
  refine cancelled_of_act hon ?_ h rfl
  dsimp only
  split
  · exact .of_latches rfl
  split
  · exact .of_latches (State.trainPorts_latches _)
  · exact ⟨State.foldl_updPort_latches _ _ _⟩

theorem portRetrain_cancels {n : Nat} (h : execPortRetrain n s = .next t) : t.hif.latches.get none 0 = none := by
  refine cancelled_of_act hon ?_ h rfl
  unfold State.when
  split
  · exact .of_latches (State.align_latches _)
  · exact .of_latches rfl

theorem portDisable_cancels {n : Nat} {d : Bool} (h : execPortDisable n d s = .next t) : t.hif.latches.get none 0 = none := by
  refine cancelled_of_act hon ?_ h rfl
  unfold State.when
  split
  · exact .of_latches (State.align_latches _)
  · exact .of_latches rfl

theorem registerWrite_cancels {bar : Bar} {o : Nat} (h : execRegisterWrite fn bar o part v s = .next t) :
    t.hif.latches.get none (Func.key fn) = none := by
  refine cancelled_of_act hon ?_ h rfl
  dsimp only
  split
  · exact .of_latches (State.writePf_latches _ _)
  · exact .of_latches (State.writeVf_latches _ _ _)
  · exact .of_latches (State.writeWindow_latches _ _)
  · exact .of_latches rfl
  · exact .of_latches rfl

/-- Every register access of a function cancels its latch. -/
theorem access_cancels {c : Instr} (ha : c.accessBy = some fn) (h : exec c s = .next t) : t.hif.latches.get none (Func.key fn) = none := by
  unfold Instr.accessBy at ha
  split at ha
  · exact mbxInWrite_cancels hon (s.unlatchChan_of_access ha) h
  · exact mbxOutRead_cancels hon (s.unlatchChan_of_access ha).2 h
  · exact rqTail_cancels hon (s.unlatchOwner_of_access ha) h
  · exact outHead_cancels hon (s.unlatchOwner_of_access ha) h
  · cases ha; exact descTail_cancels hon h
  · cases ha; exact noticeHead_cancels hon h
  · cases ha; exact syncHsig_cancels hon h
  · cases ha; exact stepHoldSet_cancels hon h
  · cases ha; exact stepHoldClear_cancels hon h
  · cases ha; exact commitGlobal_cancels hon h
  · cases ha; exact commitStep_cancels hon h
  · cases ha; exact commitFabric_cancels hon h
  · cases ha; exact portRetrain_cancels hon h
  · cases ha; exact portDisable_cancels hon h
  · cases ha; exact registerWrite_cancels hon h
  · cases ha

/-- A 32-bit read that does not latch cancels the latch: of an upper half, of an RC register, or misaligned. -/
theorem halfReadLatch_cancels {bar : Bar} {o : Nat} (ho : o % 8 ≠ 0 ∨ (s.reach fn bar o).isRc = true)
    (h : execHalfReadLatch fn bar o s = .next t) : t.hif.latches.get none (Func.key fn) = none := by
  refine cancelled_of_act hon ?_ h rfl
  split
  case isTrue h0 =>
    have hrc : (s.reach fn bar o).isRc = true := ho.resolve_left (not_not.2 h0)
    unfold State.readLower
    dsimp only
    split
    · exact .of_latches rfl
    · exact .of_latches rfl
    · exact .of_latches rfl
    · rw [if_pos hrc]
      exact .of_latches rfl
  case isFalse =>
    split
    · unfold State.readUpper
      dsimp only
      repeat' split
      all_goals exact .of_latches rfl
    · exact .of_latches rfl

/-- A request that is counted as unsupported cancels the latch. -/
theorem unsupportedRequest_cancels {bar : Bar} {o z : Nat} {w : Bool} (hun : s.isUnsupported fn bar o z = true)
    (h : execUnsupportedRequest fn bar o z w s = .next t) : t.hif.latches.get none (Func.key fn) = none := by
  refine cancelled_of_act hon ?_ h rfl
  rw [if_pos hun]
  split <;> exact .of_latches rfl

end Accesses

/-! ## Reads of halves -/

/-- The register read is one of BAR0's or of a partition's window. -/
inductive Reach.IsReg : Reach → Prop
  | pf (o : Nat) : IsReg (.pf o)
  | vf (p o : Nat) : IsReg (.vf p o)

theorem Reach.isReg_of_eq {r : Reach} (h : ∃ o, r = .pf o ∨ ∃ p, r = .vf p o) : r.IsReg := by
  obtain ⟨o, rfl | ⟨p, rfl⟩⟩ := h
  · exact .pf o
  · exact .vf p o

/-- A half of a register returned, and the function's latch cancelled. -/
def State.gaveHalf (s : State) (fn : Func) (x : Nat) : State := (s.unlatch (Func.key fn)).returned (BitVec.ofNat 64 x)

/-- A latch of a function set. -/
def State.latched (s : State) (fn : Func) (l : HalfLatch) : State :=
  { s with hif := { s.hif with latches := s.hif.latches.set none (Func.key fn) (some l) } }

variable {bar : Bar} {o : Nat} {l : HalfLatch}

theorem State.gaveHalf_within (s : State) (fn : Func) (x : Nat) : Within { hif := true } s (s.gaveHalf fn x) := rfl

theorem State.latched_within (s : State) (fn : Func) (l : HalfLatch) : Within { hif := true } s (s.latched fn l) := rfl

theorem State.latched_get (s : State) (fn : Func) (l : HalfLatch) : (s.latched fn l).hif.latches.get none (Func.key fn) = some l :=
  Sparse.get_set_self s.hif.latches (Func.key fn) (some l)

theorem State.readLower_reg (hr : (s.reach fn bar o).IsReg) (hrc : (s.reach fn bar o).isRc = false) :
    s.readLower fn bar o = (s.gaveHalf fn ((s.readAt (s.reach fn bar o)).toNat % 2 ^ 32)).latched fn
      { bar := bar, offset := o, upper := BitVec.ofNat 32 ((s.readAt (s.reach fn bar o)).toNat / 2 ^ 32) } := by
  unfold State.readLower
  generalize s.reach fn bar o = r at hr hrc ⊢
  cases hr <;> exact if_neg (Bool.eq_false_iff.1 hrc)

theorem State.readLower_rc (hr : (s.reach fn bar o).IsReg) (hrc : (s.reach fn bar o).isRc = true) :
    s.readLower fn bar o = s.gaveHalf fn ((s.readAt (s.reach fn bar o)).toNat % 2 ^ 32) := by
  unfold State.readLower
  generalize s.reach fn bar o = r at hr hrc ⊢
  cases hr <;> exact if_pos hrc

theorem State.readUpper_reg (hr : (s.reach fn bar o).IsReg) (hgeo : s.reach fn bar o ≠ .pf 0x10000) :
    s.readUpper fn bar o = match s.hif.latches.get none (Func.key fn) with
      | some l => if l.bar = bar ∧ l.offset = o then (s.unlatch (Func.key fn)).returned (l.upper.zeroExtend 64)
          else s.gaveHalf fn ((s.readAt (s.reach fn bar o)).toNat / 2 ^ 32)
      | none => s.gaveHalf fn ((s.readAt (s.reach fn bar o)).toNat / 2 ^ 32) := by
  unfold State.readUpper
  generalize s.reach fn bar o = r at hr hgeo ⊢
  cases hr <;> exact if_neg hgeo

/-- An RC register is not GCTL_GEOMETRY. -/
theorem Reach.ne_geometry_of_isRc {r : Reach} (h : r.isRc = true) : r ≠ .pf 0x10000 := by
  rintro rfl
  cases h

/-- A half of 32 bits in a returned word. -/
theorem toNat_ofNat_mod (x : W64) : (BitVec.ofNat 64 (x.toNat % 2 ^ 32)).toNat = x.toNat % 2 ^ 32 := by
  rw [BitVec.toNat_ofNat]
  omega

theorem toNat_ofNat_div (x : W64) : (BitVec.ofNat 64 (x.toNat / 2 ^ 32)).toNat = x.toNat / 2 ^ 32 := by
  rw [BitVec.toNat_ofNat]
  omega

section Halves

variable (hon : s.pwr.off = false) (ho : o % 8 = 0) (hr : (s.reach fn bar o).IsReg)
include hon ho hr

/-- The lower half of a register that is not RC: returned, and the upper half latched. -/
theorem readLower_latches (hrc : (s.reach fn bar o).isRc = false) :
    Answers (.halfReadLatch fn bar o) s { hif := true } (fun t =>
      t.hif.readData.toNat = (s.readAt (s.reach fn bar o)).toNat % 2 ^ 32 ∧
      t.hif.latches.get none (Func.key fn) =
        some { bar := bar, offset := o, upper := BitVec.ofNat 32 ((s.readAt (s.reach fn bar o)).toNat / 2 ^ 32) }) :=
  .of_act_eq (exec_halfReadLatch fn bar o s) hon ((if_pos ho).trans (State.readLower_reg hr hrc))
    ((State.gaveHalf_within s fn _).trans (State.latched_within _ fn _))
    ⟨toNat_ofNat_mod (s.readAt (s.reach fn bar o)), State.latched_get (s.gaveHalf fn _) fn _⟩

/-- The lower half of an RC register: returned, and nothing cleared. -/
theorem readLower_keeps_rc (hrc : (s.reach fn bar o).isRc = true) :
    Answers (.halfReadLatch fn bar o) s { hif := true } (fun t =>
      t.hif.readData.toNat = (s.readAt (s.reach fn bar o)).toNat % 2 ^ 32) :=
  .of_act_eq (exec_halfReadLatch fn bar o s) hon ((if_pos ho).trans (State.readLower_rc hr hrc)) (State.gaveHalf_within s fn _) (toNat_ofNat_mod _)

omit hr in
/-- A read at the offset of an upper half is one of the upper half. -/
theorem halfReadLatch_upper {P : State → Prop} (hf : s.readUpper fn bar o = t) (hw : Within { hif := true } s t) (hP : P t) :
    Answers (.halfReadLatch fn bar (o + 4)) s { hif := true } P := by
  have h0 : ¬(o + 4) % 8 = 0 := by omega
  have h4 : (o + 4) % 8 = 4 := by omega
  exact .of_act_eq (exec_halfReadLatch fn bar (o + 4) s) hon ((if_neg h0).trans ((if_pos h4).trans hf)) hw hP

/-- The upper half of the register whose lower half this function has just read: the latched value. -/
theorem readUpper_latched (hgeo : s.reach fn bar o ≠ .pf 0x10000) (hl : s.hif.latches.get none (Func.key fn) = some l)
    (hbar : l.bar = bar) (hoff : l.offset = o) :
    Answers (.halfReadLatch fn bar (o + 4)) s { hif := true } (fun t => t.hif.readData = l.upper.zeroExtend 64) := by
  refine halfReadLatch_upper (t := (s.unlatch (Func.key fn)).returned (l.upper.zeroExtend 64)) hon ho ?_ rfl rfl
  rw [State.readUpper_reg hr hgeo, hl]
  exact if_pos ⟨hbar, hoff⟩

/-- The upper half of an RC register with no latch: as it stands, and nothing cleared. -/
theorem readUpper_keeps_rc (hrc : (s.reach fn bar o).isRc = true) (hl : s.hif.latches.get none (Func.key fn) = none) :
    Answers (.halfReadLatch fn bar (o + 4)) s { hif := true } (fun t =>
      t.hif.readData.toNat = (s.readAt (s.reach fn bar o)).toNat / 2 ^ 32) := by
  refine halfReadLatch_upper (t := s.gaveHalf fn ((s.readAt (s.reach fn bar o)).toNat / 2 ^ 32)) hon ho ?_ rfl (toNat_ofNat_div _)
  rw [State.readUpper_reg hr (Reach.ne_geometry_of_isRc hrc), hl]

end Halves

/-- Settles O57: by the cases of a 32-bit read, and by what each access leaves of the latches: every access begins by cancelling its
function's latch, and nothing that follows in it sets one, but the read of a lower half. -/
theorem halfReadsLatchTheUpperHalf : Obligations.HalfReadsLatchTheUpperHalf := by
  intro s fn bar off hon
  refine ⟨fun ho hreg => have hr := Reach.isReg_of_eq hreg
    ⟨readLower_latches hon ho hr, fun l hgeo hl => readUpper_latched hon ho hr hgeo hl, fun hrc hl =>
    ⟨readLower_keeps_rc hon ho hr hrc, readUpper_keeps_rc hon ho hr hrc hl⟩⟩, ?_, fun n hn hopen hq => ?_⟩
  · rintro c t (ha | ⟨b, o, rfl, ho⟩ | ⟨b, o, z, w, rfl, hun⟩) h
    · exact access_cancels hon ha h
    · exact halfReadLatch_cancels hon ho h
    · exact unsupportedRequest_cancels hon hun h
  · exact (mbxOutRead_clears hon ⟨hn, hopen⟩ hq).imp (fun t ht => ⟨ht.1, by rw [ht.2.here]; rfl⟩)

end Sys2Proof.Machine
end

section
/-! SUPPORT. Words on the channels of the operator, of the BMC and of partitions, which leave the fabric alone (R372), and the commands that
stay open (R371). -/

namespace Sys2Proof.Machine

variable {s t u : State} {m : Foot} {c d : Nat} {w : W64}

/-- `t` is `s` but for the channels and the interrupts raised. -/
inductive State.Tells (s : State) : State → Prop
  | mk (irqs : List (Nat × Nat)) (chans : Sparse Chan) : s.Tells { s with hif := { s.hif with irqs := irqs }, chans := chans }

theorem State.Tells.refl (s : State) : s.Tells s := .mk s.hif.irqs s.chans

theorem State.Tells.trans (h : s.Tells t) (h' : t.Tells u) : s.Tells u := by
  cases h
  cases h'
  exact .mk _ _

/-- What does not look at the channels or the interrupts is as it was. -/
theorem State.Tells.view {α : Type} (h : s.Tells t) (v : State → α)
    (hv : ∀ irqs chans, v { s with hif := { s.hif with irqs := irqs }, chans := chans } = v s) : v t = v s := by
  cases h
  exact hv _ _

theorem State.Tells.within (h : s.Tells t) : Within { chans := true, hif := true } s t := by
  cases h
  rfl

theorem State.Tells.updChan (s : State) (c : Nat) (f : Chan → Chan) : s.Tells (s.updChan c f) := .mk s.hif.irqs _

/-- A channel that is not the fabric manager's. -/
def isLocal (c : Nat) : Prop := ¬(c = 20 ∨ c = 21)

theorem State.msgIrq_tells (s : State) (c : Nat) : s.Tells (s.msgIrq c) := by
  have hirq : ∀ a b, s.Tells (s.irq a b) := fun _ _ => .mk _ s.chans
  unfold State.msgIrq
  split
  · exact hirq _ _
  split
  · exact hirq _ _
  split
  · exact hirq _ _
  · exact .refl _

theorem State.pump_tells (s : State) (hc : isLocal c) : s.Tells (s.pump c) := by
  unfold State.pump
  dsimp only
  rw [if_neg hc]
  split
  · exact .refl _
  · split
    · exact (State.Tells.updChan _ _ _).trans (State.msgIrq_tells _ _)
    · exact .refl _

theorem State.sendWord_tells (s : State) (hc : isLocal c) (w : W64) : s.Tells (s.sendWord c w) := by
  unfold State.sendWord
  split
  · exact .updChan _ _ _
  · exact (State.Tells.updChan _ _ _).trans (State.pump_tells _ hc)

theorem State.result_tells (s : State) {b : CmdBlock} (hc : isLocal b.channel) (code status : Byte) : s.Tells (s.result b code status) :=
  s.sendWord_tells hc _

theorem State.opened_tells (s : State) {b : CmdBlock} (hc : isLocal b.channel) (code : Byte) : s.Tells (s.opened b code) :=
  (State.Tells.updChan _ _ _).trans (State.result_tells _ hc _ _)

theorem State.complete_tells (s : State) (hc : isLocal c) (code : Byte) (q : BitVec 4) (st : Byte) (x : BitVec 40) :
    s.Tells (s.complete c code q st x) := by
  unfold State.complete
  split
  · exact (State.Tells.updChan _ _ _).trans (State.sendWord_tells _ hc _)
  · exact .refl _

/-- An event to the physical function, the BMC or a partition. -/
theorem State.event_tells (s : State) {rs : List Receiver} (hrs : ∀ r ∈ rs, isLocal r.channel) (code : Byte) (arg : Nat) :
    s.Tells (s.event rs code arg) := by
  unfold State.event
  induction rs generalizing s with
  | nil => exact .refl _
  | cons r rs ih =>
    exact (State.sendWord_tells _ (hrs r List.mem_cons_self) _).trans (ih _ (fun x hx => hrs x (List.mem_cons_of_mem _ hx)))

/-! ## The open commands -/

/-- The open commands of a channel. -/
abbrev State.openOn (s : State) (c : Nat) : List (Byte × BitVec 4) := (s.chan c).openCmds

/-- A channel changed in a way that leaves its open commands. -/
theorem State.openOn_updChan (s : State) (c d : Nat) (f : Chan → Chan) (hf : ∀ h, (f h).openCmds = h.openCmds) :
    (s.updChan c f).openOn d = s.openOn d := by
  unfold State.openOn
  by_cases h : d = c
  · rw [h, State.chan_updChan, hf]
  · rw [s.chan_updChan_ne f h]

theorem State.openOn_sendMsg (s : State) (cls dst idx tag : Nat) (a : W32) (bs : List Byte) (d : Nat) :
    (s.sendMsg cls dst idx tag a bs).openOn d = s.openOn d :=
  (State.sendFrame_within (m := { fab := true }) s _).view (State.openOn · d) (fun _ _ => rfl)

theorem State.openOn_msgIrq (s : State) (c d : Nat) : (s.msgIrq c).openOn d = s.openOn d := by
  unfold State.msgIrq
  repeat' split
  all_goals rfl

theorem State.openOn_pump (s : State) (c d : Nat) : (s.pump c).openOn d = s.openOn d := by
  unfold State.pump
  dsimp only
  split
  · split
    · unfold State.fmWord
      rw [State.openOn_sendMsg, State.openOn_updChan, State.openOn_updChan]
      · exact fun _ => rfl
      · exact fun _ => rfl
    · rfl
  split
  · rfl
  split
  · exact (State.openOn_msgIrq _ _ _).trans (State.openOn_updChan s c d _ (fun _ => rfl))
  · rfl

theorem State.openOn_sendWord (s : State) (c : Nat) (w : W64) (d : Nat) : (s.sendWord c w).openOn d = s.openOn d := by
  unfold State.sendWord
  split
  · exact s.openOn_updChan c d _ (fun _ => rfl)
  · exact (State.openOn_pump _ _ _).trans (s.openOn_updChan c d _ (fun _ => rfl))

/-- An accepted command stands last of the open ones of its channel. -/
theorem State.openOn_opened (s : State) (b : CmdBlock) (code : Byte) :
    (s.opened b code).openOn b.channel = s.openOn b.channel ++ [(code, b.cseq)] :=
  (State.openOn_sendWord _ _ _ _).trans (congrArg Chan.openCmds (s.chan_updChan _ _))

/-- A command that ends leaves the open ones. -/
theorem State.openOn_complete (s : State) (c : Nat) (code : Byte) (q : BitVec 4) (st : Byte) (x : BitVec 40) (h : (code, q) ∈ s.openOn c) :
    (s.complete c code q st x).openOn c = (s.openOn c).erase (code, q) := by
  unfold State.complete
  rw [if_pos (List.contains_iff_mem.2 h)]
  exact (State.openOn_sendWord _ _ _ _).trans (congrArg Chan.openCmds (s.chan_updChan _ _))

end Sys2Proof.Machine
end

section
/-! SUPPORT. A command as its own checks find the state: its message taken and its counter recorded (R372, R375, R406). -/

namespace Sys2Proof.Machine

variable {s t u : State} {m M : Foot} {b : CmdBlock} {i : CmdInfo} {sec fl : Bool}

/-- The state on which the own checks of an accepted command run. -/
def State.arrival (s : State) (b : CmdBlock) : State := (s.takeIn b.channel).recordCounter b

theorem State.accept_arrival (h : s.accepts i sec fl b) (k : State → State) : s.accept i sec fl b k = k (s.arrival b) := by
  unfold State.accept State.acceptBlock
  rw [h]
  rfl

/-- What an accepted command answers, by what its own checks and effect make of the state that has taken it. -/
theorem Answers.of_arrival {c : Instr} {k : State → State} {P : State → Prop}
    (hc : exec c s = act M (fun s => s.accept i sec fl b k) s) (hon : s.pwr.off = false) (hacc : s.accepts i sec fl b)
    (hw : Within m s (k (s.arrival b))) (hP : P (k (s.arrival b)))
    (hM : ∀ a b, State.only M a (State.only m a b) = State.only m a b := by intros; rfl) : Answers c s m P :=
  .of_act_eq hc hon (State.accept_arrival hacc k) hw hP hM

/-- Off the fabric manager's channels a message taken changes its channel alone. -/
theorem State.takeIn_local (s : State) {c : Nat} (hc : isLocal c) :
    s.takeIn c = s.updChan c (fun h => { h with inFull := false, inCnt := h.inCnt + 1 }) := by
  obtain ⟨h20, h21⟩ := not_or.1 hc
  unfold State.takeIn
  rw [if_neg h20, if_neg h21]

/-- A recorded counter is the operator's, or that of the sender's partition. -/
theorem State.recordCounter_cases (s : State) (b : CmdBlock) : s.recordCounter b = s ∨
    (s.recordCounter b = s.updPart (chanOwner b.channel) (fun p => { p with secCtr := b.counter })) ∨
    s.recordCounter b = { s with nv := { s.nv with oprCtr := b.counter } } := by
  unfold State.recordCounter
  split
  · split
    · exact .inr (.inl rfl)
    · exact .inr (.inr rfl)
  · exact .inl rfl

/-- What does not look at the command counters is as it was. -/
theorem State.recordCounter_view {α : Type} (v : State → α) (s : State) (b : CmdBlock)
    (hp : ∀ p f, (∀ q : Part, f q = { q with secCtr := (f q).secCtr }) → v (s.updPart p f) = v s)
    (hn : ∀ ctr, v { s with nv := { s.nv with oprCtr := ctr } } = v s) : v (s.recordCounter b) = v s := by
  rcases s.recordCounter_cases b with h | h | h <;> rw [h]
  · exact hp _ _ (fun _ => rfl)
  · exact hn _

/-- A field of the partitions that is no counter is as it was. -/
theorem State.recordCounter_part {α : Type} {v : Part → α} (hv : ∀ q n, v { q with secCtr := n } = v q) (s : State) (b : CmdBlock) (p : Nat) :
    v ((s.recordCounter b).part p) = v (s.part p) := by
  refine s.recordCounter_view (fun x => v (x.part p)) b (fun r f hf => ?_) (fun _ => rfl)
  by_cases h : p = r
  · rw [h, State.part_updPart, hf, hv]
  · rw [s.part_updPart_ne f h]

/-- The records of other partitions than the sender's are as they were. -/
theorem State.recordCounter_part_ne (s : State) (b : CmdBlock) {p : Nat} (h : p ≠ chanOwner b.channel) :
    (s.recordCounter b).part p = s.part p := by
  rcases s.recordCounter_cases b with h' | h' | h' <;> rw [h']
  · exact s.part_updPart_ne _ h
  · rfl

theorem State.recordCounter_counts (s : State) (b : CmdBlock) : Within { nv := true, parts := true } s (s.recordCounter b) := by
  rcases s.recordCounter_cases b with h | h | h <;> rw [h]
  · exact .refl _ _
  · exact .updPart _ _ _
  · rfl

/-- The keys and the flash are not touched by a counter. -/
theorem State.recordCounter_nv (s : State) (b : CmdBlock) : (s.recordCounter b).nv = { s.nv with oprCtr := (s.recordCounter b).nv.oprCtr } := by
  rcases s.recordCounter_cases b with h | h | h
  · rw [h]
  · rw [h]
    rfl
  · rw [h]

/-- What a message taken can change: its channel, and the signal word of a sending inbox. -/
def taking : Foot := { mem := true, host := true, poison := true, chans := true }

theorem State.takeIn_takes (s : State) (c : Nat) : Within taking s (s.takeIn c) := by
  unfold State.takeIn
  have hin := Within.updChan (m := taking) s c (fun h => { h with inFull := false, inCnt := h.inCnt + 1 })
  dsimp only
  split
  · exact hin.trans (.wrBytes _ _ _)
  split
  · exact hin.trans (.wrBytes _ _ _)
  · exact hin

theorem State.openOn_takeIn (s : State) (c d : Nat) : (s.takeIn c).openOn d = s.openOn d := by
  unfold State.takeIn
  dsimp only
  have hupd := s.openOn_updChan c d (fun h => { h with inFull := false, inCnt := h.inCnt + 1 }) (fun _ => rfl)
  have hsig : ∀ (x : State) a b c, (x.signalInbox a b c).openOn d = x.openOn d := fun x a b c =>
    (Within.wrBytes (m := { mem := true, host := true, poison := true }) x _ _).view (State.openOn · d) (fun _ _ => rfl)
  split
  · exact (hsig _ _ _ _).trans hupd
  split
  · exact (hsig _ _ _ _).trans hupd
  · exact hupd

/-- The arrival of a command leaves the open ones. -/
theorem State.openOn_arrival (s : State) (b : CmdBlock) (d : Nat) : (s.arrival b).openOn d = s.openOn d :=
  ((State.recordCounter_counts _ b).view (State.openOn · d) (fun _ _ => rfl)).trans (s.openOn_takeIn _ d)

section Local

variable (hc : isLocal b.channel)
include hc

theorem State.arrival_within : Within { nv := true, parts := true, chans := true } s (s.arrival b) := by
  unfold State.arrival
  rw [s.takeIn_local hc]
  exact (Within.updChan _ _ _).trans (State.recordCounter_counts _ b).mono

theorem State.arrival_nv : (s.arrival b).nv = { s.nv with oprCtr := (s.arrival b).nv.oprCtr } := by
  unfold State.arrival
  rw [s.takeIn_local hc]
  exact State.recordCounter_nv _ b

theorem State.arrival_part {α : Type} {v : Part → α} (hv : ∀ q n, v { q with secCtr := n } = v q) (p : Nat) :
    v ((s.arrival b).part p) = v (s.part p) := by
  unfold State.arrival
  rw [s.takeIn_local hc]
  exact State.recordCounter_part hv _ b p

theorem State.arrival_part_ne {p : Nat} (h : p ≠ chanOwner b.channel) : (s.arrival b).part p = s.part p := by
  unfold State.arrival
  rw [s.takeIn_local hc]
  exact State.recordCounter_part_ne _ b h

end Local

/-- The channels of the operator and of the BMC are not the fabric manager's. -/
theorem isLocal_of_operator {c : Nat} (h : c ∈ [0, 1, 18]) : isLocal c := by
  rintro (rfl | rfl) <;> exact absurd h (by decide)

/-- An arrival on a channel of the operator changes its counter and the channels. -/
theorem State.arrival_arrives (h : b.channel ∈ [0, 1, 18]) : s.Arrives (s.arrival b) := by
  have howner := chanOwner_eq_operator h
  unfold State.arrival State.recordCounter
  rw [s.takeIn_local (isLocal_of_operator h), howner]
  split
  · exact ⟨_, _, rfl⟩
  · exact ⟨s.nv.oprCtr, _, rfl⟩

end Sys2Proof.Machine
end

section
/-! KEY_LOAD (R403–R407, Table 13.6); its statement settled. -/

namespace Sys2Proof.Machine

variable {s t u : State} {m M : Foot} {b : CmdBlock} {k : KeyRecord} {kind : Byte}

theorem exec_keyLoadOperatorCmd (b : CmdBlock) (k : KeyRecord) (s : State) :
    exec (.keyLoadOperatorCmd b k) s = execKeyLoadOperatorCmd b k s := rfl
theorem exec_keyLoadPartitionCmd (b : CmdBlock) (k : KeyRecord) (s : State) :
    exec (.keyLoadPartitionCmd b k) s = execKeyLoadPartitionCmd b k s := rfl
theorem exec_keyLoadPartitionEgress (b : CmdBlock) (k : KeyRecord) (s : State) :
    exec (.keyLoadPartitionEgress b k) s = execKeyLoadPartitionEgress b k s := rfl
theorem exec_keyLoadRootAdd (b : CmdBlock) (k : KeyRecord) (s : State) : exec (.keyLoadRootAdd b k) s = execKeyLoadRootAdd b k s := rfl
theorem exec_keyLoadRootRemove (b : CmdBlock) (k : KeyRecord) (s : State) :
    exec (.keyLoadRootRemove b k) s = execKeyLoadRootRemove b k s := rfl

/-! ## The state of the keys -/

/-- The keys of `t` are those of `s`, and the partitions configured. -/
structure State.SameKeys (s t : State) : Prop where
  opKey : t.nv.opKey = s.nv.opKey
  roots : t.nv.roots = s.nv.roots
  cmdKey : ∀ p, (t.part p).cmdKey = (s.part p).cmdKey
  egressDue : ∀ p, (t.part p).egressDue = (s.part p).egressDue
  egressKey : ∀ p, (t.part p).egressKey = (s.part p).egressKey
  configured : ∀ p, t.configured p = s.configured p

theorem State.SameKeys.trans (h : s.SameKeys t) (h' : t.SameKeys u) : s.SameKeys u :=
  ⟨h'.opKey.trans h.opKey, h'.roots.trans h.roots, fun p => (h'.cmdKey p).trans (h.cmdKey p), fun p => (h'.egressDue p).trans (h.egressDue p),
    fun p => (h'.egressKey p).trans (h.egressKey p), fun p => (h'.configured p).trans (h.configured p)⟩

/-- Words on channels leave the keys. -/
theorem State.Says.sameKeys (h : s.Says t) : s.SameKeys t where
  opKey := h.view (fun x => x.nv.opKey) (fun _ _ _ _ => rfl)
  roots := h.view (fun x => x.nv.roots) (fun _ _ _ _ => rfl)
  cmdKey p := h.view (fun x => (x.part p).cmdKey) (fun _ _ _ _ => rfl)
  egressDue p := h.view (fun x => (x.part p).egressDue) (fun _ _ _ _ => rfl)
  egressKey p := h.view (fun x => (x.part p).egressKey) (fun _ _ _ _ => rfl)
  configured p := h.view (State.configured · p) (fun _ _ _ _ => rfl)

/-- A recorded counter leaves the keys. -/
theorem State.recordCounter_sameKeys (s : State) (b : CmdBlock) : s.SameKeys (s.recordCounter b) where
  opKey := (congrArg NonVol.opKey (s.recordCounter_nv b)).trans rfl
  roots := (congrArg NonVol.roots (s.recordCounter_nv b)).trans rfl
  cmdKey := s.recordCounter_part (v := Part.cmdKey) (fun _ _ => rfl) b
  egressDue := s.recordCounter_part (v := Part.egressDue) (fun _ _ => rfl) b
  egressKey := s.recordCounter_part (v := Part.egressKey) (fun _ _ => rfl) b
  configured := s.recordCounter_part (v := fun q => q.cfg.isSome) (fun _ _ => rfl) b

/-- An arrival leaves the keys. -/
theorem State.arrival_sameKeys (s : State) (b : CmdBlock) : s.SameKeys (s.arrival b) := by
  have htake := s.takeIn_takes b.channel
  have hnv : (s.takeIn b.channel).nv = s.nv := htake.view State.nv (fun _ _ => rfl)
  have hpart : ∀ p, (s.takeIn b.channel).part p = s.part p := fun p => htake.view (State.part · p) (fun _ _ => rfl)
  refine State.SameKeys.trans (t := s.takeIn b.channel) ⟨?_, ?_, fun p => ?_, fun p => ?_, fun p => ?_, fun p => ?_⟩
    (State.recordCounter_sameKeys _ b)
  · rw [hnv]
  · rw [hnv]
  · rw [hpart]
  · rw [hpart]
  · rw [hpart]
  · unfold State.configured
    rw [hpart]

theorem State.SameKeys.keyRule (h : s.SameKeys t) (kind : Byte) (c : Nat) (k : KeyRecord) : t.keyRule kind c k = s.keyRule kind c k := by
  unfold State.keyRule
  simp only [h.configured, h.opKey, h.roots, h.cmdKey]

theorem State.SameKeys.keyStored (h : s.SameKeys t) (hst : t.keyStored u kind k) : s.keyStored u kind k := by
  unfold State.keyStored at hst ⊢
  simpa only [h.opKey, h.roots, h.cmdKey, h.egressDue, h.egressKey] using hst

/-! ## A key stored -/

/-- The kinds of KEY_LOAD (Table 13.6). -/
def keyKinds : List Byte := [1, 2, 3, 4, 5]

theorem State.storeKey_within (s : State) (kind : Byte) (k : KeyRecord) : Within { nv := true, parts := true } s (s.storeKey kind k) := by
  unfold State.storeKey
  dsimp only
  exact .ite rfl (.ite (.updPart _ _ _) (.ite (.updPart _ _ _) (.ite rfl rfl)))

/-- Each kind stores its one key. -/
theorem State.storeKey_stored (s : State) (hkind : kind ∈ keyKinds) (k : KeyRecord) : s.keyStored (s.storeKey kind k) kind k := by
  have hne : ∀ f, ∀ q, q ≠ k.target.toNat → ((s.updPart k.target.toNat f).part q).cmdKey = (s.part q).cmdKey :=
    fun f q hq => congrArg Part.cmdKey (s.part_updPart_ne f hq)
  simp only [keyKinds, List.mem_cons, List.not_mem_nil, or_false] at hkind
  rcases hkind with rfl | rfl | rfl | rfl | rfl
  · exact ⟨rfl, rfl, rfl, nofun, rfl, rfl, fun _ _ => rfl⟩
  · have hp : (s.storeKey 2 k).part k.target.toNat = { s.part k.target.toNat with cmdKey := some k.material, secCtr := 0 } :=
      s.part_updPart _ _
    exact ⟨rfl, rfl, by rw [hp]; rfl, fun _ => by rw [hp], by rw [hp]; rfl, by rw [hp], hne _⟩
  · have hp : (s.storeKey 3 k).part k.target.toNat =
        { s.part k.target.toNat with egressDue := (s.part k.target.toNat).egressDue ++ [k.material] } := s.part_updPart _ _
    exact ⟨rfl, rfl, by rw [hp]; rfl, nofun, by rw [hp]; rfl, by rw [hp], hne _⟩
  · exact ⟨rfl, rfl, rfl, nofun, rfl, rfl, fun _ _ => rfl⟩
  · exact ⟨rfl, rfl, rfl, nofun, rfl, rfl, fun _ _ => rfl⟩

/-- The checks of a KEY_LOAD that are its message's own (R403): its framing, an open session, the message opened, its reserved bytes, its
rules and the length of its material. -/
structure State.KeyChecks (s : State) (kind : Byte) (b : CmdBlock) (k : KeyRecord) : Prop where
  params : keyParams b = true
  session : (s.spdm b.channel).isOpen = true
  opened : k.openedOk = true
  reserved : k.reservedZero = true
  rule : s.keyRule kind b.channel k = true
  length : k.material.length = keyBytes kind

/-- A key whose checks hold is stored, and its command completes. -/
theorem State.keyLoad_stores (h : s.KeyChecks kind b k) :
    s.keyLoad kind b k = ((s.opened b 0x54).storeKey kind k).complete b.channel 0x54 b.cseq 0 0 := by
  unfold State.keyLoad
  rw [if_neg (not_bnot_eq_true h.params), if_neg (not_bnot_eq_true h.session), if_neg (by simp [h.opened, h.reserved]),
    if_neg (not_bnot_eq_true h.rule), if_neg (not_not.2 h.length)]

/-- Without an open session a KEY_LOAD is refused. -/
theorem State.keyLoad_refused (h : (s.spdm b.channel).isOpen = false) : ∃ st, s.keyLoad kind b k = s.result b 0x54 st := by
  unfold State.keyLoad
  split
  · exact ⟨1, rfl⟩
  · exact ⟨6, if_pos (by rw [h]; rfl)⟩

theorem State.keyLoad_keyStored (hkind : kind ∈ keyKinds) (h : s.KeyChecks kind b k) : s.keyStored (s.keyLoad kind b k) kind k := by
  rw [State.keyLoad_stores h, (State.complete_says _ _ _ _ _ _).view (fun x => s.keyStored x kind k) (fun _ _ _ _ => rfl)]
  exact (s.opened_says b 0x54).sameKeys.keyStored (State.storeKey_stored _ hkind k)

theorem State.keyLoad_within (hc : isLocal b.channel) (h : s.KeyChecks kind b k) :
    Within { nv := true, parts := true, chans := true, hif := true } s (s.keyLoad kind b k) := by
  rw [State.keyLoad_stores h]
  exact (s.opened_tells hc 0x54).within.mono.trans ((State.storeKey_within _ _ _).mono.trans (State.complete_tells _ hc _ _ _ _).within.mono)

/-! ## KEY_LOAD as it arrives -/

/-- No KEY_LOAD comes from the fabric manager. -/
theorem isLocal_of_keyInfo {c : Nat} (h : c ∈ keyInfo.chans) : isLocal c := by
  rintro (rfl | rfl) <;> exact absurd h (by decide)

theorem State.arrival_spdm (s : State) (b : CmdBlock) (c : Nat) : (s.arrival b).spdm c = s.spdm c :=
  ((State.recordCounter_counts _ b).view (State.spdm · c) (fun _ _ => rfl)).trans
    ((s.takeIn_takes b.channel).view (State.spdm · c) (fun _ _ => rfl))

/-- The footprint of a KEY_LOAD command. -/
def loadingKey : Foot :=
  { nv := true, mem := true, host := true, poison := true, parts := true, fab := true, chans := true, hif := true, sec := true }

/-- A KEY_LOAD that keeps its rules stores its key. -/
theorem keyLoad_answers {c : Instr} (hc : exec c s = act loadingKey (fun s => s.keyLoadOn kind b k) s) (hon : s.pwr.off = false)
    (hkind : kind ∈ keyKinds) (h : s.keyLoads kind b k) :
    Answers c s { nv := true, parts := true, chans := true, hif := true } (s.keyStored · kind k) := by
  obtain ⟨hacc, hparams, hopen, hopened, hres, hrule, hlen⟩ := h
  have hlocal := isLocal_of_keyInfo (State.accepts_channel hacc)
  have hkeys := s.arrival_sameKeys b
  have hchecks : (s.arrival b).KeyChecks kind b k :=
    ⟨hparams, by rw [State.arrival_spdm]; exact hopen, hopened, hres, (hkeys.keyRule _ _ _).trans hrule, hlen⟩
  exact .of_act_eq hc hon (State.accept_arrival hacc _) ((s.arrival_within hlocal).mono.trans (State.keyLoad_within hlocal hchecks))
    (hkeys.keyStored (State.keyLoad_keyStored hkind hchecks)) (fun _ _ => rfl)

/-- Without an open session no key changes. -/
theorem keyLoad_changes_none {c : Instr} (hc : exec c s = act loadingKey (fun s => s.keyLoadOn kind b k) s) (hon : s.pwr.off = false)
    (hacc : s.accepts keyInfo true (s.firstLoad kind b.channel) b) (hclosed : (s.spdm b.channel).isOpen = false) :
    Answers c s { nv := true, parts := true, chans := true, hif := true } s.SameKeys := by
  have hlocal := isLocal_of_keyInfo (State.accepts_channel hacc)
  obtain ⟨st, hst⟩ := State.keyLoad_refused (s := s.arrival b) (kind := kind) (k := k) (by rw [State.arrival_spdm]; exact hclosed)
  refine .of_act_eq hc hon (State.accept_arrival hacc _) ?_ ?_ (fun _ _ => rfl)
  · rw [hst]
    exact (s.arrival_within hlocal).mono.trans (State.result_tells _ hlocal _ _).within.mono
  · rw [hst]
    exact (s.arrival_sameKeys b).trans (State.sendWord_says _ _ _).sameKeys

/-- Settles O52: the key stored by the cases of its kind; what arrives, opens and completes leaves the keys. -/
theorem keyLoadsStoreTheirKey : Obligations.KeyLoadsStoreTheirKey := by
  rintro s b k m hon rfl
  refine ⟨keyLoad_answers (exec_keyLoadOperatorCmd b k s) hon (by decide), keyLoad_answers (exec_keyLoadPartitionCmd b k s) hon (by decide),
    keyLoad_answers (exec_keyLoadPartitionEgress b k s) hon (by decide), keyLoad_answers (exec_keyLoadRootAdd b k s) hon (by decide),
    keyLoad_answers (exec_keyLoadRootRemove b k s) hon (by decide), fun kind c hmem hacc hclosed => ?_⟩
  have hc : exec c s = act loadingKey (fun s => s.keyLoadOn kind b k) s := by
    simp only [List.mem_cons, Prod.mk.injEq, List.not_mem_nil, or_false] at hmem
    rcases hmem with ⟨rfl, rfl⟩ | ⟨rfl, rfl⟩ | ⟨rfl, rfl⟩ | ⟨rfl, rfl⟩ | ⟨rfl, rfl⟩
    · exact exec_keyLoadOperatorCmd b k s
    · exact exec_keyLoadPartitionCmd b k s
    · exact exec_keyLoadPartitionEgress b k s
    · exact exec_keyLoadRootAdd b k s
    · exact exec_keyLoadRootRemove b k s
  exact (keyLoad_changes_none hc hon hacc hclosed).imp (fun t h => ⟨h.opKey, h.roots, fun q => ⟨h.cmdKey q, h.egressDue q⟩⟩)

end Sys2Proof.Machine
end

section
/-! Debug access, vendor records and firmware (R412–R416); their statement settled. -/

namespace Sys2Proof.Machine

variable {s t u : State} {m M : Foot} {b : CmdBlock} {r : VendorRecord} {img : FwImage}

theorem exec_dbgUnlock (b : CmdBlock) (r : VendorRecord) (s : State) : exec (.dbgUnlock b r) s = execDbgUnlock b r s := rfl
theorem exec_releaseFixed (b : CmdBlock) (r : VendorRecord) (s : State) : exec (.releaseFixed b r) s = execReleaseFixed b r s := rfl
theorem exec_fixAtFactory (b : CmdBlock) (r : VendorRecord) (s : State) : exec (.fixAtFactory b r) s = execFixAtFactory b r s := rfl
theorem exec_clearOperatorKey (b : CmdBlock) (r : VendorRecord) (s : State) :
    exec (.clearOperatorKey b r) s = execClearOperatorKey b r s := rfl
theorem exec_fwUpdate (b : CmdBlock) (img : FwImage) (s : State) : exec (.fwUpdate b img) s = execFwUpdate b img s := rfl
theorem exec_fwWriteComplete (ok : Bool) (s : State) : exec (.fwWriteComplete ok) s = execFwWriteComplete ok s := rfl

/-- The physical function and the BMC are not the fabric manager. -/
theorem isLocal_pf_bmc : ∀ x ∈ [Receiver.pf, .bmc], isLocal x.channel := by
  intro x hx
  rcases List.mem_cons.1 hx with rfl | hx
  · rintro (h | h) <;> cases h
  · obtain rfl := List.mem_singleton.1 hx
    rintro (h | h) <;> cases h

/-! ## DBG_UNLOCK (R416) -/

/-- The scope of debug access opened. -/
def Sec.opens (x : Sec) (scope : Nat) : Sec := { x with lifecycle := 1, scope := BitVec.ofNat 2 scope, unlocked := true }

/-- `t` is `s` with this security record, and with words sent. -/
structure State.Secures (s t : State) (x : Sec) : Prop where
  within : Within { chans := true, hif := true, sec := true } s t
  sec : t.sec = x

/-- The security record replaced. -/
def State.setSec (s : State) (x : Sec) : State := { s with sec := x }

theorem State.unlock_secures (hc : isLocal b.channel) : s.Secures (s.unlock b) (s.sec.opens (b.par 0 1)) := by
  have hopen := s.opened_tells hc 0x56
  have hsay := fun x : State => (x.event_tells isLocal_pf_bmc 0x23 (b.par 0 1)).trans (State.complete_tells _ hc 0x56 b.cseq 0 0)
  refine ⟨hopen.within.mono.trans (Within.trans (t := (s.opened b 0x56).setSec _) rfl (hsay _).within.mono), ?_⟩
  refine ((hsay _).view State.sec (fun _ _ => rfl)).trans ?_
  exact congrArg (Sec.opens · (b.par 0 1)) (hopen.view State.sec (fun _ _ => rfl))

/-- Under scope BOARD an unlock needs no token. -/
theorem State.dbgUnlock_board (h : s.hasTenants = false) (hb : b.par 0 1 = 1) (token : VendorRecord) : s.dbgUnlock b token = s.unlock b := by
  unfold State.dbgUnlock
  dsimp only
  rw [if_neg (by simp [hb]), if_neg (ne_true_of_eq_false h), if_pos hb]

/-- Under scope INTERNAL the token must hold, and its use renews the nonce. -/
theorem State.dbgUnlock_internal (h : s.hasTenants = false) (hb : b.par 0 1 = 2) (hin : s.inReach 31 (b.par 8 8) vendorBytes = true)
    (token : VendorRecord) :
    s.dbgUnlock b token = if s.recordHolds token then s.renewNonce.unlock b else s.renewNonce.result b 0x56 9 := by
  unfold State.dbgUnlock
  dsimp only
  rw [if_neg (by simp [hb]), if_neg (ne_true_of_eq_false h), if_neg (by simp [hb]), if_neg (not_bnot_eq_true hin)]

/-- With a tenant nothing is unlocked. -/
theorem State.dbgUnlock_refused (h : s.hasTenants = true) (token : VendorRecord) : ∃ st, s.dbgUnlock b token = s.result b 0x56 st := by
  unfold State.dbgUnlock
  dsimp only
  rw [if_pos h]
  split
  · exact ⟨1, rfl⟩
  · exact ⟨8, rfl⟩

/-! ## RECORD_LOAD (R412) -/

theorem State.renewNonce_within (s : State) : Within { freeCount := true, sec := true } s s.renewNonce := rfl

/-- A record that holds has its effect. -/
theorem State.recordLoad_holds {ok : Bool} (hin : s.inReach 31 (b.par 8 8) vendorBytes = true) (h : s.recordHolds r = true) (hok : ok = true)
    (f : State → State) : s.recordLoad b r ok f = (f (s.renewNonce.opened b 0x57)).complete b.channel 0x57 b.cseq 0 0 := by
  unfold State.recordLoad
  rw [if_neg (not_bnot_eq_true hin), if_neg (not_bnot_eq_true h), if_neg (not_bnot_eq_true hok)]

/-- One that does not hold has none, but renews the nonce too. -/
theorem State.recordLoad_fails (hin : s.inReach 31 (b.par 8 8) vendorBytes = true) (h : s.recordHolds r = false) (ok : Bool)
    (f : State → State) : s.recordLoad b r ok f = s.renewNonce.result b 0x57 9 := by
  unfold State.recordLoad
  rw [if_neg (not_bnot_eq_true hin), if_pos (by rw [h]; rfl)]

/-- The generation a record names is fixed or released, and the other slot is as it was. -/
theorem State.setFixed_gen (s : State) (r : VendorRecord) (v : Bool) :
    (s.setFixed r v).gen (r.slot == 1) = { s.gen (r.slot == 1) with fixed := v } ∧
    (s.setFixed r v).gen (!(r.slot == 1)) = s.gen (!(r.slot == 1)) := by
  unfold State.setFixed State.updPgen
  split
  · exact ⟨by rw [State.gen_setDue, State.gen_updGen], by rw [State.gen_setDue, State.gen_updGen_not]⟩
  · exact ⟨by rw [State.gen_updGen, State.gen_updGen], by rw [State.gen_updGen_not, State.gen_updGen_not]⟩

theorem State.setFixed_within (s : State) (r : VendorRecord) (v : Bool) : Within { wgt := true } s (s.setFixed r v) :=
  ((State.Reslots.updGen _ _ _).trans (.updPgen _ _ _)).within

/-- What a record leaves of the security record: the nonce renewed. -/
def Sec.renewed (x : Sec) (count : Nat) : Sec := { x with nonce := newNonce count }

/-- A record that fixes or releases: the generation it names alone, and the nonce. -/
structure State.Fixes (s t : State) (r : VendorRecord) (v : Bool) : Prop where
  within : Within { freeCount := true, wgt := true, chans := true, hif := true, sec := true } s t
  slot : t.gen (r.slot == 1) = { s.gen (r.slot == 1) with fixed := v }
  other : t.gen (!(r.slot == 1)) = s.gen (!(r.slot == 1))
  sec : t.sec = s.sec.renewed s.freeCount

theorem State.recordLoad_fixes (hc : isLocal b.channel) (hin : s.inReach 31 (b.par 8 8) vendorBytes = true) (h : s.recordHolds r = true)
    (hslot : s.slotHeld r = true) (v : Bool) : s.Fixes (s.recordLoad b r (s.slotHeld r) (fun t => t.setFixed r v)) r v := by
  rw [State.recordLoad_holds hin h hslot]
  have hopen := s.renewNonce.opened_tells hc 0x57
  have hset := (s.renewNonce.opened b 0x57).setFixed_within r v
  obtain ⟨hgen, hother⟩ := (s.renewNonce.opened b 0x57).setFixed_gen r v
  have hdone := ((s.renewNonce.opened b 0x57).setFixed r v).complete_tells hc 0x57 b.cseq 0 0
  have hsame : ∀ c, (s.renewNonce.opened b 0x57).gen c = s.gen c := fun c => hopen.view (State.gen · c) (fun _ _ => rfl)
  refine ⟨s.renewNonce_within.mono.trans (hopen.within.mono.trans (hset.mono.trans hdone.within.mono)), ?_, ?_, ?_⟩
  · rw [hdone.view (State.gen · (r.slot == 1)) (fun _ _ => rfl), hgen, hsame]
  · rw [hdone.view (State.gen · (!(r.slot == 1))) (fun _ _ => rfl), hother, hsame]
  · rw [hdone.view State.sec (fun _ _ => rfl), hset.view State.sec (fun _ _ => rfl), hopen.view State.sec (fun _ _ => rfl)]
    rfl

/-- The operator's key cleared. -/
def State.clearOpKey (s : State) : State := { s with nv := { s.nv with opKey := none } }

theorem State.recordLoad_clears (hc : isLocal b.channel) (hin : s.inReach 31 (b.par 8 8) vendorBytes = true) (h : s.recordHolds r = true) :
    Within { freeCount := true, nv := true, chans := true, hif := true, sec := true } s (s.recordLoad b r true State.clearOpKey) ∧
    (s.recordLoad b r true State.clearOpKey).nv = { s.nv with opKey := none } ∧
    (s.recordLoad b r true State.clearOpKey).sec = s.sec.renewed s.freeCount := by
  rw [State.recordLoad_holds hin h rfl]
  have hopen := s.renewNonce.opened_tells hc 0x57
  have hdone := (s.renewNonce.opened b 0x57).clearOpKey.complete_tells hc 0x57 b.cseq 0 0
  refine ⟨s.renewNonce_within.mono.trans (hopen.within.mono.trans (Within.trans (t := (s.renewNonce.opened b 0x57).clearOpKey) rfl
    hdone.within.mono)), ?_, ?_⟩
  · rw [hdone.view State.nv (fun _ _ => rfl)]
    exact congrArg (fun n : NonVol => { n with opKey := none }) (hopen.view State.nv (fun _ _ => rfl))
  · rw [hdone.view State.sec (fun _ _ => rfl)]
    exact hopen.view State.sec (fun _ _ => rfl)

theorem State.recordLoad_renews (hc : isLocal b.channel) (hin : s.inReach 31 (b.par 8 8) vendorBytes = true) (h : s.recordHolds r = false)
    (ok : Bool) (f : State → State) :
    Within { freeCount := true, chans := true, hif := true, sec := true } s (s.recordLoad b r ok f) ∧
    (s.recordLoad b r ok f).sec = s.sec.renewed s.freeCount := by
  rw [State.recordLoad_fails hin h]
  have hres := s.renewNonce.result_tells hc 0x57 9
  exact ⟨s.renewNonce_within.mono.trans hres.within.mono, hres.view State.sec (fun _ _ => rfl)⟩

/-! ## Firmware (R413, R414) -/

/-- The parameters of a legal FW_UPDATE outside recovery mode: an image in the operator's reach, or in an inbox. -/
def State.imageNamed (s : State) (b : CmdBlock) : Prop :=
  b.par 0 1 = 0 ∧ s.boot.recovery = false ∧
  ((b.par 1 1 = 0 ∧ s.inReach 31 (b.par 8 8) (b.par 16 8) = true) ∨ (b.par 1 1 = 1 ∧ b.par 4 2 ≤ 255))

/-- An image that is named is checked, and written where it passes. -/
theorem State.fwUpdate_named (h : s.imageNamed b) (img : FwImage) : s.fwUpdate b img =
    if s.imageVerdict img ≠ 0 then (s.opened b 0x55).complete b.channel 0x55 b.cseq (s.imageVerdict img) 0
    else (s.opened b 0x55).startWrite img (some (b.channel, b.cseq)) := by
  obtain ⟨h0, hrec, hsrc⟩ := h
  unfold State.fwUpdate
  dsimp only
  rw [if_neg]
  rcases hsrc with ⟨h1, hin⟩ | ⟨h1, hbox⟩
  · simp [h0, h1, hrec, hin]
  · simp [h0, h1, hrec, hbox]

/-- The image in flash as it was read back. -/
def State.flashed (s : State) (img : FwImage) (ok : Bool) (rest : List (FwImage × Option (Nat × BitVec 4))) : State :=
  { s with
    sec := { s.sec with fwWrite := rest }
    nv := { s.nv with flash := { img with digestOk := ok } }
    boot := { s.boot with recoveryUpdated := s.boot.recoveryUpdated || (s.boot.recovery && ok) } }

theorem State.writeDone_says {cmd : Option (Nat × BitVec 4)} {rest : List (FwImage × Option (Nat × BitVec 4))}
    (h : s.sec.fwWrite = (img, cmd) :: rest) (ok : Bool) : (s.flashed img ok rest).Says (s.writeDone ok) := by
  have hev : (s.flashed img ok rest).Says (if ok then (s.flashed img ok rest).event [.pf, .bmc] 0x24 img.svn.toNat else s.flashed img ok rest) := by
    split
    · exact State.event_says _ _ _ _
    · exact .refl _
  unfold State.writeDone
  rw [h]
  dsimp only
  split
  · exact hev.trans (State.complete_says _ _ _ _ _ _)
  · exact hev

/-! ## The commands -/

section Commands

variable (hon : s.pwr.off = false)
include hon

theorem dbgUnlock_board (hacc : s.accepts ⟨0x56, true, [0, 18]⟩ false false b) (hten : s.hasTenants = false) (hb : b.par 0 1 = 1) :
    Answers (.dbgUnlock b r) s { nv := true, chans := true, hif := true, sec := true } (fun t => t.sec = s.sec.opens 1) := by
  have hch := mem_operator_of_critical (State.accepts_channel hacc)
  refine .of_accepted (exec_dbgUnlock b r s) hon hacc hch (fun u hu => ?_)
  rw [State.dbgUnlock_board ((hu.view State.hasTenants (fun _ _ => rfl)).trans hten) hb]
  have h := State.unlock_secures (s := u) (isLocal_of_operator hch)
  rw [hb, hu.view State.sec (fun _ _ => rfl)] at h
  exact ⟨h.within.mono, h.sec⟩

theorem dbgUnlock_internal (hacc : s.accepts ⟨0x56, true, [0, 18]⟩ false false b) (hten : s.hasTenants = false) (hb : b.par 0 1 = 2)
    (hin : s.inReach 31 (b.par 8 8) vendorBytes = true) :
    Answers (.dbgUnlock b r) s { freeCount := true, nv := true, chans := true, hif := true, sec := true } (fun t =>
      t.sec = if s.recordHolds r then (s.sec.renewed s.freeCount).opens 2 else s.sec.renewed s.freeCount) := by
  have hch := mem_operator_of_critical (State.accepts_channel hacc)
  refine .of_accepted (exec_dbgUnlock b r s) hon hacc hch (fun u hu => ?_)
  rw [State.dbgUnlock_internal ((hu.view State.hasTenants (fun _ _ => rfl)).trans hten) hb
    ((hu.view (State.inReach · 31 (b.par 8 8) vendorBytes) (fun _ _ => rfl)).trans hin), hu.view (State.recordHolds · r) (fun _ _ => rfl)]
  have hsec : u.renewNonce.sec = s.sec.renewed s.freeCount := hu.view (fun x => x.renewNonce.sec) (fun _ _ => rfl)
  split
  · have h := State.unlock_secures (s := u.renewNonce) (isLocal_of_operator hch)
    rw [hb, hsec] at h
    exact ⟨u.renewNonce_within.mono.trans h.within.mono, h.sec⟩
  · have h := u.renewNonce.result_tells (isLocal_of_operator hch) 0x56 9
    exact ⟨u.renewNonce_within.mono.trans h.within.mono, (h.view State.sec (fun _ _ => rfl)).trans hsec⟩

theorem dbgUnlock_refused (hacc : s.accepts ⟨0x56, true, [0, 18]⟩ false false b) (hten : s.hasTenants = true) :
    Answers (.dbgUnlock b r) s { nv := true, chans := true, hif := true } (fun _ => True) := by
  have hch := mem_operator_of_critical (State.accepts_channel hacc)
  refine .of_accepted (exec_dbgUnlock b r s) hon hacc hch (fun u hu => ⟨?_, trivial⟩)
  obtain ⟨st, hst⟩ := State.dbgUnlock_refused (b := b) ((hu.view State.hasTenants (fun _ _ => rfl)).trans hten) r
  rw [hst]
  exact (u.result_tells (isLocal_of_operator hch) _ _).within.mono

/-- The footprint of the commands that fix and release. -/
def fixing : Foot :=
  { freeCount := true, nv := true, mem := true, host := true, poison := true, wgt := true, parts := true, fab := true,
    chans := true, hif := true, sec := true }

/-- FIX_AT_FACTORY and RELEASE_FIXED. -/
theorem setFixed_answers {c : Instr} {v : Bool} (hacc : s.accepts ⟨0x57, true, [0, 18]⟩ false false b)
    (hc : exec c s = act fixing (fun s => s.recordLoadOn b r (fun t => t.slotHeld r) (fun t => t.setFixed r v)) s)
    (hin : s.inReach 31 (b.par 8 8) vendorBytes = true) (hr : s.recordHolds r = true) (hslot : s.slotHeld r = true) :
    Answers c s { freeCount := true, nv := true, wgt := true, chans := true, hif := true, sec := true } (fun t =>
      t.gen (r.slot == 1) = { s.gen (r.slot == 1) with fixed := v } ∧ t.gen (!(r.slot == 1)) = s.gen (!(r.slot == 1)) ∧
      t.sec = s.sec.renewed s.freeCount) := by
  have hch := mem_operator_of_critical (State.accepts_channel hacc)
  refine .of_accepted hc hon hacc hch (fun u hu => ?_)
  have h := State.recordLoad_fixes (s := u) (isLocal_of_operator hch)
    ((hu.view (State.inReach · 31 (b.par 8 8) vendorBytes) (fun _ _ => rfl)).trans hin)
    ((hu.view (State.recordHolds · r) (fun _ _ => rfl)).trans hr) ((hu.view (State.slotHeld · r) (fun _ _ => rfl)).trans hslot) v
  refine ⟨h.within.mono, h.slot.trans ?_, h.other.trans ?_, h.sec.trans ?_⟩
  · exact congrArg (fun g : Gen => { g with fixed := v }) (hu.view (State.gen · (r.slot == 1)) (fun _ _ => rfl))
  · exact hu.view (State.gen · (!(r.slot == 1))) (fun _ _ => rfl)
  · exact hu.view (fun x => x.sec.renewed x.freeCount) (fun _ _ => rfl)

theorem clearOperatorKey_clears (hacc : s.accepts ⟨0x57, true, [0, 18]⟩ false false b)
    (hin : s.inReach 31 (b.par 8 8) vendorBytes = true) (hr : s.recordHolds r = true) :
    Answers (.clearOperatorKey b r) s { freeCount := true, nv := true, chans := true, hif := true, sec := true } (fun t =>
      t.nv.opKey = none ∧ t.nv.roots = s.nv.roots ∧ t.sec = s.sec.renewed s.freeCount) := by
  have hch := mem_operator_of_critical (State.accepts_channel hacc)
  refine .of_accepted (exec_clearOperatorKey b r s) hon hacc hch (fun u hu => ?_)
  obtain ⟨hw, hnv, hsec⟩ := State.recordLoad_clears (s := u) (isLocal_of_operator hch)
    ((hu.view (State.inReach · 31 (b.par 8 8) vendorBytes) (fun _ _ => rfl)).trans hin)
    ((hu.view (State.recordHolds · r) (fun _ _ => rfl)).trans hr)
  exact ⟨hw.mono, (congrArg NonVol.opKey hnv).trans rfl, (congrArg NonVol.roots hnv).trans (hu.view (fun x => x.nv.roots) (fun _ _ => rfl)),
    hsec.trans (hu.view (fun x => x.sec.renewed x.freeCount) (fun _ _ => rfl))⟩

/-- A RECORD_LOAD of a record that does not hold. -/
theorem recordLoad_answers_fails {c : Instr} {M : Foot} {ok : State → Bool} {f : State → State}
    (hacc : s.accepts ⟨0x57, true, [0, 18]⟩ false false b) (hc : exec c s = act M (fun s => s.recordLoadOn b r ok f) s)
    (hin : s.inReach 31 (b.par 8 8) vendorBytes = true) (hr : s.recordHolds r = false)
    (hM : ∀ x y, State.only M x (State.only { freeCount := true, nv := true, chans := true, hif := true, sec := true } x y) =
      State.only { freeCount := true, nv := true, chans := true, hif := true, sec := true } x y) :
    Answers c s { freeCount := true, nv := true, chans := true, hif := true, sec := true } (fun t =>
      t.nv.opKey = s.nv.opKey ∧ t.sec = s.sec.renewed s.freeCount) := by
  have hch := mem_operator_of_critical (State.accepts_channel hacc)
  refine .of_accepted hc hon hacc hch (fun u hu => ?_) rfl rfl hM
  obtain ⟨hw, hsec⟩ := State.recordLoad_renews (s := u) (isLocal_of_operator hch)
    ((hu.view (State.inReach · 31 (b.par 8 8) vendorBytes) (fun _ _ => rfl)).trans hin)
    ((hu.view (State.recordHolds · r) (fun _ _ => rfl)).trans hr) (ok u) f
  exact ⟨hw.mono, (hw.view (fun x => x.nv.opKey) (fun _ _ => rfl)).trans (hu.view (fun x => x.nv.opKey) (fun _ _ => rfl)),
    hsec.trans (hu.view (fun x => x.sec.renewed x.freeCount) (fun _ _ => rfl))⟩

theorem fwUpdate_starts (hacc : s.accepts ⟨0x55, true, [0, 18]⟩ false false b) (hn : s.imageNamed b) (hok : s.imageVerdict img = 0) :
    Answers (.fwUpdate b img) s { nv := true, chans := true, hif := true, sec := true } (fun t =>
      t.sec = { s.sec with fwWrite := s.sec.fwWrite ++ [(img, some (b.channel, b.cseq))] }) := by
  have hch := mem_operator_of_critical (State.accepts_channel hacc)
  refine .of_accepted (exec_fwUpdate b img s) hon hacc hch (fun u hu => ?_)
  have hopen := u.opened_tells (isLocal_of_operator hch) 0x55
  have hn' : u.imageNamed b := (hu.view (State.imageNamed · b) (fun _ _ => rfl)).symm ▸ hn
  rw [State.fwUpdate_named hn', if_neg (not_not.2 ((hu.view (State.imageVerdict · img) (fun _ _ => rfl)).trans hok))]
  refine ⟨hopen.within.mono.trans (t := u.opened b 0x55) rfl, ?_⟩
  exact congrArg (fun x : Sec => { x with fwWrite := x.fwWrite ++ [(img, some (b.channel, b.cseq))] })
    ((hopen.view State.sec (fun _ _ => rfl)).trans (hu.view State.sec (fun _ _ => rfl)))

theorem fwUpdate_refuses (hacc : s.accepts ⟨0x55, true, [0, 18]⟩ false false b) (hn : s.imageNamed b) (hbad : s.imageVerdict img ≠ 0) :
    Answers (.fwUpdate b img) s { nv := true, chans := true, hif := true } (fun t => t.nv.flash = s.nv.flash) := by
  have hch := mem_operator_of_critical (State.accepts_channel hacc)
  refine .of_accepted (exec_fwUpdate b img s) hon hacc hch (fun u hu => ?_)
  have hlocal := isLocal_of_operator hch
  have hn' : u.imageNamed b := (hu.view (State.imageNamed · b) (fun _ _ => rfl)).symm ▸ hn
  have hsay := (u.opened_tells hlocal 0x55).trans (State.complete_tells _ hlocal 0x55 b.cseq (u.imageVerdict img) 0)
  rw [State.fwUpdate_named hn', if_pos (fun h => hbad ((hu.view (State.imageVerdict · img) (fun _ _ => rfl)).symm.trans h))]
  exact ⟨hsay.within.mono, (hsay.view (fun x => x.nv.flash) (fun _ _ => rfl)).trans (hu.view (fun x => x.nv.flash) (fun _ _ => rfl))⟩

theorem fwWriteComplete_flashes {cmd : Option (Nat × BitVec 4)} {rest : List (FwImage × Option (Nat × BitVec 4))}
    (h : s.sec.fwWrite = (img, cmd) :: rest) (ok : Bool) :
    Answers (.fwWriteComplete ok) s { boot := true, nv := true, fab := true, chans := true, hif := true, sec := true } (fun t =>
      t.nv = { s.nv with flash := { img with digestOk := ok } } ∧ t.sec = { s.sec with fwWrite := rest }) := by
  have hsays := State.writeDone_says h ok
  exact .of_act_eq (exec_fwWriteComplete ok s) hon rfl (Within.trans (t := s.flashed img ok rest) rfl hsays.within.mono)
    ⟨hsays.view State.nv (fun _ _ _ _ => rfl), hsays.view State.sec (fun _ _ _ _ => rfl)⟩

end Commands

/-- Settles O53: by the checks of each command. That a BOARD unlock sets scope 1 from whatever scope is open is the model's choice (log
entry 58). -/
theorem recordsUnlocksAndFirmware : Obligations.RecordsUnlocksAndFirmware := by
  intro s b r hon
  refine ⟨fun hacc hten => ⟨dbgUnlock_board hon hacc hten, fun hb hin hr => ?_, fun hb hin hr => ?_⟩, dbgUnlock_refused hon,
    fun hacc hin => ⟨fun hr hslot => ⟨?_, ?_⟩, clearOperatorKey_clears hon hacc hin, fun hr c hc => ?_⟩,
    fun img hacc h0 hrec hsrc => ⟨fwUpdate_starts hon hacc ⟨h0, hrec, hsrc⟩, fwUpdate_refuses hon hacc ⟨h0, hrec, hsrc⟩⟩,
    fun ok img cmd rest h => fwWriteComplete_flashes hon h ok⟩
  · exact (dbgUnlock_internal hon hacc hten hb hin).imp (fun t ht => ht.trans (if_pos hr))
  · exact (dbgUnlock_internal hon hacc hten hb hin).imp (fun t ht => ht.trans (if_neg (ne_true_of_eq_false hr)))
  · exact setFixed_answers hon hacc (exec_fixAtFactory b r s) hin hr hslot
  · exact setFixed_answers hon hacc (exec_releaseFixed b r s) hin hr hslot
  · simp only [List.mem_cons, List.not_mem_nil, or_false] at hc
    rcases hc with rfl | rfl | rfl
    · exact recordLoad_answers_fails hon hacc (exec_releaseFixed b r s) hin hr (fun _ _ => rfl)
    · exact recordLoad_answers_fails hon hacc (exec_fixAtFactory b r s) hin hr (fun _ _ => rfl)
    · exact recordLoad_answers_fails hon hacc (exec_clearOperatorKey b r s) hin hr (fun _ _ => rfl)

end Sys2Proof.Machine
end

section
/-! SPDM exchanges (R400–R402, R405; their order: log entry 40); their statement settled. -/

namespace Sys2Proof.Machine

variable {s t u : State} {b : CmdBlock} {r : SpdmRequest} {c : Nat} {k : KeyRecord}

/-! ## One request on a channel (R401) -/

/-- What a request that is answered makes of the exchange. -/
def exchanged (r : SpdmRequest) (y : Spdm) : Spdm :=
  match r with
  | .getVersion => { y with versioned := true, capable := false, negotiated := false, keyed := false }
  | .getCapabilities => { y with capable := true }
  | .negotiateAlgorithms _ => { y with negotiated := true }
  | .keyExchange _ => { y with keyed := true, isOpen := false, keyGen := y.keyGen + 1 }
  | .finish _ => { y with keyed := false, isOpen := true }
  | .keyUpdate => { y with keyGen := y.keyGen + 1 }
  | .endSession => { y with isOpen := false, keyed := false }
  | _ => y

/-- The bytes the spec gives its response. -/
def State.spdmBody (s : State) (c : Nat) (r : SpdmRequest) : List Byte :=
  match r with
  | .getVersion => [0x13]
  | .getMeasurements index _ => s.measurements c index
  | _ => []

/-- A request that the order of requests allows is answered with its code, and any other gets the ERROR response. -/
theorem State.spdmStep_eq (s : State) (c : Nat) (r : SpdmRequest) : s.spdmStep c r =
    if r.allowed (s.spdm c) then (s.updSpdm c (exchanged r)).answer c r.answerCode (s.spdmBody c r) else s.spdmError c := by
  cases r <;> rfl

theorem State.spdmStep_allowed (h : r.allowed (s.spdm c) = true) :
    s.spdmStep c r = (s.updSpdm c (exchanged r)).answer c r.answerCode (s.spdmBody c r) := by
  rw [State.spdmStep_eq, if_pos h]

theorem State.spdmStep_refused (h : r.allowed (s.spdm c) = false) : s.spdmStep c r = s.spdmError c := by
  rw [State.spdmStep_eq, if_neg (ne_true_of_eq_false h)]

theorem State.spdmStep_within (s : State) (c : Nat) (r : SpdmRequest) : Within { freeCount := true, sec := true } s (s.spdmStep c r) := by
  cases h : r.allowed (s.spdm c) with
  | true => rw [State.spdmStep_allowed h]; rfl
  | false => rw [State.spdmStep_refused h]; rfl

/-- The exchange after an answer, and the others. -/
theorem State.spdm_answered (s : State) (c : Nat) (r : SpdmRequest) :
    ((s.updSpdm c (exchanged r)).answer c r.answerCode (s.spdmBody c r)).spdm c = { exchanged r (s.spdm c) with
      response := [0x13, r.answerCode] ++ s.spdmBody c r ++ Config.spdmBytes r.answerCode.toNat s.freeCount } ∧
    ∀ d, d ≠ c → ((s.updSpdm c (exchanged r)).answer c r.answerCode (s.spdmBody c r)).spdm d = s.spdm d := by
  constructor
  · refine (State.spdm_updSpdm _ _ _).trans ?_
    have h := s.spdm_updSpdm c (exchanged r)
    exact congrArg (fun y : Spdm => { y with
      response := [0x13, r.answerCode] ++ s.spdmBody c r ++ Config.spdmBytes r.answerCode.toNat s.freeCount }) h
  · intro d hd
    exact (State.spdm_updSpdm_ne _ _ hd).trans (s.spdm_updSpdm_ne _ hd)

/-- The order of requests, and what an answer makes of the session. -/
structure State.Exchanges (s t : State) (c : Nat) (r : SpdmRequest) : Prop where
  code : (t.spdm c).response.take 2 = [0x13, r.answerCode]
  isOpen : (t.spdm c).isOpen = (exchanged r (s.spdm c)).isOpen
  keyGen : (t.spdm c).keyGen = (exchanged r (s.spdm c)).keyGen
  others : ∀ d, d ≠ c → t.spdm d = s.spdm d
  sec : t.sec = { s.sec with spdm := t.sec.spdm }

theorem State.spdmStep_exchanges (h : r.allowed (s.spdm c) = true) : s.Exchanges (s.spdmStep c r) c r := by
  obtain ⟨hhere, hothers⟩ := s.spdm_answered c r
  rw [State.spdmStep_allowed h]
  exact ⟨by rw [hhere]; rfl, by rw [hhere], by rw [hhere], hothers, rfl⟩

/-! ## The commands of a channel -/

/-- The response on channel 18, which leaves in an MCTP message. -/
def State.mctpAnswer (s : State) (c : Nat) : State := if c = 18 then { s with hif := { s.hif with mctpOut := (s.spdm c).response } } else s

theorem State.mctpAnswer_within (s : State) (c : Nat) : Within { hif := true } s (s.mctpAnswer c) := .ite rfl (.refl _ _)

theorem State.spdmOn_served (h : s.spdmServed c = true) (r : SpdmRequest) : s.spdmOn c r = (s.spdmStep c r).mctpAnswer c := if_pos h

theorem exec_command (r : SpdmRequest) (c : Nat) (s : State) :
    exec (r.command c) s = act { freeCount := true, hif := true, sec := true } (fun s => s.spdmOn c r) s := by
  cases r <;> rfl

/-- A served request that is allowed is answered. -/
theorem command_answers (hon : s.pwr.off = false) (hserved : s.spdmServed c = true) (h : r.allowed (s.spdm c) = true) :
    Answers (r.command c) s { freeCount := true, hif := true, sec := true } (s.spdmAnswered · c r) := by
  have hx := State.spdmStep_exchanges h
  have hw := s.spdmStep_within c r
  have hm := (s.spdmStep c r).mctpAnswer_within c
  have hsec : ((s.spdmStep c r).mctpAnswer c).sec = (s.spdmStep c r).sec := hm.view State.sec (fun _ _ => rfl)
  have hspdm : ∀ d, ((s.spdmStep c r).mctpAnswer c).spdm d = (s.spdmStep c r).spdm d := fun d => hm.view (State.spdm · d) (fun _ _ => rfl)
  refine .of_act_eq (exec_command r c s) hon (State.spdmOn_served hserved r) (hw.mono.trans hm.mono) ⟨?_, ?_, ?_, ?_, ?_, ?_⟩
  · rw [hspdm, hx.code]
  · rw [hspdm, hx.isOpen]
    cases r <;> rfl
  · rw [hspdm, hx.keyGen]
    cases r <;> rfl
  · exact fun d hd => (hspdm d).trans (hx.others d hd)
  · rw [hsec]
    exact hx.sec
  · have hhif : (s.spdmStep c r).hif = s.hif := hw.view State.hif (fun _ _ => rfl)
    rw [hspdm]
    unfold State.mctpAnswer
    split
    · rw [hhif]
    · exact hhif

/-- A served request that is not allowed gets the ERROR response. -/
theorem command_errs (hon : s.pwr.off = false) (hserved : s.spdmServed c = true) (h : r.allowed (s.spdm c) = false) :
    Answers (r.command c) s { hif := true, sec := true } (fun t =>
      t.spdm c = { s.spdm c with response := [0x13, 0x7F] } ∧ ∀ d, d ≠ c → t.spdm d = s.spdm d) := by
  have hm := (s.spdmError c).mctpAnswer_within c
  refine .of_act_eq (exec_command r c s) hon ((State.spdmOn_served hserved r).trans (by rw [State.spdmStep_refused h]))
    (Within.trans (t := s.spdmError c) rfl hm.mono) ⟨?_, fun d hd => ?_⟩
  · rw [hm.view (State.spdm · c) (fun _ _ => rfl)]
    exact s.spdm_updSpdm c _
  · rw [hm.view (State.spdm · d) (fun _ _ => rfl)]
    exact s.spdm_updSpdm_ne _ hd

/-! ## SEC_SPDM -/

theorem exec_secSpdmRequest (b : CmdBlock) (r : SpdmRequest) (s : State) : exec (.secSpdmRequest b r) s = execSecSpdmRequest b r s := rfl
theorem exec_secSpdmSecuredCommand (b : CmdBlock) (ok : Bool) (i : CmdBlock) (d : InnerDetail) (s : State) :
    exec (.secSpdmSecuredCommand b ok i d) s = execSecSpdmSecuredCommand b ok i d s := rfl

/-- The reach of a sender looks at the records in force, not at the command counters. -/
theorem State.spdmParams_updPart {f : Part → Part} (hf : ∀ q : Part, f q = { q with secCtr := (f q).secCtr }) (s : State) (p : Nat)
    (b : CmdBlock) (kind : Nat) : (s.updPart p f).spdmParams b kind = s.spdmParams b kind := by
  have hcfg : ∀ q, (s.updPart p f).cfg q = s.cfg q := fun q => by
    unfold State.cfg
    by_cases h : q = p
    · rw [h, State.part_updPart, hf]
    · rw [s.part_updPart_ne f h]
  unfold State.spdmParams State.blockReach State.inReach State.inDramReach
  rw [hcfg]
  rfl

theorem State.arrival_spdmParams (s : State) (b : CmdBlock) (kind : Nat) : (s.arrival b).spdmParams b kind = s.spdmParams b kind :=
  ((s.takeIn b.channel).recordCounter_view (State.spdmParams · b kind) b (fun p _ hf => State.spdmParams_updPart hf _ p b kind)
    (fun _ => rfl)).trans ((s.takeIn_takes b.channel).view (State.spdmParams · b kind) (fun _ _ => rfl))

/-- Bytes written are read back. -/
theorem State.rdBytes_wrBytes (s : State) (a : Nat) (bs : List Byte) : (s.wrBytes a bs).rdBytes a bs.length = bs := by
  unfold State.wrBytes State.rdBytes
  by_cases h : 0x020000000000 ≤ a ∧ a < 0x030000000000
  · rw [if_pos h, if_pos h]
    exact Memory.readBytes_writeBytes _ _ _
  · rw [if_neg h, if_neg h]
    exact Memory.readBytes_writeBytes _ _ _

/-- A request of a SEC_SPDM served: its command opened, the request answered, the response written, the command complete. -/
def State.servedRequest (s : State) (b : CmdBlock) (r : SpdmRequest) : State :=
  (((s.opened b 0x50).spdmStep b.channel r).respond b (((s.opened b 0x50).spdmStep b.channel r).spdm b.channel).response).complete
    b.channel 0x50 b.cseq 0 0

theorem State.spdmRequest_served (h : s.spdmParams b 0 = true) (r : SpdmRequest) : s.spdmRequest b r = s.servedRequest b r :=
  if_neg (not_bnot_eq_true h)

/-- What is written of a response. -/
theorem State.respond_within (s : State) (b : CmdBlock) (bs : List Byte) :
    Within { mem := true, host := true, poison := true } s (s.respond b bs) := .wrBytes _ _ _

/-- The response of a served request, its bytes in the buffer, and the open commands. -/
theorem State.servedRequest_answers (h : r.allowed (s.spdm b.channel) = true) :
    ((s.servedRequest b r).spdm b.channel).response.take 2 = [0x13, r.answerCode] ∧
    (s.servedRequest b r).rdBytes (b.par 8 8) ((((s.servedRequest b r).spdm b.channel).response.take (b.par 0x10 4)).length) =
      ((s.servedRequest b r).spdm b.channel).response.take (b.par 0x10 4) ∧
    ((s.servedRequest b r).openOn b.channel).length = (s.openOn b.channel).length := by
  have hopen := s.opened_says b 0x50
  have hspdm0 : (s.opened b 0x50).spdm b.channel = s.spdm b.channel := hopen.view (State.spdm · b.channel) (fun _ _ _ _ => rfl)
  have hx := State.spdmStep_exchanges (s := s.opened b 0x50) (c := b.channel) (r := r) (by rw [hspdm0]; exact h)
  have hstep := (s.opened b 0x50).spdmStep_within b.channel r
  unfold State.servedRequest
  generalize (s.opened b 0x50).spdmStep b.channel r = v at hx hstep ⊢
  have hresp := v.respond_within b (v.spdm b.channel).response
  have hdone := (v.respond b (v.spdm b.channel).response).complete_says b.channel 0x50 b.cseq 0 0
  have hspdm := (hdone.view (State.spdm · b.channel) (fun _ _ _ _ => rfl)).trans (hresp.view (State.spdm · b.channel) (fun _ _ => rfl))
  have hon : (v.respond b (v.spdm b.channel).response).openOn b.channel = s.openOn b.channel ++ [(0x50, b.cseq)] :=
    (hresp.view (State.openOn · b.channel) (fun _ _ => rfl)).trans
      ((hstep.view (State.openOn · b.channel) (fun _ _ => rfl)).trans (s.openOn_opened b 0x50))
  refine ⟨by rw [hspdm]; exact hx.code, ?_, ?_⟩
  · rw [hspdm, hdone.view (fun x => x.rdBytes (b.par 8 8) _) (fun _ _ _ _ => rfl)]
    exact State.rdBytes_wrBytes v _ _
  · have hmem : (0x50, b.cseq) ∈ s.openOn b.channel ++ [((0x50 : Byte), b.cseq)] := List.mem_append_right _ List.mem_cons_self
    rw [State.openOn_complete _ _ _ _ _ _ (hon ▸ hmem), hon, List.length_erase_of_mem hmem, List.length_append]
    rfl

theorem secSpdmRequest_answers (hon : s.pwr.off = false) (hacc : s.accepts spdmInfo false false b) (hparams : s.spdmParams b 0 = true)
    (h : r.allowed (s.spdm b.channel) = true) :
    Answers (.secSpdmRequest b r) s
      { freeCount := true, nv := true, mem := true, host := true, poison := true, parts := true, fab := true, chans := true,
        hif := true, sec := true } (fun t =>
      (t.spdm b.channel).response.take 2 = [0x13, r.answerCode] ∧
      t.rdBytes (b.par 8 8) (((t.spdm b.channel).response.take (b.par 0x10 4)).length) =
        (t.spdm b.channel).response.take (b.par 0x10 4) ∧
      (t.openOn b.channel).length = (s.openOn b.channel).length) := by
  obtain ⟨hcode, hbytes, hlen⟩ := State.servedRequest_answers (s := s.arrival b) (b := b) (r := r) (by rw [State.arrival_spdm]; exact h)
  rw [State.openOn_arrival] at hlen
  exact .of_act_named (u := (s.arrival b).servedRequest b r) (exec_secSpdmRequest b r s) hon
    ((State.accept_arrival hacc _).trans (State.spdmRequest_served ((s.arrival_spdmParams b 0).trans hparams) r)) ⟨hcode, hbytes, hlen⟩

/-! ## The secured command of a virtual function (R401, R405) -/

/-- A command of a virtual function is its partition's. -/
theorem chanOwner_eq_partition {c : Nat} (h2 : 2 ≤ c) (h18 : c < 18) : chanOwner c = c - 2 := if_pos ⟨h2, h18⟩

/-- A partition's command key comes on its own channel. -/
theorem State.target_of_keyRule (h : s.keyRule 2 c k = true) : k.target.toNat = c - 2 := by
  unfold State.keyRule at h
  simp only [if_neg (show ¬(2 : Byte) = 1 by decide), if_true, Bool.and_eq_true, decide_eq_true_eq] at h
  exact h.1.2.2

/-- The secured message opened and its KEY_LOAD served, before the response. -/
theorem State.inner_key {inner : CmdBlock} (hcode : inner.blkCode = 0x54)
    (hrej : s.rejectReason keyInfo true true (s.firstLoad 2 b.channel) (innerOf b inner) = none) (k : KeyRecord) :
    s.inner (innerOf b inner) (.key 2 k) = (s.recordCounter (innerOf b inner)).keyLoad 2 (innerOf b inner) k := by
  have hinfo : ({ keyInfo with
      code := (innerOf b inner).blkCode, chans := if (innerOf b inner).blkCode = 0x54 then keyInfo.chans else [] } : CmdInfo) = keyInfo := by
    rw [show (innerOf b inner).blkCode = 0x54 from hcode]
    rfl
  unfold State.inner
  dsimp only
  rw [hinfo]
  unfold State.acceptBlock
  rw [show s.rejectReason keyInfo true true (s.firstLoad 2 (innerOf b inner).channel) (innerOf b inner) = none from hrej]

/-- A partition's command key stored by its secured command: its record alone changes. -/
structure State.StoresOwnKey (s t : State) (p : Nat) (key : List Byte) : Prop where
  within : Within { nv := true, parts := true, chans := true, hif := true } s t
  cmdKey : (t.part p).cmdKey = some key
  secCtr : (t.part p).secCtr = 0
  others : ∀ q, q ≠ p → t.part q = s.part q

theorem State.keyLoad_storesOwnKey (hc : isLocal b.channel) (h : s.KeyChecks 2 b k) :
    s.StoresOwnKey (s.keyLoad 2 b k) (b.channel - 2) k.material := by
  obtain ⟨-, -, hkey, hctr, -⟩ := State.keyLoad_keyStored (by decide) h
  have htarget := State.target_of_keyRule h.rule
  rw [htarget] at hkey hctr
  refine ⟨State.keyLoad_within hc h, hkey, hctr rfl, fun q hq => ?_⟩
  rw [State.keyLoad_stores h, (State.complete_says _ _ _ _ _ _).view (State.part · q) (fun _ _ _ _ => rfl)]
  exact ((s.opened b 0x54).part_updPart_ne _ (htarget ▸ hq)).trans ((s.opened_says b 0x54).view (State.part · q) (fun _ _ _ _ => rfl))

theorem State.StoresOwnKey.arrived {p : Nat} {key : List Byte} (h : u.StoresOwnKey t p key)
    (hw : Within { nv := true, parts := true, chans := true, hif := true } s u) (hp : ∀ q, q ≠ p → u.part q = s.part q) :
    s.StoresOwnKey t p key :=
  ⟨hw.trans h.within, h.cmdKey, h.secCtr, fun q hq => (h.others q hq).trans (hp q hq)⟩

/-- The response of a secured command: its bytes are free (log entry 40). -/
def State.respondSecured (s : State) (b : CmdBlock) : State :=
  ({ s with freeCount := s.freeCount + 1 } : State).respond b (Config.spdmBytes 0x06 s.freeCount)

theorem State.respondSecured_within (s : State) (b : CmdBlock) :
    Within { freeCount := true, mem := true, host := true, poison := true } s (s.respondSecured b) :=
  Within.trans (t := { s with freeCount := s.freeCount + 1 }) rfl (State.respond_within _ _ _).mono

theorem State.securedCommand_opened {inner : CmdBlock} (h : s.spdmParams b 1 = true) (h2 : 2 ≤ b.channel) (h18 : b.channel < 18)
    (hopen : (s.spdm b.channel).isOpen = true) (d : InnerDetail) :
    s.securedCommand b true inner d = (s.inner (innerOf b inner) d).respondSecured b := by
  have hchan : ¬(b.channel < 2 ∨ 18 ≤ b.channel) := by omega
  unfold State.securedCommand
  rw [if_neg (by rw [h, decide_eq_false hchan]; exact Bool.false_ne_true), if_neg (not_bnot_eq_true hopen), if_neg (by decide)]
  rfl

theorem secSpdmSecuredCommand_stores {inner : CmdBlock} (hon : s.pwr.off = false) (hacc : s.accepts spdmInfo false false b)
    (hparams : s.spdmParams b 1 = true) (h2 : 2 ≤ b.channel) (h18 : b.channel < 18) (hopen : (s.spdm b.channel).isOpen = true)
    (hcode : inner.blkCode = 0x54)
    (hrej : (s.arrival b).rejectReason keyInfo true true ((s.arrival b).firstLoad 2 b.channel) (innerOf b inner) = none)
    (hkp : keyParams (innerOf b inner) = true) (hok : k.openedOk = true) (hres : k.reservedZero = true)
    (hrule : (s.arrival b).keyRule 2 b.channel k = true) (hlen : k.material.length = 64) :
    Answers (.secSpdmSecuredCommand b true inner (.key 2 k)) s
      { freeCount := true, nv := true, mem := true, host := true, poison := true, parts := true, chans := true, hif := true } (fun t =>
      (t.part (b.channel - 2)).cmdKey = some k.material ∧ (t.part (b.channel - 2)).secCtr = 0 ∧
      (∀ q, q ≠ b.channel - 2 → t.part q = s.part q)) := by
  have hlocal : isLocal b.channel := fun h => by omega
  have howner := chanOwner_eq_partition h2 h18
  have hcount := (s.arrival b).recordCounter_counts (innerOf b inner)
  have hspdm : ((s.arrival b).recordCounter (innerOf b inner)).spdm b.channel = s.spdm b.channel :=
    (hcount.view (State.spdm · b.channel) (fun _ _ => rfl)).trans (s.arrival_spdm b b.channel)
  have hchecks : ((s.arrival b).recordCounter (innerOf b inner)).KeyChecks 2 (innerOf b inner) k :=
    ⟨hkp, (congrArg Spdm.isOpen hspdm).trans hopen, hok, hres, (((s.arrival b).recordCounter_sameKeys _).keyRule _ _ _).trans hrule, hlen⟩
  have hstores : s.StoresOwnKey (((s.arrival b).recordCounter (innerOf b inner)).keyLoad 2 (innerOf b inner) k) (b.channel - 2) k.material :=
    (State.keyLoad_storesOwnKey (b := innerOf b inner) hlocal hchecks).arrived ((s.arrival_within hlocal).mono.trans hcount.mono)
      (fun q hq => (State.recordCounter_part_ne _ _ (howner ▸ hq)).trans (s.arrival_part_ne hlocal (howner ▸ hq)))
  have hresp := State.respondSecured_within (((s.arrival b).recordCounter (innerOf b inner)).keyLoad 2 (innerOf b inner) k) b
  have hpart : ∀ q, ((((s.arrival b).recordCounter (innerOf b inner)).keyLoad 2 (innerOf b inner) k).respondSecured b).part q =
      (((s.arrival b).recordCounter (innerOf b inner)).keyLoad 2 (innerOf b inner) k).part q :=
    fun q => hresp.view (State.part · q) (fun _ _ => rfl)
  refine .of_act_eq (exec_secSpdmSecuredCommand b true inner (.key 2 k) s) hon ((State.accept_arrival hacc _).trans
    ((State.securedCommand_opened ((s.arrival_spdmParams b 1).trans hparams) h2 h18 (by rw [State.arrival_spdm]; exact hopen) _).trans
      (by rw [State.inner_key hcode hrej]))) (hstores.within.mono.trans hresp.mono) ⟨?_, ?_, fun q hq => ?_⟩
  · rw [hpart]
    exact hstores.cmdKey
  · rw [hpart]
    exact hstores.secCtr
  · rw [hpart]
    exact hstores.others q hq

/-- Settles O51: by the order of requests, which is the model's (log entry 40), and by what a request makes of its exchange. -/
theorem spdmExchanges : Obligations.SpdmExchanges := by
  rintro s c r m hon rfl
  have answers : s.spdmServed c = true → ∀ r : SpdmRequest, r.allowed (s.spdm c) = true → _ := fun hs r hr =>
    command_answers (r := r) hon hs hr
  refine ⟨fun hs => ⟨answers hs .getVersion rfl, fun h => answers hs .getCapabilities h,
      fun h => answers hs (.negotiateAlgorithms true) (by simp [SpdmRequest.allowed, h]),
      fun h => ⟨answers hs .getDigests h, fun o n => answers hs (.getCertificate o n) h, fun x => answers hs (.challenge x) h,
        fun i x => answers hs (.getMeasurements i x) h, answers hs (.keyExchange true) (by simp [SpdmRequest.allowed, h])⟩,
      fun h => answers hs (.finish true) (by simp [SpdmRequest.allowed, h]),
      fun h => ⟨answers hs .heartbeat h, answers hs .keyUpdate h, answers hs .endSession h⟩⟩,
    command_errs hon, fun hs => ?_, fun b hacc hparams h => secSpdmRequest_answers hon hacc hparams h, ?_⟩
  · rw [exec_command]
    exact act_of_eq_self (if_neg (ne_true_of_eq_false hs))
  · rintro b inner k u hacc hparams h2 h18 hopen rfl hcode hrej hkp hok hres hrule hlen
    exact secSpdmSecuredCommand_stores hon hacc hparams h2 h18 hopen hcode hrej hkp hok hres hrule hlen

end Sys2Proof.Machine
end

section
/-! SUPPORT. The ends of sequences, and what they leave of the partitions (R206, R248, R249). -/

namespace Sys2Proof.Machine

variable {s t u : State} {p : Nat}

/-- What a partition is configured as, and what waits for it. -/
structure Part.SameConfig (q r : Part) : Prop where
  cfg : r.cfg = q.cfg
  cfgDue : r.cfgDue = q.cfgDue
  resetDue : r.resetDue = q.resetDue

theorem Part.SameConfig.trans {q r x : Part} (h : q.SameConfig r) (h' : r.SameConfig x) : q.SameConfig x :=
  ⟨h'.cfg.trans h.cfg, h'.cfgDue.trans h.cfgDue, h'.resetDue.trans h.resetDue⟩

/-- The footprint of sequences that end. -/
def ending : Foot := { adps := true, frames := true, sweeps := true, seqs := true, parts := true, srv := true }

/-- From `s` to `t` some sequences have ended, and no partition is configured otherwise. -/
structure State.Ends (s t : State) : Prop where
  within : Within ending s t
  part : ∀ p, (s.part p).SameConfig (t.part p)
  seq : ∀ i, (t.seq i).state = 0 ∨ ((t.seq i).state = (s.seq i).state ∧ (t.seq i).partition = (s.seq i).partition)

theorem State.Ends.refl (s : State) : s.Ends s := ⟨.refl _ _, fun _ => ⟨rfl, rfl, rfl⟩, fun _ => .inr ⟨rfl, rfl⟩⟩

theorem State.Ends.trans (h : s.Ends t) (h' : t.Ends u) : s.Ends u := by
  refine ⟨h.within.trans h'.within, fun p => (h.part p).trans (h'.part p), fun i => ?_⟩
  rcases h'.seq i with h0 | ⟨hst, hp⟩
  · exact .inl h0
  · rw [hst, hp]
    exact h.seq i

/-- What changes no partition and no sequence. -/
theorem State.Ends.of_same (hw : Within { adps := true, frames := true, sweeps := true, srv := true } s t) : s.Ends t := by
  have hp : ∀ p, t.part p = s.part p := fun p => hw.view (State.part · p) (fun _ _ => rfl)
  have hq : ∀ i, t.seq i = s.seq i := fun i => hw.view (State.seq · i) (fun _ _ => rfl)
  exact ⟨hw.mono, fun p => by rw [hp]; exact ⟨rfl, rfl, rfl⟩, fun i => by rw [hq]; exact .inr ⟨rfl, rfl⟩⟩

/-- A partition's counters or rings changed. -/
theorem State.Ends.updPart (s : State) (p : Nat) (f : Part → Part) (hf : ∀ q : Part, q.SameConfig (f q)) : s.Ends (s.updPart p f) := by
  refine ⟨.updPart _ _ _, fun q => ?_, fun _ => .inr ⟨rfl, rfl⟩⟩
  by_cases h : q = p
  · rw [h, State.part_updPart]
    exact hf _
  · rw [s.part_updPart_ne f h]
    exact ⟨rfl, rfl, rfl⟩

/-- A sequence changed in what is neither its state nor its partition, or ended. -/
theorem State.Ends.updSeq (s : State) (i : Nat) (f : Seq → Seq)
    (hf : ∀ q : Seq, (f q).state = 0 ∨ ((f q).state = q.state ∧ (f q).partition = q.partition)) : s.Ends (s.updSeq i f) := by
  refine ⟨.updSeq _ _ _, fun _ => ⟨rfl, rfl, rfl⟩, fun j => ?_⟩
  by_cases h : j = i
  · rw [h, State.seq_updSeq]
    exact hf _
  · rw [s.seq_updSeq_ne f h]
    exact .inr ⟨rfl, rfl⟩

theorem State.Ends.foldl {α : Type} (f : State → α → State) (hf : ∀ (s : State) a, s.Ends (f s a)) (l : List α) (s : State) : s.Ends (l.foldl f s) := by
  induction l generalizing s with
  | nil => exact .refl _
  | cons a l ih => exact (hf s a).trans (ih _)

/-! ## A sequence ended (R227, R248) -/

theorem State.freePrefix_ends (s : State) (x : Nat) : s.Ends (s.freePrefix x) := by
  unfold State.freePrefix
  dsimp only
  split
  · exact .updSeq _ _ _ (fun _ => .inl rfl)
  · exact .refl _

theorem State.dropRef_ends (s : State) (f : Nat) : s.Ends (s.dropRef f) := .of_same rfl

theorem State.retireSweep_ends (s : State) (f : Nat) : s.Ends (s.retireSweep f) := .of_same rfl

theorem State.releaseFrames_ends (s : State) (i : Nat) : s.Ends (s.releaseFrames i) := by
  unfold State.releaseFrames
  extract_lets q s1 s2 s3 s4 src s5
  have h1 : s.Ends s1 := .foldl _ (fun t _ => t.dropRef_ends _) _ _
  have h2 : s1.Ends s2 := .foldl _ (fun t _ => t.dropRef_ends _) _ _
  have h3 : s2.Ends s3 := .foldl _ (fun t _ => t.retireSweep_ends _) _ _
  have h4 : s3.Ends s4 := .updSeq _ _ _ (fun _ => .inr ⟨rfl, rfl⟩)
  have h5 : s4.Ends s5 := .of_same rfl
  have h : s.Ends s5 := h1.trans (h2.trans (h3.trans (h4.trans h5)))
  split
  · exact h.trans (State.freePrefix_ends _ _)
  · exact h

theorem State.countStatus_ends (s : State) (p : Nat) (st : Byte) : s.Ends (s.countStatus p st) := by
  refine .updPart _ _ _ (fun q => ?_)
  repeat' split
  all_goals exact ⟨rfl, rfl, rfl⟩

theorem State.renumber_ends (s : State) (p : Nat) : s.Ends (s.renumber p) :=
  .foldl _ (fun t (e : Nat × Nat) => .updSeq t e.1 (fun q => { q with queuePos := e.2 + 1 }) (fun _ => .inr ⟨rfl, rfl⟩)) _ _

/-- A sequence ended: others may end with it, and its own entry is FREE. -/
theorem State.endSeq_spec (s : State) (i : Nat) (st : Byte) (inLane : Bool) :
    s.Ends (s.endSeq i st inLane) ∧ ((s.endSeq i st inLane).seq i).state = 0 := by
  unfold State.endSeq
  extract_lets q h s1 s2 s3 src s4 s5
  have h1 : s.Ends s1 := by
    show s.Ends (if inLane then _ else _)
    split
    · exact .refl _
    · exact .updPart _ _ _ (fun _ => ⟨rfl, rfl, rfl⟩)
  have h2 : s1.Ends s2 := (State.releaseFrames_ends _ _).trans (State.countStatus_ends _ _ _)
  have h3 : s2.Ends s3 := by
    show s2.Ends (if q.adpBound then _ else _)
    split
    · exact .of_same rfl
    · exact .refl _
  have h4 : s3.Ends s4 := .of_same rfl
  have h5 : s4.Ends s5 := .updSeq _ _ _ (fun _ => .inl rfl)
  have hend : s.Ends s5 := h1.trans (h2.trans (h3.trans (h4.trans h5)))
  have hfree : (s5.seq i).state = 0 := congrArg Seq.state (s4.seq_updSeq i _)
  split
  · have hre := s5.renumber_ends q.partition
    exact ⟨hend.trans hre, (hre.seq i).elim id (fun hsame => hsame.1.trans hfree)⟩
  · exact ⟨hend, hfree⟩

/-- R206 applied to an owner's sequences ends some. -/
theorem State.policyCheck_ends (s : State) (p : Nat) : s.Ends (s.policyCheck p) := by
  refine .foldl _ (fun t i => ?_) _ _
  dsimp only
  split
  · exact (State.endSeq_spec _ _ _ _).1
  · exact .refl _

/-- Every sequence of a list ended. -/
theorem State.foldl_ends {f : State → Nat → State} (hf : ∀ (s : State) i, s.Ends (f s i) ∧ ((f s i).seq i).state = 0) (l : List Nat) (s : State) :
    s.Ends (l.foldl f s) ∧ ∀ i ∈ l, ((l.foldl f s).seq i).state = 0 := by
  induction l generalizing s with
  | nil => exact ⟨.refl _, nofun⟩
  | cons j l ih =>
    obtain ⟨hends, hfree⟩ := ih (f s j)
    refine ⟨(hf s j).1.trans hends, fun i hi => ?_⟩
    obtain rfl | hi := List.mem_cons.1 hi
    · exact (hends.seq i).elim id (fun hsame => hsame.1.trans (hf s i).2)
    · exact hfree i hi

/-- A prefix of a reset owner ended, its handle dropped. -/
def State.endPrefix (s : State) (i : Nat) : State :=
  let q := s.seq i
  let t := if q.handleHeld then q.frames.foldl (fun (u : State) (e : Nat × Nat) => u.dropRef e.2) s else s
  t.updSeq i (fun _ => { tag := q.tag, status := 0x12 })

theorem State.endPrefix_spec (s : State) (i : Nat) : s.Ends (s.endPrefix i) ∧ ((s.endPrefix i).seq i).state = 0 := by
  unfold State.endPrefix
  extract_lets q t
  have ht : s.Ends t := by
    show s.Ends (if q.handleHeld then _ else _)
    split
    · exact .foldl _ (fun u _ => u.dropRef_ends _) _ _
    · exact .refl _
  exact ⟨ht.trans (.updSeq _ _ _ (fun _ => .inl rfl)), congrArg Seq.state (t.seq_updSeq i _)⟩

/-- The entries of an owner's sequences, or of its prefixes. -/
def State.ownSeqs (s : State) (p : Nat) (pre : Bool) : List Nat :=
  (s.seqs.entries {}).filterMap (fun e => if e.2.partition = p ∧ e.2.state ≠ 0 ∧ (e.2.state = 7) = (pre = true) then some e.1 else none)

/-- A sequence of an owner that is no prefix is among the first, a prefix among the second. -/
theorem State.mem_ownSeqs {i : Nat} (hp : (s.seq i).partition = p) (hst : (s.seq i).state ≠ 0) {pre : Bool}
    (hpre : (s.seq i).state = 7 ↔ pre = true) : i ∈ s.ownSeqs p pre := by
  have hne : s.seq i ≠ {} := fun h => hst (congrArg Seq.state h)
  exact List.mem_filterMap.2 ⟨(i, s.seq i), Sparse.mem_entries.2 ⟨rfl, hne⟩, if_pos ⟨hp, hst, propext hpre⟩⟩

/-- Every sequence and prefix of an owner ended. -/
theorem State.cancelAll_spec (s : State) (p : Nat) :
    s.Ends (s.cancelAll p) ∧ ∀ i, (s.seq i).partition = p → ((s.cancelAll p).seq i).state = 0 := by
  obtain ⟨h1, hfree1⟩ := State.foldl_ends (f := fun t i => t.endSeq i 0x12 false) (fun t i => t.endSeq_spec i 0x12 false) (s.ownSeqs p false) s
  have hend : s.cancelAll p = (((s.ownSeqs p false).foldl (fun (t : State) i => t.endSeq i 0x12 false) s).ownSeqs p true).foldl
      State.endPrefix ((s.ownSeqs p false).foldl (fun (t : State) i => t.endSeq i 0x12 false) s) := rfl
  rw [hend]
  generalize (s.ownSeqs p false).foldl (fun (t : State) i => t.endSeq i 0x12 false) s = u at h1 hfree1
  obtain ⟨h2, hfree2⟩ := State.foldl_ends State.endPrefix_spec (u.ownSeqs p true) u
  refine ⟨h1.trans h2, fun i hp => ?_⟩
  have hstays : (u.seq i).state = 0 → (((u.ownSeqs p true).foldl State.endPrefix u).seq i).state = 0 := fun h0 =>
    (h2.seq i).elim id (fun hsame => hsame.1.trans h0)
  by_cases h0 : (u.seq i).state = 0
  · exact hstays h0
  · obtain ⟨hst, hpart⟩ := (h1.seq i).resolve_left h0
    by_cases h7 : (u.seq i).state = 7
    · exact hfree2 i (State.mem_ownSeqs (hpart.trans hp) h0 (iff_of_true h7 rfl))
    · rw [hst] at h0 h7
      exact hstays (hfree1 i (State.mem_ownSeqs hp h0 (iff_of_false h7 Bool.false_ne_true)))

end Sys2Proof.Machine
end

section
/-! SUPPORT. Configuration records and resets of partitions in effect (R396, R397, R459). -/

namespace Sys2Proof.Machine

variable {s t u : State} {p : Nat}

/-! ## Records -/

/-- The footprint of a record in effect, where its command came on no channel of the fabric manager. -/
def configuring : Foot :=
  { nv := true, adps := true, frames := true, sweeps := true, seqs := true, parts := true, srv := true, chans := true, hif := true }

/-- A record of an owner is in force and recorded; the records that wait, and those of other owners, are as they were. -/
structure State.Configures (s t : State) (p : Nat) (c : PartCfg) : Prop where
  cfg : (t.part p).cfg = some c
  record : t.nv.partCfgs.get none p = some c
  others : ∀ q, q ≠ p → (t.part q).cfg = (s.part q).cfg
  due : ∀ q, (t.part q).cfgDue = (s.part q).cfgDue

/-- The receivers of a partition's events are not the fabric manager. -/
theorem isLocal_ownerRecv (p : Nat) : ∀ r ∈ ownerRecv p, isLocal r.channel := by
  intro r hr
  have hpf : isLocal Receiver.pf.channel := by rintro (h | h) <;> cases h
  unfold ownerRecv at hr
  split at hr
  · next hp =>
    rcases List.mem_cons.1 hr with rfl | hr
    · exact hpf
    · obtain rfl := List.mem_singleton.1 hr
      show isLocal (2 + p)
      exact fun h => by omega
  · obtain rfl := List.mem_singleton.1 hr
    exact hpf

/-- An owner's record with a configuration in force; the queue count of R251 restarts. -/
def Part.stores (q : Part) (c : PartCfg) : Part := { q with cfg := some c, queueAdmits := 0 }

/-- A record stored, before R206 is applied. -/
def State.storeConfig (s : State) (p : Nat) (c : PartCfg) : State :=
  { s.updPart p (·.stores c) with nv := { s.nv with partCfgs := s.nv.partCfgs.set none p (some c) } }

theorem State.storeConfig_within (s : State) (p : Nat) (c : PartCfg) : Within configuring s (s.storeConfig p c) :=
  Within.trans (t := s.updPart p (·.stores c)) (.updPart _ _ _) rfl

theorem State.storeConfig_configures (s : State) (p : Nat) (c : PartCfg) : s.Configures (s.storeConfig p c) p c := by
  have hp : (s.storeConfig p c).part p = (s.part p).stores c := s.part_updPart p (·.stores c)
  have hne : ∀ q, q ≠ p → (s.storeConfig p c).part q = s.part q := fun q hq => s.part_updPart_ne (·.stores c) hq
  refine ⟨by rw [hp]; rfl, Sparse.get_set_self s.nv.partCfgs p (some c), fun q hq => by rw [hne q hq], fun q => ?_⟩
  by_cases hq : q = p
  · rw [hq, hp]
    rfl
  · rw [hne q hq]

/-- What follows that leaves the records. -/
theorem State.Configures.trans {c : PartCfg} (h : s.Configures t p c) (hp : ∀ q, (t.part q).SameConfig (u.part q))
    (hnv : u.nv = t.nv) : s.Configures u p c :=
  ⟨(hp p).cfg.trans h.cfg, by rw [hnv]; exact h.record, fun q hq => (hp q).cfg.trans (h.others q hq), fun q => (hp q).cfgDue.trans (h.due q)⟩

theorem State.Says.sameConfig (h : s.Says t) (q : Nat) : (s.part q).SameConfig (t.part q) := by
  rw [h.view (State.part · q) (fun _ _ _ _ => rfl)]
  exact ⟨rfl, rfl, rfl⟩

/-- R206 applied where the format policy changed. -/
def State.recheck (s : State) (p : Nat) (c old : PartCfg) : State :=
  if c.minKeyRank ≠ old.minKeyRank ∨ c.queryFmt ≠ old.queryFmt then s.policyCheck p else s

theorem State.recheck_ends (s : State) (p : Nat) (c old : PartCfg) : s.Ends (s.recheck p c old) := by
  unfold State.recheck
  split
  · exact s.policyCheck_ends p
  · exact .refl _

theorem State.setConfig_eq (s : State) (p : Nat) (e : PartCfg × Nat × BitVec 4) : State.setConfig p s e =
    ((((s.storeConfig p e.1).recheck p e.1 (s.cfg p)).event (ownerRecv p) 0x20 p).complete e.2.1 0x51 e.2.2 0 0) := rfl

theorem State.setConfig_configures (s : State) (p : Nat) (e : PartCfg × Nat × BitVec 4) : s.Configures (State.setConfig p s e) p e.1 := by
  have hends := (s.storeConfig p e.1).recheck_ends p e.1 (s.cfg p)
  have hsay := (((s.storeConfig p e.1).recheck p e.1 (s.cfg p)).event_says (ownerRecv p) 0x20 p).trans
    (State.complete_says _ e.2.1 0x51 e.2.2 0 0)
  rw [State.setConfig_eq]
  exact (s.storeConfig_configures p e.1).trans (fun q => (hends.part q).trans (hsay.sameConfig q))
    ((hsay.view State.nv (fun _ _ _ _ => rfl)).trans (hends.within.view State.nv (fun _ _ => rfl)))

theorem State.setConfig_within {e : PartCfg × Nat × BitVec 4} (hc : isLocal e.2.1) (s : State) (p : Nat) :
    Within configuring s (State.setConfig p s e) := by
  have hends := (s.storeConfig p e.1).recheck_ends p e.1 (s.cfg p)
  have htell := (((s.storeConfig p e.1).recheck p e.1 (s.cfg p)).event_tells (isLocal_ownerRecv p) 0x20 p).trans
    (State.complete_tells _ hc 0x51 e.2.2 0 0)
  rw [State.setConfig_eq]
  exact (s.storeConfig_within p e.1).trans (hends.within.mono.trans htell.within.mono)

/-- The last record of several is the one in force. -/
theorem State.setConfigs_configures (s : State) (p : Nat) (l : List (PartCfg × Nat × BitVec 4)) (e : PartCfg × Nat × BitVec 4) :
    s.Configures ((l ++ [e]).foldl (State.setConfig p) s) p e.1 := by
  induction l generalizing s with
  | nil => exact s.setConfig_configures p e
  | cons d l ih =>
    have h1 := s.setConfig_configures p d
    have h2 := ih (State.setConfig p s d)
    exact ⟨h2.cfg, h2.record, fun q hq => (h2.others q hq).trans (h1.others q hq), fun q => (h2.due q).trans (h1.due q)⟩

/-- The first `n` records that wait no longer do. -/
def Part.drops (q : Part) (n : Nat) : Part := { q with cfgDue := q.cfgDue.drop n, resetDue := q.resetDue.map (fun r => (r.1, 0, r.2.2)) }

/-- The first `n` records that wait are taken to take effect. -/
def State.dropDue (s : State) (p n : Nat) : State := s.updPart p (·.drops n)

theorem State.dropDue_part (s : State) (p n : Nat) : (s.dropDue p n).part p = (s.part p).drops n := s.part_updPart p (·.drops n)

/-- With no reset waiting every record that waits takes effect. -/
theorem State.applyConfig_all (h : (s.part p).resetDue = none) :
    s.applyConfig p = (s.part p).cfgDue.foldl (State.setConfig p) (s.dropDue p (s.part p).cfgDue.length) := by
  unfold State.applyConfig
  dsimp only
  rw [h]
  dsimp only
  rw [List.take_length]
  rfl

/-- With no record waiting none takes effect. -/
theorem State.applyConfig_none (h : (s.part p).cfgDue = []) : ∃ n, s.applyConfig p = s.dropDue p n := by
  unfold State.applyConfig
  dsimp only
  rw [h, List.take_nil]
  exact ⟨_, rfl⟩

theorem State.applyConfig_configures {l : List (PartCfg × Nat × BitVec 4)} {e : PartCfg × Nat × BitVec 4}
    (hdue : (s.part p).cfgDue = l ++ [e]) (hreset : (s.part p).resetDue = none) :
    (s.dropDue p (l ++ [e]).length).Configures (s.applyConfig p) p e.1 ∧ ((s.applyConfig p).part p).cfgDue = [] := by
  rw [State.applyConfig_all hreset, hdue]
  have h := (s.dropDue p (l ++ [e]).length).setConfigs_configures p l e
  refine ⟨h, (h.due p).trans ?_⟩
  rw [State.dropDue_part, Part.drops, hdue, List.drop_length]

/-! ## Resets -/

/-- The footprint of a reset in effect. -/
def resetting : Foot :=
  { nv := true, adps := true, frames := true, sweeps := true, seqs := true, parts := true, srv := true, fab := true, chans := true,
    hif := true, sec := true }

/-- A partition is reset: its record stays or goes, its areas are being zeroed, its session is closed, its sequences ended. -/
structure State.ResetsPart (s t : State) (p : Nat) (unconf : Bool) (cmds : List (Nat × BitVec 4)) : Prop where
  within : Within resetting s t
  part : t.part p = { cfg := if unconf then none else (s.part p).cfg, zeroing := some (unconf, cmds), zeroCfg := some (s.cfg p) }
  spdm : t.spdm (2 + p) = {}
  seqs : ∀ i, (s.seq i).partition = p → (t.seq i).state = 0
  record : unconf = true → t.nv.partCfgs.get none p = none

/-- The record of a partition whose areas are being zeroed. -/
def Part.cleared (q : Part) (c : PartCfg) (unconf : Bool) (cmds : List (Nat × BitVec 4)) : Part :=
  { cfg := if unconf then none else q.cfg, cfgDue := q.cfgDue, zeroing := some (unconf, cmds), zeroCfg := some c }

/-- A partition cut off: its inboxes closed, its copies dropped, its stored record gone where it is to be unconfigured. -/
def State.cutOff (s : State) (p : Nat) (unconf : Bool) : State :=
  { s with
    fab := { s.fab with inboxes := s.fab.inboxes.mapVals {} (fun _ i => if i.owner.toNat = p then { i with enable := false } else i) }
    hif := { s.hif with copies := s.hif.copies.filter (fun k => !decide (k.channel = 2 + p)) }
    nv := if unconf then { s.nv with partCfgs := s.nv.partCfgs.set none p none } else s.nv }

theorem State.cutOff_within (s : State) (p : Nat) (unconf : Bool) : Within { nv := true, fab := true, hif := true } s (s.cutOff p unconf) := rfl

/-- Of a partition whose record is cleared, what else goes: its session, its inboxes and copies, its adapter slots, its channel. -/
def State.withdraw (s : State) (p : Nat) (c : PartCfg) (unconf : Bool) : State :=
  (((s.updSpdm (2 + p) (fun _ => {})).cutOff p unconf).updAdps c (fun a => { a with state := 3, refs := 0 })).updChan (2 + p) (fun _ => {})

theorem State.updAdps_within (s : State) (c : PartCfg) (f : Adp → Adp) : Within { adps := true } s (s.updAdps c f) := rfl

theorem State.updSpdm_within (s : State) (c : Nat) (f : Spdm → Spdm) : Within { sec := true } s (s.updSpdm c f) := rfl

/-- The footprint of a partition cut off, once its session is closed. -/
def cutting : Foot := { nv := true, adps := true, fab := true, chans := true, hif := true }

theorem State.withdraw_cuts (s : State) (p : Nat) (c : PartCfg) (unconf : Bool) :
    Within cutting (s.updSpdm (2 + p) (fun _ => {})) (s.withdraw p c unconf) :=
  (State.cutOff_within _ _ _).mono.trans ((State.updAdps_within _ _ _).mono.trans (.updChan _ _ _))

theorem State.withdraw_within (s : State) (p : Nat) (c : PartCfg) (unconf : Bool) :
    Within { cutting with sec := true } s (s.withdraw p c unconf) :=
  (State.updSpdm_within _ _ _).mono.trans (s.withdraw_cuts p c unconf).mono

/-- The partition's own state cleared, once its sequences have ended. -/
def State.clearPart (s : State) (p : Nat) (unconf : Bool) (cmds : List (Nat × BitVec 4)) : State :=
  (s.updPart p (·.cleared (s.cfg p) unconf cmds)).withdraw p (s.cfg p) unconf

theorem State.clearPart_within (s : State) (p : Nat) (unconf : Bool) (cmds : List (Nat × BitVec 4)) :
    Within { cutting with parts := true, sec := true } s (s.clearPart p unconf cmds) :=
  (Within.updPart s p _).trans (State.withdraw_within _ _ _ _).mono

theorem State.clearPart_part (s : State) (p : Nat) (unconf : Bool) (cmds : List (Nat × BitVec 4)) :
    (s.clearPart p unconf cmds).part p = (s.part p).cleared (s.cfg p) unconf cmds :=
  ((State.withdraw_within _ _ _ _).view (State.part · p) (fun _ _ => rfl)).trans (s.part_updPart p (·.cleared (s.cfg p) unconf cmds))

theorem State.clearPart_spdm (s : State) (p : Nat) (unconf : Bool) (cmds : List (Nat × BitVec 4)) :
    (s.clearPart p unconf cmds).spdm (2 + p) = {} :=
  ((State.withdraw_cuts _ _ _ _).view (State.spdm · (2 + p)) (fun _ _ => rfl)).trans (State.spdm_updSpdm _ (2 + p) (fun _ => {}))

theorem State.clearPart_record (s : State) (p : Nat) (cmds : List (Nat × BitVec 4)) :
    (s.clearPart p true cmds).nv.partCfgs.get none p = none :=
  Sparse.get_set_self s.nv.partCfgs p none

theorem State.applyReset_eq {unconf : Bool} {n : Nat} {cmds : List (Nat × BitVec 4)} (h : (s.part p).resetDue = some (unconf, n, cmds))
    (hp : p < 16) : (((s.applyConfig p).cancelAll p).clearPart p unconf cmds).Says (s.applyReset p) := by
  unfold State.applyReset
  rw [h]
  dsimp only
  rw [if_neg (Nat.not_le.2 hp)]
  split
  · exact State.event_says _ _ _ _
  · exact .refl _

theorem State.applyReset_resets {unconf : Bool} {n : Nat} {cmds : List (Nat × BitVec 4)} (h : (s.part p).resetDue = some (unconf, n, cmds))
    (hdue : (s.part p).cfgDue = []) (hp : p < 16) : s.ResetsPart (s.applyReset p) p unconf cmds := by
  obtain ⟨k, hk⟩ := State.applyConfig_none hdue
  have hsay := State.applyReset_eq h hp
  rw [hk] at hsay
  have hdrop : Within { parts := true } s (s.dropDue p k) := .updPart _ _ _
  obtain ⟨hends, hfree⟩ := (s.dropDue p k).cancelAll_spec p
  have hcfg : (((s.dropDue p k).cancelAll p).part p).cfg = (s.part p).cfg := (hends.part p).cfg.trans (by rw [State.dropDue_part, Part.drops])
  have hnone : (((s.dropDue p k).cancelAll p).part p).cfgDue = [] := (hends.part p).cfgDue.trans (by
    rw [State.dropDue_part, Part.drops, hdue, List.drop_nil])
  have hrec : ((s.dropDue p k).cancelAll p).cfg p = s.cfg p := congrArg (fun o : Option PartCfg => o.getD {}) hcfg
  generalize (s.dropDue p k).cancelAll p = u at hsay hends hfree hcfg hnone hrec
  have hclear := u.clearPart_within p unconf cmds
  refine ⟨hdrop.mono.trans (hends.within.mono.trans (hclear.mono.trans hsay.within.mono)), ?_, ?_, fun i hi => ?_, fun hu => ?_⟩
  · rw [hsay.view (State.part · p) (fun _ _ _ _ => rfl), State.clearPart_part, Part.cleared, hcfg, hnone, hrec]
  · rw [hsay.view (State.spdm · (2 + p)) (fun _ _ _ _ => rfl), State.clearPart_spdm]
  · rw [hsay.view (State.seq · i) (fun _ _ _ _ => rfl), hclear.view (State.seq · i) (fun _ _ => rfl)]
    exact hfree i hi
  · rw [hsay.view (fun x => x.nv.partCfgs) (fun _ _ _ _ => rfl), hu, State.clearPart_record]

end Sys2Proof.Machine
end

section
/-! What waits for a boundary (R391, R396, R397, R404, R411, R459); its statement settled. -/

namespace Sys2Proof.Machine

variable {s t u : State} {p : Nat}

theorem exec_partitionConfigApply (p : Nat) (s : State) : exec (.partitionConfigApply p) s = execPartitionConfigApply p s := rfl
theorem exec_partitionResetApply (p : Nat) (s : State) : exec (.partitionResetApply p) s = execPartitionResetApply p s := rfl
theorem exec_partitionZeroingDone (p : Nat) (s : State) : exec (.partitionZeroingDone p) s = execPartitionZeroingDone p s := rfl
theorem exec_profileChange (s : State) : exec .profileChange s = execProfileChange s := rfl
theorem exec_egressKeyApply (p : Nat) (s : State) : exec (.egressKeyApply p) s = execEgressKeyApply p s := rfl

/-! ## Records and resets -/

theorem partitionConfigApply_applies {l : List (PartCfg × Nat × BitVec 4)} {e : PartCfg × Nat × BitVec 4} (hon : s.pwr.off = false)
    (hdue : (s.part p).cfgDue = l ++ [e]) (hreset : (s.part p).resetDue = none) (hset : s.settled = true) :
    Answers (.partitionConfigApply p) s
      { nv := true, adps := true, frames := true, sweeps := true, seqs := true, parts := true, srv := true, fab := true,
        chans := true, hif := true } (fun t =>
      (t.part p).cfg = some e.1 ∧ (t.part p).cfgDue = [] ∧ t.nv.partCfgs.get none p = some e.1) := by
  obtain ⟨h, hnone⟩ := State.applyConfig_configures hdue hreset
  exact .of_act_named (u := s.applyConfig p) (exec_partitionConfigApply p s) hon (State.when_pos hset _) ⟨h.cfg, hnone, h.record⟩

theorem partitionResetApply_resets {unconf : Bool} {n : Nat} {cmds : List (Nat × BitVec 4)} (hon : s.pwr.off = false) (hp : p < 16)
    (h : (s.part p).resetDue = some (unconf, n, cmds)) (hdue : (s.part p).cfgDue = []) (hset : s.settled = true) :
    Answers (.partitionResetApply p) s resetting (s.ResetsPart · p unconf cmds) :=
  have hreset := State.applyReset_resets h hdue hp
  .of_act_eq (exec_partitionResetApply p s) hon (State.when_pos hset _) hreset.within hreset

/-! ## The zeroing of a reset partition's areas (R459) -/

/-- Ranges zeroed one after another. -/
def State.zeroAreas (s : State) (rs : List (Nat × Nat)) : State := rs.foldl (fun (t : State) (a : Nat × Nat) => t.zeroMem a.1 a.2) s

theorem State.zeroAreas_within (s : State) (rs : List (Nat × Nat)) : Within { mem := true, poison := true } s (s.zeroAreas rs) :=
  .foldl _ (fun t _ => .zeroMem t _ _) _ _

/-- A byte of a range zeroed reads zero, any other as before. -/
theorem State.zeroAreas_read (rs : List (Nat × Nat)) (s : State) (a : Nat) :
    ((∃ r ∈ rs, r.1 ≤ a ∧ a < r.1 + r.2) → (s.zeroAreas rs).mem.read a = 0) ∧
    ((∀ r ∈ rs, ¬(r.1 ≤ a ∧ a < r.1 + r.2)) → (s.zeroAreas rs).mem.read a = s.mem.read a) := by
  induction rs generalizing s with
  | nil => exact ⟨fun ⟨_, hr, _⟩ => (nomatch hr), fun _ => rfl⟩
  | cons r rs ih =>
    have hone : (s.zeroMem r.1 r.2).mem.read a = if r.1 ≤ a ∧ a < r.1 + r.2 then 0 else s.mem.read a := Memory.read_zero s.mem r.1 r.2 a
    obtain ⟨hin, hout⟩ := ih (s.zeroMem r.1 r.2)
    refine ⟨fun ⟨x, hx, ha⟩ => ?_, fun h => ?_⟩
    · by_cases hlater : ∃ y ∈ rs, y.1 ≤ a ∧ a < y.1 + y.2
      · exact hin hlater
      · obtain rfl | hx := List.mem_cons.1 hx
        · exact (hout (fun y hy hay => hlater ⟨y, hy, hay⟩)).trans (hone.trans (if_pos ha))
        · exact absurd ⟨x, hx, ha⟩ hlater
    · exact (hout (fun y hy => h y (List.mem_cons_of_mem r hy))).trans (hone.trans (if_neg (h r List.mem_cons_self)))

/-- The commands of a reset complete. -/
def State.completeResets (s : State) (cmds : List (Nat × BitVec 4)) : State :=
  cmds.foldl (fun (t : State) (e : Nat × BitVec 4) => t.complete e.1 0x52 e.2 0 0) s

theorem State.completeResets_says (s : State) (cmds : List (Nat × BitVec 4)) : s.Says (s.completeResets cmds) := by
  unfold State.completeResets
  induction cmds generalizing s with
  | nil => exact .refl _
  | cons e cmds ih => exact (State.complete_says _ _ _ _ _ _).trans (ih _)

/-- A partition's areas zeroed, its slots FREE, its record open again. -/
def State.zeroed (s : State) (p : Nat) (c : PartCfg) : State :=
  ((s.zeroAreas c.areas).updAdps c (fun _ => {})).updPart p (fun q => { q with zeroing := none, zeroCfg := none })

theorem State.zeroingDone_says {unconf : Bool} {cmds : List (Nat × BitVec 4)} {c : PartCfg}
    (hz : (s.part p).zeroing = some (unconf, cmds)) (hc : (s.part p).zeroCfg = some c) : (s.zeroed p c).Says (s.zeroingDone p) := by
  unfold State.zeroingDone
  rw [hz]
  dsimp only
  rw [hc]
  exact (State.event_says _ _ _ _).trans (State.completeResets_says _ cmds)

theorem partitionZeroingDone_zeroes {unconf : Bool} {cmds : List (Nat × BitVec 4)} {c : PartCfg} (hon : s.pwr.off = false)
    (hz : (s.part p).zeroing = some (unconf, cmds)) (hc : (s.part p).zeroCfg = some c) :
    Answers (.partitionZeroingDone p) s
      { mem := true, poison := true, adps := true, parts := true, fab := true, chans := true, hif := true } (fun t =>
      (∀ a, (∃ r ∈ c.areas, r.1 ≤ a ∧ a < r.1 + r.2) → t.mem.read a = 0) ∧
      (∀ a, (∀ r ∈ c.areas, ¬(r.1 ≤ a ∧ a < r.1 + r.2)) → t.mem.read a = s.mem.read a) ∧
      t.part p = { s.part p with zeroing := none, zeroCfg := none } ∧ (∀ q, q ≠ p → t.part q = s.part q)) := by
  have hsay := State.zeroingDone_says hz hc
  have harea := s.zeroAreas_within c.areas
  have hslot := (s.zeroAreas c.areas).updAdps_within c (fun _ => {})
  have hmem : (s.zeroingDone p).mem = (s.zeroAreas c.areas).mem := hsay.view State.mem (fun _ _ _ _ => rfl)
  have hpart : ∀ q, ((s.zeroAreas c.areas).updAdps c (fun _ => {})).part q = s.part q := fun q =>
    (hslot.view (State.part · q) (fun _ _ => rfl)).trans (harea.view (State.part · q) (fun _ _ => rfl))
  refine .of_act_eq (exec_partitionZeroingDone p s) hon rfl
    (harea.mono.trans (hslot.mono.trans ((Within.updPart _ _ _).trans hsay.within.mono)))
    ⟨fun a h => ?_, fun a h => ?_, ?_, fun q hq => ?_⟩
  · rw [hmem]
    exact (State.zeroAreas_read c.areas s a).1 h
  · rw [hmem]
    exact (State.zeroAreas_read c.areas s a).2 h
  · rw [hsay.view (State.part · p) (fun _ _ _ _ => rfl), State.zeroed, State.part_updPart, hpart]
  · rw [hsay.view (State.part · q) (fun _ _ _ _ => rfl), State.zeroed, State.part_updPart_ne _ _ hq, hpart]

/-! ## The profile (R391) -/

/-- The profile set. -/
def State.withProfile (s : State) (shared : Bool) : State := { s with nv := { s.nv with profileShared := shared } }

theorem State.setProfile_eq (s : State) (e : Bool × Nat × BitVec 4) : State.setProfile s e =
    ((s.withProfile e.1).event [.pf, .bmc] 0x22 (if e.1 then 1 else 0)).complete e.2.1 0x53 e.2.2 0 0 := rfl

theorem State.setProfile_says (s : State) (e : Bool × Nat × BitVec 4) : (s.withProfile e.1).Says (State.setProfile s e) :=
  (State.event_says _ _ _ _).trans (State.complete_says _ _ _ _ _ _)

/-- The last change of several is the profile in force. -/
theorem State.setProfiles_spec (l : List (Bool × Nat × BitVec 4)) (e : Bool × Nat × BitVec 4) (s : State) :
    ((l ++ [e]).foldl State.setProfile s).nv = { s.nv with profileShared := e.1 } ∧ ((l ++ [e]).foldl State.setProfile s).sec = s.sec := by
  induction l generalizing s with
  | nil => exact ⟨(s.setProfile_says e).view State.nv (fun _ _ _ _ => rfl), (s.setProfile_says e).view State.sec (fun _ _ _ _ => rfl)⟩
  | cons d l ih =>
    obtain ⟨hnv, hsec⟩ := ih (State.setProfile s d)
    have hnv' : (State.setProfile s d).nv = (s.withProfile d.1).nv := (s.setProfile_says d).view State.nv (fun _ _ _ _ => rfl)
    have hsec' : (State.setProfile s d).sec = s.sec := (s.setProfile_says d).view State.sec (fun _ _ _ _ => rfl)
    rw [hnv'] at hnv
    exact ⟨hnv, hsec.trans hsec'⟩

theorem State.applyProfile_spec {l : List (Bool × Nat × BitVec 4)} {e : Bool × Nat × BitVec 4} (h : s.sec.profilePending = l ++ [e]) :
    s.applyProfile.nv = { s.nv with profileShared := e.1 } ∧ s.applyProfile.sec = { s.sec with profilePending := [] } := by
  unfold State.applyProfile
  rw [h]
  exact State.setProfiles_spec l e { s with sec := { s.sec with profilePending := [] } }

theorem profileChange_changes {l : List (Bool × Nat × BitVec 4)} {e : Bool × Nat × BitVec 4} (hon : s.pwr.off = false)
    (h : s.sec.profilePending = l ++ [e]) (hset : s.settled = true) :
    Answers .profileChange s { nv := true, fab := true, chans := true, hif := true, sec := true } (fun t =>
      t.nv = { s.nv with profileShared := e.1 } ∧ t.sec = { s.sec with profilePending := [] }) :=
  .of_act_named (u := s.applyProfile) (exec_profileChange s) hon (State.when_pos hset _) (State.applyProfile_spec h)

/-! ## Egress keys (R404, R411) -/

/-- Of several keys the last is in force; the epoch rises by one for each. -/
theorem Part.setEgresses_spec (l : List (List Byte)) (k : List Byte) (q : Part) :
    ((l ++ [k]).foldl Part.setEgress q).egressKey = some k ∧ ((l ++ [k]).foldl Part.setEgress q).egressCtr = 0 ∧
    ((l ++ [k]).foldl Part.setEgress q).egressDue = q.egressDue ∧
    ((l ++ [k]).foldl Part.setEgress q).epoch = q.epoch + BitVec.ofNat 16 (l.length + 1) := by
  induction l generalizing q with
  | nil => exact ⟨rfl, rfl, rfl, rfl⟩
  | cons x l ih =>
    obtain ⟨hkey, hctr, hdue, hepoch⟩ := ih (q.setEgress x)
    refine ⟨hkey, hctr, hdue, hepoch.trans ?_⟩
    show q.epoch + 1 + BitVec.ofNat 16 (l.length + 1) = q.epoch + BitVec.ofNat 16 (l.length + 1 + 1)
    rw [BitVec.add_assoc, Nat.add_comm (l.length + 1) 1, BitVec.ofNat_add 1 (l.length + 1)]
    rfl

theorem egressKeyApply_applies {l : List (List Byte)} {k : List Byte} (hon : s.pwr.off = false) (h : (s.part p).egressDue = l ++ [k])
    (hopen : s.opening = true) :
    Answers (.egressKeyApply p) s { parts := true } (fun t =>
      (t.part p).egressKey = some k ∧ (t.part p).egressCtr = 0 ∧ (t.part p).egressDue = [] ∧
      (t.part p).epoch = (s.part p).epoch + BitVec.ofNat 16 (l.length + 1) ∧ (∀ q, q ≠ p → t.part q = s.part q)) := by
  obtain ⟨hkey, hctr, hdue, hepoch⟩ := Part.setEgresses_spec l k { s.part p with egressDue := [] }
  have hp : (s.applyEgress p).part p = (l ++ [k]).foldl Part.setEgress { s.part p with egressDue := [] } := by
    unfold State.applyEgress
    rw [State.part_updPart, h]
  refine .of_act_eq (t := s.applyEgress p) (exec_egressKeyApply p s) hon (State.atOpening_of_opening hopen _) (.updPart _ _ _)
    ⟨?_, ?_, ?_, ?_, fun q hq => s.part_updPart_ne _ hq⟩
  · rw [hp, hkey]
  · rw [hp, hctr]
  · rw [hp, hdue]
  · rw [hp, hepoch]

/-- Settles O40: what waits is taken in its order, and the last of it is in force. That an egress key waits for the boundary of R411 even while
the engine is held is the model's choice (log entry 57). -/
theorem partitionChangesTakeEffect : Obligations.PartitionChangesTakeEffect := by
  intro s p hon
  refine ⟨fun l e hdue hreset hset => partitionConfigApply_applies hon hdue hreset hset,
    fun unconf n cmds hp h hdue hset => (partitionResetApply_resets hon hp h hdue hset).imp (fun t ht => ?_),
    fun unconf cmds c hz hc => partitionZeroingDone_zeroes hon hz hc, fun l e h hset => profileChange_changes hon h hset,
    fun hset c hc => ?_, fun hopen => ?_, fun l k h hopen => egressKeyApply_applies hon h hopen⟩
  · rw [ht.part]
    exact ⟨rfl, rfl, rfl, rfl, rfl, fun hu => if_pos hu, ht.seqs, ht.spdm⟩
  · have hidle : ∀ f : State → State, s.when s.settled f = s := fun f => by rw [hset]; rfl
    simp only [List.mem_cons, List.not_mem_nil, or_false] at hc
    rcases hc with rfl | rfl | rfl
    · exact (exec_partitionConfigApply p s).trans (act_of_eq_self (hidle _))
    · exact (exec_partitionResetApply p s).trans (act_of_eq_self (hidle _))
    · exact (exec_profileChange s).trans (act_of_eq_self (hidle _))
  · exact (exec_egressKeyApply p s).trans (act_of_eq_self (State.atOpening_of_not hopen _))

end Sys2Proof.Machine
end

section
/-! PART_CONFIG, PART_RESET and PROFILE_SET (R391, R395–R397, R459); their statement settled. -/

namespace Sys2Proof.Machine

variable {s t u : State} {b : CmdBlock} {p : Nat}

theorem exec_partConfig (b : CmdBlock) (s : State) : exec (.partConfig b) s = execPartConfig b s := rfl
theorem exec_partReset (b : CmdBlock) (s : State) : exec (.partReset b) s = execPartReset b s := rfl
theorem exec_profileSet (b : CmdBlock) (s : State) : exec (.profileSet b) s = execProfileSet b s := rfl

/-! ## What waits for the boundary, or takes effect at once in a hold (R32) -/

theorem State.ifHeld_of_held (h : s.held = true) (f : State → State) : s.ifHeld f = f s := State.when_pos h f

theorem State.ifHeld_of_running (h : s.held = false) (f : State → State) : s.ifHeld f = s := by
  unfold State.ifHeld State.when
  rw [h]
  rfl

/-- An arrival and an opening leave the hold. -/
theorem State.Arrives.held (h : s.Arrives u) : u.held = s.held := h.view State.held (fun _ _ => rfl)

theorem State.Tells.held (h : s.Tells t) : t.held = s.held := h.view State.held (fun _ _ => rfl)

/-- A record that waits, behind those that wait already. -/
def Part.awaitsConfig (q : Part) (e : PartCfg × Nat × BitVec 4) : Part := { q with cfgDue := q.cfgDue ++ [e] }

/-- A command accepted, a change of its partition waiting. -/
structure State.Waits (s t : State) (b : CmdBlock) (code : Byte) (p : Nat) (q : Part) : Prop where
  within : Within { parts := true, chans := true, hif := true } s t
  part : t.part p = q
  others : ∀ r, r ≠ p → t.part r = s.part r
  opened : (code, b.cseq) ∈ t.openOn b.channel
  held : t.held = s.held
  seqs : t.seqs = s.seqs
  nv : t.nv = s.nv

theorem State.opened_waits (hc : isLocal b.channel) (s : State) (code : Byte) (p : Nat) (f : Part → Part) :
    s.Waits ((s.opened b code).updPart p f) b code p (f (s.part p)) := by
  have hopen := s.opened_tells hc code
  have hpart : ∀ r, (s.opened b code).part r = s.part r := fun r => hopen.view (State.part · r) (fun _ _ => rfl)
  refine ⟨hopen.within.mono.trans (.updPart _ _ _), ?_, fun r hr => ?_, ?_, hopen.held, hopen.view State.seqs (fun _ _ => rfl),
    hopen.view State.nv (fun _ _ => rfl)⟩
  · rw [State.part_updPart, hpart]
  · rw [State.part_updPart_ne _ _ hr, hpart]
  · show (code, b.cseq) ∈ (s.opened b code).openOn b.channel
    rw [State.openOn_opened]
    exact List.mem_append_right _ List.mem_cons_self

/-! ## PART_CONFIG (R396) -/

/-- The record as it waits, with the command that brought it. -/
abbrev dueRecord (b : CmdBlock) : PartCfg × Nat × BitVec 4 := (parseRecord b, b.channel, b.cseq)

theorem State.partConfig_accepted (s : State) (b : CmdBlock) : s.partConfig b 0 =
    ((s.opened b 0x51).updPart (parseRecord b).partition (·.awaitsConfig (dueRecord b))).ifHeld (·.applyConfig (parseRecord b).partition) :=
  if_neg (not_not.2 rfl)

theorem State.partConfig_refused {st : Byte} (h : st ≠ 0) : s.partConfig b st = s.result b 0x51 st := if_pos h

/-! ## PART_RESET (R397) -/

/-- A reset that waits, with the command that brought it: one that joins the reset that waits already, or one behind the records that wait. -/
def Part.awaitsReset (q : Part) (unconf : Bool) (e : Nat × BitVec 4) : Part :=
  let r := q.resetDue.getD (false, q.cfgDue.length, [])
  { q with resetDue := some (r.1 || unconf, r.2.1, r.2.2 ++ [e]) }

theorem Part.awaitsReset_of_none {q : Part} (h : q.resetDue = none) (unconf : Bool) (e : Nat × BitVec 4) :
    q.awaitsReset unconf e = { q with resetDue := some (unconf, q.cfgDue.length, [e]) } := by
  unfold Part.awaitsReset
  rw [h]
  rfl

theorem State.partReset_accepted (hc : isLocal b.channel) (hp : b.par 0 1 ≤ 15) (h1 : b.par 1 1 ≤ 1)
    (hz : (s.part (b.par 0 1)).zeroing = none) :
    s.partReset b = ((s.opened b 0x52).updPart (b.par 0 1) (·.awaitsReset (decide (b.par 1 1 = 1)) (b.channel, b.cseq))).ifHeld
      (·.applyReset (b.par 0 1)) := by
  have hpart : (s.opened b 0x52).part (b.par 0 1) = s.part (b.par 0 1) :=
    (s.opened_tells hc 0x52).view (State.part · (b.par 0 1)) (fun _ _ => rfl)
  unfold State.partReset
  dsimp only
  rw [if_neg (by omega), hpart, hz]
  rfl

/-! ## PROFILE_SET (R391) -/

/-- A profile change that waits. -/
def State.awaitsProfile (s : State) (e : Bool × Nat × BitVec 4) : State :=
  { s with sec := { s.sec with profilePending := s.sec.profilePending ++ [e] } }

theorem State.profileSet_accepted (h1 : b.par 0 1 ≤ 1) (hten : s.hasTenants = false) (hlife : s.sec.lifecycle = 0) :
    s.profileSet b = ((s.opened b 0x53).awaitsProfile (decide (b.par 0 1 = 1), b.channel, b.cseq)).ifHeld State.applyProfile := by
  unfold State.profileSet
  rw [if_neg (Nat.not_lt.2 h1), if_neg (ne_true_of_eq_false hten), if_neg (not_not.2 hlife)]
  rfl

theorem State.profileSet_refused (hten : s.hasTenants = true) : ∃ st, s.profileSet b = s.result b 0x53 st := by
  unfold State.profileSet
  rw [if_pos hten]
  split
  · exact ⟨1, rfl⟩
  · exact ⟨8, rfl⟩

theorem State.setProfile_within {e : Bool × Nat × BitVec 4} (hc : isLocal e.2.1) (s : State) :
    Within { nv := true, chans := true, hif := true } s (State.setProfile s e) := by
  have htell := ((s.withProfile e.1).event_tells isLocal_pf_bmc 0x22 (if e.1 then 1 else 0)).trans
    (State.complete_tells _ hc 0x53 e.2.2 0 0)
  rw [State.setProfile_eq]
  exact Within.trans (t := s.withProfile e.1) rfl htell.within.mono

/-! ## The effect of a command accepted while the engine runs, and of one accepted in a hold -/

theorem State.partConfig_waits (hc : isLocal b.channel) (hrun : s.held = false) :
    s.Waits (s.partConfig b 0) b 0x51 (parseRecord b).partition ((s.part (parseRecord b).partition).awaitsConfig (dueRecord b)) := by
  have h := State.opened_waits hc s 0x51 (parseRecord b).partition (·.awaitsConfig (dueRecord b))
  rw [State.partConfig_accepted, State.ifHeld_of_running (h.held.trans hrun)]
  exact h

/-- An owner's record is in force, and none waits. -/
structure State.InForce (s t : State) (p : Nat) (c : PartCfg) : Prop where
  within : Within configuring s t
  cfg : (t.part p).cfg = some c
  record : t.nv.partCfgs.get none p = some c
  due : (t.part p).cfgDue = []
  others : ∀ q, q ≠ p → (t.part q).cfg = (s.part q).cfg

/-- The only record that waits takes effect. -/
theorem State.applyConfig_inForce {e : PartCfg × Nat × BitVec 4} (hc : isLocal e.2.1) (hdue : (s.part p).cfgDue = [e])
    (hreset : (s.part p).resetDue = none) : s.InForce (s.applyConfig p) p e.1 := by
  obtain ⟨h, hnone⟩ := State.applyConfig_configures (l := []) hdue hreset
  refine ⟨?_, h.cfg, h.record, hnone, fun q hq => (h.others q hq).trans ?_⟩
  · rw [State.applyConfig_all hreset, hdue]
    exact (Within.updPart (m := configuring) s p (·.drops 1)).trans (State.setConfig_within hc _ p)
  · exact congrArg Part.cfg (s.part_updPart_ne (·.drops 1) hq)

theorem State.partConfig_inForce (hc : isLocal b.channel) (hheld : s.held = true)
    (hdue : (s.part (parseRecord b).partition).cfgDue = []) (hreset : (s.part (parseRecord b).partition).resetDue = none) :
    s.InForce (s.partConfig b 0) (parseRecord b).partition (parseRecord b) := by
  have hw := State.opened_waits hc s 0x51 (parseRecord b).partition (·.awaitsConfig (dueRecord b))
  rw [State.partConfig_accepted, State.ifHeld_of_held (hw.held.trans hheld)]
  generalize (s.opened b 0x51).updPart (parseRecord b).partition (·.awaitsConfig (dueRecord b)) = w at hw
  have h : w.InForce (w.applyConfig (parseRecord b).partition) (parseRecord b).partition (dueRecord b).1 := by
    refine State.applyConfig_inForce hc ?_ ?_
    · rw [hw.part, Part.awaitsConfig, hdue, List.nil_append]
    · rw [hw.part]
      exact hreset
  exact ⟨hw.within.mono.trans h.within, h.cfg, h.record, h.due, fun q hq => (h.others q hq).trans (congrArg Part.cfg (hw.others q hq))⟩

theorem State.partReset_waits (hc : isLocal b.channel) (hp : b.par 0 1 ≤ 15) (h1 : b.par 1 1 ≤ 1)
    (hz : (s.part (b.par 0 1)).zeroing = none) (hrun : s.held = false) :
    s.Waits (s.partReset b) b 0x52 (b.par 0 1)
      ((s.part (b.par 0 1)).awaitsReset (decide (b.par 1 1 = 1)) (b.channel, b.cseq)) := by
  have h := State.opened_waits hc s 0x52 (b.par 0 1) (·.awaitsReset (decide (b.par 1 1 = 1)) (b.channel, b.cseq))
  rw [State.partReset_accepted hc hp h1 hz, State.ifHeld_of_running (h.held.trans hrun)]
  exact h

theorem State.partReset_resets (hc : isLocal b.channel) (hp : b.par 0 1 ≤ 15) (h1 : b.par 1 1 ≤ 1)
    (hz : (s.part (b.par 0 1)).zeroing = none) (hreset : (s.part (b.par 0 1)).resetDue = none)
    (hdue : (s.part (b.par 0 1)).cfgDue = []) (hheld : s.held = true) :
    s.ResetsPart (s.partReset b) (b.par 0 1) (decide (b.par 1 1 = 1)) [(b.channel, b.cseq)] := by
  have hw := State.opened_waits hc s 0x52 (b.par 0 1) (·.awaitsReset (decide (b.par 1 1 = 1)) (b.channel, b.cseq))
  rw [State.partReset_accepted hc hp h1 hz, State.ifHeld_of_held (hw.held.trans hheld)]
  generalize (s.opened b 0x52).updPart (b.par 0 1) (·.awaitsReset (decide (b.par 1 1 = 1)) (b.channel, b.cseq)) = w at hw
  have hpart := hw.part
  rw [Part.awaitsReset_of_none hreset] at hpart
  have h := State.applyReset_resets (congrArg Part.resetDue hpart) ((congrArg Part.cfgDue hpart).trans hdue) (Nat.lt_succ_of_le hp)
  have hcfg : (w.part (b.par 0 1)).cfg = (s.part (b.par 0 1)).cfg := (congrArg Part.cfg hpart).trans rfl
  have hin : w.cfg (b.par 0 1) = s.cfg (b.par 0 1) := congrArg (fun o : Option PartCfg => o.getD {}) hcfg
  refine ⟨hw.within.mono.trans h.within, ?_, h.spdm, fun i hi => h.seqs i ?_, h.record⟩
  · rw [h.part, hcfg, hin]
  · exact (congrArg (fun x => Seq.partition (x.get {} i)) hw.seqs).trans hi

theorem State.awaitsProfile_held (s : State) (e : Bool × Nat × BitVec 4) : (s.awaitsProfile e).held = s.held := rfl

theorem State.awaitsProfile_within (s : State) (e : Bool × Nat × BitVec 4) : Within { sec := true } s (s.awaitsProfile e) := rfl

theorem State.applyProfile_within {e : Bool × Nat × BitVec 4} (hc : isLocal e.2.1) (h : s.sec.profilePending = [e]) :
    Within { nv := true, chans := true, hif := true, sec := true } s s.applyProfile := by
  unfold State.applyProfile
  rw [h]
  exact Within.trans (t := s.setSec { s.sec with profilePending := [] }) rfl (State.setProfile_within hc _).mono

/-! ## The commands -/

section Commands

variable (hon : s.pwr.off = false)
include hon

theorem partConfig_waits (hacc : s.accepts ⟨0x51, true, [0, 18]⟩ false false b) (hok : s.recordStatus b = 0) (hrun : s.held = false) :
    Answers (.partConfig b) s { nv := true, parts := true, chans := true, hif := true } (fun t =>
      t.part (parseRecord b).partition = (s.part (parseRecord b).partition).awaitsConfig (dueRecord b) ∧
      (∀ q, q ≠ (parseRecord b).partition → t.part q = s.part q) ∧ (0x51, b.cseq) ∈ t.openOn b.channel) := by
  have hch := mem_operator_of_critical (State.accepts_channel hacc)
  refine .of_accepted (exec_partConfig b s) hon hacc hch (fun u hu => ?_)
  have hpart : u.part = s.part := hu.view State.part (fun _ _ => rfl)
  rw [(hu.view (State.recordStatus · b) (fun _ _ => rfl)).trans hok, ← hpart]
  have h := State.partConfig_waits (s := u) (isLocal_of_operator hch) (hu.held.trans hrun)
  exact ⟨h.within.mono, h.part, h.others, h.opened⟩

theorem partConfig_inForce (hacc : s.accepts ⟨0x51, true, [0, 18]⟩ false false b) (hok : s.recordStatus b = 0) (hheld : s.held = true)
    (hdue : (s.part (parseRecord b).partition).cfgDue = []) (hreset : (s.part (parseRecord b).partition).resetDue = none) :
    Answers (.partConfig b) s configuring (s.InForce · (parseRecord b).partition (parseRecord b)) := by
  have hch := mem_operator_of_critical (State.accepts_channel hacc)
  refine .of_accepted (exec_partConfig b s) hon hacc hch (fun u hu => ?_)
  have hpart : u.part = s.part := hu.view State.part (fun _ _ => rfl)
  rw [(hu.view (State.recordStatus · b) (fun _ _ => rfl)).trans hok]
  rw [← hpart] at hdue hreset
  have h := State.partConfig_inForce (isLocal_of_operator hch) (hu.held.trans hheld) hdue hreset
  exact ⟨h.within, hu.within.trans h.within, h.cfg, h.record, h.due, fun q hq => (h.others q hq).trans (by rw [hpart])⟩

theorem partConfig_refused (hacc : s.accepts ⟨0x51, true, [0, 18]⟩ false false b) (hbad : s.recordStatus b ≠ 0) :
    Answers (.partConfig b) s { nv := true, chans := true, hif := true } (fun t =>
      t.nv.partCfgs = s.nv.partCfgs ∧ t.openOn b.channel = s.openOn b.channel) := by
  have hch := mem_operator_of_critical (State.accepts_channel hacc)
  have hu := State.arrival_arrives (s := s) hch
  have hsay := (s.arrival b).result_tells (isLocal_of_operator hch) 0x51 (s.recordStatus b)
  refine .of_act_eq (exec_partConfig b s) hon ((State.accept_arrival hacc _).trans ?_) (hu.within.trans hsay.within.mono) ⟨?_, ?_⟩
  · rw [hu.view (State.recordStatus · b) (fun _ _ => rfl)]
    exact State.partConfig_refused hbad
  · exact (hsay.view (fun x => x.nv.partCfgs) (fun _ _ => rfl)).trans (hu.view (fun x => x.nv.partCfgs) (fun _ _ => rfl))
  · exact (State.openOn_sendWord _ _ _ _).trans (s.openOn_arrival b b.channel)

section Reset

variable (hacc : s.accepts ⟨0x52, true, [0, 18]⟩ false false b) (hp : b.par 0 1 ≤ 15) (h1 : b.par 1 1 ≤ 1)
  (hz : (s.part (b.par 0 1)).zeroing = none) (hreset : (s.part (b.par 0 1)).resetDue = none)
include hacc hp h1 hz hreset

theorem partReset_waits (hrun : s.held = false) :
    Answers (.partReset b) s { nv := true, parts := true, chans := true, hif := true } (fun t =>
      t.part (b.par 0 1) = { s.part (b.par 0 1) with
        resetDue := some (decide (b.par 1 1 = 1), (s.part (b.par 0 1)).cfgDue.length, [(b.channel, b.cseq)]) } ∧
      (∀ q, q ≠ b.par 0 1 → t.part q = s.part q)) := by
  have hch := mem_operator_of_critical (State.accepts_channel hacc)
  refine .of_accepted (exec_partReset b s) hon hacc hch (fun u hu => ?_)
  have hpart : u.part = s.part := hu.view State.part (fun _ _ => rfl)
  rw [← hpart] at hz hreset ⊢
  have h := State.partReset_waits (isLocal_of_operator hch) hp h1 hz (hu.held.trans hrun)
  exact ⟨h.within.mono, h.part.trans (Part.awaitsReset_of_none hreset _ _), h.others⟩

theorem partReset_resets (hdue : (s.part (b.par 0 1)).cfgDue = []) (hheld : s.held = true) :
    Answers (.partReset b) s resetting (s.ResetsPart · (b.par 0 1) (decide (b.par 1 1 = 1)) [(b.channel, b.cseq)]) := by
  have hch := mem_operator_of_critical (State.accepts_channel hacc)
  refine .of_accepted (exec_partReset b s) hon hacc hch (fun u hu => ?_)
  have hpart : u.part = s.part := hu.view State.part (fun _ _ => rfl)
  rw [← hpart] at hz hreset hdue
  have h := State.partReset_resets (isLocal_of_operator hch) hp h1 hz hreset hdue (hu.held.trans hheld)
  refine ⟨h.within, hu.within.trans h.within, ?_, h.spdm, fun i hi => h.seqs i ?_, h.record⟩
  · rw [h.part, hpart, hu.view (State.cfg · (b.par 0 1)) (fun _ _ => rfl)]
  · rw [hu.view (State.seq · i) (fun _ _ => rfl)]
    exact hi

end Reset

section Profile

variable (hacc : s.accepts ⟨0x53, true, [0, 18]⟩ false false b)
include hacc

theorem profileSet_waits (h1 : b.par 0 1 ≤ 1) (hten : s.hasTenants = false) (hlife : s.sec.lifecycle = 0) (hrun : s.held = false) :
    Answers (.profileSet b) s { nv := true, chans := true, hif := true, sec := true } (fun t =>
      t.sec = { s.sec with profilePending := s.sec.profilePending ++ [(decide (b.par 0 1 = 1), b.channel, b.cseq)] } ∧
      t.nv.profileShared = s.nv.profileShared) := by
  have hch := mem_operator_of_critical (State.accepts_channel hacc)
  refine .of_accepted (exec_profileSet b s) hon hacc hch (fun u hu => ?_)
  have hsec : u.sec = s.sec := hu.view State.sec (fun _ _ => rfl)
  have hopen := u.opened_tells (isLocal_of_operator hch) 0x53
  rw [State.profileSet_accepted h1 ((hu.view State.hasTenants (fun _ _ => rfl)).trans hten) (by rw [hsec, hlife]),
    State.ifHeld_of_running ((State.awaitsProfile_held _ _).trans (hopen.held.trans (hu.held.trans hrun)))]
  refine ⟨hopen.within.mono.trans (State.awaitsProfile_within _ _).mono, ?_, ?_⟩
  · unfold State.awaitsProfile
    rw [hopen.view State.sec (fun _ _ => rfl), hsec]
  · exact (hopen.view (fun x => x.nv.profileShared) (fun _ _ => rfl)).trans (hu.view (fun x => x.nv.profileShared) (fun _ _ => rfl))

theorem profileSet_changes (h1 : b.par 0 1 ≤ 1) (hten : s.hasTenants = false) (hlife : s.sec.lifecycle = 0) (hheld : s.held = true)
    (hnone : s.sec.profilePending = []) :
    Answers (.profileSet b) s { nv := true, chans := true, hif := true, sec := true } (fun t =>
      t.nv.profileShared = decide (b.par 0 1 = 1) ∧ t.sec.profilePending = []) := by
  have hch := mem_operator_of_critical (State.accepts_channel hacc)
  refine .of_accepted (exec_profileSet b s) hon hacc hch (fun u hu => ?_)
  have hlocal := isLocal_of_operator hch
  have hsec : u.sec = s.sec := hu.view State.sec (fun _ _ => rfl)
  have hopen := u.opened_tells hlocal 0x53
  rw [State.profileSet_accepted h1 ((hu.view State.hasTenants (fun _ _ => rfl)).trans hten) (by rw [hsec, hlife]),
    State.ifHeld_of_held ((State.awaitsProfile_held _ _).trans (hopen.held.trans (hu.held.trans hheld)))]
  have hwait := (u.opened b 0x53).awaitsProfile_within (decide (b.par 0 1 = 1), b.channel, b.cseq)
  have hpend : ((u.opened b 0x53).awaitsProfile (decide (b.par 0 1 = 1), b.channel, b.cseq)).sec.profilePending =
      [(decide (b.par 0 1 = 1), b.channel, b.cseq)] := by
    unfold State.awaitsProfile
    rw [hopen.view State.sec (fun _ _ => rfl), hsec, hnone, List.nil_append]
  obtain ⟨hnv, hsec'⟩ := State.applyProfile_spec (l := []) hpend
  exact ⟨hopen.within.mono.trans (hwait.mono.trans (State.applyProfile_within hlocal hpend).mono),
    congrArg NonVol.profileShared hnv, congrArg Sec.profilePending hsec'⟩

theorem profileSet_refused (hten : s.hasTenants = true) :
    Answers (.profileSet b) s { nv := true, chans := true, hif := true } (fun t => t.nv.profileShared = s.nv.profileShared) := by
  have hch := mem_operator_of_critical (State.accepts_channel hacc)
  refine .of_accepted (exec_profileSet b s) hon hacc hch (fun u hu => ?_)
  obtain ⟨st, hst⟩ := State.profileSet_refused (b := b) ((hu.view State.hasTenants (fun _ _ => rfl)).trans hten)
  have hsay := u.result_tells (isLocal_of_operator hch) 0x53 st
  rw [hst]
  exact ⟨hsay.within.mono,
    (hsay.view (fun x => x.nv.profileShared) (fun _ _ => rfl)).trans (hu.view (fun x => x.nv.profileShared) (fun _ _ => rfl))⟩

end Profile

end Commands

/-- Settles O50: what is accepted waits, and a hold makes at once what a boundary would. -/
theorem partitionsAreConfiguredAndReset : Obligations.PartitionsAreConfiguredAndReset := by
  intro s b hon
  refine ⟨?_, ?_, fun hacc hbad => partConfig_refused hon hacc hbad, ?_, ?_,
    fun hacc h1 hten hlife => ⟨fun hrun => profileSet_waits hon hacc h1 hten hlife hrun,
      fun hheld hnone => profileSet_changes hon hacc h1 hten hlife hheld hnone⟩,
    fun hacc hten => profileSet_refused hon hacc hten⟩
  · rintro p hacc rfl hok hrun
    exact partConfig_waits hon hacc hok hrun
  · rintro p hacc rfl hok hheld hdue hreset
    exact (partConfig_inForce hon hacc hok hheld hdue hreset).imp (fun t ht => ⟨ht.cfg, ht.record, ht.due, ht.others⟩)
  · rintro p hacc rfl hp h1 hz hreset hrun
    exact partReset_waits hon hacc hp h1 hz hreset hrun
  · rintro p hacc rfl hp h1 hz hreset hdue hheld
    refine (partReset_resets hon hacc hp h1 hz hreset hdue hheld).imp (fun t ht =>
      ⟨?_, ht.spdm, ht.seqs, fun hu => ht.record (decide_eq_true hu)⟩)
    rw [ht.part]
    simp only [decide_eq_true_eq]

end Sys2Proof.Machine
end
